-- ==== Sys2Proof/Word.lean ====
section
/-! DEFINITION. The word types of the device (R7, R10) and the one table type that State uses. -/
namespace Sys2Proof

/-- A byte of memory or of a packet. -/
abbrev Byte := BitVec 8

/-- A register: 32 bits (R7). -/
abbrev Word := BitVec 32

/-- A 64-bit quantity: the ring phase (R14), a tile register (R221). -/
abbrev DWord := BitVec 64

/-- A sparse table: keys strictly rising. -/
abbrev Tab (α : Type) := List (Nat × α)

end Sys2Proof
end

