-- ==== Sys2Proof/Syntax.lean ====
section
/-! DEFINITION. What a command of the device is: its operands and the one inductive `Instr`,
one constructor for each row of the operation and event table. -/
namespace Sys2Proof

/-- The source identity of a register access (R88): a partition, or Kaolin. I3C and JTAG HCPACC
accesses count as partition 0. -/
inductive Ident where
  | part (p : Fin 16)
  | kaolin
  deriving DecidableEq, Repr

/-- Where a packet comes in or goes out: a ring port, or an ingest port with the IP version and the
address, UDP port and MAC of the other side, to which a response returns (R126, R462). -/
inductive Ingress where
  | ring (n : Fin 8)
  | eth (n : Fin 16) (v6 : Bool) (ip : BitVec 128) (udp : BitVec 16) (mac : BitVec 48)
  deriving DecidableEq, Repr

/-- A command packet as received (R96, R97): the header but for its opcode, which the command names;
the payload as sent (ciphertext when FLAGS.ENC is set) and the tag (empty when it is clear). -/
structure Pkt where
  ver : BitVec 4
  rsv0 : BitVec 4
  flags : BitVec 16
  rsv4 : BitVec 6
  vc : BitVec 2
  part : Fin 16
  dst : BitVec 20
  rsv8 : BitVec 12
  src : BitVec 20
  rsv12 : BitVec 2
  queue : BitVec 14
  plen : BitVec 16
  seq : BitVec 32
  phase : BitVec 64
  operand : BitVec 32
  payload : List Byte
  tag : List Byte
  deriving DecidableEq, Repr

/-- One BRL fragment as the decoder hands it on (R421, R424): the bytes it corrected, whether the
codeword was uncorrectable, the 4-byte tag and the 64-byte body. -/
structure Frag where
  corrected : Nat
  uncorrectable : Bool
  tag : BitVec 32
  body : List Byte
  deriving DecidableEq, Repr

/-- A received Ethernet frame as the MAC sees it, but for the command packet it may carry (R461, R462, R126). -/
structure EthFrame where
  fcsOk : Bool
  bytes : Nat
  dstMac : BitVec 48
  /-- VID of an 802.1Q tag, if there is one -/
  tag : Option (BitVec 12)
  etherType : BitVec 16
  dstIp : BitVec 128
  udpPort : BitVec 16
  fragment : Bool
  /-- IPv6 extension headers or IPv4 options -/
  extras : Bool
  udpLenOk : Bool
  checksumOk : Bool
  deriving DecidableEq, Repr

/-- The commands and events of the block: one constructor for each row of spec/opcode_table.json. -/
inductive Instr where
  /-- TICK_EDGE (R36). -/
  | tickEdge
  /-- PHS_CFG_WRITE (R35). -/
  | phsCfgWrite (who : Ident) (v : Word)
  /-- ACQ (R46). -/
  | acq (who : Ident) (v : Word)
  /-- PHS_EPOCH_SET (R47). -/
  | phsEpochSet (who : Ident) (v : Word)
  /-- EPOCH_ADVANCE (R47). -/
  | epochAdvance
  /-- PHASE_REF_EDGE (R40). -/
  | phaseRefEdge
  /-- PHASE_REF_LOST (R40). -/
  | phaseRefLost
  /-- BEACON_EMIT (R42). -/
  | beaconEmit
  /-- PHASE_BEACON (R44). -/
  | phaseBeacon (ing : Ingress) (k : Pkt) (resid : Word)
  /-- BECOME_MASTER (R39). -/
  | becomeMaster
  /-- PHASE_LOST (R46). -/
  | phaseLost
  /-- COMPARATOR_FIRE (R55). -/
  | comparatorFire (c : Fin 64)
  /-- THROTTLE_LEVEL_CHANGE (R59). -/
  | throttleLevelChange
  /-- CMP_CTL_WRITE (R56). -/
  | cmpCtlWrite (who : Ident) (c : Fin 64) (v : Word)
  /-- PHS_CMP_OWN_WRITE (R57). -/
  | phsCmpOwnWrite (who : Ident) (n : Fin 8) (v : Word)
  /-- GLB_UPD (R82). -/
  | glbUpd (who : Ident) (v : Word)
  /-- GROUP_APPLY (R83). -/
  | groupApply
  /-- PAGE_UPD (R82). -/
  | pageUpd (who : Ident) (page : Fin 4096) (v : Word)
  /-- GLB_UPD_AT_FIRE (R85). -/
  | glbUpdAtFire
  /-- GLB_RST (R93). -/
  | glbRst (who : Ident) (v : Word)
  /-- POSTED_WRITE_LAND (R86). -/
  | postedWriteLand (page : Fin 4096)
  /-- REGISTER_WRITE (R8). -/
  | registerWrite (who : Ident) (off : BitVec 24) (v : Word)
  /-- MULTIWORD_LO_READ (R7). -/
  | multiwordLoRead (who : Ident) (off : BitVec 24)
  /-- RC_READ (R8). -/
  | rcRead (who : Ident) (off : BitVec 24)
  /-- REG_RD (R110). -/
  | regRd (ing : Ingress) (k : Pkt)
  /-- REG_WR (R91). -/
  | regWr (ing : Ingress) (k : Pkt)
  /-- I3C_WRITE_TRANSFER (R92). -/
  | i3cWriteTransfer (off : BitVec 24) (data : List Word)
  /-- I3C_READ_TRANSFER (R92). -/
  | i3cReadTransfer (off : BitVec 24) (n : Nat)
  /-- MEM_WR (R112). -/
  | memWr (ing : Ingress) (k : Pkt)
  /-- MEM_RD (R113). -/
  | memRd (ing : Ingress) (k : Pkt)
  /-- VADD_Z32 (R145). -/
  | vaddZ32 (ing : Ingress) (k : Pkt)
  /-- VADD_Z64 (R145). -/
  | vaddZ64 (ing : Ingress) (k : Pkt)
  /-- AADD (R478). -/
  | aadd (ing : Ingress) (k : Pkt)
  /-- CAS (R478). -/
  | cas (ing : Ingress) (k : Pkt)
  /-- GRAPH_SUBMIT (R381). -/
  | graphSubmit (ing : Ingress) (k : Pkt)
  /-- SNAPSHOT_DONE (R382). -/
  | snapshotDone (p : Fin 16) (g : Fin 64)
  /-- GRAPH_SUBMIT_TIMEOUT (R383). -/
  | graphSubmitTimeout (p : Fin 16) (g : Fin 64)
  /-- DOORBELL (R117). -/
  | doorbell (ing : Ingress) (k : Pkt)
  /-- INT_MSG (R118). -/
  | intMsg (ing : Ingress) (k : Pkt)
  /-- SHARE_DELIVER (R187). -/
  | shareDeliver (ing : Ingress) (k : Pkt)
  /-- KEY_DELIVER (R553). -/
  | keyDeliver (ing : Ingress) (k : Pkt)
  /-- ATTEST_REQ (R546). -/
  | attestReq (ing : Ingress) (k : Pkt)
  /-- ATTEST_RELEASE (R548). -/
  | attestRelease (p : Fin 16)
  /-- SESSION_INIT (R549). -/
  | sessionInit (ing : Ingress) (k : Pkt)
  /-- SESSION_RELEASE (R550). -/
  | sessionRelease (p : Fin 16)
  /-- AUTH_RELEASE (R551). -/
  | authRelease (p : Fin 16)
  /-- SESSION_TIMEOUT (R551). -/
  | sessionTimeout (p : Fin 16)
  /-- AUTH (R554). -/
  | auth (ing : Ingress) (k : Pkt)
  /-- MEM_KEY (R555). -/
  | memKey (ing : Ingress) (k : Pkt)
  /-- LINK_KEY (R555). -/
  | linkKey (ing : Ingress) (k : Pkt)
  /-- DEBUG_KEY (R555). -/
  | debugKey (ing : Ingress) (k : Pkt)
  /-- MODEL_KEY (R555). -/
  | modelKey (ing : Ingress) (k : Pkt)
  /-- TRIPLE_KEY (R555). -/
  | tripleKey (ing : Ingress) (k : Pkt)
  /-- SEED_KEY (R555). -/
  | seedKey (ing : Ingress) (k : Pkt)
  /-- ERASE (R555). -/
  | erase (ing : Ingress) (k : Pkt)
  /-- IMPORT (R557). -/
  | importKey (ing : Ingress) (k : Pkt)
  /-- CLOSE (R555). -/
  | close (ing : Ingress) (k : Pkt)
  /-- IMPORT_DONE (R558). -/
  | importDone (p : Fin 16)
  /-- ACK (R469). -/
  | ack (ing : Ingress) (k : Pkt)
  /-- NAK (R469). -/
  | nak (ing : Ingress) (k : Pkt)
  /-- RETRANSMIT_TIMEOUT (R469). -/
  | retransmitTimeout (queue : BitVec 14) (seq : Word)
  /-- RNR_RETRY (R469). -/
  | rnrRetry (queue : BitVec 14) (seq : Word)
  /-- RING_CTL_RESET (R654). -/
  | ringCtlReset (n : Fin 8) (k : Pkt)
  /-- LINK_DOWN (R449). -/
  | linkDown (n : Fin 8) (k : Pkt)
  /-- LINK_UP (R449). -/
  | linkUp (n : Fin 8) (k : Pkt)
  /-- ECHO (R449). -/
  | echo (n : Fin 8) (k : Pkt)
  /-- ECHO_RSP (R449). -/
  | echoRsp (n : Fin 8) (k : Pkt)
  /-- FAULT (R449). -/
  | ringFault (n : Fin 8) (k : Pkt)
  /-- ETH_FRAME_DROP (R462). -/
  | ethFrameDrop (n : Fin 16) (f : EthFrame)
  /-- ETH_SHARE_RELEASE (R465). -/
  | ethShareRelease (n : Fin 16)
  /-- ETH_TX_START (R467). -/
  | ethTxStart (n : Fin 16) (room : Nat)
  /-- ETH_PORT_DOWN (R464). -/
  | ethPortDown (n : Fin 16) (ber : Bool)
  /-- ETH_LASER_FAIL (R464). -/
  | ethLaserFail (n : Fin 16) (lane : Fin 4)
  /-- ETH_LIGHT (R464). -/
  | ethLight (n : Fin 16)
  /-- ETH_TRAIN_DONE (R464). -/
  | ethTrainDone (n : Fin 16)
  /-- SWAP (R481). -/
  | swap (who : Ident) (p : Fin 16) (v : Word)
  /-- LKEY_GRACE_END (R481). -/
  | lkeyGraceEnd (p : Fin 16)
  /-- HRMP_RXWAY_WRITE (R471). -/
  | hrmpRxwayWrite (who : Ident) (p : Fin 16) (v : Word)
  /-- HRMP_QOWN_WRITE (R482). -/
  | hrmpQownWrite (who : Ident) (n : Fin 64) (v : Word)
  /-- HRMP_CBANK_WRITE (R474). -/
  | hrmpCbankWrite (who : Ident) (n : Fin 64) (v : Word)
  /-- HRMP_CFG_WRITE (R463). -/
  | hrmpCfgWrite (who : Ident) (v : Word)
  /-- FLUSH (R411). -/
  | flush (who : Ident) (off : BitVec 24) (v : Word)
  /-- FLUSH_DONE (R411). -/
  | flushDone (off : BitVec 24) (sel : Nat)
  /-- Q_PTR_RD_WRITE (R416). -/
  | qPtrRdWrite (who : Ident) (off : BitVec 24) (v : Word)
  /-- LOSSY_MARKER (R413). -/
  | lossyMarker (off : BitVec 24)
  /-- HOST_EVENT_SEND (R613). -/
  | hostEventSend (p : Fin 16)
  /-- BRL_TRANSIT (R451). -/
  | brlTransit (n : Fin 8) (frs : List Frag) (room : Nat)
  /-- BRL_FRAME_START (R432). -/
  | brlFrameStart (n : Fin 8) (openVc : Option (Fin 4)) (room : Nat)
  /-- CTL_SEND (R426). -/
  | ctlSend (n : Fin 8)
  /-- CREDIT (R433). -/
  | credit (n : Fin 8) (vc : Fin 4) (part : Fin 16) (count : Word)
  /-- TRAIN (R444). -/
  | train (n : Fin 8) (node : BitVec 20) (port : Fin 8) (tick : BitVec 2) (map : BitVec 16) (sizes : List Nat)
  /-- LANES (R444). -/
  | lanes (n : Fin 8) (map : BitVec 16)
  /-- DOWN (R445). -/
  | down (n : Fin 8)
  /-- BRL_LOS (R445). -/
  | brlLos (n : Fin 8) (noCtl : Bool)
  /-- BRL_UNC_LIMIT (R445). -/
  | brlUncLimit (n : Fin 8) (count : Nat)
  /-- BRL_LASER_FAIL (R420). -/
  | brlLaserFail (n : Fin 8) (lane : Fin 16)
  /-- BRL_LANE_RETRAIN_DONE (R444). -/
  | brlLaneRetrainDone (n : Fin 8) (period : Word)
  /-- BRL_LIGHT (R443). -/
  | brlLight (n : Fin 8)
  /-- BRL_TRAIN_DONE (R444). -/
  | brlTrainDone (n : Fin 8) (echo : List (Nat × Nat))
  /-- BRL_TRAIN_OVERRUN (R443). -/
  | brlTrainOverrun (n : Fin 8)
  /-- BRL_TRAIN_RETRY (R443). -/
  | brlTrainRetry (n : Fin 8)
  /-- BRL_PORT_CTL_TRAIN (R454). -/
  | brlPortCtlTrain (who : Ident) (n : Fin 8) (v : Word)
  /-- REVERT (R447). -/
  | revert (who : Ident) (n : Fin 8) (v : Word)
  /-- FORCE_DOWN (R443). -/
  | forceDown (who : Ident) (n : Fin 8) (v : Word)
  /-- BRL_NODE_WRITE (R442). -/
  | brlNodeWrite (who : Ident) (v : Word)
  /-- BRL_SHARE_WRITE (R456). -/
  | brlShareWrite (who : Ident) (n : Fin 8) (vc : Fin 2) (p : Fin 16) (v : Word)
  /-- AGG_OWN_WRITE (R132). -/
  | aggOwnWrite (who : Ident) (n : Fin 64) (v : Word)
  /-- AGG_ARM (R133). -/
  | aggArm (who : Ident) (p : Fin 16)
  /-- ARMING_DONE (R137). -/
  | armingDone (c : Fin 4096)
  /-- AGG_OPEN (R140). -/
  | aggOpen (who : Ident) (p : Fin 16)
  /-- AGG_CLOSE (R140). -/
  | aggClose (who : Ident) (p : Fin 16)
  /-- AGG_END_RECOVERY (R140). -/
  | aggEndRecovery (who : Ident) (p : Fin 16)
  /-- AGG_RELEASE (R140). -/
  | aggRelease (who : Ident) (p : Fin 16)
  /-- AGG_ABORT (R140). -/
  | aggAbort (who : Ident) (p : Fin 16)
  /-- CTX_PH_OPEN (R141). -/
  | ctxPhOpen (c : Fin 4096)
  /-- CTX_PH_CLOSE (R141). -/
  | ctxPhClose (c : Fin 4096)
  /-- CTX_PH_DEADLINE (R141). -/
  | ctxPhDeadline (c : Fin 4096)
  /-- COMMIT_DONE (R149). -/
  | commitDone (c : Fin 4096) (j : Fin 64)
  /-- SLOT_RECLAIM (R153). -/
  | slotReclaim (c : Fin 4096)
  /-- DRAIN_DONE (R154). -/
  | drainDone (c : Fin 4096)
  /-- ABORT_DRAIN_DONE (R162). -/
  | abortDrainDone (c : Fin 4096)
  /-- REC_WAY_ACQUIRED (R190). -/
  | recWayAcquired (c : Fin 4096)
  /-- CENSUS_DONE (R190). -/
  | censusDone (c : Fin 4096)
  /-- SECRET_RECONSTRUCTED (R191). -/
  | secretReconstructed (c : Fin 4096) (o : BitVec 22)
  /-- AGREEMENT_DONE (R192). -/
  | agreementDone (c : Fin 4096)
  /-- XOF_PASS_START (R192). -/
  | xofPassStart (c : Fin 4096)
  /-- XOF_PASS_DONE (R192). -/
  | xofPassDone (c : Fin 4096)
  /-- EXPANSION_START (R193). -/
  | expansionStart (c : Fin 4096)
  /-- EXPANSION_DONE (R193). -/
  | expansionDone (c : Fin 4096)
  /-- RECOVERY_DONE (R194). -/
  | recoveryDone (c : Fin 4096)
  /-- FINISH (R195). -/
  | finish (who : Ident) (p : Fin 16)
  /-- MSK_OWN_WRITE (R202). -/
  | mskOwnWrite (who : Ident) (n : Fin 4) (v : Word)
  /-- ADD (R223). -/
  | add (t : Fin 80)
  /-- SUB (R223). -/
  | sub (t : Fin 80)
  /-- MUL (R223). -/
  | mul (t : Fin 80)
  /-- MULHU (R223). -/
  | mulhu (t : Fin 80)
  /-- MULHS (R223). -/
  | mulhs (t : Fin 80)
  /-- DIVU (R224). -/
  | divu (t : Fin 80)
  /-- DIVS (R224). -/
  | divs (t : Fin 80)
  /-- REMU (R224). -/
  | remu (t : Fin 80)
  /-- REMS (R224). -/
  | rems (t : Fin 80)
  /-- AND (R223). -/
  | tileAnd (t : Fin 80)
  /-- OR (R223). -/
  | tileOr (t : Fin 80)
  /-- XOR (R223). -/
  | tileXor (t : Fin 80)
  /-- SHL (R224). -/
  | shl (t : Fin 80)
  /-- SHR (R224). -/
  | shr (t : Fin 80)
  /-- SAR (R224). -/
  | sar (t : Fin 80)
  /-- NEG (R224). -/
  | neg (t : Fin 80)
  /-- MIN (R223). -/
  | min (t : Fin 80)
  /-- MAX (R223). -/
  | max (t : Fin 80)
  /-- MINU (R223). -/
  | minu (t : Fin 80)
  /-- MAXU (R223). -/
  | maxu (t : Fin 80)
  /-- SLT (R223). -/
  | slt (t : Fin 80)
  /-- SLTU (R223). -/
  | sltu (t : Fin 80)
  /-- SEQ (R223). -/
  | seq (t : Fin 80)
  /-- POPC (R223). -/
  | popc (t : Fin 80)
  /-- CLZ (R223). -/
  | clz (t : Fin 80)
  /-- MOVHI (R223). -/
  | movhi (t : Fin 80)
  /-- ADDQ (R223). -/
  | addq (t : Fin 80)
  /-- MULQ (R223). -/
  | mulq (t : Fin 80)
  /-- RDFLAG (R223). -/
  | rdflag (t : Fin 80)
  /-- CLRFLAG (R223). -/
  | clrflag (t : Fin 80)
  /-- RAND (R223). -/
  | rand (t : Fin 80)
  /-- RDPH (R223). -/
  | rdph (t : Fin 80)
  /-- LD8 (R225). -/
  | ld8 (t : Fin 80)
  /-- LD16 (R225). -/
  | ld16 (t : Fin 80)
  /-- LD32 (R225). -/
  | ld32 (t : Fin 80)
  /-- LD64 (R225). -/
  | ld64 (t : Fin 80)
  /-- LDS8 (R225). -/
  | lds8 (t : Fin 80)
  /-- LDS16 (R225). -/
  | lds16 (t : Fin 80)
  /-- LDS32 (R225). -/
  | lds32 (t : Fin 80)
  /-- ST8 (R225). -/
  | st8 (t : Fin 80)
  /-- ST16 (R225). -/
  | st16 (t : Fin 80)
  /-- ST32 (R225). -/
  | st32 (t : Fin 80)
  /-- ST64 (R225). -/
  | st64 (t : Fin 80)
  /-- VLD (R225). -/
  | vld (t : Fin 80)
  /-- VST (R225). -/
  | vst (t : Fin 80)
  /-- VMOV (R225). -/
  | vmov (t : Fin 80)
  /-- VSET (R225). -/
  | vset (t : Fin 80)
  /-- VGET (R225). -/
  | vget (t : Fin 80)
  /-- BR (R228). -/
  | br (t : Fin 80)
  /-- BEQ (R228). -/
  | beq (t : Fin 80)
  /-- BNE (R228). -/
  | bne (t : Fin 80)
  /-- BLT (R228). -/
  | blt (t : Fin 80)
  /-- BGE (R228). -/
  | bge (t : Fin 80)
  /-- BLTU (R228). -/
  | bltu (t : Fin 80)
  /-- BGEU (R228). -/
  | bgeu (t : Fin 80)
  /-- CALL (R228). -/
  | call (t : Fin 80)
  /-- RET (R228). -/
  | ret (t : Fin 80)
  /-- JR (R228). -/
  | jr (t : Fin 80)
  /-- LOOP (R228). -/
  | loop (t : Fin 80)
  /-- TRAP (R228). -/
  | trap (t : Fin 80)
  /-- END (R220). -/
  | endKernel (t : Fin 80)
  /-- KERNEL_REPORT (R220). -/
  | kernelReport (t : Fin 80)
  /-- KERNEL_FAULT_RECORD (R242). -/
  | kernelFaultRecord (t : Fin 80)
  /-- COPY (R233). -/
  | copy (t : Fin 80)
  /-- GATHER (R234). -/
  | gather (t : Fin 80)
  /-- SCATTER (R234). -/
  | scatter (t : Fin 80)
  /-- SCATTER_ADD (R234). -/
  | scatterAdd (t : Fin 80)
  /-- DMA_TRANSFER_DONE (R234). -/
  | dmaTransferDone (t : Fin 80)
  /-- MMA (R208). -/
  | mma (t : Fin 80)
  /-- MMA_DONE (R210). -/
  | mmaDone (t : Fin 80)
  /-- ACCCLR (R213). -/
  | accclr (t : Fin 80)
  /-- ACCSTAT (R239). -/
  | accstat (t : Fin 80)
  /-- ACCOUT (R293). -/
  | accout (t : Fin 80)
  /-- SETMODE (R239). -/
  | setmode (t : Fin 80)
  /-- BNTT (R324). -/
  | bntt (t : Fin 80)
  /-- BINTT (R324). -/
  | bintt (t : Fin 80)
  /-- BMUL (R324). -/
  | bmul (t : Fin 80)
  /-- BMAC (R324). -/
  | bmac (t : Fin 80)
  /-- BADD (R324). -/
  | badd (t : Fin 80)
  /-- BSUB (R324). -/
  | bsub (t : Fin 80)
  /-- BDEC (R324). -/
  | bdec (t : Fin 80)
  /-- BROT (R324). -/
  | brot (t : Fin 80)
  /-- BEXT (R324). -/
  | bext (t : Fin 80)
  /-- BKS (R324). -/
  | bks (t : Fin 80)
  /-- BBOOT (R326). -/
  | bboot (t : Fin 80)
  /-- BMODSW (R324). -/
  | bmodsw (t : Fin 80)
  /-- SEXP (R236). -/
  | sexp (t : Fin 80)
  /-- NOISE (R238). -/
  | noise (t : Fin 80)
  /-- BRONZE_DONE (R327). -/
  | bronzeDone (t : Fin 80) (q : Fin 3)
  /-- WAITDMA (R232). -/
  | waitdma (t : Fin 80)
  /-- WAITARR (R232). -/
  | waitarr (t : Fin 80)
  /-- WAITBR (R232). -/
  | waitbr (t : Fin 80)
  /-- WAITALL (R232). -/
  | waitall (t : Fin 80)
  /-- FENCE (R231). -/
  | fence (t : Fin 80)
  /-- SIGNAL (R231). -/
  | signal (t : Fin 80)
  /-- TILE_DOORBELL (R232). -/
  | tileDoorbell (t : Fin 80)
  /-- TBAR (R232). -/
  | tbar (t : Fin 80)
  /-- WAITCTR (R232). -/
  | waitctr (t : Fin 80)
  /-- CHSEND (R241). -/
  | chsend (t : Fin 80)
  /-- CHRECV (R241). -/
  | chrecv (t : Fin 80)
  /-- CHPASS (R299). -/
  | chpass (t : Fin 80)
  /-- CHAIN_REGION_ARRIVE (R302). -/
  | chainRegionArrive (t : Fin 80) (st : Fin 3) (link : Nat)
  /-- LOAD_IMAGE_DONE (R216). -/
  | loadImageDone (p : Fin 16) (g : Fin 64) (n : BitVec 16)
  /-- MIGRATION_DONE (R245). -/
  | migrationDone (t : Fin 80) (bad : List Nat)
  /-- CLU_REMAP (R253). -/
  | cluRemap (who : Ident) (c : Fin 4) (v : Word)
  /-- BRONZE_LEVEL_START (R339). -/
  | bronzeLevelStart (t : Fin 80)
  /-- BRONZE_LEVEL_COPY_DONE (R338). -/
  | bronzeLevelCopyDone (t : Fin 80)
  /-- EXCH_RECORD_READ (R356). -/
  | exchRecordRead (t : Fin 80)
  /-- TRIPLE_BATCH_READ (R354). -/
  | tripleBatchRead (t : Fin 80)
  /-- A2S (R360). -/
  | a2s (t : Fin 80)
  /-- S2C (R361). -/
  | s2c (t : Fin 80)
  /-- W2S (R362). -/
  | w2s (t : Fin 80)
  /-- S2W (R362). -/
  | s2w (t : Fin 80)
  /-- SHARE_ADD_SUB (R359). -/
  | shareAddSub (t : Fin 80)
  /-- CMUL (R359). -/
  | cmul (t : Fin 80)
  /-- CADD (R359). -/
  | cadd (t : Fin 80)
  /-- SHARE_MUL (R357). -/
  | shareMul (t : Fin 80)
  /-- SQSUM (R359). -/
  | sqsum (t : Fin 80)
  /-- SIGN (R358). -/
  | sign (t : Fin 80)
  /-- LT (R364). -/
  | lt (t : Fin 80)
  /-- SHARE_MAX (R364). -/
  | shareMax (t : Fin 80)
  /-- RELU (R364). -/
  | relu (t : Fin 80)
  /-- THRESH (R364). -/
  | thresh (t : Fin 80)
  /-- CLIP (R365). -/
  | clip (t : Fin 80)
  /-- TOPK (R366). -/
  | topk (t : Fin 80)
  /-- GEN_A (R355). -/
  | genA (t : Fin 80)
  /-- GEN_B (R355). -/
  | genB (t : Fin 80)
  /-- SESSION_DEADLINE (R372). -/
  | sessionDeadline (t : Fin 80)
  /-- SESSION_END (R370). -/
  | sessionEnd (t : Fin 80)
  /-- LOAM_START (R384). -/
  | loamStart (who : Ident) (p : Fin 16) (g : Fin 64)
  /-- LOAM_ABORT (R396). -/
  | loamAbort (who : Ident) (p : Fin 16) (g : Fin 64)
  /-- LOAM_RELEASE (R384). -/
  | loamRelease (who : Ident) (p : Fin 16) (g : Fin 64)
  /-- LOAM_STEP (R394). -/
  | loamStep (who : Ident) (p : Fin 16)
  /-- START_PHASE_REACHED (R384). -/
  | startPhaseReached (p : Fin 16) (g : Fin 64)
  /-- LOAM_DISPATCH (R387). -/
  | loamDispatch (p : Fin 16)
  /-- TILE_KERNEL (R379). -/
  | tileKernel (p : Fin 16) (g : Fin 64) (n : BitVec 16)
  /-- BRONZE_KERNEL (R379). -/
  | bronzeKernel (p : Fin 16) (g : Fin 64) (n : BitVec 16)
  /-- DMA (R379). -/
  | dma (p : Fin 16) (g : Fin 64) (n : BitVec 16)
  /-- AGG_OP (R379). -/
  | aggOp (p : Fin 16) (g : Fin 64) (n : BitVec 16)
  /-- MSK_OP (R379). -/
  | mskOp (p : Fin 16) (g : Fin 64) (n : BitVec 16)
  /-- RING_XFER (R380). -/
  | ringXfer (p : Fin 16) (g : Fin 64) (n : BitVec 16)
  /-- HRMP_SEND (R380). -/
  | hrmpSend (p : Fin 16) (g : Fin 64) (n : BitVec 16)
  /-- WAIT_PHASE (R379). -/
  | waitPhase (p : Fin 16) (g : Fin 64) (n : BitVec 16)
  /-- WAIT_COUNT (R379). -/
  | waitCount (p : Fin 16) (g : Fin 64) (n : BitVec 16)
  /-- BARRIER (R379). -/
  | barrier (p : Fin 16) (g : Fin 64) (n : BitVec 16)
  /-- HOST_NOTIFY (R379). -/
  | hostNotify (p : Fin 16) (g : Fin 64) (n : BitVec 16)
  /-- LOAD_IMAGE (R216). -/
  | loadImage (p : Fin 16) (g : Fin 64) (n : BitVec 16)
  /-- WAIT_PHASE_REACHED (R386). -/
  | waitPhaseReached (p : Fin 16) (g : Fin 64) (n : BitVec 16)
  /-- WAIT_COUNT_MET (R386). -/
  | waitCountMet (p : Fin 16) (g : Fin 64) (n : BitVec 16)
  /-- NODE_COMPLETE (R386). -/
  | nodeComplete (p : Fin 16) (g : Fin 64) (n : BitVec 16)
  /-- GRAPH_DRAINED (R395). -/
  | graphDrained (p : Fin 16) (g : Fin 64)
  /-- LOAM_MODE_WRITE (R392). -/
  | loamModeWrite (who : Ident) (p : Fin 16) (v : Word)
  /-- LOAM_CTR_VAL_WRITE (R390). -/
  | loamCtrValWrite (who : Ident) (p : Fin 16) (v : Word)
  /-- LOAM_QB_WRITE (R391). -/
  | loamQbWrite (who : Ident) (p : Fin 16) (v : Word)
  /-- LOAM_SNAP_WRITE (R401). -/
  | loamSnapWrite (who : Ident) (p : Fin 16) (word : Fin 3) (v : Word)
  /-- TRACE_CFG_WRITE (R402). -/
  | traceCfgWrite (who : Ident) (p : Fin 16) (v : Word)
  /-- MMU_KEY_WRITE (R504). -/
  | mmuKeyWrite (who : Ident) (p : Fin 16) (v : Word)
  /-- CHANNEL_INIT_DONE (R510). -/
  | channelInitDone (ch : Fin 64)
  /-- MMU_INV_ALL (R502). -/
  | mmuInvAll (who : Ident) (p : Fin 16) (v : Word)
  /-- MMU_INV_RANGE (R502). -/
  | mmuInvRange (who : Ident) (p : Fin 16) (v : Word)
  /-- MMU_INV_DONE (R502). -/
  | mmuInvDone (p : Fin 16)
  /-- MMU_ROOT_HI_WRITE (R502). -/
  | mmuRootHiWrite (who : Ident) (p : Fin 16) (v : Word)
  /-- RETIRE (R516). -/
  | retire (who : Ident) (ch : Fin 64) (v : Word)
  /-- RETIRE_PAGE_DONE (R517). -/
  | retirePageDone (ch : Fin 64)
  /-- RETIRE_DONE (R517). -/
  | retireDone (ch : Fin 64)
  /-- SCRUB_LINE (R513). -/
  | scrubLine (ch : Fin 64) (dev : Option (BitVec 8)) (unc : Bool)
  /-- CREATE (R528). -/
  | create (who : Ident) (v : Word)
  /-- PARTITION_ACTIVE (R529). -/
  | partitionActive (p : Fin 16)
  /-- GROW (R530). -/
  | grow (who : Ident) (v : Word)
  /-- DESTROY (R531). -/
  | destroy (who : Ident) (v : Word)
  /-- DESTROY_DRAINED (R531). -/
  | destroyDrained (p : Fin 16)
  /-- SERVICE_EVENT (R538). -/
  | serviceEvent
  /-- DBG_HALT (R540). -/
  | dbgHalt (who : Ident) (v : Word)
  /-- DBG_STEP (R540). -/
  | dbgStep (who : Ident) (v : Word)
  /-- DBG_READ (R541). -/
  | dbgRead (who : Ident) (v : Word)
  /-- GENERATE (R569). -/
  | generate (who : Ident) (v : Word)
  /-- DERIVE (R576). -/
  | derive (who : Ident) (v : Word)
  /-- KEY_CMD_ERASE (R581). -/
  | keyCmdErase (who : Ident) (v : Word)
  /-- CHECK (R581). -/
  | check (who : Ident) (v : Word) (upset : Bool)
  /-- SLOT_TAG_SCAN (R572). -/
  | slotTagScan (upset : List Nat)
  /-- SILT_STARTUP_DONE (R584). -/
  | siltStartupDone (kat : Option (Fin 38))
  /-- SILT_HEALTH_FAIL (R586). -/
  | siltHealthFail (c : Fin 8) (apt : Bool)
  /-- SILT_BLOCK_RELEASE (R585). -/
  | siltBlockRelease
  /-- DRBG_RESEED (R587). -/
  | drbgReseed (n : Fin 38)
  /-- RESTART (R586). -/
  | restart (who : Ident) (v : Word)
  /-- SILT_CFG_WRITE (R596). -/
  | siltCfgWrite (who : Ident) (v : Word)
  /-- SILT_DATA_READ (R589). -/
  | siltDataRead (who : Ident) (p : Fin 16)
  /-- INT_DOORBELL (R600). -/
  | intDoorbell (who : Ident) (v : Word)
  /-- IRQ_ROUTE (R605). -/
  | irqRoute
  /-- ENTRY (R606). -/
  | entry (c : Fin 8)
  /-- EXIT (R608). -/
  | exit (c : Fin 8)
  /-- CC_CMPL (R602). -/
  | ccCmpl (c : Fin 8) (src : BitVec 10)
  /-- INT_HCMPL (R602). -/
  | intHcmpl (who : Ident) (p : Fin 16) (v : Word)
  /-- HOST_DELIVERY (R612). -/
  | hostDelivery (src : BitVec 10)
  /-- INT_SW_PEND (R615). -/
  | intSwPend (who : Ident) (v : Word)
  /-- INT_O_PCLR (R615). -/
  | intOPclr (who : Ident) (v : Word)
  /-- T_MSET (R616). -/
  | tMset (who : Ident) (k : Fin 16) (v : Word)
  /-- T_MCLR (R616). -/
  | tMclr (who : Ident) (k : Fin 16) (v : Word)
  /-- T_PCLR (R616). -/
  | tPclr (who : Ident) (k : Fin 16) (v : Word)
  /-- INT_OWN_WRITE (R617). -/
  | intOwnWrite (who : Ident) (hv : Bool) (n : Fin 16) (v : Word)
  /-- INT_CFG_WRITE (R611). -/
  | intCfgWrite (who : Ident) (src : BitVec 10) (v : Word)
  /-- CC_CTL_THRESH_WRITE (R609). -/
  | ccCtlThreshWrite (who : Ident) (c : Fin 8) (thresh : Bool) (v : Word)
  /-- WAKE (R618). -/
  | wake (latches : BitVec 4)
  /-- FAULT_INPUT (R630). -/
  | faultInput (src : Byte) (unit : BitVec 16) (detail : Word)
  /-- ERRN_RELEASE (R639). -/
  | errnRelease
  /-- FLT_FIRST_CLEAR (R631). -/
  | fltFirstClear (who : Ident) (v : Word)
  /-- FLT_UCLR (R631). -/
  | fltUclr (who : Ident) (v : Word)
  /-- FLT_QUIESCE_WRITE (R635). -/
  | fltQuiesceWrite (who : Ident) (v : Word)
  /-- FLT_EGRESS_WRITE (R635). -/
  | fltEgressWrite (who : Ident) (v : Word)
  /-- FLT_REACT_WRITE (R648). -/
  | fltReactWrite (who : Ident) (c : Fin 5) (v : Word)
  /-- MGMT_MISMATCH (R636). -/
  | mgmtMismatch (unit : BitVec 16) (mgmt : BitVec 3)
  /-- LEASE_RECLAIM (R637). -/
  | leaseReclaim (kind : Fin 8) (unit : BitVec 16)
  /-- CNT_SAT (R640). -/
  | cntSat (c : Fin 5)
  /-- PAGE_INJ (R643). -/
  | pageInj (who : Ident) (page : Fin 4096) (v : Word)
  /-- COLD_RESET (R655). -/
  | coldReset
  /-- WARM_RESET (R656). -/
  | warmReset
  /-- RST_UNIT (R653). -/
  | rstUnit (who : Ident) (v : Word)
  /-- UNIT_RESET_DONE (R653). -/
  | unitResetDone (unit : BitVec 16) (ok : Bool)
  /-- RST_RING (R654). -/
  | rstRing (who : Ident) (v : Word)
  /-- RING_RESET (R654). -/
  | ringReset
  /-- IMAGE_VERIFIED (R660). -/
  | imageVerified (b : Fin 2) (code : Fin 16) (svn : BitVec 16)
  /-- DRAM_TRAINED (R657). -/
  | dramTrained
  /-- READY (R658). -/
  | ready
  /-- TRANSITION (R668). -/
  | transition (who : Ident) (v : Word)
  /-- FW_STAGE (R661). -/
  | fwStage (who : Ident) (v : Word)
  /-- FW_STAGE_DONE (R661). -/
  | fwStageDone
  /-- FW_ARM (R662). -/
  | fwArm (who : Ident) (v : Word)
  /-- FW_DISARM (R662). -/
  | fwDisarm (who : Ident) (v : Word)
  /-- FW_ACTIVATE (R662). -/
  | fwActivate
  /-- HALF_A_DONE (R662). -/
  | halfADone
  /-- HALF_B_DONE (R662). -/
  | halfBDone
  /-- COMMIT_SVN (R664). -/
  | commitSvn (who : Ident) (v : Word)
  /-- COOLANT (R691). -/
  | coolant
  /-- GATE_STEP (R683). -/
  | gateStep (p : Fin 16) (dyn : BitVec 32)
  /-- PM_THROTTLE (R686). -/
  | pmThrottle (tj : BitVec 16) (watts : BitVec 16)
  /-- PWR_CTL_LEVEL (R686). -/
  | pwrCtlLevel (who : Ident) (v : Word)
  /-- SLEEP (R688). -/
  | sleep (who : Ident) (v : Word)
  /-- PWR_FIX_WRITE (R687). -/
  | pwrFixWrite (who : Ident) (v : Word)
  /-- PWR_SHARE_WRITE (R687). -/
  | pwrShareWrite (who : Ident) (p : Fin 16) (v : Word)
  /-- FIXLOST (R687). -/
  | fixlost
  /-- TELEMETRY_ITEM (R701). -/
  | telemetryItem
  /-- MGT_ALERT_WRITE (R700). -/
  | mgtAlertWrite (who : Ident) (v : Word)
  /-- ENTDAA (R693). -/
  | entdaa (addr : BitVec 7) (won : Bool)
  /-- SETDASA (R693). -/
  | setdasa (static : BitVec 7) (addr : BitVec 7)
  /-- RSTDAA (R693). -/
  | rstdaa
  /-- ENEC (R693). -/
  | enec (ev : Byte)
  /-- DISEC (R693). -/
  | disec (ev : Byte)
  /-- GETPID (R693). -/
  | getpid
  /-- GETBCR (R693). -/
  | getbcr
  /-- GETDCR (R693). -/
  | getdcr
  /-- GETSTATUS (R693). -/
  | getstatus
  /-- TAP_RESET (R694). -/
  | tapReset
  /-- EXTEST (R694). -/
  | extest (bits : Nat)
  /-- IDCODE (R694). -/
  | idcode
  /-- SAMPLE_PRELOAD (R694). -/
  | samplePreload (bits : Nat)
  /-- HCPACC (R695). -/
  | hcpacc (wr : Bool) (off : BitVec 24) (v : Word)
  /-- BYPASS (R694). -/
  | bypass
  /-- COOLANT_OK_FALL (R699). -/
  | coolantOkFall
  /-- SILT_BLOCK_COMPLETE (R585). -/
  | siltBlockComplete
  /-- SILT_RAW_READ (R597). -/
  | siltRawRead (who : Ident)
  /-- RESERVED_OPCODE (R108). -/
  | reservedOpcode (ing : Ingress) (opc : Byte) (k : Pkt)
  /-- UNMATCHED_RESPONSE (R107). -/
  | unmatchedResponse (ing : Ingress) (opc : Byte) (k : Pkt)
  deriving DecidableEq, Repr

end Sys2Proof
end

