-- ==== Sys2Proof/Decode.lean ====
section
/-! DEFINITION. The command that a word of the operation table's bits spells. -/
namespace Sys2Proof

/-- The table gives none of its rows an encoding, so no word spells a command. -/
def decodeTableWord (nbits w : Nat) : Option Instr :=
  match nbits, w with
  | _, _ => none

end Sys2Proof
end

