-- ==== Sys2Proof/Config.lean ====
section
/-! DEFINITION. What an implementation fixes and the spec leaves open: the free values. None has a
body, so no proof can rest on one. -/
namespace Sys2Proof.Config

/-- The bits that random sources give where the spec fixes no value (R237, R474, R569, R584, R587):
the n-th draw of the run. Log entry 2. -/
opaque freeBits : Nat → BitVec 64

/-- The window-cache hash H of R474, keyed by the draw of the latest reset. Log entry 3. -/
opaque windowHash : (seed part src queue : Nat) → Nat

/-- The multiple of PHS_REF_PER taken as nearest when the tick count lies midway (R40 names no choice):
true for the higher one. Log entry 4. -/
opaque refTieUp : Nat → Bool

/-- The standard normal sample as FP32, computed to within 2 units in the last place (R238), from its
64 uniform bits. Log entry 7. -/
opaque noiseZ : BitVec 64 → BitVec 32

/-- The discrete Gaussian sample of R238 mode 1, from IMM and its two words of the random port. Log entry 7. -/
opaque noiseInt : (imm : Nat) → BitVec 64 → BitVec 64 → Int

/-- Which of ADD and SUB the FLAGS byte of an op record 0x10 selects (R359 names no bit): true for SUB. Log entry 8. -/
opaque shareSub : (flags : Nat) → Bool

/-! Cryptography that the spec names by standard and this model leaves uninterpreted. Log entry 6. Byte lists stand for
keys, messages and signatures; `seed` is the randomness that an operation draws. -/

/-- ML-DSA-87 (FIPS 204): public key of a root secret, signature, verification. -/
opaque mldsaPub : (root : List (BitVec 8)) → List (BitVec 8)
opaque mldsaSign : (root msg ctx : List (BitVec 8)) → (seed : Nat) → List (BitVec 8)
opaque mldsaVerify : (pub msg ctx sig : List (BitVec 8)) → Bool

/-- ECDSA P-384 with SHA-384 (FIPS 186-5), r and s joined. -/
opaque ecdsaPub : (root : List (BitVec 8)) → List (BitVec 8)
opaque ecdsaSign : (root msg : List (BitVec 8)) → (seed : Nat) → List (BitVec 8)
opaque ecdsaVerify : (pub msg sig : List (BitVec 8)) → Bool

/-- P-384 key agreement (SP 800-56A): full public-key validation, the public key of a drawn private key, and the shared
x coordinate. -/
opaque p384Valid : (pub : List (BitVec 8)) → Bool
opaque p384Pub : (seed : Nat) → List (BitVec 8)
opaque p384Shared : (seed : Nat) → (pub : List (BitVec 8)) → List (BitVec 8)

/-- ML-KEM-1024 (FIPS 203): encapsulation-key check, ciphertext and shared secret of an encapsulation. -/
opaque mlkemValid : (ek : List (BitVec 8)) → Bool
opaque mlkemCt : (ek : List (BitVec 8)) → (seed : Nat) → List (BitVec 8)
opaque mlkemSecret : (ek : List (BitVec 8)) → (seed : Nat) → List (BitVec 8)

/-- ML-DSA-87 verification under the Dravgen firmware key (`kind` 0) and life-cycle key (`kind` 1), whose values the spec
does not give (R660, R667). -/
opaque dravgenVerify : (kind : Nat) → (msg ctx sig : List (BitVec 8)) → Bool

/-- The SHA-384 of a stage of the image that a flash bank held before the run (R547, R659): the spec does not give the
flash's contents. Log entry 5. -/
opaque factoryMeasure : (bank stage : Nat) → List (BitVec 8)

/-- Word `i` of the identity that DRAM stack `s` holds (R94, R657): the spec gives no stack's identity. Log entry 5. -/
opaque stackId : (s i : Nat) → BitVec 32

/-- The module's I3C bus and device characteristics bytes (R693): the spec names the CCCs that return them and gives no
values. Log entry 9. -/
opaque i3cBcr : BitVec 8
opaque i3cDcr : BitVec 8

end Sys2Proof.Config
end

