-- ==== Sys2Proof/Machine/Addr.lean ====
section
/-! DEFINITION. The addresses of the registers, as byte offsets of R6 (page × 0x1000 + offset),
under the spec's own names; a per-unit register is a function of its unit number (R69). -/
namespace Sys2Proof.Machine

/-- PHS_CFG 0x010:020 (R65). -/
abbrev A.PHS_CFG : Nat := 0x010020
/-- PHS_REF_PER 0x010:024 (R65). -/
abbrev A.PHS_REF_PER : Nat := 0x010024
/-- PHS_NOW_LO 0x010:028 (R65). -/
abbrev A.PHS_NOW_LO : Nat := 0x010028
/-- PHS_NOW_HI 0x010:02C (R65). -/
abbrev A.PHS_NOW_HI : Nat := 0x01002c
/-- PHS_STS 0x010:030 (R65). -/
abbrev A.PHS_STS : Nat := 0x010030
/-- PHS_MASTER 0x010:034 (R65). -/
abbrev A.PHS_MASTER : Nat := 0x010034
/-- PHS_OFFSET 0x010:038 (R65). -/
abbrev A.PHS_OFFSET : Nat := 0x010038
/-- PHS_MISS 0x010:03C (R65). -/
abbrev A.PHS_MISS : Nat := 0x01003c
/-- PHS_CTL 0x010:040 (R65). -/
abbrev A.PHS_CTL : Nat := 0x010040
/-- PHS_EPOCH_SET 0x010:044 (R65). -/
abbrev A.PHS_EPOCH_SET : Nat := 0x010044
/-- PHS_DISCARD 0x010:048 (R65). -/
abbrev A.PHS_DISCARD : Nat := 0x010048
/-- PHS_LINKDLY0–7 0x010:060–07C (R65). -/
abbrev A.PHS_LINKDLY (i : Nat) : Nat := 0x010060 + 4 * i
/-- PHS_CMP_OWN0–7 0x010:080–09C (R65). -/
abbrev A.PHS_CMP_OWN (i : Nat) : Nat := 0x010080 + 4 * i
/-- TARGET_LO +0x0 (R66). -/
abbrev A.CMP_TARGET_LO (c : Nat) : Nat := 0x011100 + 0x10 * c
/-- TARGET_HI +0x4 (R66). -/
abbrev A.CMP_TARGET_HI (c : Nat) : Nat := 0x011104 + 0x10 * c
/-- ACTION +0x8 (R66). -/
abbrev A.CMP_ACTION (c : Nat) : Nat := 0x011108 + 0x10 * c
/-- CTL +0xC (R66). -/
abbrev A.CMP_CTL (c : Nat) : Nat := 0x01110c + 0x10 * c
/-- GLB_STS 0x000:020 (R93). -/
abbrev A.GLB_STS : Nat := 0x000020
/-- GLB_RST 0x000:030 (R93). -/
abbrev A.GLB_RST : Nat := 0x000030
/-- GLB_UPD 0x000:040 (R93). -/
abbrev A.GLB_UPD : Nat := 0x000040
/-- GLB_UPD_AT_LO 0x000:044 (R93). -/
abbrev A.GLB_UPD_AT_LO : Nat := 0x000044
/-- GLB_UPD_AT_HI 0x000:048 (R93). -/
abbrev A.GLB_UPD_AT_HI : Nat := 0x000048
/-- GLB_UPD_AT_CTL 0x000:04C (R93). -/
abbrev A.GLB_UPD_AT_CTL : Nat := 0x00004c
/-- GLB_PEND 0x000:050 (R93). -/
abbrev A.GLB_PEND : Nat := 0x000050
/-- GLB_SERIAL0–2 0x001:020–028 (R94). -/
abbrev A.GLB_SERIAL (i : Nat) : Nat := 0x001020 + 4 * i
/-- DIE_ID_LO 0x001:100 + 8d (R94). -/
abbrev A.DIE_ID_LO (d : Nat) : Nat := 0x001100 + 8 * d
/-- DIE_ID_HI 0x001:104 + 8d (R94). -/
abbrev A.DIE_ID_HI (d : Nat) : Nat := 0x001104 + 8 * d
/-- STACK_ID0–3 0x001:200 + 16s + 4i (R94). -/
abbrev A.STACK_ID (s i : Nat) : Nat := 0x001200 + 0x10 * s + 4 * i
/-- GLB_DENY_PAGE 0x002:020 (R95). -/
abbrev A.GLB_DENY_PAGE : Nat := 0x002020
/-- GLB_DENY_OFF 0x002:024 (R95). -/
abbrev A.GLB_DENY_OFF : Nat := 0x002024
/-- GLB_DENY_CNT0–15 0x002:100 + 4p (R95). -/
abbrev A.GLB_DENY_CNT (i : Nat) : Nat := 0x002100 + 4 * i
/-- AGG_STS 0x200:020 (R168). -/
abbrev A.AGG_STS : Nat := 0x200020
/-- AGG_OWN0–63 0x200:100 + 4n (R168). -/
abbrev A.AGG_OWN (i : Nat) : Nat := 0x200100 + 4 * i
/-- AGG_WIN_SEL +0x020 (R169). -/
abbrev A.AGG_WIN_SEL (p : Nat) : Nat := 0x210020 + 0x1000 * p
/-- AGG_WIN_DESC_LO +0x024 (R169). -/
abbrev A.AGG_WIN_DESC_LO (p : Nat) : Nat := 0x210024 + 0x1000 * p
/-- AGG_WIN_DESC_HI +0x028 (R169). -/
abbrev A.AGG_WIN_DESC_HI (p : Nat) : Nat := 0x210028 + 0x1000 * p
/-- AGG_WIN_CMD +0x02C (R169). -/
abbrev A.AGG_WIN_CMD (p : Nat) : Nat := 0x21002c + 0x1000 * p
/-- AGG_WIN_RES +0x030 (R169). -/
abbrev A.AGG_WIN_RES (p : Nat) : Nat := 0x210030 + 0x1000 * p
/-- AGG_WIN_DENIED +0x034 (R169). -/
abbrev A.AGG_WIN_DENIED (p : Nat) : Nat := 0x210034 + 0x1000 * p
/-- AGG_WIN_ACTIVE +0x038 (R169). -/
abbrev A.AGG_WIN_ACTIVE (p : Nat) : Nat := 0x210038 + 0x1000 * p
/-- CTX_STS +0x00 (R171). -/
abbrev A.CTX_STS (c : Nat) : Nat := 0x240800 + 0x1000 * (c / 64) + 0x20 * (c % 64)
/-- CTX_COMMITTED +0x04 (R171). -/
abbrev A.CTX_COMMITTED (c : Nat) : Nat := 0x240804 + 0x1000 * (c / 64) + 0x20 * (c % 64)
/-- CTX_SLOTS +0x08 (R171). -/
abbrev A.CTX_SLOTS (c : Nat) : Nat := 0x240808 + 0x1000 * (c / 64) + 0x20 * (c % 64)
/-- CTX_DISCARDED +0x0C (R171). -/
abbrev A.CTX_DISCARDED (c : Nat) : Nat := 0x24080c + 0x1000 * (c / 64) + 0x20 * (c % 64)
/-- CTX_RECLAIMED +0x10 (R171). -/
abbrev A.CTX_RECLAIMED (c : Nat) : Nat := 0x240810 + 0x1000 * (c / 64) + 0x20 * (c % 64)
/-- CTX_DUPACK +0x14 (R171). -/
abbrev A.CTX_DUPACK (c : Nat) : Nat := 0x240814 + 0x1000 * (c / 64) + 0x20 * (c % 64)
/-- CTX_NAKS +0x18 (R171). -/
abbrev A.CTX_NAKS (c : Nat) : Nat := 0x240818 + 0x1000 * (c / 64) + 0x20 * (c % 64)
/-- CTX_ABANDONED +0x1C (R171). -/
abbrev A.CTX_ABANDONED (c : Nat) : Nat := 0x24081c + 0x1000 * (c / 64) + 0x20 * (c % 64)
/-- MSK_STS 0x280:020 (R202). -/
abbrev A.MSK_STS : Nat := 0x280020
/-- MSK_OWN0–3 0x280:030–03C (R202). -/
abbrev A.MSK_OWN (i : Nat) : Nat := 0x280030 + 4 * i
/-- MSK_WIN_SEL +0x020 (R203). -/
abbrev A.MSK_WIN_SEL (p : Nat) : Nat := 0x290020 + 0x1000 * p
/-- MSK_WIN_CMD +0x024 (R203). -/
abbrev A.MSK_WIN_CMD (p : Nat) : Nat := 0x290024 + 0x1000 * p
/-- MSK_WIN_RES +0x028 (R203). -/
abbrev A.MSK_WIN_RES (p : Nat) : Nat := 0x290028 + 0x1000 * p
/-- MSK_REC_STS +0x02C (R203). -/
abbrev A.MSK_REC_STS (p : Nat) : Nat := 0x29002c + 0x1000 * p
/-- MSK_NEED +0x030 (R203). -/
abbrev A.MSK_NEED (p : Nat) : Nat := 0x290030 + 0x1000 * p
/-- MSK_RECON +0x034 (R203). -/
abbrev A.MSK_RECON (p : Nat) : Nat := 0x290034 + 0x1000 * p
/-- MSK_SHARES +0x038 (R203). -/
abbrev A.MSK_SHARES (p : Nat) : Nat := 0x290038 + 0x1000 * p
/-- MSK_EXTRA +0x03C (R203). -/
abbrev A.MSK_EXTRA (p : Nat) : Nat := 0x29003c + 0x1000 * p
/-- MSK_AGREE +0x040 (R203). -/
abbrev A.MSK_AGREE (p : Nat) : Nat := 0x290040 + 0x1000 * p
/-- MSK_EDGES +0x044 (R203). -/
abbrev A.MSK_EDGES (p : Nat) : Nat := 0x290044 + 0x1000 * p
/-- MSK_MP +0x048 (R203). -/
abbrev A.MSK_MP (p : Nat) : Nat := 0x290048 + 0x1000 * p
/-- MSK_MQ +0x04C (R203). -/
abbrev A.MSK_MQ (p : Nat) : Nat := 0x29004c + 0x1000 * p
/-- TILE_STS +0x020 (R249). -/
abbrev A.TILE_STS (t : Nat) : Nat := 0x800020 + 0x8000 * t
/-- TILE_PC +0x024 (R249). -/
abbrev A.TILE_PC (t : Nat) : Nat := 0x800024 + 0x8000 * t
/-- TILE_KFAULT +0x028 (R249). -/
abbrev A.TILE_KFAULT (t : Nat) : Nat := 0x800028 + 0x8000 * t
/-- TILE_KFAULT_PC +0x02C (R249). -/
abbrev A.TILE_KFAULT_PC (t : Nat) : Nat := 0x80002c + 0x8000 * t
/-- TILE_KFAULT_DET_LO +0x030 (R249). -/
abbrev A.TILE_KFAULT_DET_LO (t : Nat) : Nat := 0x800030 + 0x8000 * t
/-- TILE_KFAULT_DET_HI +0x034 (R249). -/
abbrev A.TILE_KFAULT_DET_HI (t : Nat) : Nat := 0x800034 + 0x8000 * t
/-- TILE_SFLAGS +0x038 (R249). -/
abbrev A.TILE_SFLAGS (t : Nat) : Nat := 0x800038 + 0x8000 * t
/-- TILE_CODE_MAP_LO +0x040 (R249). -/
abbrev A.TILE_CODE_MAP_LO (t : Nat) : Nat := 0x800040 + 0x8000 * t
/-- TILE_CODE_MAP_HI +0x044 (R249). -/
abbrev A.TILE_CODE_MAP_HI (t : Nat) : Nat := 0x800044 + 0x8000 * t
/-- TILE_RUN +0x048 (R249). -/
abbrev A.TILE_RUN (t : Nat) : Nat := 0x800048 + 0x8000 * t
/-- TILE_DMA_STS +0x020 (R250). -/
abbrev A.TILE_DMA_STS (t : Nat) : Nat := 0x801020 + 0x8000 * t
/-- TILE_ENG_STS +0x024 (R250). -/
abbrev A.TILE_ENG_STS (t : Nat) : Nat := 0x801024 + 0x8000 * t
/-- TILE_GATE +0x028 (R250). -/
abbrev A.TILE_GATE (t : Nat) : Nat := 0x801028 + 0x8000 * t
/-- ACC_STS0–7 +0x040 + 4a (R250). -/
abbrev A.ACC_STS (t i : Nat) : Nat := 0x801040 + 0x8000 * t + 4 * i
/-- CNT_CYC_LO +0x020 (R251). -/
abbrev A.CNT_CYC_LO (t : Nat) : Nat := 0x802020 + 0x8000 * t
/-- CNT_CYC_HI +0x024 (R251). -/
abbrev A.CNT_CYC_HI (t : Nat) : Nat := 0x802024 + 0x8000 * t
/-- CNT_INSTR_LO +0x028 (R251). -/
abbrev A.CNT_INSTR_LO (t : Nat) : Nat := 0x802028 + 0x8000 * t
/-- CNT_INSTR_HI +0x02C (R251). -/
abbrev A.CNT_INSTR_HI (t : Nat) : Nat := 0x80202c + 0x8000 * t
/-- CNT_ARR +0x030 (R251). -/
abbrev A.CNT_ARR (t : Nat) : Nat := 0x802030 + 0x8000 * t
/-- CNT_BRZ +0x034 (R251). -/
abbrev A.CNT_BRZ (t : Nat) : Nat := 0x802034 + 0x8000 * t
/-- CNT_DMA +0x038 (R251). -/
abbrev A.CNT_DMA (t : Nat) : Nat := 0x802038 + 0x8000 * t
/-- CNT_STALL +0x03C (R251). -/
abbrev A.CNT_STALL (t : Nat) : Nat := 0x80203c + 0x8000 * t
/-- CLU_STS +0x020 (R253). -/
abbrev A.CLU_STS (c : Nat) : Nat := 0xc00020 + 0x10000 * c
/-- CLU_MAP0–4 +0x040 + 4n (R253). -/
abbrev A.CLU_MAP (c i : Nat) : Nat := 0xc00040 + 0x10000 * c + 4 * i
/-- CLU_FAILED +0x060 (R253). -/
abbrev A.CLU_FAILED (c : Nat) : Nat := 0xc00060 + 0x10000 * c
/-- CLU_REMAP +0x064 (R253). -/
abbrev A.CLU_REMAP (c : Nat) : Nat := 0xc00064 + 0x10000 * c
/-- CLU_DRBG +0x020 (R254). -/
abbrev A.CLU_DRBG (c : Nat) : Nat := 0xc01020 + 0x10000 * c
/-- CLU_LINK_CORR +0x024 (R254). -/
abbrev A.CLU_LINK_CORR (c : Nat) : Nat := 0xc01024 + 0x10000 * c
/-- CLU_LINK_UNCORR +0x028 (R254). -/
abbrev A.CLU_LINK_UNCORR (c : Nat) : Nat := 0xc01028 + 0x10000 * c
/-- LOAM_MODE +0x020 (R401). -/
abbrev A.LOAM_MODE (p : Nat) : Nat := 0x100020 + 0x1000 * p
/-- LOAM_STS +0x024 (R401). -/
abbrev A.LOAM_STS (p : Nat) : Nat := 0x100024 + 0x1000 * p
/-- LOAM_SNAP_BASE_LO +0x028 (R401). -/
abbrev A.LOAM_SNAP_BASE_LO (p : Nat) : Nat := 0x100028 + 0x1000 * p
/-- LOAM_SNAP_BASE_HI +0x02C (R401). -/
abbrev A.LOAM_SNAP_BASE_HI (p : Nat) : Nat := 0x10002c + 0x1000 * p
/-- LOAM_SNAP_SIZE +0x030 (R401). -/
abbrev A.LOAM_SNAP_SIZE (p : Nat) : Nat := 0x100030 + 0x1000 * p
/-- LOAM_SNAP_FREE +0x034 (R401). -/
abbrev A.LOAM_SNAP_FREE (p : Nat) : Nat := 0x100034 + 0x1000 * p
/-- LOAM_CMD +0x038 (R401). -/
abbrev A.LOAM_CMD (p : Nat) : Nat := 0x100038 + 0x1000 * p
/-- LOAM_RES +0x03C (R401). -/
abbrev A.LOAM_RES (p : Nat) : Nat := 0x10003c + 0x1000 * p
/-- LOAM_CTR_SEL +0x040 (R401). -/
abbrev A.LOAM_CTR_SEL (p : Nat) : Nat := 0x100040 + 0x1000 * p
/-- LOAM_CTR_VAL +0x044 (R401). -/
abbrev A.LOAM_CTR_VAL (p : Nat) : Nat := 0x100044 + 0x1000 * p
/-- LOAM_QB_SEL +0x048 (R401). -/
abbrev A.LOAM_QB_SEL (p : Nat) : Nat := 0x100048 + 0x1000 * p
/-- LOAM_QB +0x04C (R401). -/
abbrev A.LOAM_QB (p : Nat) : Nat := 0x10004c + 0x1000 * p
/-- LOAM_ERRCNT +0x050 (R401). -/
abbrev A.LOAM_ERRCNT (p : Nat) : Nat := 0x100050 + 0x1000 * p
/-- LOAM_LAST_ERR +0x054 (R401). -/
abbrev A.LOAM_LAST_ERR (p : Nat) : Nat := 0x100054 + 0x1000 * p
/-- TRACE_CFG +0x058 (R401). -/
abbrev A.TRACE_CFG (p : Nat) : Nat := 0x100058 + 0x1000 * p
/-- TRACE_BASE_LO +0x05C (R401). -/
abbrev A.TRACE_BASE_LO (p : Nat) : Nat := 0x10005c + 0x1000 * p
/-- TRACE_BASE_HI +0x060 (R401). -/
abbrev A.TRACE_BASE_HI (p : Nat) : Nat := 0x100060 + 0x1000 * p
/-- TRACE_QRANGE +0x064 (R401). -/
abbrev A.TRACE_QRANGE (p : Nat) : Nat := 0x100064 + 0x1000 * p
/-- GR_STS +0x0 (R405). -/
abbrev A.GR_STS (p g : Nat) : Nat := 0x120400 + 0x1000 * p + 0x10 * g
/-- GR_ERR_NODE +0x4 (R405). -/
abbrev A.GR_ERR_NODE (p g : Nat) : Nat := 0x120404 + 0x1000 * p + 0x10 * g
/-- GR_ERR_DET +0x8 (R405). -/
abbrev A.GR_ERR_DET (p g : Nat) : Nat := 0x120408 + 0x1000 * p + 0x10 * g
/-- GR_DONE +0xC (R405). -/
abbrev A.GR_DONE (p g : Nat) : Nat := 0x12040c + 0x1000 * p + 0x10 * g
/-- BRL_PORT_CTL +0x020 (R454). -/
abbrev A.BRL_PORT_CTL (n : Nat) : Nat := 0x300020 + 0x8000 * n
/-- BRL_PORT_CFG +0x024 (R454). -/
abbrev A.BRL_PORT_CFG (n : Nat) : Nat := 0x300024 + 0x8000 * n
/-- BRL_PORT_STS +0x028 (R454). -/
abbrev A.BRL_PORT_STS (n : Nat) : Nat := 0x300028 + 0x8000 * n
/-- BRL_PEER +0x02C (R454). -/
abbrev A.BRL_PEER (n : Nat) : Nat := 0x30002c + 0x8000 * n
/-- BRL_PORT_EVT +0x030 (R454). -/
abbrev A.BRL_PORT_EVT (n : Nat) : Nat := 0x300030 + 0x8000 * n
/-- BRL_BCAST +0x034 (R454). -/
abbrev A.BRL_BCAST (n : Nat) : Nat := 0x300034 + 0x8000 * n
/-- BRL_CORR +0x020 (R455). -/
abbrev A.BRL_CORR (n : Nat) : Nat := 0x301020 + 0x8000 * n
/-- BRL_UNC +0x024 (R455). -/
abbrev A.BRL_UNC (n : Nat) : Nat := 0x301024 + 0x8000 * n
/-- BRL_CRC +0x028 (R455). -/
abbrev A.BRL_CRC (n : Nat) : Nat := 0x301028 + 0x8000 * n
/-- BRL_NOROUTE +0x02C (R455). -/
abbrev A.BRL_NOROUTE (n : Nat) : Nat := 0x30102c + 0x8000 * n
/-- BRL_SHARE_DROP +0x030 (R455). -/
abbrev A.BRL_SHARE_DROP (n : Nat) : Nat := 0x301030 + 0x8000 * n
/-- BRL_PREEMPT +0x034 (R455). -/
abbrev A.BRL_PREEMPT (n : Nat) : Nat := 0x301034 + 0x8000 * n
/-- BRL_RX_FRAMES +0x038 (R455). -/
abbrev A.BRL_RX_FRAMES (n : Nat) : Nat := 0x301038 + 0x8000 * n
/-- BRL_TX_FRAMES +0x03C (R455). -/
abbrev A.BRL_TX_FRAMES (n : Nat) : Nat := 0x30103c + 0x8000 * n
/-- BRL_SHARE0_p +0x100 + 4p (R456). -/
abbrev A.BRL_SHARE0 (n p : Nat) : Nat := 0x302100 + 0x8000 * n + 4 * p
/-- BRL_SHARE1_p +0x140 + 4p (R456). -/
abbrev A.BRL_SHARE1 (n p : Nat) : Nat := 0x302140 + 0x8000 * n + 4 * p
/-- ROUTE_LO +0x100 + 8e (R457). -/
abbrev A.ROUTE_LO (n e : Nat) : Nat := 0x303100 + 0x8000 * n + 8 * e
/-- ROUTE_HI +0x104 + 8e (R457). -/
abbrev A.ROUTE_HI (n e : Nat) : Nat := 0x303104 + 0x8000 * n + 8 * e
/-- BRL_NODE +0x020 (R458). -/
abbrev A.BRL_NODE : Nat := 0x305020
/-- BRL_STS +0x024 (R458). -/
abbrev A.BRL_STS : Nat := 0x305024
/-- BRL_BCAST_ORIG +0x028 (R458). -/
abbrev A.BRL_BCAST_ORIG : Nat := 0x305028
/-- OPT_LASER +0x020 (R459). -/
abbrev A.BRL_OPT_LASER (n : Nat) : Nat := 0x307020 + 0x8000 * n
/-- OPT_SPARE +0x024 (R459). -/
abbrev A.BRL_OPT_SPARE (n : Nat) : Nat := 0x307024 + 0x8000 * n
/-- OPT_FAIL +0x028 (R459). -/
abbrev A.BRL_OPT_FAIL (n : Nat) : Nat := 0x307028 + 0x8000 * n
/-- ETH_CFG +0x020 (R485). -/
abbrev A.ETH_CFG (n : Nat) : Nat := 0x340020 + 0x4000 * n
/-- ETH_STS +0x024 (R485). -/
abbrev A.ETH_STS (n : Nat) : Nat := 0x340024 + 0x4000 * n
/-- ETH_EVT +0x028 (R485). -/
abbrev A.ETH_EVT (n : Nat) : Nat := 0x340028 + 0x4000 * n
/-- ETH_MAC_LO +0x030 (R485). -/
abbrev A.ETH_MAC_LO (n : Nat) : Nat := 0x340030 + 0x4000 * n
/-- ETH_MAC_HI +0x034 (R485). -/
abbrev A.ETH_MAC_HI (n : Nat) : Nat := 0x340034 + 0x4000 * n
/-- ETH_IP4 +0x038 (R485). -/
abbrev A.ETH_IP4 (n : Nat) : Nat := 0x340038 + 0x4000 * n
/-- ETH_IP6_0–3 +0x040 + 4i (R485). -/
abbrev A.ETH_IP6 (n i : Nat) : Nat := 0x340040 + 0x4000 * n + 4 * i
/-- ETH_RX_FRAMES +0x020 (R486). -/
abbrev A.ETH_RX_FRAMES (n : Nat) : Nat := 0x341020 + 0x4000 * n
/-- ETH_RX_FCS +0x024 (R486). -/
abbrev A.ETH_RX_FCS (n : Nat) : Nat := 0x341024 + 0x4000 * n
/-- ETH_RX_DROP +0x028 (R486). -/
abbrev A.ETH_RX_DROP (n : Nat) : Nat := 0x341028 + 0x4000 * n
/-- ETH_RX_IP +0x02C (R486). -/
abbrev A.ETH_RX_IP (n : Nat) : Nat := 0x34102c + 0x4000 * n
/-- ETH_SLOTDROP +0x030 (R486). -/
abbrev A.ETH_SLOTDROP (n : Nat) : Nat := 0x341030 + 0x4000 * n
/-- ETH_FEC_CORR +0x034 (R486). -/
abbrev A.ETH_FEC_CORR (n : Nat) : Nat := 0x341034 + 0x4000 * n
/-- ETH_FEC_UNC +0x038 (R486). -/
abbrev A.ETH_FEC_UNC (n : Nat) : Nat := 0x341038 + 0x4000 * n
/-- ETH_TX_FRAMES +0x03C (R486). -/
abbrev A.ETH_TX_FRAMES (n : Nat) : Nat := 0x34103c + 0x4000 * n
/-- ETH_RXSHARE0–15 +0x020 + 4p (R487). -/
abbrev A.ETH_RXSHARE (n i : Nat) : Nat := 0x342020 + 0x4000 * n + 4 * i
/-- OPT_LASER +0x020 (R488). -/
abbrev A.ETH_OPT_LASER (n : Nat) : Nat := 0x343020 + 0x4000 * n
/-- OPT_SPARE +0x024 (R488). -/
abbrev A.ETH_OPT_SPARE (n : Nat) : Nat := 0x343024 + 0x4000 * n
/-- OPT_FAIL +0x028 (R488). -/
abbrev A.ETH_OPT_FAIL (n : Nat) : Nat := 0x343028 + 0x4000 * n
/-- HRMP_CFG 0x380:020 (R490). -/
abbrev A.HRMP_CFG : Nat := 0x380020
/-- HRMP_TMR 0x380:024 (R490). -/
abbrev A.HRMP_TMR : Nat := 0x380024
/-- HRMP_TMR2 0x380:028 (R490). -/
abbrev A.HRMP_TMR2 : Nat := 0x380028
/-- HRMP_TX 0x380:02C (R490). -/
abbrev A.HRMP_TX : Nat := 0x38002c
/-- HRMP_STS 0x380:030 (R490). -/
abbrev A.HRMP_STS : Nat := 0x380030
/-- HRMP_QOWN0–63 0x380:100 + 4n (R490). -/
abbrev A.HRMP_QOWN (i : Nat) : Nat := 0x380100 + 4 * i
/-- HRMP_CBANK0–63 0x380:200 + 4n (R490). -/
abbrev A.HRMP_CBANK (i : Nat) : Nat := 0x380200 + 4 * i
/-- HRMP_LKEY_CUR +0x020 (R491). -/
abbrev A.HRMP_LKEY_CUR (p : Nat) : Nat := 0x390020 + 0x1000 * p
/-- HRMP_LKEY_ALT +0x024 (R491). -/
abbrev A.HRMP_LKEY_ALT (p : Nat) : Nat := 0x390024 + 0x1000 * p
/-- HRMP_LKEY_CTL +0x028 (R491). -/
abbrev A.HRMP_LKEY_CTL (p : Nat) : Nat := 0x390028 + 0x1000 * p
/-- HRMP_RXWAY +0x02C (R491). -/
abbrev A.HRMP_RXWAY (p : Nat) : Nat := 0x39002c + 0x1000 * p
/-- HRMP_Q_SEL +0x030 (R491). -/
abbrev A.HRMP_Q_SEL (p : Nat) : Nat := 0x390030 + 0x1000 * p
/-- HRMP_Q_CFG +0x034 (R491). -/
abbrev A.HRMP_Q_CFG (p : Nat) : Nat := 0x390034 + 0x1000 * p
/-- HRMP_Q_ATOM_LO +0x038 (R491). -/
abbrev A.HRMP_Q_ATOM_LO (p : Nat) : Nat := 0x390038 + 0x1000 * p
/-- HRMP_Q_ATOM_HI +0x03C (R491). -/
abbrev A.HRMP_Q_ATOM_HI (p : Nat) : Nat := 0x39003c + 0x1000 * p
/-- HRMP_PEER_SEL +0x060 (R491). -/
abbrev A.HRMP_PEER_SEL (p : Nat) : Nat := 0x390060 + 0x1000 * p
/-- HRMP_PEER_CFG +0x064 (R491). -/
abbrev A.HRMP_PEER_CFG (p : Nat) : Nat := 0x390064 + 0x1000 * p
/-- HRMP_PEER_MAC_LO +0x068 (R491). -/
abbrev A.HRMP_PEER_MAC_LO (p : Nat) : Nat := 0x390068 + 0x1000 * p
/-- HRMP_PEER_MAC_HI +0x06C (R491). -/
abbrev A.HRMP_PEER_MAC_HI (p : Nat) : Nat := 0x39006c + 0x1000 * p
/-- HRMP_PEER_IP0–3 +0x070 + 4i (R491). -/
abbrev A.HRMP_PEER_IP (p i : Nat) : Nat := 0x390070 + 0x1000 * p + 4 * i
/-- HRMP_CACHE +0x080 (R491). -/
abbrev A.HRMP_CACHE (p : Nat) : Nat := 0x390080 + 0x1000 * p
/-- HRMP_EVICT +0x084 (R491). -/
abbrev A.HRMP_EVICT (p : Nat) : Nat := 0x390084 + 0x1000 * p
/-- HRMP_COLD +0x088 (R491). -/
abbrev A.HRMP_COLD (p : Nat) : Nat := 0x390088 + 0x1000 * p
/-- HRMP_DUPS +0x08C (R491). -/
abbrev A.HRMP_DUPS (p : Nat) : Nat := 0x39008c + 0x1000 * p
/-- HRMP_TAGFAIL +0x090 (R491). -/
abbrev A.HRMP_TAGFAIL (p : Nat) : Nat := 0x390090 + 0x1000 * p
/-- HRMP_RNR +0x094 (R491). -/
abbrev A.HRMP_RNR (p : Nat) : Nat := 0x390094 + 0x1000 * p
/-- HRMP_RETX +0x098 (R491). -/
abbrev A.HRMP_RETX (p : Nat) : Nat := 0x390098 + 0x1000 * p
/-- HRMP_ABANDON +0x09C (R491). -/
abbrev A.HRMP_ABANDON (p : Nat) : Nat := 0x39009c + 0x1000 * p
/-- HRMP_NOBANK +0x0A0 (R491). -/
abbrev A.HRMP_NOBANK (p : Nat) : Nat := 0x3900a0 + 0x1000 * p
/-- MEM_CH_STS +0x020 (R521). -/
abbrev A.MEM_CH_STS (ch : Nat) : Nat := 0x400020 + 0x2000 * ch
/-- MEM_CH_CTL +0x024 (R521). -/
abbrev A.MEM_CH_CTL (ch : Nat) : Nat := 0x400024 + 0x2000 * ch
/-- MEM_CH_CFG +0x028 (R521). -/
abbrev A.MEM_CH_CFG (ch : Nat) : Nat := 0x400028 + 0x2000 * ch
/-- MEM_MIG_STS +0x02C (R521). -/
abbrev A.MEM_MIG_STS (ch : Nat) : Nat := 0x40002c + 0x2000 * ch
/-- MEM_MIG_POISON +0x030 (R521). -/
abbrev A.MEM_MIG_POISON (ch : Nat) : Nat := 0x400030 + 0x2000 * ch
/-- MEM_CORR +0x020 (R522). -/
abbrev A.MEM_CORR (ch : Nat) : Nat := 0x401020 + 0x2000 * ch
/-- MEM_UNCORR +0x024 (R522). -/
abbrev A.MEM_UNCORR (ch : Nat) : Nat := 0x401024 + 0x2000 * ch
/-- MEM_ITAG +0x028 (R522). -/
abbrev A.MEM_ITAG (ch : Nat) : Nat := 0x401028 + 0x2000 * ch
/-- MEM_POISON_RD +0x02C (R522). -/
abbrev A.MEM_POISON_RD (ch : Nat) : Nat := 0x40102c + 0x2000 * ch
/-- MEM_SCRUB_PASS +0x030 (R522). -/
abbrev A.MEM_SCRUB_PASS (ch : Nat) : Nat := 0x401030 + 0x2000 * ch
/-- MEM_DEV_CORR +0x034 (R522). -/
abbrev A.MEM_DEV_CORR (ch : Nat) : Nat := 0x401034 + 0x2000 * ch
/-- MEM_ERR_PA_LO +0x038 (R522). -/
abbrev A.MEM_ERR_PA_LO (ch : Nat) : Nat := 0x401038 + 0x2000 * ch
/-- MEM_ERR_PA_HI +0x03C (R522). -/
abbrev A.MEM_ERR_PA_HI (ch : Nat) : Nat := 0x40103c + 0x2000 * ch
/-- MMU_KEY +0x020 (R523). -/
abbrev A.MMU_KEY (p : Nat) : Nat := 0x480020 + 0x1000 * p
/-- MMU_ROOT_LO +0x024 (R523). -/
abbrev A.MMU_ROOT_LO (p : Nat) : Nat := 0x480024 + 0x1000 * p
/-- MMU_ROOT_HI +0x028 (R523). -/
abbrev A.MMU_ROOT_HI (p : Nat) : Nat := 0x480028 + 0x1000 * p
/-- MMU_INV_LO +0x02C (R523). -/
abbrev A.MMU_INV_LO (p : Nat) : Nat := 0x48002c + 0x1000 * p
/-- MMU_INV_HI +0x030 (R523). -/
abbrev A.MMU_INV_HI (p : Nat) : Nat := 0x480030 + 0x1000 * p
/-- MMU_INV_CNT +0x034 (R523). -/
abbrev A.MMU_INV_CNT (p : Nat) : Nat := 0x480034 + 0x1000 * p
/-- MMU_INV_CTL +0x038 (R523). -/
abbrev A.MMU_INV_CTL (p : Nat) : Nat := 0x480038 + 0x1000 * p
/-- MMU_FAULT +0x03C (R523). -/
abbrev A.MMU_FAULT (p : Nat) : Nat := 0x48003c + 0x1000 * p
/-- MMU_FAULT_VA_LO +0x040 (R523). -/
abbrev A.MMU_FAULT_VA_LO (p : Nat) : Nat := 0x480040 + 0x1000 * p
/-- MMU_FAULT_VA_HI +0x044 (R523). -/
abbrev A.MMU_FAULT_VA_HI (p : Nat) : Nat := 0x480044 + 0x1000 * p
/-- MMU_RES_LO +0x048 (R523). -/
abbrev A.MMU_RES_LO (p : Nat) : Nat := 0x480048 + 0x1000 * p
/-- MMU_RES_HI +0x04C (R523). -/
abbrev A.MMU_RES_HI (p : Nat) : Nat := 0x48004c + 0x1000 * p
/-- MMU_RES_CNT +0x050 (R523). -/
abbrev A.MMU_RES_CNT (p : Nat) : Nat := 0x480050 + 0x1000 * p
/-- MMU_WALKS +0x054 (R523). -/
abbrev A.MMU_WALKS (p : Nat) : Nat := 0x480054 + 0x1000 * p
/-- MMU_WALKFAIL +0x058 (R523). -/
abbrev A.MMU_WALKFAIL (p : Nat) : Nat := 0x480058 + 0x1000 * p
/-- MMU_STS +0x05C (R523). -/
abbrev A.MMU_STS (p : Nat) : Nat := 0x48005c + 0x1000 * p
/-- ATT_SEL +0x020 (R562). -/
abbrev A.ATT_SEL : Nat := 0x060020
/-- ATT_CMD +0x024 (R562). -/
abbrev A.ATT_CMD : Nat := 0x060024
/-- ATT_RES +0x028 (R562). -/
abbrev A.ATT_RES : Nat := 0x060028
/-- ATT_CFG +0x02C (R562). -/
abbrev A.ATT_CFG : Nat := 0x06002c
/-- ATT_SVC_CNT +0x030 (R562). -/
abbrev A.ATT_SVC_CNT : Nat := 0x060030
/-- ATT_SIGNED +0x034 (R562). -/
abbrev A.ATT_SIGNED : Nat := 0x060034
/-- PART_STS +0x020 (R563). -/
abbrev A.PART_STS : Nat := 0x061020
/-- PART_TILES0 +0x024 (R563). -/
abbrev A.PART_TILES0 : Nat := 0x061024
/-- PART_TILES1 +0x028 (R563). -/
abbrev A.PART_TILES1 : Nat := 0x061028
/-- PART_TILES2 +0x02C (R563). -/
abbrev A.PART_TILES2 : Nat := 0x06102c
/-- PART_CHAN_LO +0x030 (R563). -/
abbrev A.PART_CHAN_LO : Nat := 0x061030
/-- PART_CHAN_HI +0x034 (R563). -/
abbrev A.PART_CHAN_HI : Nat := 0x061034
/-- PART_WAYS +0x038 (R563). -/
abbrev A.PART_WAYS : Nat := 0x061038
/-- PART_KEYS +0x03C (R563). -/
abbrev A.PART_KEYS : Nat := 0x06103c
/-- PART_OWNER0–11 +0x040 + 4i (R563). -/
abbrev A.PART_OWNER (i : Nat) : Nat := 0x061040 + 4 * i
/-- PART_SVC +0x070 (R563). -/
abbrev A.PART_SVC : Nat := 0x061070
/-- SESS_STS +0x0 (R564). -/
abbrev A.SESS_STS (p : Nat) : Nat := 0x062100 + 0x10 * p
/-- SESS_CTR +0x4 (R564). -/
abbrev A.SESS_CTR (p : Nat) : Nat := 0x062104 + 0x10 * p
/-- SESS_OPENS +0x8 (R564). -/
abbrev A.SESS_OPENS (p : Nat) : Nat := 0x062108 + 0x10 * p
/-- SESS_DUMPS +0xC (R564). -/
abbrev A.SESS_DUMPS (p : Nat) : Nat := 0x06210c + 0x10 * p
/-- DBG_HALT +0x020 (R565). -/
abbrev A.DBG_HALT : Nat := 0x068020
/-- DBG_HSTS +0x024 (R565). -/
abbrev A.DBG_HSTS : Nat := 0x068024
/-- DBG_SRC_LO +0x028 (R565). -/
abbrev A.DBG_SRC_LO : Nat := 0x068028
/-- DBG_SRC_HI +0x02C (R565). -/
abbrev A.DBG_SRC_HI : Nat := 0x06802c
/-- DBG_LEN +0x030 (R565). -/
abbrev A.DBG_LEN : Nat := 0x068030
/-- DBG_OUT_LO +0x034 (R565). -/
abbrev A.DBG_OUT_LO : Nat := 0x068034
/-- DBG_OUT_HI +0x038 (R565). -/
abbrev A.DBG_OUT_HI : Nat := 0x068038
/-- DBG_CMD +0x03C (R565). -/
abbrev A.DBG_CMD : Nat := 0x06803c
/-- DBG_RES +0x040 (R565). -/
abbrev A.DBG_RES : Nat := 0x068040
/-- KEY_SEL +0x020 (R593). -/
abbrev A.KEY_SEL : Nat := 0x040020
/-- KEY_ATTR +0x024 (R593). -/
abbrev A.KEY_ATTR : Nat := 0x040024
/-- KEY_LABEL0–3 +0x028 + 4i (R593). -/
abbrev A.KEY_LABEL (i : Nat) : Nat := 0x040028 + 4 * i
/-- KEY_CTX0–2 +0x038 + 4i (R593). -/
abbrev A.KEY_CTX (i : Nat) : Nat := 0x040038 + 4 * i
/-- KEY_CMD +0x044 (R593). -/
abbrev A.KEY_CMD : Nat := 0x040044
/-- KEY_RES +0x048 (R593). -/
abbrev A.KEY_RES : Nat := 0x040048
/-- KEY_STS +0x04C (R593). -/
abbrev A.KEY_STS : Nat := 0x04004c
/-- KEY_BADCNT +0x050 (R593). -/
abbrev A.KEY_BADCNT : Nat := 0x040050
/-- KEY_LAST_BAD +0x054 (R593). -/
abbrev A.KEY_LAST_BAD : Nat := 0x040054
/-- KEY_SLOT_STS (R594). -/
abbrev A.KEY_SLOT_STS (s : Nat) : Nat := 0x041800 + 0x4 * s
/-- SILT_CTL +0x020 (R596). -/
abbrev A.SILT_CTL : Nat := 0x050020
/-- SILT_CFG +0x024 (R596). -/
abbrev A.SILT_CFG : Nat := 0x050024
/-- SILT_STS +0x028 (R596). -/
abbrev A.SILT_STS : Nat := 0x050028
/-- SILT_FAILS +0x02C (R596). -/
abbrev A.SILT_FAILS : Nat := 0x05002c
/-- SILT_BLOCKS +0x030 (R596). -/
abbrev A.SILT_BLOCKS : Nat := 0x050030
/-- SILT_DISCARD +0x034 (R596). -/
abbrev A.SILT_DISCARD : Nat := 0x050034
/-- SILT_CELL0–7 +0x020 + 4c (R597). -/
abbrev A.SILT_CELL (i : Nat) : Nat := 0x051020 + 4 * i
/-- SILT_RAW +0x040 (R597). -/
abbrev A.SILT_RAW : Nat := 0x051040
/-- SILT_RAW_SEL +0x044 (R597). -/
abbrev A.SILT_RAW_SEL : Nat := 0x051044
/-- SILT_DATA +0x0 (R598). -/
abbrev A.SILT_DATA (p : Nat) : Nat := 0x052100 + 0x10 * p
/-- SILT_DSTS +0x4 (R598). -/
abbrev A.SILT_DSTS (p : Nat) : Nat := 0x052104 + 0x10 * p
/-- SILT_DCNT +0x8 (R598). -/
abbrev A.SILT_DCNT (p : Nat) : Nat := 0x052108 + 0x10 * p
/-- DRBG_STS (R599). -/
abbrev A.DRBG_STS (i : Nat) : Nat := 0x053100 + 0x4 * i
/-- INT_SW_PEND +0x020 (R621). -/
abbrev A.INT_SW_PEND : Nat := 0x030020
/-- INT_O_PCLR +0x024 (R621). -/
abbrev A.INT_O_PCLR : Nat := 0x030024
/-- INT_SPURIOUS_CMPL +0x028 (R621). -/
abbrev A.INT_SPURIOUS_CMPL : Nat := 0x030028
/-- INT_WAKE +0x02C (R621). -/
abbrev A.INT_WAKE : Nat := 0x03002c
/-- INT_STS +0x030 (R621). -/
abbrev A.INT_STS : Nat := 0x030030
/-- INT_HV_OWN0–15 +0x040 + 4n (R621). -/
abbrev A.INT_HV_OWN (i : Nat) : Nat := 0x030040 + 4 * i
/-- INT_T_OWN0–15 +0x080 + 4n (R621). -/
abbrev A.INT_T_OWN (i : Nat) : Nat := 0x030080 + 4 * i
/-- INT_DOORBELL +0x100 (R621). -/
abbrev A.INT_DOORBELL : Nat := 0x030100
/-- CC_CTL +0x00 (R622). -/
abbrev A.CC_CTL (c : Nat) : Nat := 0x031100 + 0x20 * c
/-- CC_THRESH +0x04 (R622). -/
abbrev A.CC_THRESH (c : Nat) : Nat := 0x031104 + 0x20 * c
/-- CC_STS +0x08 (R622). -/
abbrev A.CC_STS (c : Nat) : Nat := 0x031108 + 0x20 * c
/-- CC_CUR +0x0C (R622). -/
abbrev A.CC_CUR (c : Nat) : Nat := 0x03110c + 0x20 * c
/-- CC_CMPL +0x10 (R622). -/
abbrev A.CC_CMPL (c : Nat) : Nat := 0x031110 + 0x20 * c
/-- CC_ENTRIES +0x14 (R622). -/
abbrev A.CC_ENTRIES (c : Nat) : Nat := 0x031114 + 0x20 * c
/-- T_MSET0–15 +0x100 + 4k (R624). -/
abbrev A.T_MSET (i : Nat) : Nat := 0x036100 + 4 * i
/-- T_MCLR0–15 +0x140 + 4k (R624). -/
abbrev A.T_MCLR (i : Nat) : Nat := 0x036140 + 4 * i
/-- T_PCLR0–15 +0x180 + 4k (R624). -/
abbrev A.T_PCLR (i : Nat) : Nat := 0x036180 + 4 * i
/-- T_MASK0–15 +0x1C0 + 4k (R624). -/
abbrev A.T_MASK (i : Nat) : Nat := 0x0361c0 + 4 * i
/-- T_PEND0–15 +0x200 + 4k (R624). -/
abbrev A.T_PEND (i : Nat) : Nat := 0x036200 + 4 * i
/-- T_SVC0–15 +0x240 + 4k (R624). -/
abbrev A.T_SVC (i : Nat) : Nat := 0x036240 + 4 * i
/-- INT_HDEST +0x00 (R625). -/
abbrev A.INT_HDEST (p : Nat) : Nat := 0x037100 + 0x40 * p
/-- INT_HCMPL +0x04 (R625). -/
abbrev A.INT_HCMPL (p : Nat) : Nat := 0x037104 + 0x40 * p
/-- INT_HSTS +0x08 (R625). -/
abbrev A.INT_HSTS (p : Nat) : Nat := 0x037108 + 0x40 * p
/-- INT_HLOST +0x0C (R625). -/
abbrev A.INT_HLOST (p : Nat) : Nat := 0x03710c + 0x40 * p
/-- INT_HSPUR +0x10 (R625). -/
abbrev A.INT_HSPUR (p : Nat) : Nat := 0x037110 + 0x40 * p
/-- FLT_FIRST_STS +0x020 (R647). -/
abbrev A.FLT_FIRST_STS : Nat := 0x020020
/-- FLT_FIRST_DET +0x024 (R647). -/
abbrev A.FLT_FIRST_DET : Nat := 0x020024
/-- FLT_FIRST_PH_LO +0x028 (R647). -/
abbrev A.FLT_FIRST_PH_LO : Nat := 0x020028
/-- FLT_FIRST_PH_HI +0x02C (R647). -/
abbrev A.FLT_FIRST_PH_HI : Nat := 0x02002c
/-- FLT_OVF +0x030 (R647). -/
abbrev A.FLT_OVF : Nat := 0x020030
/-- FLT_CNT1–5 +0x034 + 4(c − 1) (R647). -/
abbrev A.FLT_CNT (c : Nat) : Nat := 0x020030 + 4 * c
/-- FLT_RECOV +0x048 (R647). -/
abbrev A.FLT_RECOV : Nat := 0x020048
/-- FLT_CFG +0x04C (R647). -/
abbrev A.FLT_CFG : Nat := 0x02004c
/-- FLT_PIN +0x050 (R647). -/
abbrev A.FLT_PIN : Nat := 0x020050
/-- FLT_STS +0x054 (R647). -/
abbrev A.FLT_STS : Nat := 0x020054
/-- FLT_QUIESCE +0x058 (R647). -/
abbrev A.FLT_QUIESCE : Nat := 0x020058
/-- FLT_UCLR +0x05C (R647). -/
abbrev A.FLT_UCLR : Nat := 0x02005c
/-- FLT_EGRESS +0x060 (R647). -/
abbrev A.FLT_EGRESS : Nat := 0x020060
/-- FLT_REACT_c (R648). -/
abbrev A.FLT_REACT (c : Nat) : Nat := 0x02101c + 0x4 * c
/-- FLT_LOG_W0–7 +0x040 + 4i (R649). -/
abbrev A.FLT_LOG_W (i : Nat) : Nat := 0x022040 + 4 * i
/-- FLT_USTS (R650). -/
abbrev A.FLT_USTS (u : Nat) : Nat := 0x023400 + 0x4 * u
/-- LC_STS +0x020 (R670). -/
abbrev A.LC_STS : Nat := 0x06f020
/-- LC_SVN +0x024 (R670). -/
abbrev A.LC_SVN : Nat := 0x06f024
/-- LC_NONCE_LO +0x028 (R670). -/
abbrev A.LC_NONCE_LO : Nat := 0x06f028
/-- LC_NONCE_HI +0x02C (R670). -/
abbrev A.LC_NONCE_HI : Nat := 0x06f02c
/-- LC_SRC_LO +0x030 (R670). -/
abbrev A.LC_SRC_LO : Nat := 0x06f030
/-- LC_SRC_HI +0x034 (R670). -/
abbrev A.LC_SRC_HI : Nat := 0x06f034
/-- LC_LEN +0x038 (R670). -/
abbrev A.LC_LEN : Nat := 0x06f038
/-- LC_CMD +0x03C (R670). -/
abbrev A.LC_CMD : Nat := 0x06f03c
/-- LC_RES +0x040 (R670). -/
abbrev A.LC_RES : Nat := 0x06f040
/-- FW_AT_LO +0x044 (R670). -/
abbrev A.FW_AT_LO : Nat := 0x06f044
/-- FW_AT_HI +0x048 (R670). -/
abbrev A.FW_AT_HI : Nat := 0x06f048
/-- FW_STS +0x04C (R670). -/
abbrev A.FW_STS : Nat := 0x06f04c
/-- RST_UNIT +0x050 (R670). -/
abbrev A.RST_UNIT : Nat := 0x06f050
/-- RST_RING +0x054 (R670). -/
abbrev A.RST_RING : Nat := 0x06f054
/-- FW_ASEQ +0x058 (R670). -/
abbrev A.FW_ASEQ : Nat := 0x06f058
/-- PWR_STS 0x080:020 (R698). -/
abbrev A.PWR_STS : Nat := 0x080020
/-- PWR_CFG 0x080:024 (R698). -/
abbrev A.PWR_CFG : Nat := 0x080024
/-- PWR_CTL 0x080:028 (R698). -/
abbrev A.PWR_CTL : Nat := 0x080028
/-- PWR_IN 0x080:02C (R698). -/
abbrev A.PWR_IN : Nat := 0x08002c
/-- PWR_AVG 0x080:030 (R698). -/
abbrev A.PWR_AVG : Nat := 0x080030
/-- PWR_TILEBUD 0x080:034 (R698). -/
abbrev A.PWR_TILEBUD : Nat := 0x080034
/-- PWR_GATE0–1 0x081:020 + 4n (R698). -/
abbrev A.PWR_GATE (i : Nat) : Nat := 0x081020 + 4 * i
/-- PWR_SHARE0–15 0x081:040 + 4p (R698). -/
abbrev A.PWR_SHARE (i : Nat) : Nat := 0x081040 + 4 * i
/-- THERM_MAX 0x082:020 (R698). -/
abbrev A.THERM_MAX : Nat := 0x082020
/-- THERM_COOL 0x082:024 (R698). -/
abbrev A.THERM_COOL : Nat := 0x082024
/-- THERM_DIE0–8 0x082:040 + 4d (R698). -/
abbrev A.THERM_DIE (i : Nat) : Nat := 0x082040 + 4 * i
/-- MGT_I3C 0x090:020 (R699). -/
abbrev A.MGT_I3C : Nat := 0x090020
/-- MGT_ALERT 0x090:024 (R699). -/
abbrev A.MGT_ALERT : Nat := 0x090024
/-- MGT_ALERT_EN 0x090:028 (R699). -/
abbrev A.MGT_ALERT_EN : Nat := 0x090028
/-- MGT_TEL_CFG 0x091:020 (R701). -/
abbrev A.MGT_TEL_CFG : Nat := 0x091020
/-- MGT_TEL_W0–15 0x091:080 + 4i (R701). -/
abbrev A.MGT_TEL_W (i : Nat) : Nat := 0x091080 + 4 * i
/-- Page head registers of page `p` (R76). -/
abbrev A.PAGE_CTL (p : Nat) : Nat := 0x1000 * p + 0x004
abbrev A.PAGE_STS (p : Nat) : Nat := 0x1000 * p + 0x008
abbrev A.PAGE_ERR (p : Nat) : Nat := 0x1000 * p + 0x010
abbrev A.PAGE_INJ (p : Nat) : Nat := 0x1000 * p + 0x014
/-- Slot table `j` (0 to 23): the register that holds entry `s` (R64, R67). -/
abbrev A.SLOT_TABLE (j s : Nat) : Nat := 0x012100 + 0x1000 * (j / 12) + 0x100 * (j % 12) + 4 * (s / 4)
/-- Interrupt configuration and status entries (R620, R623): class O below 512, class T above. -/
abbrev A.INT_CFG (s : Nat) : Nat := if s < 512 then 0x032800 + 4 * s else 0x034800 + 4 * (s - 512)
abbrev A.INT_SRC_STS (s : Nat) : Nat := if s < 512 then 0x033800 + 4 * s else 0x035800 + 4 * (s - 512)
/-- Registers of the queue block at address `b` (R415). -/
abbrev A.Q_CTL (b : Nat) : Nat := b
abbrev A.Q_STS (b : Nat) : Nat := b + 0x04
abbrev A.Q_CAP (b : Nat) : Nat := b + 0x08
abbrev A.Q_PTR (b : Nat) : Nat := b + 0x0C
abbrev A.Q_ITEMS (b : Nat) : Nat := b + 0x10
abbrev A.Q_BAD (b : Nat) : Nat := b + 0x14
abbrev A.Q_DROPS (b : Nat) : Nat := b + 0x18
abbrev A.Q_FLUSHED (b : Nat) : Nat := b + 0x1C

end Sys2Proof.Machine
end

