-- ==== Sys2Proof/Machine/RegTable.lean ====
section
/-! DEFINITION. The register tables of the spec, page by page: offset, fields, access types and
reset values, as the chapters' register tables give them (R8, R9 and each table's own rule).
A row covers `n` registers, `stride` bytes apart; reserved bits are in no field. -/
namespace Sys2Proof.Machine

/-- Register access types (R8). -/
inductive Acc where
  | ro | rw | sh | w1c | w1s | wo | rc | pw | sec
  deriving DecidableEq, Repr

/-- One field of a register: its bits, access type and reset value. -/
structure Fld where
  hi : Nat
  lo : Nat
  acc : Acc
  reset : Nat
  deriving DecidableEq, Repr

/-- One row of a register table: `mwLen` words make one quantity of which this is word `mwIdx` (R7);
`data` is the mark "(data)" of R89. -/
structure RegRow where
  name : String
  off : Nat
  n : Nat
  stride : Nat
  mwLen : Nat
  mwIdx : Nat
  data : Bool
  flds : List Fld
  deriving DecidableEq, Repr

/-- A field, written short. -/
def Fld.of (hi lo : Nat) (acc : Acc) (reset : Nat) : Fld := ⟨hi, lo, acc, reset⟩

/-- A row, written short. -/
def RegRow.of (name : String) (off n stride mwLen mwIdx : Nat) (data : Bool) (flds : List Fld) : RegRow :=
  ⟨name, off, n, stride, mwLen, mwIdx, data, flds⟩

/-- The head of every page (R76). -/
def headRows : List RegRow := [
  .of "PAGE_ID" 0x000 1 4 1 0 false [.of 31 24 .ro 0, .of 23 16 .ro 0, .of 15 12 .ro 1, .of 11 8 .ro 0, .of 7 0 .ro 0],
  .of "PAGE_CTL" 0x004 1 4 1 0 false [.of 7 4 .rw 0, .of 1 1 .w1s 0, .of 0 0 .rw 1],
  .of "PAGE_STS" 0x008 1 4 1 0 false [.of 3 3 .ro 0, .of 2 2 .w1c 0, .of 1 1 .ro 0, .of 0 0 .ro 0],
  .of "PAGE_UPD" 0x00C 1 4 1 0 false [.of 0 0 .wo 0],
  .of "PAGE_ERR" 0x010 1 4 1 0 false [.of 31 31 .ro 0, .of 30 30 .ro 0, .of 29 27 .ro 0, .of 23 16 .ro 0, .of 15 0 .ro 0],
  .of "PAGE_INJ" 0x014 1 4 1 0 false [.of 31 31 .rw 0, .of 23 16 .rw 0, .of 15 0 .rw 0]]

/-- Page 0x000 (R93). -/
def rowsGlb0 : List RegRow := [
  .of "GLB_STS" 0x020 1 4 1 0 false [.of 7 4 .ro 0, .of 0 0 .ro 0],
  .of "GLB_RST" 0x030 1 4 1 0 false [.of 31 16 .wo 0, .of 0 0 .wo 0],
  .of "GLB_UPD" 0x040 1 4 1 0 false [.of 15 0 .wo 0],
  .of "GLB_UPD_AT_LO" 0x044 1 4 2 0 false [.of 31 0 .rw 0],
  .of "GLB_UPD_AT_HI" 0x048 1 4 2 1 false [.of 31 0 .rw 0],
  .of "GLB_UPD_AT_CTL" 0x04C 1 4 1 0 false [.of 31 31 .rw 0, .of 30 30 .ro 0, .of 15 0 .rw 0],
  .of "GLB_PEND" 0x050 1 4 1 0 false [.of 15 0 .ro 0]]

/-- Page 0x001 (R94). -/
def rowsGlb1 : List RegRow := [
  .of "GLB_SERIAL0" 0x020 3 4 1 0 false [.of 31 0 .ro 0],
  .of "DIE_ID_LO" 0x100 9 8 2 0 false [.of 31 0 .ro 0],
  .of "DIE_ID_HI" 0x104 9 8 2 1 false [.of 31 24 .ro 0, .of 23 16 .ro 0, .of 13 8 .ro 0, .of 7 0 .ro 0],
  .of "STACK_ID0" 0x200 8 16 4 0 false [.of 31 0 .ro 0],
  .of "STACK_ID1" 0x204 8 16 4 1 false [.of 31 0 .ro 0],
  .of "STACK_ID2" 0x208 8 16 4 2 false [.of 31 0 .ro 0],
  .of "STACK_ID3" 0x20C 8 16 4 3 false [.of 31 0 .ro 0]]

/-- Page 0x002 (R95). -/
def rowsGlb2 : List RegRow := [
  .of "GLB_DENY_PAGE" 0x020 1 4 1 0 false [.of 31 28 .ro 0, .of 27 26 .ro 0, .of 25 24 .ro 0, .of 11 0 .ro 0],
  .of "GLB_DENY_OFF" 0x024 1 4 1 0 false [.of 11 0 .ro 0],
  .of "GLB_DENY_CNT0" 0x100 16 4 1 0 false [.of 31 0 .rc 0]]

/-- Page 0x010 (R65). -/
def rowsPhs0 : List RegRow := [
  .of "PHS_CFG" 0x020 1 4 1 0 false [.of 31 24 .rw 16, .of 8 8 .rw 0, .of 4 4 .rw 1, .of 1 0 .rw 1],
  .of "PHS_REF_PER" 0x024 1 4 1 0 false [.of 31 0 .rw 15625000],
  .of "PHS_NOW_LO" 0x028 1 4 2 0 false [.of 31 0 .ro 0],
  .of "PHS_NOW_HI" 0x02C 1 4 2 1 false [.of 31 16 .ro 0, .of 15 0 .ro 0],
  .of "PHS_STS" 0x030 1 4 1 0 false [.of 7 7 .ro 0, .of 6 6 .ro 0, .of 5 5 .w1c 0, .of 4 4 .ro 0, .of 2 0 .ro 0],
  .of "PHS_MASTER" 0x034 1 4 1 0 false [.of 31 28 .ro 0, .of 19 0 .ro 0],
  .of "PHS_OFFSET" 0x038 1 4 1 0 false [.of 31 16 .ro 0, .of 15 0 .ro 0],
  .of "PHS_MISS" 0x03C 1 4 1 0 false [.of 31 16 .ro 0, .of 15 0 .ro 0],
  .of "PHS_CTL" 0x040 1 4 1 0 false [.of 0 0 .w1s 0],
  .of "PHS_EPOCH_SET" 0x044 1 4 1 0 false [.of 31 31 .rw 0, .of 15 0 .rw 0],
  .of "PHS_DISCARD" 0x048 1 4 1 0 false [.of 31 0 .rc 0],
  .of "PHS_LINKDLY0" 0x060 8 4 1 0 false [.of 31 0 .ro 0],
  .of "PHS_CMP_OWN0" 0x080 8 4 1 0 false [.of 31 0 .rw 0]]

/-- Page 0x011: comparators (R66). -/
def rowsPhs1 : List RegRow := [
  .of "TARGET_LO" 0x100 64 16 2 0 false [.of 31 0 .rw 0],
  .of "TARGET_HI" 0x104 64 16 2 1 false [.of 31 0 .rw 0],
  .of "ACTION" 0x108 64 16 1 0 false [.of 31 28 .rw 0, .of 23 0 .rw 0],
  .of "CTL" 0x10C 64 16 1 0 false [.of 31 31 .rw 0, .of 30 30 .ro 0, .of 29 29 .ro 0, .of 28 28 .w1c 0, .of 27 24 .ro 0, .of 15 0 .rw 0]]

/-- Pages 0x012 and 0x013: slot tables, one byte an entry with SH in bit 4 and PART in bits 3:0 (R61, R67). -/
def rowsSlots : List RegRow := [
  .of "SLOT_TABLE" 0x100 768 4 1 0 false [.of 28 24 .sh 16, .of 20 16 .sh 16, .of 12 8 .sh 16, .of 4 0 .sh 16]]

/-- Page 0x020 (R647). -/
def rowsFlt0 : List RegRow := [
  .of "FLT_FIRST_STS" 0x020 1 4 1 0 false [.of 31 31 .w1c 0, .of 30 30 .ro 0, .of 29 27 .ro 0, .of 26 26 .ro 0, .of 23 16 .ro 0, .of 11 0 .ro 0],
  .of "FLT_FIRST_DET" 0x024 1 4 1 0 false [.of 31 0 .ro 0],
  .of "FLT_FIRST_PH_LO" 0x028 1 4 2 0 false [.of 31 0 .ro 0],
  .of "FLT_FIRST_PH_HI" 0x02C 1 4 2 1 false [.of 31 0 .ro 0],
  .of "FLT_OVF" 0x030 1 4 1 0 false [.of 5 1 .ro 0],
  .of "FLT_CNT1" 0x034 5 4 1 0 false [.of 31 0 .rc 0],
  .of "FLT_RECOV" 0x048 1 4 1 0 false [.of 31 0 .rc 0],
  .of "FLT_CFG" 0x04C 1 4 1 0 false [.of 31 16 .rw 4],
  .of "FLT_PIN" 0x050 1 4 1 0 false [.of 31 31 .ro 0, .of 30 30 .ro 0, .of 3 3 .rw 0, .of 2 0 .rw 3],
  .of "FLT_STS" 0x054 1 4 1 0 false [.of 31 31 .w1c 0],
  .of "FLT_QUIESCE" 0x058 1 4 1 0 false [.of 15 0 .w1c 0],
  .of "FLT_UCLR" 0x05C 1 4 1 0 false [.of 11 0 .wo 0],
  .of "FLT_EGRESS" 0x060 1 4 1 0 false [.of 0 0 .w1c 0]]

/-- Page 0x021: FLT_REACT_c for c = 1 to 5 (R648). -/
def rowsFlt1 : List RegRow := [
  .of "FLT_REACT" 0x020 5 4 1 0 false [.of 21 12 .rw 0, .of 7 7 .rw 0, .of 6 6 .rw 0, .of 5 5 .ro 0, .of 4 4 .rw 0, .of 3 3 .rw 0, .of 2 2 .rw 0, .of 1 1 .rw 0]]

/-- Page 0x022: fault log queue block and item window (R649, R415). -/
def rowsFlt2 : List RegRow := [
  .of "FLT_LOG_W0" 0x040 8 4 1 0 false [.of 31 0 .ro 0],
  .of "Q_CTL" 0x020 1 4 1 0 false [.of 31 31 .w1s 0, .of 1 1 .rw 0, .of 0 0 .ro 0],
  .of "Q_STS" 0x024 1 4 1 0 false [.of 31 16 .ro 0, .of 4 4 .w1c 0, .of 3 3 .ro 0, .of 2 2 .ro 0, .of 1 1 .ro 0, .of 0 0 .ro 1],
  .of "Q_CAP" 0x028 1 4 1 0 false [.of 31 16 .rc 0, .of 15 8 .ro 0, .of 4 0 .ro 0],
  .of "Q_PTR" 0x02C 1 4 1 0 false [.of 31 16 .ro 0, .of 15 0 .rw 0],
  .of "Q_ITEMS" 0x030 1 4 1 0 false [.of 31 0 .rc 0],
  .of "Q_BAD" 0x034 1 4 1 0 false [.of 31 0 .rc 0],
  .of "Q_DROPS" 0x038 1 4 1 0 false [.of 31 0 .rc 0],
  .of "Q_FLUSHED" 0x03C 1 4 1 0 false [.of 31 0 .rc 0]]

/-- Page 0x023: unit status, units 0 to 335 (R650). -/
def rowsFlt3 : List RegRow := [
  .of "FLT_USTS" 0x400 336 4 1 0 false [.of 31 29 .ro 1, .of 28 28 .ro 0, .of 27 24 .ro 0, .of 23 23 .ro 0, .of 15 0 .ro 0]]

/-- Page 0x030 (R621). -/
def rowsInt0 : List RegRow := [
  .of "INT_SW_PEND" 0x020 1 4 1 0 false [.of 9 0 .wo 0],
  .of "INT_O_PCLR" 0x024 1 4 1 0 false [.of 9 0 .wo 0],
  .of "INT_SPURIOUS_CMPL" 0x028 1 4 1 0 false [.of 31 0 .rc 0],
  .of "INT_WAKE" 0x02C 1 4 1 0 false [.of 3 0 .w1c 0],
  .of "INT_STS" 0x030 1 4 1 0 false [.of 31 31 .w1c 0, .of 30 30 .w1c 0],
  .of "INT_HV_OWN0" 0x040 16 4 1 0 false [.of 31 0 .rw 0],
  .of "INT_T_OWN0" 0x080 16 4 1 0 false [.of 31 0 .rw 0],
  .of "INT_DOORBELL" 0x100 1 4 1 0 false [.of 9 0 .wo 0]]

/-- Page 0x031: control cores (R622). -/
def rowsInt1 : List RegRow := [
  .of "CC_CTL" 0x100 8 32 1 0 false [.of 0 0 .rw 1],
  .of "CC_THRESH" 0x104 8 32 1 0 false [.of 3 0 .rw 0],
  .of "CC_STS" 0x108 8 32 1 0 false [.of 20 16 .ro 0, .of 6 6 .ro 0, .of 5 5 .ro 0, .of 4 0 .ro 31],
  .of "CC_CUR" 0x10C 8 32 1 0 false [.of 31 31 .ro 0, .of 23 16 .ro 0, .of 9 0 .ro 0],
  .of "CC_CMPL" 0x110 8 32 1 0 false [.of 9 0 .wo 0],
  .of "CC_ENTRIES" 0x114 8 32 1 0 false [.of 31 0 .rc 0]]

/-- Page 0x032: INT_O_CFG (R623). -/
def rowsInt2 : List RegRow := [
  .of "INT_O_CFG" 0x800 512 4 1 0 false [.of 31 31 .rw 1, .of 30 30 .rw 0, .of 29 24 .rw 0, .of 23 16 .rw 0, .of 3 0 .rw 0]]

/-- Page 0x033: INT_O_STS (R623). -/
def rowsInt3 : List RegRow := [
  .of "INT_O_STS" 0x800 512 4 1 0 false [.of 31 30 .ro 0, .of 29 27 .ro 0, .of 26 26 .ro 0, .of 7 0 .ro 0]]

/-- Page 0x034: INT_T_CFG; MASK is RO and TGT reads 1 (R623). -/
def rowsInt4 : List RegRow := [
  .of "INT_T_CFG" 0x800 512 4 1 0 false [.of 31 31 .ro 1, .of 30 30 .ro 1, .of 29 24 .rw 0]]

/-- Page 0x035: INT_T_STS; CORE reads 0 and HOST reads 1 (R623). -/
def rowsInt5 : List RegRow := [
  .of "INT_T_STS" 0x800 512 4 1 0 false [.of 31 30 .ro 0, .of 26 26 .ro 1, .of 7 0 .ro 0]]

/-- Page 0x036 (R624). -/
def rowsInt6 : List RegRow := [
  .of "T_MSET0" 0x100 16 4 1 0 false [.of 31 0 .w1s 0],
  .of "T_MCLR0" 0x140 16 4 1 0 false [.of 31 0 .w1c 0],
  .of "T_PCLR0" 0x180 16 4 1 0 false [.of 31 0 .w1c 0],
  .of "T_MASK0" 0x1C0 16 4 1 0 false [.of 31 0 .ro 4294967295],
  .of "T_PEND0" 0x200 16 4 1 0 false [.of 31 0 .ro 0],
  .of "T_SVC0" 0x240 16 4 1 0 false [.of 31 0 .ro 0]]

/-- Page 0x037: host windows (R625) with the host event queue block at +0x20. -/
def rowsInt7 : List RegRow := [
  .of "INT_HDEST" 0x100 16 64 1 0 false [.of 31 31 .rw 0, .of 21 8 .rw 0, .of 7 0 .rw 0],
  .of "INT_HCMPL" 0x104 16 64 1 0 false [.of 9 0 .wo 0],
  .of "INT_HSTS" 0x108 16 64 1 0 false [.of 31 31 .w1c 0],
  .of "INT_HLOST" 0x10C 16 64 1 0 false [.of 31 0 .rc 0],
  .of "INT_HSPUR" 0x110 16 64 1 0 false [.of 31 0 .rc 0],
  .of "Q_CTL" 0x120 16 64 1 0 false [.of 31 31 .w1s 0, .of 1 1 .rw 0, .of 0 0 .ro 0],
  .of "Q_STS" 0x124 16 64 1 0 false [.of 31 16 .ro 0, .of 4 4 .w1c 0, .of 3 3 .ro 0, .of 2 2 .ro 0, .of 1 1 .ro 0, .of 0 0 .ro 1],
  .of "Q_CAP" 0x128 16 64 1 0 false [.of 31 16 .rc 0, .of 15 8 .ro 0, .of 4 0 .ro 0],
  .of "Q_PTR" 0x12C 16 64 1 0 false [.of 31 16 .ro 0, .of 15 0 .rw 0],
  .of "Q_ITEMS" 0x130 16 64 1 0 false [.of 31 0 .rc 0],
  .of "Q_BAD" 0x134 16 64 1 0 false [.of 31 0 .rc 0],
  .of "Q_DROPS" 0x138 16 64 1 0 false [.of 31 0 .rc 0],
  .of "Q_FLUSHED" 0x13C 16 64 1 0 false [.of 31 0 .rc 0]]

/-- Page 0x040 (R593). -/
def rowsKey0 : List RegRow := [
  .of "KEY_SEL" 0x020 1 4 1 0 false [.of 24 16 .rw 0, .of 8 0 .rw 0],
  .of "KEY_ATTR" 0x024 1 4 1 0 false [.of 8 8 .rw 0, .of 7 0 .rw 0],
  .of "KEY_LABEL0" 0x028 4 4 1 0 false [.of 31 0 .rw 0],
  .of "KEY_CTX0" 0x038 3 4 1 0 false [.of 31 0 .rw 0],
  .of "KEY_CMD" 0x044 1 4 1 0 false [.of 3 0 .wo 0],
  .of "KEY_RES" 0x048 1 4 1 0 false [.of 31 31 .ro 1, .of 16 8 .ro 0, .of 7 0 .ro 0],
  .of "KEY_STS" 0x04C 1 4 1 0 false [.of 9 0 .ro 0],
  .of "KEY_BADCNT" 0x050 1 4 1 0 false [.of 31 0 .rc 0],
  .of "KEY_LAST_BAD" 0x054 1 4 1 0 false [.of 8 0 .ro 0]]

/-- Page 0x041: slot status entries (R594). -/
def rowsKey1 : List RegRow := [
  .of "KEY_SLOT_STS" 0x800 512 4 1 0 false [.of 31 30 .ro 0, .of 29 29 .ro 0, .of 28 28 .ro 0, .of 27 27 .ro 0, .of 26 23 .ro 0, .of 15 8 .ro 0]]

/-- Page 0x050 (R596). -/
def rowsSilt0 : List RegRow := [
  .of "SILT_CTL" 0x020 1 4 1 0 false [.of 0 0 .w1s 0],
  .of "SILT_CFG" 0x024 1 4 1 0 false [.of 7 0 .rw 255],
  .of "SILT_STS" 0x028 1 4 1 0 false [.of 31 24 .ro 0, .of 7 7 .w1c 0, .of 2 0 .ro 0],
  .of "SILT_FAILS" 0x02C 1 4 1 0 false [.of 1 0 .ro 0],
  .of "SILT_BLOCKS" 0x030 1 4 1 0 false [.of 31 0 .rc 0],
  .of "SILT_DISCARD" 0x034 1 4 1 0 false [.of 31 0 .rc 0]]

/-- Page 0x051 (R597). -/
def rowsSilt1 : List RegRow := [
  .of "SILT_CELL0" 0x020 8 4 1 0 false [.of 31 31 .ro 0, .of 30 30 .ro 0, .of 25 16 .rc 0, .of 6 0 .rc 0],
  .of "SILT_RAW" 0x040 1 4 1 0 false [.of 31 0 .ro 0],
  .of "SILT_RAW_SEL" 0x044 1 4 1 0 false [.of 2 0 .rw 0]]

/-- Page 0x052: data ports (R598). -/
def rowsSilt2 : List RegRow := [
  .of "SILT_DATA" 0x100 16 16 1 0 true [.of 31 0 .ro 0],
  .of "SILT_DSTS" 0x104 16 16 1 0 false [.of 31 31 .w1c 0, .of 30 30 .ro 0],
  .of "SILT_DCNT" 0x108 16 16 1 0 false [.of 31 0 .rc 0]]

/-- Page 0x053: generator status (R599). -/
def rowsSilt3 : List RegRow := [
  .of "DRBG_STS" 0x100 38 4 1 0 false [.of 31 31 .ro 0, .of 30 30 .ro 0, .of 15 0 .ro 0]]

/-- Page 0x060 (R562). -/
def rowsAtt0 : List RegRow := [
  .of "ATT_SEL" 0x020 1 4 1 0 false [.of 3 0 .rw 0],
  .of "ATT_CMD" 0x024 1 4 1 0 false [.of 3 0 .wo 0],
  .of "ATT_RES" 0x028 1 4 1 0 false [.of 31 31 .ro 1, .of 27 24 .ro 0, .of 23 8 .ro 0, .of 7 0 .ro 0],
  .of "ATT_CFG" 0x02C 1 4 1 0 false [.of 15 0 .rw 64],
  .of "ATT_SVC_CNT" 0x030 1 4 1 0 false [.of 31 0 .rc 0],
  .of "ATT_SIGNED" 0x034 1 4 1 0 false [.of 31 0 .rc 0]]

/-- Page 0x061: the partition of ATT_SEL (R563). -/
def rowsAtt1 : List RegRow := [
  .of "PART_STS" 0x020 1 4 1 0 false [.of 31 16 .ro 0, .of 1 0 .ro 0],
  .of "PART_TILES0" 0x024 1 4 1 0 false [.of 31 0 .rw 0],
  .of "PART_TILES1" 0x028 1 4 1 0 false [.of 31 0 .rw 0],
  .of "PART_TILES2" 0x02C 1 4 1 0 false [.of 15 0 .rw 0],
  .of "PART_CHAN_LO" 0x030 1 4 1 0 false [.of 31 0 .rw 0],
  .of "PART_CHAN_HI" 0x034 1 4 1 0 false [.of 31 0 .rw 0],
  .of "PART_WAYS" 0x038 1 4 1 0 false [.of 15 0 .rw 0],
  .of "PART_KEYS" 0x03C 1 4 1 0 false [.of 25 16 .rw 0, .of 8 0 .rw 0],
  .of "PART_OWNER0" 0x040 1 4 12 0 false [.of 31 0 .rw 0],
  .of "PART_OWNER1" 0x044 1 4 12 1 false [.of 31 0 .rw 0],
  .of "PART_OWNER2" 0x048 1 4 12 2 false [.of 31 0 .rw 0],
  .of "PART_OWNER3" 0x04C 1 4 12 3 false [.of 31 0 .rw 0],
  .of "PART_OWNER4" 0x050 1 4 12 4 false [.of 31 0 .rw 0],
  .of "PART_OWNER5" 0x054 1 4 12 5 false [.of 31 0 .rw 0],
  .of "PART_OWNER6" 0x058 1 4 12 6 false [.of 31 0 .rw 0],
  .of "PART_OWNER7" 0x05C 1 4 12 7 false [.of 31 0 .rw 0],
  .of "PART_OWNER8" 0x060 1 4 12 8 false [.of 31 0 .rw 0],
  .of "PART_OWNER9" 0x064 1 4 12 9 false [.of 31 0 .rw 0],
  .of "PART_OWNER10" 0x068 1 4 12 10 false [.of 31 0 .rw 0],
  .of "PART_OWNER11" 0x06C 1 4 12 11 false [.of 31 0 .rw 0],
  .of "PART_SVC" 0x070 1 4 1 0 false [.of 7 7 .rw 0, .of 5 0 .rw 0]]

/-- Page 0x062: session status (R564). -/
def rowsAtt2 : List RegRow := [
  .of "SESS_STS" 0x100 16 16 1 0 false [.of 23 16 .ro 0, .of 15 8 .ro 0, .of 1 0 .ro 0],
  .of "SESS_CTR" 0x104 16 16 1 0 false [.of 31 0 .ro 0],
  .of "SESS_OPENS" 0x108 16 16 1 0 false [.of 31 0 .ro 0],
  .of "SESS_DUMPS" 0x10C 16 16 1 0 false [.of 31 0 .ro 0]]

/-- Page 0x068 (R565). -/
def rowsAtt8 : List RegRow := [
  .of "DBG_HALT" 0x020 1 4 1 0 false [.of 31 31 .rw 0, .of 30 30 .w1s 0, .of 6 0 .rw 0],
  .of "DBG_HSTS" 0x024 1 4 1 0 false [.of 1 1 .ro 0, .of 0 0 .ro 0],
  .of "DBG_SRC_LO" 0x028 1 4 2 0 false [.of 31 0 .rw 0],
  .of "DBG_SRC_HI" 0x02C 1 4 2 1 false [.of 31 0 .rw 0],
  .of "DBG_LEN" 0x030 1 4 1 0 false [.of 16 0 .rw 0],
  .of "DBG_OUT_LO" 0x034 1 4 2 0 false [.of 31 6 .rw 0],
  .of "DBG_OUT_HI" 0x038 1 4 2 1 false [.of 15 0 .rw 0],
  .of "DBG_CMD" 0x03C 1 4 1 0 false [.of 11 8 .wo 0, .of 6 4 .wo 0, .of 3 0 .wo 0],
  .of "DBG_RES" 0x040 1 4 1 0 false [.of 31 31 .ro 1, .of 9 9 .ro 0, .of 8 8 .ro 0, .of 7 0 .ro 0]]

/-- Page 0x06F (R670). -/
def rowsLc : List RegRow := [
  .of "LC_STS" 0x020 1 4 1 0 false [.of 31 24 .ro 0, .of 23 16 .ro 0, .of 9 9 .ro 0, .of 8 8 .ro 0, .of 2 0 .ro 0],
  .of "LC_SVN" 0x024 1 4 1 0 false [.of 31 16 .ro 0, .of 15 0 .ro 0],
  .of "LC_NONCE_LO" 0x028 1 4 2 0 false [.of 31 0 .ro 0],
  .of "LC_NONCE_HI" 0x02C 1 4 2 1 false [.of 31 0 .ro 0],
  .of "LC_SRC_LO" 0x030 1 4 2 0 false [.of 31 6 .pw 0],
  .of "LC_SRC_HI" 0x034 1 4 2 1 false [.of 15 0 .pw 0],
  .of "LC_LEN" 0x038 1 4 1 0 false [.of 24 0 .pw 0],
  .of "LC_CMD" 0x03C 1 4 1 0 false [.of 31 16 .pw 0, .of 11 8 .pw 0, .of 3 0 .pw 0],
  .of "LC_RES" 0x040 1 4 1 0 false [.of 31 31 .ro 1, .of 7 0 .ro 0],
  .of "FW_AT_LO" 0x044 1 4 2 0 false [.of 31 0 .pw 0],
  .of "FW_AT_HI" 0x048 1 4 2 1 false [.of 31 0 .pw 0],
  .of "FW_STS" 0x04C 1 4 1 0 false [.of 31 16 .ro 0, .of 2 0 .ro 0],
  .of "RST_UNIT" 0x050 1 4 1 0 false [.of 31 31 .pw 0, .of 11 0 .pw 0],
  .of "RST_RING" 0x054 1 4 1 0 false [.of 31 16 .pw 0, .of 15 0 .pw 0],
  .of "FW_ASEQ" 0x058 1 4 1 0 false [.of 31 16 .ro 0, .of 15 0 .ro 0]]

/-- Page 0x080 (R698). -/
def rowsPwr0 : List RegRow := [
  .of "PWR_STS" 0x020 1 4 1 0 false [.of 10 8 .ro 0, .of 5 5 .ro 0, .of 4 4 .pw 0, .of 3 3 .pw 0, .of 1 0 .ro 0],
  .of "PWR_CFG" 0x024 1 4 1 0 false [.of 31 31 .pw 0, .of 11 0 .pw 2800],
  .of "PWR_CTL" 0x028 1 4 1 0 false [.of 3 3 .pw 0, .of 2 0 .pw 0],
  .of "PWR_IN" 0x02C 1 4 1 0 false [.of 31 16 .ro 0, .of 15 0 .ro 0],
  .of "PWR_AVG" 0x030 1 4 1 0 false [.of 15 0 .ro 0],
  .of "PWR_TILEBUD" 0x034 1 4 1 0 false [.of 15 0 .ro 1844]]

/-- Page 0x081 (R698). -/
def rowsPwr1 : List RegRow := [
  .of "PWR_GATE0" 0x020 2 4 1 0 false [.of 31 0 .ro 0],
  .of "PWR_SHARE0" 0x040 16 4 1 0 false [.of 11 0 .pw 0]]

/-- Page 0x082 (R698). -/
def rowsPwr2 : List RegRow := [
  .of "THERM_MAX" 0x020 1 4 1 0 false [.of 11 8 .ro 0, .of 7 0 .ro 0],
  .of "THERM_COOL" 0x024 1 4 1 0 false [.of 0 0 .ro 0],
  .of "THERM_DIE0" 0x040 9 4 1 0 false [.of 7 0 .ro 0]]

/-- Page 0x090 (R699). -/
def rowsMgt0 : List RegRow := [
  .of "MGT_I3C" 0x020 1 4 1 0 false [.of 31 31 .ro 0, .of 30 24 .ro 0, .of 6 0 .ro 0],
  .of "MGT_ALERT" 0x024 1 4 1 0 false [.of 3 3 .pw 0, .of 2 2 .pw 0, .of 1 1 .pw 0, .of 0 0 .pw 0],
  .of "MGT_ALERT_EN" 0x028 1 4 1 0 false [.of 3 0 .pw 15]]

/-- Page 0x091: telemetry (R701); the queue block has its writable fields PW. -/
def rowsMgt1 : List RegRow := [
  .of "MGT_TEL_CFG" 0x020 1 4 1 0 false [.of 31 31 .pw 0, .of 15 0 .pw 16],
  .of "MGT_TEL_W0" 0x080 16 4 1 0 false [.of 31 0 .ro 0],
  .of "Q_CTL" 0x040 1 4 1 0 false [.of 31 31 .pw 0, .of 1 1 .pw 0, .of 0 0 .ro 0],
  .of "Q_STS" 0x044 1 4 1 0 false [.of 31 16 .ro 0, .of 4 4 .pw 0, .of 3 3 .ro 0, .of 2 2 .ro 0, .of 1 1 .ro 0, .of 0 0 .ro 1],
  .of "Q_CAP" 0x048 1 4 1 0 false [.of 31 16 .rc 0, .of 15 8 .ro 0, .of 4 0 .ro 0],
  .of "Q_PTR" 0x04C 1 4 1 0 false [.of 31 16 .ro 0, .of 15 0 .pw 0],
  .of "Q_ITEMS" 0x050 1 4 1 0 false [.of 31 0 .rc 0],
  .of "Q_BAD" 0x054 1 4 1 0 false [.of 31 0 .rc 0],
  .of "Q_DROPS" 0x058 1 4 1 0 false [.of 31 0 .rc 0],
  .of "Q_FLUSHED" 0x05C 1 4 1 0 false [.of 31 0 .rc 0]]

/-- Pages 0x100 + p (R401). -/
def rowsLoam : List RegRow := [
  .of "LOAM_MODE" 0x020 1 4 1 0 false [.of 1 0 .rw 1],
  .of "LOAM_STS" 0x024 1 4 1 0 false [.of 31 31 .w1c 0, .of 6 0 .ro 0],
  .of "LOAM_SNAP_BASE_LO" 0x028 1 4 2 0 false [.of 31 21 .rw 0],
  .of "LOAM_SNAP_BASE_HI" 0x02C 1 4 2 1 false [.of 7 0 .rw 0],
  .of "LOAM_SNAP_SIZE" 0x030 1 4 1 0 false [.of 15 0 .rw 0],
  .of "LOAM_SNAP_FREE" 0x034 1 4 1 0 false [.of 15 0 .ro 0],
  .of "LOAM_CMD" 0x038 1 4 1 0 false [.of 13 8 .wo 0, .of 3 0 .wo 0],
  .of "LOAM_RES" 0x03C 1 4 1 0 false [.of 31 31 .ro 1, .of 13 8 .ro 0, .of 7 0 .ro 0],
  .of "LOAM_CTR_SEL" 0x040 1 4 1 0 false [.of 11 0 .rw 0],
  .of "LOAM_CTR_VAL" 0x044 1 4 1 0 true [.of 31 0 .rw 0],
  .of "LOAM_QB_SEL" 0x048 1 4 1 0 false [.of 13 0 .rw 0],
  .of "LOAM_QB" 0x04C 1 4 1 0 false [.of 15 15 .rw 0, .of 11 0 .rw 0],
  .of "LOAM_ERRCNT" 0x050 1 4 1 0 false [.of 31 0 .rc 0],
  .of "LOAM_LAST_ERR" 0x054 1 4 1 0 false [.of 31 8 .ro 0, .of 7 0 .ro 0],
  .of "TRACE_CFG" 0x058 1 4 1 0 false [.of 31 31 .rw 0, .of 20 16 .rw 8, .of 7 0 .rw 0],
  .of "TRACE_BASE_LO" 0x05C 1 4 2 0 false [.of 31 12 .rw 0],
  .of "TRACE_BASE_HI" 0x060 1 4 2 1 false [.of 15 0 .rw 0],
  .of "TRACE_QRANGE" 0x064 1 4 1 0 false [.of 29 16 .rw 0, .of 13 0 .rw 0],
  .of "Q_CTL" 0x080 1 4 1 0 false [.of 31 31 .w1s 0, .of 1 1 .rw 0, .of 0 0 .ro 0],
  .of "Q_STS" 0x084 1 4 1 0 false [.of 31 16 .ro 0, .of 4 4 .w1c 0, .of 3 3 .ro 0, .of 2 2 .ro 0, .of 1 1 .ro 0, .of 0 0 .ro 1],
  .of "Q_CAP" 0x088 1 4 1 0 false [.of 31 16 .rc 0, .of 15 8 .ro 0, .of 4 0 .ro 0],
  .of "Q_PTR" 0x08C 1 4 1 0 false [.of 31 16 .ro 0, .of 15 0 .rw 0],
  .of "Q_ITEMS" 0x090 1 4 1 0 false [.of 31 0 .rc 0],
  .of "Q_BAD" 0x094 1 4 1 0 false [.of 31 0 .rc 0],
  .of "Q_DROPS" 0x098 1 4 1 0 false [.of 31 0 .rc 0],
  .of "Q_FLUSHED" 0x09C 1 4 1 0 false [.of 31 0 .rc 0]]

/-- Pages 0x120 + p: graph table (R405). -/
def rowsGraph : List RegRow := [
  .of "GR_STS" 0x400 64 16 1 0 false [.of 15 8 .ro 0, .of 2 0 .ro 0],
  .of "GR_ERR_NODE" 0x404 64 16 1 0 false [.of 15 0 .ro 0],
  .of "GR_ERR_DET" 0x408 64 16 1 0 false [.of 31 0 .ro 0],
  .of "GR_DONE" 0x40C 64 16 1 0 false [.of 16 0 .ro 0]]

/-- Page 0x200 (R168). -/
def rowsAgg0 : List RegRow := [
  .of "AGG_STS" 0x020 1 4 1 0 false [.of 31 31 .w1c 0, .of 12 0 .ro 0],
  .of "AGG_OWN0" 0x100 64 4 1 0 false [.of 31 0 .rw 0]]

/-- Pages 0x210 + p (R169). -/
def rowsAggWin : List RegRow := [
  .of "AGG_WIN_SEL" 0x020 1 4 1 0 false [.of 11 0 .rw 0],
  .of "AGG_WIN_DESC_LO" 0x024 1 4 2 0 false [.of 31 0 .rw 0],
  .of "AGG_WIN_DESC_HI" 0x028 1 4 2 1 false [.of 15 0 .rw 0],
  .of "AGG_WIN_CMD" 0x02C 1 4 1 0 false [.of 3 0 .wo 0],
  .of "AGG_WIN_RES" 0x030 1 4 1 0 false [.of 31 31 .ro 1, .of 27 16 .ro 0, .of 15 8 .ro 0, .of 7 0 .ro 0],
  .of "AGG_WIN_DENIED" 0x034 1 4 1 0 false [.of 31 0 .rc 0],
  .of "AGG_WIN_ACTIVE" 0x038 1 4 1 0 false [.of 12 0 .ro 0]]

/-- Pages 0x240 to 0x27F: context status entries (R171). -/
def rowsCtx : List RegRow := [
  .of "CTX_STS" 0x800 64 32 1 0 false [.of 31 31 .ro 0, .of 30 30 .ro 0, .of 29 29 .ro 0, .of 23 16 .ro 0, .of 4 4 .ro 0, .of 3 0 .ro 0],
  .of "CTX_COMMITTED" 0x804 64 32 1 0 false [.of 22 0 .ro 0],
  .of "CTX_SLOTS" 0x808 64 32 1 0 false [.of 6 0 .ro 0],
  .of "CTX_DISCARDED" 0x80C 64 32 1 0 false [.of 22 0 .ro 0],
  .of "CTX_RECLAIMED" 0x810 64 32 1 0 false [.of 31 0 .ro 0],
  .of "CTX_DUPACK" 0x814 64 32 1 0 false [.of 31 0 .ro 0],
  .of "CTX_NAKS" 0x818 64 32 1 0 false [.of 31 0 .ro 0],
  .of "CTX_ABANDONED" 0x81C 64 32 1 0 false [.of 31 0 .ro 0]]

/-- Page 0x280 (R202). -/
def rowsMsk0 : List RegRow := [
  .of "MSK_STS" 0x020 1 4 1 0 false [.of 31 31 .w1c 0, .of 15 0 .ro 0],
  .of "MSK_OWN0" 0x030 4 4 1 0 false [.of 31 0 .rw 0]]

/-- Pages 0x290 + p (R203). -/
def rowsMskWin : List RegRow := [
  .of "MSK_WIN_SEL" 0x020 1 4 1 0 false [.of 11 0 .rw 0],
  .of "MSK_WIN_CMD" 0x024 1 4 1 0 false [.of 3 0 .wo 0],
  .of "MSK_WIN_RES" 0x028 1 4 1 0 false [.of 31 31 .ro 1, .of 27 16 .ro 0, .of 7 0 .ro 0],
  .of "MSK_REC_STS" 0x02C 1 4 1 0 false [.of 31 31 .ro 0, .of 30 30 .ro 0, .of 29 29 .ro 0, .of 28 28 .ro 0, .of 23 16 .ro 0],
  .of "MSK_NEED" 0x030 1 4 1 0 false [.of 22 0 .ro 0],
  .of "MSK_RECON" 0x034 1 4 1 0 false [.of 22 0 .ro 0],
  .of "MSK_SHARES" 0x038 1 4 1 0 false [.of 31 0 .ro 0],
  .of "MSK_EXTRA" 0x03C 1 4 1 0 false [.of 31 0 .ro 0],
  .of "MSK_AGREE" 0x040 1 4 1 0 false [.of 31 0 .ro 0],
  .of "MSK_EDGES" 0x044 1 4 1 0 false [.of 31 0 .ro 0],
  .of "MSK_MP" 0x048 1 4 1 0 false [.of 31 0 .ro 0],
  .of "MSK_MQ" 0x04C 1 4 1 0 false [.of 31 0 .ro 0]]

/-- Ring port page 0 (R454). -/
def rowsBrl0 : List RegRow := [
  .of "BRL_PORT_CTL" 0x020 1 4 1 0 false [.of 2 2 .w1s 0, .of 1 1 .rw 0, .of 0 0 .w1s 0],
  .of "BRL_PORT_CFG" 0x024 1 4 1 0 false [.of 31 16 .rw 16, .of 15 8 .rw 0, .of 1 1 .rw 0, .of 0 0 .rw 1],
  .of "BRL_PORT_STS" 0x028 1 4 1 0 false [.of 20 16 .ro 0, .of 7 7 .ro 0, .of 6 6 .ro 0, .of 2 0 .ro 0],
  .of "BRL_PEER" 0x02C 1 4 1 0 false [.of 26 24 .ro 0, .of 19 0 .ro 0],
  .of "BRL_PORT_EVT" 0x030 1 4 1 0 false [.of 5 5 .w1c 0, .of 4 4 .w1c 0, .of 3 3 .w1c 0, .of 2 2 .w1c 0, .of 1 1 .w1c 0, .of 0 0 .w1c 0],
  .of "BRL_BCAST" 0x034 1 4 1 0 false [.of 8 0 .rw 256]]

/-- Ring port page 1 (R455). -/
def rowsBrl1 : List RegRow := [
  .of "BRL_CORR" 0x020 1 4 1 0 false [.of 31 0 .rc 0],
  .of "BRL_UNC" 0x024 1 4 1 0 false [.of 31 0 .rc 0],
  .of "BRL_CRC" 0x028 1 4 1 0 false [.of 31 0 .rc 0],
  .of "BRL_NOROUTE" 0x02C 1 4 1 0 false [.of 31 0 .rc 0],
  .of "BRL_SHARE_DROP" 0x030 1 4 1 0 false [.of 31 0 .rc 0],
  .of "BRL_PREEMPT" 0x034 1 4 1 0 false [.of 31 0 .rc 0],
  .of "BRL_RX_FRAMES" 0x038 1 4 1 0 false [.of 31 0 .rc 0],
  .of "BRL_TX_FRAMES" 0x03C 1 4 1 0 false [.of 31 0 .rc 0]]

/-- Ring port page 2: VC queue blocks and shares (R456). -/
def rowsBrl2 : List RegRow := [
  .of "BRL_SHARE0_p" 0x100 16 4 1 0 false [.of 15 0 .rw 0],
  .of "BRL_SHARE1_p" 0x140 16 4 1 0 false [.of 15 0 .rw 0],
  .of "Q_CTL" 0x040 4 32 1 0 false [.of 31 31 .w1s 0, .of 1 1 .rw 0, .of 0 0 .ro 0],
  .of "Q_STS" 0x044 4 32 1 0 false [.of 31 16 .ro 0, .of 4 4 .w1c 0, .of 3 3 .ro 0, .of 2 2 .ro 0, .of 1 1 .ro 0, .of 0 0 .ro 1],
  .of "Q_CAP" 0x048 4 32 1 0 false [.of 31 16 .rc 0, .of 15 8 .ro 0, .of 4 0 .ro 0],
  .of "Q_PTR" 0x04C 4 32 1 0 false [.of 31 16 .ro 0, .of 15 0 .rw 0],
  .of "Q_ITEMS" 0x050 4 32 1 0 false [.of 31 0 .rc 0],
  .of "Q_BAD" 0x054 4 32 1 0 false [.of 31 0 .rc 0],
  .of "Q_DROPS" 0x058 4 32 1 0 false [.of 31 0 .rc 0],
  .of "Q_FLUSHED" 0x05C 4 32 1 0 false [.of 31 0 .rc 0]]

/-- Ring port page 3, and page 4 of port 0: route table (R457). -/
def rowsBrl3 : List RegRow := [
  .of "ROUTE_LO" 0x100 64 8 2 0 false [.of 31 31 .sh 0, .of 27 24 .sh 0, .of 23 20 .sh 0, .of 19 0 .sh 0],
  .of "ROUTE_HI" 0x104 64 8 2 1 false [.of 19 0 .sh 0]]

/-- Page 5 of ring port 0 (R458). -/
def rowsBrl5 : List RegRow := [
  .of "BRL_NODE" 0x020 1 4 1 0 false [.of 19 0 .rw 0],
  .of "BRL_STS" 0x024 1 4 1 0 false [.of 0 0 .w1c 0],
  .of "BRL_BCAST_ORIG" 0x028 1 4 1 0 false [.of 7 0 .rw 255]]

/-- Ring port page 7: optical engine (R459). -/
def rowsBrl7 : List RegRow := [
  .of "OPT_LASER" 0x020 1 4 1 0 false [.of 16 0 .pw 65535],
  .of "OPT_SPARE" 0x024 1 4 1 0 false [.of 31 31 .ro 0, .of 3 0 .ro 0],
  .of "OPT_FAIL" 0x028 1 4 1 0 false [.of 15 0 .ro 0]]

/-- Ingest port page 0 (R485). -/
def rowsEth0 : List RegRow := [
  .of "ETH_CFG" 0x020 1 4 1 0 false [.of 31 31 .rw 0, .of 30 28 .rw 0, .of 27 16 .rw 0, .of 2 2 .rw 1, .of 1 1 .rw 0, .of 0 0 .rw 0],
  .of "ETH_STS" 0x024 1 4 1 0 false [.of 4 4 .ro 0, .of 3 3 .ro 0, .of 2 0 .ro 0],
  .of "ETH_EVT" 0x028 1 4 1 0 false [.of 2 2 .w1c 0, .of 1 1 .w1c 0, .of 0 0 .w1c 0],
  .of "ETH_MAC_LO" 0x030 1 4 2 0 false [.of 31 0 .rw 0],
  .of "ETH_MAC_HI" 0x034 1 4 2 1 false [.of 15 0 .rw 0],
  .of "ETH_IP4" 0x038 1 4 1 0 false [.of 31 0 .rw 0],
  .of "ETH_IP6_0" 0x040 4 4 1 0 false [.of 31 0 .rw 0]]

/-- Ingest port page 1 (R486). -/
def rowsEth1 : List RegRow := [
  .of "ETH_RX_FRAMES" 0x020 1 4 1 0 false [.of 31 0 .rc 0],
  .of "ETH_RX_FCS" 0x024 1 4 1 0 false [.of 31 0 .rc 0],
  .of "ETH_RX_DROP" 0x028 1 4 1 0 false [.of 31 0 .rc 0],
  .of "ETH_RX_IP" 0x02C 1 4 1 0 false [.of 31 0 .rc 0],
  .of "ETH_SLOTDROP" 0x030 1 4 1 0 false [.of 31 0 .rc 0],
  .of "ETH_FEC_CORR" 0x034 1 4 1 0 false [.of 31 0 .rc 0],
  .of "ETH_FEC_UNC" 0x038 1 4 1 0 false [.of 31 0 .rc 0],
  .of "ETH_TX_FRAMES" 0x03C 1 4 1 0 false [.of 31 0 .rc 0]]

/-- Ingest port page 2 (R487). -/
def rowsEth2 : List RegRow := [
  .of "ETH_RXSHARE0" 0x020 16 4 1 0 false [.of 8 0 .rw 0]]

/-- Ingest port page 3: optical engine (R488). -/
def rowsEth3 : List RegRow := [
  .of "OPT_LASER" 0x020 1 4 1 0 false [.of 4 0 .pw 15],
  .of "OPT_SPARE" 0x024 1 4 1 0 false [.of 31 31 .ro 0, .of 1 0 .ro 0],
  .of "OPT_FAIL" 0x028 1 4 1 0 false [.of 3 0 .ro 0]]

/-- Page 0x380 (R490). -/
def rowsHrmp0 : List RegRow := [
  .of "HRMP_CFG" 0x020 1 4 1 0 false [.of 31 16 .rw 47134, .of 13 0 .rw 9000],
  .of "HRMP_TMR" 0x024 1 4 1 0 false [.of 31 24 .rw 7, .of 23 16 .rw 16, .of 15 0 .rw 50],
  .of "HRMP_TMR2" 0x028 1 4 1 0 false [.of 31 16 .rw 16, .of 15 0 .rw 8],
  .of "HRMP_TX" 0x02C 1 4 1 0 false [.of 31 24 .rw 64, .of 23 18 .rw 0, .of 17 12 .rw 48],
  .of "HRMP_STS" 0x030 1 4 1 0 false [.of 31 31 .w1c 0, .of 30 30 .w1c 0],
  .of "HRMP_QOWN0" 0x100 64 4 1 0 false [.of 31 0 .rw 0],
  .of "HRMP_CBANK0" 0x200 64 4 1 0 false [.of 31 0 .rw 2155905152]]

/-- Pages 0x390 + p (R491); queue block at +0x40. -/
def rowsHrmpWin : List RegRow := [
  .of "HRMP_LKEY_CUR" 0x020 1 4 1 0 false [.of 31 31 .rw 0, .of 8 0 .rw 0],
  .of "HRMP_LKEY_ALT" 0x024 1 4 1 0 false [.of 31 31 .rw 0, .of 30 30 .rw 0, .of 8 0 .rw 0],
  .of "HRMP_LKEY_CTL" 0x028 1 4 1 0 false [.of 0 0 .w1s 0],
  .of "HRMP_RXWAY" 0x02C 1 4 1 0 false [.of 7 7 .rw 0, .of 3 0 .rw 0],
  .of "HRMP_Q_SEL" 0x030 1 4 1 0 false [.of 13 0 .rw 0],
  .of "HRMP_Q_CFG" 0x034 1 4 1 0 false [.of 15 0 .rw 0],
  .of "HRMP_Q_ATOM_LO" 0x038 1 4 2 0 false [.of 31 12 .rw 0],
  .of "HRMP_Q_ATOM_HI" 0x03C 1 4 2 1 false [.of 15 0 .rw 0],
  .of "HRMP_PEER_SEL" 0x060 1 4 1 0 false [.of 7 0 .rw 0],
  .of "HRMP_PEER_CFG" 0x064 1 4 1 0 false [.of 31 31 .rw 0, .of 30 30 .rw 0, .of 27 24 .rw 0, .of 19 0 .rw 0],
  .of "HRMP_PEER_MAC_LO" 0x068 1 4 2 0 false [.of 31 0 .rw 0],
  .of "HRMP_PEER_MAC_HI" 0x06C 1 4 2 1 false [.of 31 16 .rw 0, .of 15 0 .rw 0],
  .of "HRMP_PEER_IP0" 0x070 4 4 1 0 false [.of 31 0 .rw 0],
  .of "HRMP_CACHE" 0x080 1 4 1 0 false [.of 31 23 .ro 0, .of 16 0 .ro 0],
  .of "HRMP_EVICT" 0x084 1 4 1 0 false [.of 31 0 .rc 0],
  .of "HRMP_COLD" 0x088 1 4 1 0 false [.of 31 0 .rc 0],
  .of "HRMP_DUPS" 0x08C 1 4 1 0 false [.of 31 0 .rc 0],
  .of "HRMP_TAGFAIL" 0x090 1 4 1 0 false [.of 31 0 .rc 0],
  .of "HRMP_RNR" 0x094 1 4 1 0 false [.of 31 0 .rc 0],
  .of "HRMP_RETX" 0x098 1 4 1 0 false [.of 31 0 .rc 0],
  .of "HRMP_ABANDON" 0x09C 1 4 1 0 false [.of 31 0 .rc 0],
  .of "HRMP_NOBANK" 0x0A0 1 4 1 0 false [.of 31 0 .rc 0],
  .of "Q_CTL" 0x040 1 4 1 0 false [.of 31 31 .w1s 0, .of 1 1 .rw 0, .of 0 0 .ro 0],
  .of "Q_STS" 0x044 1 4 1 0 false [.of 31 16 .ro 0, .of 4 4 .w1c 0, .of 3 3 .ro 0, .of 2 2 .ro 0, .of 1 1 .ro 0, .of 0 0 .ro 1],
  .of "Q_CAP" 0x048 1 4 1 0 false [.of 31 16 .rc 0, .of 15 8 .ro 0, .of 4 0 .ro 0],
  .of "Q_PTR" 0x04C 1 4 1 0 false [.of 31 16 .ro 0, .of 15 0 .rw 0],
  .of "Q_ITEMS" 0x050 1 4 1 0 false [.of 31 0 .rc 0],
  .of "Q_BAD" 0x054 1 4 1 0 false [.of 31 0 .rc 0],
  .of "Q_DROPS" 0x058 1 4 1 0 false [.of 31 0 .rc 0],
  .of "Q_FLUSHED" 0x05C 1 4 1 0 false [.of 31 0 .rc 0]]

/-- Channel page 0 (R521). -/
def rowsMem0 : List RegRow := [
  .of "MEM_CH_STS" 0x020 1 4 1 0 false [.of 31 28 .ro 0, .of 27 27 .ro 0, .of 7 7 .ro 0, .of 2 0 .ro 0],
  .of "MEM_CH_CTL" 0x024 1 4 1 0 false [.of 0 0 .w1s 0],
  .of "MEM_CH_CFG" 0x028 1 4 1 0 false [.of 31 24 .rw 24, .of 15 0 .rw 64],
  .of "MEM_MIG_STS" 0x02C 1 4 1 0 false [.of 31 24 .ro 0, .of 23 0 .ro 0],
  .of "MEM_MIG_POISON" 0x030 1 4 1 0 false [.of 31 0 .ro 0]]

/-- Channel page 1 (R522). -/
def rowsMem1 : List RegRow := [
  .of "MEM_CORR" 0x020 1 4 1 0 false [.of 31 0 .rc 0],
  .of "MEM_UNCORR" 0x024 1 4 1 0 false [.of 31 0 .rc 0],
  .of "MEM_ITAG" 0x028 1 4 1 0 false [.of 31 0 .rc 0],
  .of "MEM_POISON_RD" 0x02C 1 4 1 0 false [.of 31 0 .rc 0],
  .of "MEM_SCRUB_PASS" 0x030 1 4 1 0 false [.of 31 0 .rc 0],
  .of "MEM_DEV_CORR" 0x034 1 4 1 0 false [.of 15 0 .rc 0],
  .of "MEM_ERR_PA_LO" 0x038 1 4 2 0 true [.of 31 0 .ro 0],
  .of "MEM_ERR_PA_HI" 0x03C 1 4 2 1 true [.of 7 0 .ro 0]]

/-- Pages 0x480 + p (R523). -/
def rowsMmu : List RegRow := [
  .of "MMU_KEY" 0x020 1 4 1 0 true [.of 31 31 .rw 0, .of 30 30 .rw 0, .of 29 29 .ro 0, .of 8 0 .rw 0],
  .of "MMU_ROOT_LO" 0x024 1 4 2 0 true [.of 31 21 .rw 0],
  .of "MMU_ROOT_HI" 0x028 1 4 2 1 true [.of 7 0 .rw 0],
  .of "MMU_INV_LO" 0x02C 1 4 2 0 true [.of 31 16 .rw 0],
  .of "MMU_INV_HI" 0x030 1 4 2 1 true [.of 15 0 .rw 0],
  .of "MMU_INV_CNT" 0x034 1 4 1 0 false [.of 31 0 .rw 0],
  .of "MMU_INV_CTL" 0x038 1 4 1 0 false [.of 31 31 .ro 1, .of 1 0 .wo 0],
  .of "MMU_FAULT" 0x03C 1 4 1 0 false [.of 31 31 .w1c 0, .of 30 29 .ro 0, .of 28 27 .ro 0, .of 22 20 .ro 0],
  .of "MMU_FAULT_VA_LO" 0x040 1 4 2 0 true [.of 31 0 .ro 0],
  .of "MMU_FAULT_VA_HI" 0x044 1 4 2 1 true [.of 15 0 .ro 0],
  .of "MMU_RES_LO" 0x048 1 4 2 0 true [.of 31 6 .rw 0],
  .of "MMU_RES_HI" 0x04C 1 4 2 1 true [.of 15 0 .rw 0],
  .of "MMU_RES_CNT" 0x050 1 4 1 0 true [.of 23 0 .rw 0],
  .of "MMU_WALKS" 0x054 1 4 1 0 false [.of 31 0 .rc 0],
  .of "MMU_WALKFAIL" 0x058 1 4 1 0 false [.of 31 0 .rc 0],
  .of "MMU_STS" 0x05C 1 4 1 0 false [.of 1 1 .w1c 0, .of 0 0 .w1c 0]]

/-- Tile page 0 (R249). -/
def rowsTile0 : List RegRow := [
  .of "TILE_STS" 0x020 1 4 1 0 false [.of 31 31 .ro 0, .of 30 30 .ro 0, .of 3 0 .ro 0],
  .of "TILE_PC" 0x024 1 4 1 0 true [.of 23 0 .ro 0],
  .of "TILE_KFAULT" 0x028 1 4 1 0 false [.of 31 31 .w1c 0, .of 7 0 .ro 0],
  .of "TILE_KFAULT_PC" 0x02C 1 4 1 0 true [.of 23 0 .ro 0],
  .of "TILE_KFAULT_DET_LO" 0x030 1 4 2 0 true [.of 31 0 .ro 0],
  .of "TILE_KFAULT_DET_HI" 0x034 1 4 2 1 true [.of 31 0 .ro 0],
  .of "TILE_SFLAGS" 0x038 1 4 1 0 true [.of 1 1 .ro 0, .of 0 0 .ro 0],
  .of "TILE_CODE_MAP_LO" 0x040 1 4 2 0 false [.of 31 0 .ro 0],
  .of "TILE_CODE_MAP_HI" 0x044 1 4 2 1 false [.of 31 0 .ro 0],
  .of "TILE_RUN" 0x048 1 4 1 0 false [.of 21 16 .ro 0, .of 15 0 .ro 0]]

/-- Tile page 1 (R250). -/
def rowsTile1 : List RegRow := [
  .of "TILE_DMA_STS" 0x020 1 4 1 0 false [.of 15 0 .ro 0],
  .of "TILE_ENG_STS" 0x024 1 4 1 0 false [.of 4 4 .ro 0, .of 3 3 .ro 0, .of 2 2 .ro 0, .of 1 1 .ro 0, .of 0 0 .ro 0],
  .of "TILE_GATE" 0x028 1 4 1 0 false [.of 2 0 .ro 0],
  .of "ACC_STS0" 0x040 8 4 1 0 false [.of 23 23 .ro 0, .of 22 22 .ro 0, .of 21 0 .ro 0]]

/-- Tile page 2 (R251). -/
def rowsTile2 : List RegRow := [
  .of "CNT_CYC_LO" 0x020 1 4 2 0 false [.of 31 0 .ro 0],
  .of "CNT_CYC_HI" 0x024 1 4 2 1 false [.of 31 0 .ro 0],
  .of "CNT_INSTR_LO" 0x028 1 4 2 0 true [.of 31 0 .ro 0],
  .of "CNT_INSTR_HI" 0x02C 1 4 2 1 true [.of 31 0 .ro 0],
  .of "CNT_ARR" 0x030 1 4 1 0 false [.of 31 0 .ro 0],
  .of "CNT_BRZ" 0x034 1 4 1 0 false [.of 31 0 .ro 0],
  .of "CNT_DMA" 0x038 1 4 1 0 false [.of 31 0 .ro 0],
  .of "CNT_STALL" 0x03C 1 4 1 0 true [.of 31 0 .ro 0]]

/-- Cluster page 0 (R253). -/
def rowsClu0 : List RegRow := [
  .of "CLU_STS" 0x020 1 4 1 0 false [.of 8 8 .ro 0, .of 4 0 .ro 0],
  .of "CLU_MAP0" 0x040 5 4 1 0 false [.of 31 0 .ro 0],
  .of "CLU_FAILED" 0x060 1 4 1 0 false [.of 20 0 .ro 0],
  .of "CLU_REMAP" 0x064 1 4 1 0 false [.of 31 31 .w1s 0, .of 30 30 .w1c 0, .of 4 0 .rw 0]]

/-- Cluster page 1 (R254). -/
def rowsClu1 : List RegRow := [
  .of "CLU_DRBG" 0x020 1 4 1 0 false [.of 31 31 .ro 0, .of 15 0 .ro 0],
  .of "CLU_LINK_CORR" 0x024 1 4 1 0 false [.of 31 0 .rc 0],
  .of "CLU_LINK_UNCORR" 0x028 1 4 1 0 false [.of 31 0 .rc 0]]

/-- The block registers of a resolved page (the chapters' page tables; R68, R69). -/
def pageRows (p : Nat) : List RegRow :=
  if p = 0x000 then rowsGlb0
  else if p = 0x001 then rowsGlb1
  else if p = 0x002 then rowsGlb2
  else if p = 0x010 then rowsPhs0
  else if p = 0x011 then rowsPhs1
  else if p = 0x012 || p = 0x013 then rowsSlots
  else if p = 0x020 then rowsFlt0
  else if p = 0x021 then rowsFlt1
  else if p = 0x022 then rowsFlt2
  else if p = 0x023 then rowsFlt3
  else if p = 0x030 then rowsInt0
  else if p = 0x031 then rowsInt1
  else if p = 0x032 then rowsInt2
  else if p = 0x033 then rowsInt3
  else if p = 0x034 then rowsInt4
  else if p = 0x035 then rowsInt5
  else if p = 0x036 then rowsInt6
  else if p = 0x037 then rowsInt7
  else if p = 0x040 then rowsKey0
  else if p = 0x041 then rowsKey1
  else if p = 0x050 then rowsSilt0
  else if p = 0x051 then rowsSilt1
  else if p = 0x052 then rowsSilt2
  else if p = 0x053 then rowsSilt3
  else if p = 0x060 then rowsAtt0
  else if p = 0x061 then rowsAtt1
  else if p = 0x062 then rowsAtt2
  else if p = 0x068 then rowsAtt8
  else if p = 0x06F then rowsLc
  else if p = 0x080 then rowsPwr0
  else if p = 0x081 then rowsPwr1
  else if p = 0x082 then rowsPwr2
  else if p = 0x090 then rowsMgt0
  else if p = 0x091 then rowsMgt1
  else if 0x100 ≤ p && p ≤ 0x10F then rowsLoam
  else if 0x120 ≤ p && p ≤ 0x12F then rowsGraph
  else if p = 0x200 then rowsAgg0
  else if 0x210 ≤ p && p ≤ 0x21F then rowsAggWin
  else if 0x240 ≤ p && p ≤ 0x27F then rowsCtx
  else if p = 0x280 then rowsMsk0
  else if 0x290 ≤ p && p ≤ 0x29F then rowsMskWin
  else if 0x300 ≤ p && p ≤ 0x33F then
    match (p - 0x300) % 8 with
    | 0 => rowsBrl0
    | 1 => rowsBrl1
    | 2 => rowsBrl2
    | 3 => rowsBrl3
    | 4 => if p = 0x304 then rowsBrl3 else []
    | 5 => if p = 0x305 then rowsBrl5 else []
    | 7 => rowsBrl7
    | _ => []
  else if 0x340 ≤ p && p ≤ 0x37F then
    match (p - 0x340) % 4 with
    | 0 => rowsEth0
    | 1 => rowsEth1
    | 2 => rowsEth2
    | _ => rowsEth3
  else if p = 0x380 then rowsHrmp0
  else if 0x390 ≤ p && p ≤ 0x39F then rowsHrmpWin
  else if 0x400 ≤ p && p ≤ 0x47F then
    if p % 2 = 0 then rowsMem0 else rowsMem1
  else if 0x480 ≤ p && p ≤ 0x48F then rowsMmu
  else if 0x800 ≤ p && p ≤ 0xA7F then
    match (p - 0x800) % 8 with
    | 0 => rowsTile0
    | 1 => rowsTile1
    | 2 => rowsTile2
    | _ => []
  else if 0xC00 ≤ p && p ≤ 0xC3F then
    match (p - 0xC00) % 16 with
    | 0 => rowsClu0
    | 1 => rowsClu1
    | _ => []
  else []

end Sys2Proof.Machine
end

