-- ==== Sys2Proof/Machine/State.lean ====
section
/-! DEFINITION. The machine's state, its faults and refusals, and the state after cold reset. -/
namespace Sys2Proof.Machine

/-- Why a run stops with a fault. No meaning of this model raises one; it stands for a command queue
that holds something the device cannot be sent. -/
inductive Fault where
  /-- Raised by nobody at present; safe, since it only stops a run. -/
  | impossible
  deriving DecidableEq, Repr

/-- Why a run is refused. -/
inductive Refusal where
  /-- Raised by an arm of `exec` that has no meaning yet; safe. -/
  | notModelled (mnemonic : String)
  deriving DecidableEq, Repr

/-! ### Ring phase (PHS) -/

/-- What the next tick edge does to the tick count (R44). -/
inductive Corr where
  | none | double | hold
  deriving DecidableEq, Repr

/-- A beacon heard (R39, R43): ring port, SRC, HOPS and the edge at which it was heard. -/
structure Heard where
  port : Nat
  src : Nat
  hops : Nat
  edge : Nat
  deriving DecidableEq, Repr

/-- The PHS block's state that is in no register (R36 to R60). -/
structure Phs where
  /-- the ring phase (R14) -/
  phase : DWord := 0
  /-- tick edges since reset: the model's own clock for the intervals of R39, R40 and R46 -/
  edges : Nat := 0
  corr : Corr := .none
  /-- this edge's phase was reached by a load (R702) -/
  loaded : Bool := false
  /-- a beacon has loaded the phase after this edge's comparators were evaluated (R51, R702) -/
  loadNext : Bool := false
  /-- comparators were evaluated at the previous edge, and this is the first after a stretch without -/
  ranLast : Bool := false
  firstRun : Bool := false
  /-- phase of the first edge of the present running stretch (R141, R702) -/
  runFrom : Nat := 0
  /-- this edge crossed a slot or frame boundary by advancing (R37, R59) -/
  slotEdge : Bool := false
  frameEdge : Bool := false
  heard : List Heard := []
  /-- edge from which the silence of R39 is counted -/
  silentFrom : Nat := 0
  /-- in ACQUIRE: SRC, PHASE, expected phase and edge of the last candidate beacon -/
  cand : Option (Nat × Nat × Nat × Nat) := .none
  lastAcc : Nat := 0
  devArmed : Bool := true
  lastRef : Option Nat := .none
  beaconed : Bool := false
  emittedAt : Option Nat := .none
  advFlag : Bool := false
  /-- comparators (and 64 for GLB_UPD_AT) armed with a target already passed (R702) -/
  lateArm : List Nat := []
  deriving DecidableEq, Repr

/-! ### Registers -/

/-- The register file and what stands behind it (R7, R81, R86). -/
structure Regs where
  /-- active values, by storage key: the byte offset of R6, plus 2^24 × selector for selected windows -/
  act : Tab Word := []
  /-- pending shadows (R81) -/
  shadow : Tab Word := []
  /-- posted writes not yet landed (R86), by page: the words of the write -/
  posted : Tab (List (Nat × Word)) := []
  /-- holding latches and held write words (R7), by 2^40 × identity + key -/
  latch : Tab Word := []
  held : Tab Word := []
  /-- GLB_UPD groups due at the next edge, and at this one (R82) -/
  updNext : BitVec 16 := 0
  updNow : BitVec 16 := 0
  deriving DecidableEq, Repr

/-! ### Packets and ports -/

/-- A frame on its way out, or gone out, of a port. `port` is 0 to 7 for ring ports and 8 to 23 for
ingest ports; `from?` is the ring port a transit frame came in on (R435). -/
structure TxFrame where
  port : Nat
  vc : Nat
  opc : BitVec 8
  pkt : Pkt
  dest : Option Ingress
  transit : Option Nat
  recovery : Bool
  deriving DecidableEq, Repr

/-- One link-control entry of a CTL fragment (R426): its type and bytes 1 to 7. -/
structure CtlEntry where
  port : Nat
  typ : Nat
  b : List Byte
  deriving DecidableEq, Repr

/-- The reassembly context of one VC of one ring port (R428). -/
structure Asm where
  isOpen : Bool := false
  bad : Bool := false
  frags : Nat := 0
  part : Nat := 0
  bytes : List Byte := []
  deriving DecidableEq, Repr

/-- A request of the H9 itself that waits for its answer (R468, R469). `node` is the graph node it
belongs to: partition, graph and node index. -/
structure Req where
  opc : BitVec 8
  pkt : Pkt
  port : Nat
  dest : Option Ingress
  node : Option (Nat × Nat × Nat)
  timeouts : Nat
  rnrs : Nat
  /-- an RNR back-off runs -/
  backoff : Bool
  deriving DecidableEq, Repr

/-- A packet committed and HELD (R473), with the way it came in. -/
structure HeldPkt where
  opc : BitVec 8
  pkt : Pkt
  ing : Ingress
  deriving DecidableEq, Repr

/-- A sequence window entry (R473, R475, R477). -/
structure WinEntry where
  part : Nat
  src : Nat
  queue : Nat
  /-- set of the cache that holds it -/
  set : Nat
  e : Nat
  done : List Nat := []
  held : List (Nat × HeldPkt) := []
  /-- SEQ of the creating packet while the cold span lasts, and the values seen in it -/
  cold : Option Nat := .none
  seen : List Nat := []
  /-- SEQ and response payload word list of the last completed request -/
  last : Option (Nat × List Byte) := .none
  isOpen : Bool := false
  used : Nat := 0
  deriving DecidableEq, Repr

/-- An open multi-packet message (R104). -/
structure OpenMsg where
  part : Nat
  src : Nat
  queue : Nat
  opc : BitVec 8
  bytes : List Byte
  /-- SEQ of the packet it expects next, and the context of a segment message -/
  next : Nat
  ctx : Nat
  deriving DecidableEq, Repr

/-- The ports, links and the HRMP engines. -/
structure Net where
  /-- frames that wait for an egress, oldest first -/
  txq : List TxFrame := []
  /-- frames that have left, oldest first: what an observer of the fibres sees -/
  sent : List TxFrame := []
  ctlOut : List CtlEntry := []
  asm : Tab Asm := []
  /-- per 64 × port + 16 × VC + partition: partner's pool or share, CREDIT count received, fragments
      sent, fragments freed here (R433) -/
  crSize : Tab Nat := []
  crRecv : Tab Nat := []
  crSent : Tab Nat := []
  crFree : Tab Nat := []
  crDirty : List Nat := []
  /-- VC that started the last VC0 or VC1 frame at each port (R431, R467) -/
  lastVc : Tab Nat := []
  /-- folded route entries: table (ring port, or 8 for the hub) × 64 + entry (R446) -/
  folded : List Nat := []
  /-- ring ports on which light is detected; ports whose training overran its bound -/
  overrun : List Nat := []
  /-- partner data from TRAIN entries, by port: node, TICK code, lane map, port number -/
  peerTick : Tab Nat := []
  peerLanes : Tab Nat := []
  /-- lane map in force, by ring port, and the lane that a switch-in retrains -/
  laneMap : Tab Nat := []
  retrain : Tab Nat := []
  /-- packets that wait in a partition's share of an ingest port: port and packet (R465) -/
  wait : List (Nat × HeldPkt) := []
  /-- cookies and phases that ECHO_RSP answers brought (R449) -/
  echoRsp : List (Nat × Nat × DWord) := []
  reqs : List Req := []
  /-- SEQ counters of the H9's own requests, and response counters, by queue (R107, R468) -/
  seqCtr : Tab Nat := []
  rspCtr : Tab Nat := []
  wins : List WinEntry := []
  hashSeed : Nat := 0
  useClock : Nat := 0
  msgs : List OpenMsg := []
  abandonedMsgs : Nat := 0
  /-- packets dropped with no response at steps 3 and 4 and by R107, and REG_RSP words and the like
      that ended the H9's own requests -/
  dropped : Nat := 0
  /-- the phase from which the GRACE period of R481 may end, by partition -/
  grace : Tab Nat := []
  /-- gap count and phase of the first drop of each lossy queue, by block address (R413) -/
  gaps : Tab (Nat × DWord) := []
  flushing : List Nat := []
  deriving DecidableEq, Repr

/-! ### Key store -/

/-- A key-store slot (R567): record and value. `tagOk` is whether the stored tag matches the record,
which an upset of the store can make false (R571). -/
structure KeySlot where
  state : Nat := 0
  len512 : Bool := false
  attr : Nat := 0
  pinned : Bool := false
  parent : Nat := 0
  label : List Byte := []
  ctx : List Byte := []
  gen : Nat := 0
  value : List Byte := []
  tagOk : Bool := true
  deriving DecidableEq, Repr

/-! ### Memory and translation (R492 to R523) -/

/-- An entry of a partition's translation cache (R501): a leaf that maps a page at level `lvl`, or a
pointer to a table of level `lvl`; `va` is the first address of the span it covers. -/
structure MmuEnt where
  part : Nat
  lvl : Nat
  va : Nat
  pa : Nat
  deriving DecidableEq, Repr

/-- A page that a retirement has still to move (R517): its leaf entry, level, place and destination. -/
structure MigPage where
  va : Nat
  lvl : Nat
  entry : Nat
  pa : Nat
  dst : Nat
  deriving DecidableEq, Repr

/-- DRAM as its readers see it (plaintext, R503), what is wrong with it, and the translation caches. -/
structure MemSt where
  /-- bytes by physical address, canonical form; an unlisted byte reads 0 (R510) -/
  cells : List Host.Cell := []
  /-- poisoned lines, by PA / 64 (R512) -/
  poison : List Nat := []
  /-- channels out of service: failed outright, or isolated (R519, R634) -/
  failed : List Nat := []
  leaf : List MmuEnt := []
  ptr : List MmuEnt := []
  /-- corrections of the scrub pass in progress: 2^16 × channel + device (R514) -/
  devCount : Tab Nat := []
  /-- device for which a channel is DEGRADED (R514) -/
  badDev : Tab Nat := []
  /-- next line index within its channel that a scrub reads (R513) -/
  scrubAt : Tab Nat := []
  /-- retirements in progress, by channel: the LOAM_MODE to return to and the pages to move (R517) -/
  mig : Tab (Nat × List MigPage) := []
  deriving DecidableEq, Repr

/-! ### Aggregation and mask recovery (R131 to R204) -/

/-- An occupied slot of a context (R144): its contributor, the count of slot boundaries at the last accepted
packet (R153), and whether its contribution is committing (R149). -/
structure AggSlot where
  who : Nat
  last : Nat
  committing : Bool
  deriving DecidableEq, Repr

/-- A share as stored (R188, R189): holder, the eight values, and the ciphertext that memory holds for it. -/
structure Share where
  holder : Nat
  vals : List Nat
  ct : List Byte
  deriving DecidableEq, Repr

/-- A mask entry (R192): its sign and its seed. -/
structure MaskEntry where
  plus : Bool
  seed : List Byte
  deriving DecidableEq, Repr

/-- Recovery state of a context in RECOVERY, under Kaolin's guard (R190 to R197). -/
structure Recovery where
  wait : Bool := false
  /-- the MSK unit that holds the way under its lease (R637) -/
  holder : Option Nat := none
  census : Bool := false
  finished : Bool := false
  finishTick : Nat := 0
  /-- shares and header ciphertext, by owner (R189) -/
  shares : Tab (List Share) := []
  hdr : Tab (List Byte) := []
  /-- secrets reconstructed, by owner -/
  secrets : List Nat := []
  /-- agreements still to do: key owner, its secret, and the survivor (R192) -/
  agree : List (Nat × List Byte × Nat) := []
  entries : List MaskEntry := []
  /-- the pass in progress: its MSK unit and its entries -/
  pass : Option (Nat × List MaskEntry) := none
  vP : List Nat := []
  vQ : List Nat := []
  expanding : Bool := false
  expanded : Bool := false
  deriving DecidableEq, Repr

/-- What AGG keeps of a context beside its status entry (R133, R141, R144). -/
structure AggCtx where
  desc : List Byte := []
  descVa : Nat := 0
  part : Nat := 0
  /-- the graph node whose AGG_OP armed it, if one did -/
  armNode : Option (Nat × Nat × Nat) := none
  /-- phase of the edge at which the present state was entered, in a running state (R141) -/
  entered : Option Nat := none
  /-- entered by a command or node at this edge: phases wait for the next (R141) -/
  cmdEdge : Option Nat := none
  ats : List Nat := [0, 0, 0, 0, 0]
  slots : Tab AggSlot := []
  recov : Option Recovery := none
  deriving DecidableEq, Repr

/-- Which partition really holds what, as Kaolin has assigned it (R528, R530, R566). -/
structure OwnSt where
  tiles : Tab Nat := []
  ways : Tab Nat := []
  /-- key-slot range of a partition: base and count -/
  keys : Tab (Nat × Nat) := []
  deriving DecidableEq, Repr

/-! ### Tiles (R205 to R247, R298 to R305) -/

/-- One end of a chain channel of a tile (R298). -/
inductive ChainEnd where
  | none
  | tile (t : Nat)
  | mem (va ctr count : Nat)
  deriving DecidableEq, Repr

/-- A region that has arrived on a chain channel and waits for its receiver (R302). -/
structure Region where
  ch : Nat
  tag : Nat
  rowBytes : Nat
  rows : List (List Byte)
  deriving DecidableEq, Repr

/-- An operation issued to an engine and not completed (R230): CLS × 64 + OP, X, IMM, the descriptors and
scalars it was issued with, the mode, its address, and the local byte ranges it reads and writes. -/
structure EngOp where
  code : Nat
  x : Nat := 0
  imm : Nat := 0
  vA : Nat := 0
  vB : Nat := 0
  vD : Nat := 0
  sA : Nat := 0
  sB : Nat := 0
  /-- a key-store key it was issued with, on its way to the seed expander (R236) -/
  key : List Byte := []
  ftz : Bool := false
  sr : Bool := false
  pc : Nat := 0
  rds : List (Nat × Nat) := []
  wrs : List (Nat × Nat) := []
  deriving DecidableEq, Repr

/-- What a logical tile holds beside its registers: local memory, sequencer, engine queues, chain links. -/
structure Tile where
  /-- tile store and code memory by local address (R206), canonical form -/
  mem : List Host.Cell := []
  /-- poisoned lines of the tile store, by local address / 64 (R243) -/
  poison : List Nat := []
  s : Tab DWord := []
  v : Tab Nat := []
  link : List Nat := []
  /-- loop stack, innermost first: first and last address of the body, and passes left (R228) -/
  loops : List (Nat × Nat × Nat) := []
  ftz : Bool := false
  sr : Bool := false
  cbase : Nat := 0
  clen : Nat := 0
  entry : Nat := 0
  restart : Bool := false
  node : Option (Nat × Nat × Nat) := none
  target : List Nat := []
  args : List Nat := []
  vargs : List Nat := []
  disp : Nat := 0
  arr : List EngOp := []
  dma : List EngOp := []
  brz : List EngOp := []
  gen : List EngOp := []
  noise : List EngOp := []
  chain : List EngOp := []
  /-- failed transfers whose fault no wait has met yet: tag and DETAIL (R242) -/
  dmaFail : List (Nat × Nat) := []
  /-- END has issued -/
  ended : Bool := false
  /-- the first kernel fault, not yet recorded: code, DETAIL, address (R242) -/
  fault : Option (Nat × Nat × Nat) := none
  /-- the kernel has reported to Loam: true where it completed (R220) -/
  report : Option Bool := none
  /-- TBARs issued, by tag, and whether the present instruction is one that has been counted (R232) -/
  tbars : Tab Nat := []
  tbarNow : Bool := false
  chTab : Tab (ChainEnd × ChainEnd) := []
  chSent : Tab Nat := []
  chGot : Tab Nat := []
  inbox : List Region := []
  /-- state code to return to when a migration ends, and whether a kernel was interrupted (R245, R246) -/
  migFrom : Option Nat := none
  /-- image metadata by code region: CODE_LEN, ENTRY, FLAGS, ARGS (R215, R216) -/
  images : Tab (Nat × Nat × Nat × Nat) := []
  /-- held by the operator's debug window, with one instruction to issue (R540) -/
  halted : Bool := false
  step : Bool := false
  deriving DecidableEq, Repr

/-! ### Gate engine (R317 to R341) -/

/-- Key material of a key set: b halves, a halves, key-switching key, as bytes (R314, R316). -/
structure KeyMat where
  b : List Byte := []
  a : List Byte := []
  ks : List Byte := []
  deriving DecidableEq, Repr

/-- A group of tiles (R329); a resident one holds its key material (R330, R331). -/
structure GateGroup where
  resident : Bool
  tiles : List Nat
  mat : KeyMat
  deriving DecidableEq, Repr

/-- Shards that a resident group still holds: its tiles, key set VA, KEY_GEN and material (R331). -/
structure Shard where
  tiles : List Nat
  va : Nat
  gen : Nat
  mat : KeyMat
  deriving DecidableEq, Repr

/-- A BRONZE_KERNEL node at work (R336 to R341). -/
structure GateRun where
  node : Nat × Nat × Nat
  header : List Byte
  keyset : List Byte
  tiles : List Nat
  groups : List GateGroup
  /-- gate counts of the levels, the level next or in progress, its first gate, and the OUT wires of its records -/
  levels : List Nat
  level : Nat := 0
  first : Nat := 0
  busy : Bool := false
  outs : List Nat := []
  deriving DecidableEq, Repr

/-! ### Graphs (R373 to R405) -/

/-- A node of a submitted graph (R384 to R396). -/
structure GNode where
  /-- predecessors that have still to complete -/
  deps : Nat
  armed : Bool
  /-- edge of the ready tick -/
  ready : Option Nat := none
  /-- 0 not dispatched, 1 dispatched, 2 its work goes on, 3 complete, 4 failed or stopped -/
  st : Nat := 0
  /-- edge of dispatch -/
  at_ : Nat := 0
  /-- the target tiles it really uses (R388) -/
  tiles : List Nat := []
  /-- a kernel of it has failed on this tile, and the graph knows (R395) -/
  bad : Bool := false
  /-- kernel image being loaded (R216), or bytes of a transfer that have still to be sent (R380) -/
  data : List Byte := []
  sent : Nat := 0
  deriving DecidableEq, Repr

/-- A graph that holds a handle (R384). -/
structure Graph where
  img : List Byte := []
  /-- order of submission (R385) -/
  order : Nat := 0
  /-- 64 KiB units of the snapshot area it holds (R404) -/
  units : List Nat := []
  nodes : Tab GNode := []
  /-- the submission that still waits for its answer, and the tick edge of its last packet (R381, R383) -/
  sub : Option HeldPkt := none
  lastSlot : Nat := 0
  whole : Bool := false
  /-- it drains for an abort, not for a failure (R384) -/
  aborted : Bool := false
  deriving DecidableEq, Repr

/-! ### Protocol sessions (R347 to R372) -/

/-- Bytes that a session has still to write at a peer (R355, R356); `mark` sets MARK on the last packet. -/
structure SendJob where
  dst : Nat
  queue : Nat
  va : Nat
  data : List Byte
  mark : Bool
  deriving DecidableEq, Repr

/-- A protocol session. -/
structure Session where
  node : Nat × Nat × Nat
  desc : List Byte
  prog : List Byte := []
  tiles : List Nat := []
  /-- share key (R349) -/
  key : List Byte := []
  /-- the round next to be completed -/
  round : Nat := 0
  /-- current op, whether it has begun, and its phase -/
  op : Nat := 0
  began : Bool := false
  phase : Nat := 0
  /-- the vectors the op has read, and what it keeps from phase to phase -/
  ins : List (List Nat) := []
  saved : List (List Nat) := []
  /-- round wanted or in flight: 0 none, 1 values, 2 products, 3 ANDs; its operands; its triples; what waits to be sent -/
  rnd : Nat := 0
  xs : List Nat := []
  ys : List Nat := []
  ta : List Nat := []
  tb : List Nat := []
  tc : List Nat := []
  outq : List SendJob := []
  expect : Nat := 0
  /-- the round's own record has left -/
  sentRec : Bool := false
  /-- EXCH_CTR and records seen -/
  recs : Nat := 0
  /-- write generation and length of each handle (R359, R369) -/
  gens : Tab Nat := []
  lens : Tab Nat := []
  /-- unsealed items not yet used, batches read, place in the area, next index of each kind (R353, R354) -/
  arith : List (Nat × Nat × Nat) := []
  bits : List (Bool × Bool × Bool) := []
  batches : Nat := 0
  area : Nat := 0
  nextA : Nat := 0
  nextB : Nat := 0
  arithUsed : Nat := 0
  bitUsed : Nat := 0
  /-- 1 RUNNING, 2 DONE, 3 ABORTED; reason and DETAIL (R371) -/
  state : Nat := 1
  reason : Nat := 0
  detail : Nat := 0
  deriving DecidableEq, Repr

/-- Loam's state that is in no register. -/
structure LoamSt where
  /-- by 64 × partition + handle -/
  graphs : Tab Graph := []
  sessions : List Session := []
  /-- partitions with a STEP not yet used (R394) -/
  step : List Nat := []
  /-- edge of the latest dispatch pass of a partition (R386) -/
  lastPass : Tab Nat := []
  /-- mode that RECOVERY returns to (R392) -/
  modeFrom : Tab Nat := []
  submitted : Nat := 0
  /-- doorbells on ARM_QUEUEs that came while a graph was in SNAPSHOT: partition, handle, queue (R393) -/
  armSeen : List (Nat × Nat × Nat) := []
  deriving DecidableEq, Repr

/-! ### Silt (R582 to R590) -/

/-- The entropy source: compressor state, blocks held and released, and the instances seeded so far (R585, R587). -/
structure SiltSt where
  lfsr : Nat := 0
  held : Nat := 0
  pool : Nat := 0
  next : Nat := 0
  /-- this SEEDING follows a RESTART -/
  again : Bool := false
  /-- instances instantiated since the last reset -/
  ever : List Nat := []
  deriving DecidableEq, Repr

/-! ### Partitions, sessions with tenants, imports, debug (R524 to R560) -/

/-- An attestation, session or authentication request before its release edge (R546): 0 attest, 1 session,
2 authentication, 3 a session response sent again; the slot boundary of the release; the report bytes or TH2 payload at the step-12 edge; whether
the signatures hold. -/
structure KaolinWork where
  kind : Nat
  req : HeldPkt
  slot : Nat
  data : List Byte
  phase : Nat
  ok : Bool := true
  deriving DecidableEq, Repr

/-- The session of a partition with its tenant (R549 to R553). -/
structure TenSess where
  id : List Byte := []
  kT2d : List Byte := []
  kConf : List Byte := []
  th2 : List Byte := []
  init : List Byte := []
  rsp : List Byte := []
  ctr : Nat := 0
  /-- slot boundaries crossed when PENDING was entered -/
  since : Nat := 0
  /-- an AUTH awaits its release edge -/
  authing : Bool := false
  deriving DecidableEq, Repr

/-- A running import (R557, R558). -/
structure Import where
  slot : Nat
  ctr : Nat
  src : Nat
  dst : Nat
  status : Nat
  deriving DecidableEq, Repr

/-- What ATT keeps outside its registers. -/
structure AttSt where
  /-- partitions whose CREATE zeroizes, and the tiles, channels and ways that a GROW adds -/
  creating : List Nat := []
  work : Tab KaolinWork := []
  sess : Tab TenSess := []
  imports : Tab Import := []
  /-- export key slot of a partition, and its DUMP_SEQ (R543) -/
  export_ : Tab Nat := []
  dumpSeq : Tab Nat := []
  /-- a shared-unit fault waits for the slot boundary of its SERVICE_EVENT (R538) -/
  service : Bool := false
  deriving DecidableEq, Repr

/-! ### Interrupts (R600 to R619) -/

/-- What the interrupt controller keeps outside its registers. -/
structure IntSt where
  /-- phase of the first firing that no delivery has reported, by source (R612) -/
  first : Tab DWord := []
  /-- the partition to which a source IN_SERVICE was delivered (R602) -/
  host : Tab Nat := []
  /-- sources on their way to a core: core and source (R605) -/
  transit : List (Nat × Nat) := []
  /-- handlers that run on a core, innermost first: priority, source and COUNT (R606) -/
  stack : Tab (List (Nat × Nat × Nat)) := []
  deriving DecidableEq, Repr

/-! ### Faults (R626 to R650) -/

/-- A unit's first-error record (R630). -/
structure UnitErr where
  src : Nat
  cls : Nat
  detail : Nat
  phase : Nat
  merged : Bool
  inj : Bool
  deriving DecidableEq, Repr

/-- What the fault controller keeps outside its registers. -/
structure FltSt where
  units : Tab UnitErr := []
  seq : Nat := 0
  /-- injected faults raised and not yet handled -/
  inj : List (Nat × Nat × Nat) := []
  /-- slot index at which a unit left service, and leases reclaimed: kind and unit (R637) -/
  outSince : Tab Nat := []
  reclaimed : List (Nat × Nat) := []
  /-- counters whose saturation has been reported (R640) -/
  satTold : List Nat := []
  /-- hub engines and die links that have used their spare (R634) -/
  spareUsed : List Nat := []
  /-- a DEVICE_FATAL fault has been handled -/
  dead : Bool := false
  deriving DecidableEq, Repr

/-! ### Reset, boot, life cycle, management (R651 to R701) -/

/-- What the reset, boot, power and management logic keeps outside its registers. -/
structure SysSt where
  /-- unit resets in progress -/
  resetting : List Nat := []
  /-- bank verified; control cores run; DRAM trained -/
  verified : Bool := false
  /-- banks tried at this boot -/
  tried : List Nat := []
  dram : Bool := false
  /-- images staged in this run, by bank -/
  flash : Tab (List Byte) := []
  staging : Option (List Byte) := none
  /-- root secret of the fuses; none while absent or destroyed (R579, R580) -/
  root : Option (List Byte) := none
  destroyed : Bool := false
  /-- a life-cycle transition's warm reset is due; ring reset latched -/
  lcReset : Bool := false
  /-- control cores that reload (R662) -/
  reload : List Nat := []
  /-- SHA-384 of the five stages that run (R547, R663) -/
  meas : List (List Byte) := []
  /-- a change of L asked for and not yet in effect, and slot boundaries since the last change (R59) -/
  wantL : Option Nat := none
  sinceL : Nat := 16
  /-- slot boundaries crossed by advancing since reset: the model's own clock for intervals in slots -/
  slots : Nat := 0
  /-- slot boundaries since the last telemetry item (R701) -/
  telCount : Nat := 0
  /-- I3C events enabled by ENEC (R693) -/
  events : Nat := 0x0F
  /-- JTAG (R694, R695): instruction register, boundary register, HCPACC data register -/
  ir : Nat := 1
  boundary : Nat := 0
  hcp : Nat := 2 ^ 63
  deriving DecidableEq, Repr

/-- The data half of the machine: everything but the command queue. -/
structure Mach where
  phs : Phs := {}
  regs : Regs := {}
  net : Net := {}
  /-- key-store slots 0 to 511 (R566) -/
  keys : Tab KeySlot := []
  mem : MemSt := {}
  own : OwnSt := {}
  agg : Tab AggCtx := []
  /-- logical tiles 0 to 79 -/
  tiles : Tab Tile := []
  gates : List GateRun := []
  shards : List Shard := []
  loam : LoamSt := {}
  silt : SiltSt := {}
  att : AttSt := {}
  irq : IntSt := {}
  flt : FltSt := {}
  sys : SysSt := {}
  /-- completion counters: 4096 × partition + counter (R390) -/
  ctrs : Tab Nat := []
  /-- results of nodes not yet taken up: partition, graph, node, code of R397 (0 where it succeeded) and DETAIL (R386) -/
  nodeRes : List ((Nat × Nat × Nat) × Nat × Nat) := []
  /-- items of the lossy queues held on the hub: 2^16 × block address + slot (R406) -/
  qitems : Tab (List Byte) := []
  /-- slot-table byte each port 0 to 23 took at the start of the current slot (R62) -/
  slotOwn : Tab Nat := []
  /-- a ring reset is requested (R654) -/
  ringReq : Bool := false
  /-- counter of free values drawn: the model's own field, see `Config.freeBits` -/
  free : Nat := 0
  /-- faults raised and not yet handled: source, unit, DETAIL (R49, R627) -/
  raised : List (Nat × Nat × Nat) := []
  /-- what events of this tick have reset, isolated or quiesced: units, and 0x1000 + p for partition p (R52) -/
  gone : List Nat := []
  /-- a warm reset is requested (R93) -/
  warmReq : Bool := false
  /-- statuses and values that the last register access returned -/
  resp : List (Nat × Word) := []
  deriving DecidableEq, Repr

/-- The outputs that the block drives by what its registers hold (R639, R657, R673, R700): an open-drain pin that
reads true is released by this H9, and `optics` says that the optical transmitters are on. -/
structure Pins where
  errN : Bool := true
  alertN : Bool := true
  optics : Bool := false
  deriving DecidableEq, Repr

/-- The block: its data, its output pins, and the commands that wait, first in first out. -/
structure State where
  m : Mach := {}
  pins : Pins := {}
  pending : List Instr := []
  deriving DecidableEq, Repr

/-- The machine right after a cold reset, with no command waiting. -/
def State.reset : State := {}

end Sys2Proof.Machine
end

