-- ==== Sys2Proof/Machine/Ops.lean ====
section
/-! DEFINITION. The named operations every family uses: sparse tables, bit fields, registers,
saturating counters, bytes of memory, free values, raised faults. -/
namespace Sys2Proof.Machine

/-! ### Sparse tables -/

/-- The entry at key `k`, if there is one. -/
def tfind {α : Type} (t : Tab α) (k : Nat) : Option α :=
  match t with
  | [] => none
  | (j, v) :: r => if j = k then some v else tfind r k

/-- The value at key `k`, or `d` where nothing is listed. -/
def tget {α : Type} (t : Tab α) (k : Nat) (d : α) : α := (tfind t k).getD d

/-- The table with `v` at key `k`, keys kept rising. -/
def tset {α : Type} (t : Tab α) (k : Nat) (v : α) : Tab α :=
  match t with
  | [] => [(k, v)]
  | (j, w) :: r => if k < j then (k, v) :: (j, w) :: r
                   else if k = j then (k, v) :: r
                   else (j, w) :: tset r k v

/-- The table with nothing at key `k`. -/
def terase {α : Type} (t : Tab α) (k : Nat) : Tab α := t.filter (fun e => e.1 ≠ k)

/-- The table without the keys that `p` picks. -/
def tdrop {α : Type} (t : Tab α) (p : Nat → Bool) : Tab α := t.filter (fun e => !p e.1)

/-! ### Bits of a number -/

/-- Bits hi:lo of `n`. -/
def bitsOf (n hi lo : Nat) : Nat := (n >>> lo) % 2 ^ (hi + 1 - lo)

/-- `n` with bits hi:lo replaced by those of `v`. -/
def withBits (n hi lo v : Nat) : Nat :=
  (n >>> (hi + 1)) <<< (hi + 1) ||| (v % 2 ^ (hi + 1 - lo)) <<< lo ||| n % 2 ^ lo

/-- Bit i of `n`. -/
def bitOf (n i : Nat) : Bool := n.testBit i

/-- 1 for true. -/
def b2n (b : Bool) : Nat := if b then 1 else 0

/-- Ceiling of a / b. -/
def cdiv (a b : Nat) : Nat := (a + b - 1) / b

/-- `a - b` modulo 2^32 as used for SEQ distances. -/
def sub32 (a b : Nat) : Nat := (a + 2 ^ 32 - b % 2 ^ 32) % 2 ^ 32

/-- The numbers lo, lo + 1, …, lo + n − 1. -/
def rangeFrom (lo n : Nat) : List Nat := (List.range n).map (lo + ·)

/-! ### Bytes -/

/-- `n` bytes of `v`, least significant first (R11). -/
def leBytes (n v : Nat) : List Byte := (List.range n).map (fun i => BitVec.ofNat 8 (v >>> (8 * i)))

/-- The number that a little-endian byte list spells. -/
def leNat (b : List Byte) : Nat := b.foldr (fun x acc => x.toNat + 256 * acc) 0

/-- `n` bytes of `b` from offset `i`, with zeros past its end. -/
def slice (b : List Byte) (i n : Nat) : List Byte :=
  (List.range n).map (fun j => (b.drop i).getD j 0)

/-- The little-endian field of `n` bytes at offset `i`. -/
def fieldAt (b : List Byte) (i n : Nat) : Nat := leNat ((b.drop i).take n)

/-- `b` padded with zeros to a multiple of 16 bytes (R96). -/
def pad16 (b : List Byte) : List Byte := b ++ List.replicate ((16 - b.length % 16) % 16) 0

/-! ### Byte-addressed stores in canonical form: addresses rising, no zero listed -/

/-- The byte at address `a`; an unlisted address reads 0 (R510). -/
def memGet (m : List Host.Cell) (a : Nat) : Byte :=
  match m with
  | [] => 0
  | (j, v) :: r => if j = a then v else memGet r a

/-- The store with byte `v` at `a`, canonical form kept. -/
def memSet (m : List Host.Cell) (a : Nat) (v : Byte) : List Host.Cell :=
  match m with
  | [] => if v = 0 then [] else [(a, v)]
  | (j, w) :: r => if a < j then (if v = 0 then (j, w) :: r else (a, v) :: (j, w) :: r)
                   else if a = j then (if v = 0 then r else (a, v) :: r)
                   else (j, w) :: memSet r a v

/-- The `n` bytes from address `a`. -/
def memRead (m : List Host.Cell) (a n : Nat) : List Byte := (List.range n).map (fun i => memGet m (a + i))

/-- The store with the bytes `b` from address `a`. -/
def memWrite (m : List Host.Cell) (a : Nat) (b : List Byte) : List Host.Cell :=
  match b with
  | [] => m
  | x :: r => memWrite (memSet m a x) (a + 1) r

/-- The store with the `n` bytes from `a` zero. -/
def memZero (m : List Host.Cell) (a n : Nat) : List Host.Cell :=
  m.filter (fun c => c.1 < a || a + n ≤ c.1)

/-- Canonical form: addresses strictly rising, and no entry equal to what an unlisted address reads as. -/
def memWf : List Host.Cell → Bool
  | [] => true
  | (_, v) :: [] => v ≠ 0
  | (a, v) :: (b, w) :: r => a < b && v ≠ 0 && memWf ((b, w) :: r)

/-! ### Registers -/

/-- The rows of a page, head included. -/
def allRows (p : Nat) : List RegRow := headRows ++ pageRows p

/-- The row that holds offset `o`, among rows `l`. -/
def rowIn (l : List RegRow) (o : Nat) : Option RegRow :=
  l.find? (fun r => r.off ≤ o && (o - r.off) % r.stride = 0 && (o - r.off) / r.stride < r.n)

/-- The row of the register at byte offset `a` of the register space, if it is a register. -/
def rowAt (a : Nat) : Option RegRow := rowIn (allRows (a / 0x1000 % 0x1000)) (a % 0x1000)

/-- The mask of the fields of a row that `p` picks. -/
def fldMask (r : RegRow) (p : Acc → Bool) : Nat :=
  r.flds.foldl (fun m x => if p x.acc then m ||| ((2 ^ (x.hi + 1 - x.lo) - 1) <<< x.lo) else m) 0

/-- Reset values that a table gives as a rule in place of a number (R79, R490, R487, R633, R648, R699), and
the fused and strap values this model names (log entry 5). -/
def resetRule (a : Nat) : Option Nat :=
  let p := a / 0x1000
  let o := a % 0x1000
  if a = 0x380100 then some 0x80
  else if 0x340 ≤ p && p ≤ 0x37F && (p - 0x340) % 4 = 2 && o = 0x20 then some 256
  else if a = 0x021020 then some 0x9000
  else if a = 0x021024 then some 0xA002
  else if a = 0x021028 then some 0xB0A6
  else if a = 0x02102C then some 0xC03E
  else if a = 0x021030 then some 0xD022
  else if a = 0x090020 then some 0x50
  else if 0xC00 ≤ p && p ≤ 0xC3F && (p - 0xC00) % 16 = 0 && 0x40 ≤ o && o < 0x54 then
    -- CLU_MAP: logical tile 20c + 4n + i served by physical slot 4n + i (R252, log entry 5)
    let n := (o - 0x40) / 4
    some (leNat ((List.range 4).map (fun i => BitVec.ofNat 8 (4 * n + i))))
  else if 0xC00 ≤ p && p ≤ 0xC3F && (p - 0xC00) % 16 = 0 && o = 0x20 then some 20
  else none

/-- The reset value of a register: its rule, or its fields' reset values (0 where there is no register). -/
def resetAt (a : Nat) : Nat :=
  match resetRule (a % 2 ^ 24) with
  | some v => v
  | none =>
    match rowAt (a % 2 ^ 24) with
    | some r => r.flds.foldl (fun m x => m + x.reset * 2 ^ x.lo) 0
    | none => 0

/-- The active value of the register at storage key `a`. -/
def Mach.rd (m : Mach) (a : Nat) : Word := (tfind m.regs.act a).getD (BitVec.ofNat 32 (resetAt a))

/-- The machine with active value `w` in the register at storage key `a`. -/
def Mach.wr (m : Mach) (a : Nat) (w : Word) : Mach := { m with regs := { m.regs with act := tset m.regs.act a w } }

/-- Field hi:lo of a register. -/
def Mach.fld (m : Mach) (a hi lo : Nat) : Nat := bitsOf (m.rd a).toNat hi lo

/-- Bit i of a register. -/
def Mach.bit (m : Mach) (a i : Nat) : Bool := bitOf (m.rd a).toNat i

/-- The machine with field hi:lo of a register set to `v`. -/
def Mach.put (m : Mach) (a hi lo v : Nat) : Mach := m.wr a (BitVec.ofNat 32 (withBits (m.rd a).toNat hi lo v))

/-- The machine with bit i of a register set to `b`. -/
def Mach.putBit (m : Mach) (a i : Nat) (b : Bool) : Mach := m.put a i i (b2n b)

/-- A saturating counter in field hi:lo of a register, `n` added (R640). -/
def Mach.bumpF (m : Mach) (a hi lo n : Nat) : Mach :=
  m.put a hi lo (min (m.fld a hi lo + n) (2 ^ (hi + 1 - lo) - 1))

/-- A saturating 32-bit counter, 1 added (R640). -/
def Mach.bump (m : Mach) (a : Nat) : Mach := m.bumpF a 31 0 1

/-- The 64-bit quantity whose low word is at `a` (R7). -/
def Mach.rd64 (m : Mach) (a : Nat) : Nat := (m.rd a).toNat + 2 ^ 32 * (m.rd (a + 4)).toNat

/-- The machine with the two words at `a` set to a 64-bit quantity (R7). -/
def Mach.wr64 (m : Mach) (a v : Nat) : Mach :=
  (m.wr a (BitVec.ofNat 32 v)).wr (a + 4) (BitVec.ofNat 32 (v >>> 32))

/-- The byte lane k (0 to 3) of a register that packs owners or levels a byte each. -/
def Mach.lane (m : Mach) (a k : Nat) : Nat := m.fld a (8 * k + 7) (8 * k)

/-! ### Free values, raised faults, the pass -/

/-- The next free value (`Config.freeBits`) and the machine that has drawn it. -/
def Mach.draw (m : Mach) : DWord × Mach := (Config.freeBits m.free, { m with free := m.free + 1 })

/-- `n` free bytes. -/
def Mach.drawBytes (m : Mach) (n : Nat) : List Byte × Mach :=
  ((List.range n).map (fun i => BitVec.ofNat 8 ((Config.freeBits (m.free + i / 8)).toNat >>> (8 * (i % 8)))),
   { m with free := m.free + cdiv n 8 })

/-- A fault input presented to the fault controller; FAULT_INPUT handles it (R49, R627). -/
def Mach.raiseFault (m : Mach) (src unit detail : Nat) : Mach :=
  { m with raised := m.raised ++ [(src, unit, detail)] }

/-- A unit or partition that an event of this tick reset, isolated or quiesced (R52). -/
def Mach.markGone (m : Mach) (code : Nat) : Mach := { m with gone := code :: m.gone }

/-- Was target `code` reset, isolated or quiesced earlier in this tick (R52)? -/
def Mach.isGone (m : Mach) (code : Nat) : Bool := m.gone.contains code

/-- An event discarded under R52 is counted in PHS_DISCARD. -/
def Mach.countDiscard (m : Mach) : Mach := m.bump A.PHS_DISCARD

/-- The entry of `gone` that stands for every target: a reset has ended the pass of this tick (R651). -/
def everyTarget : Nat := 0x2000

/-- An event input of class 2 or later whose effect is `f` (R49): discarded where a reset has ended the pass (R52, R651). -/
def Mach.event (m : Mach) (f : Mach → Mach) : Mach := if m.isGone everyTarget then m.countDiscard else f m

/-! ### Ownership and counters -/

/-- The partition that holds logical tile `t`, or hub way `w` (R528). -/
def Mach.tileOwner (m : Mach) (t : Nat) : Option Nat := tfind m.own.tiles t
def Mach.wayOwner (m : Mach) (w : Nat) : Option Nat := tfind m.own.ways w

/-- A completion counter (R390). -/
def Mach.ctr (m : Mach) (p c : Nat) : Nat := tget m.ctrs (4096 * p + c) 0

/-- `n` added to a completion counter, which saturates (R390). -/
def Mach.ctrAdd (m : Mach) (p c n : Nat) : Mach :=
  { m with ctrs := tset m.ctrs (4096 * p + c) (min (m.ctr p c + n) (2 ^ 32 - 1)) }

/-! ### The ring phase as the other blocks see it -/

/-- The phase as a number (R14). -/
def Mach.phase (m : Mach) : Nat := m.phs.phase.toNat

/-- The tick count, bits 47:0 (R14). -/
def Mach.ticks (m : Mach) : Nat := bitsOf m.phase 47 0

/-- The state of the PHS block (R46). -/
def Mach.phsState (m : Mach) : Nat := m.fld A.PHS_STS 2 0

/-- LOCKED, HOLDOVER and MASTER are the running states (R46). -/
def Mach.running (m : Mach) : Bool := 2 ≤ m.phsState && m.phsState ≤ 4

/-- Own node id (R442). -/
def Mach.node (m : Mach) : Nat := m.fld A.BRL_NODE 19 0

/-- Among requester positions 0 to n − 1 that ask, the one R54 picks at the current tick. -/
def Mach.rotated (m : Mach) (n : Nat) (asks : Nat → Bool) : Option Nat :=
  ((List.range n).map (fun k => (m.ticks + k) % n)).find? asks

/-- A ring port is up (R443). -/
def Mach.ringUp (m : Mach) (n : Nat) : Bool := m.fld (A.BRL_PORT_STS n) 2 0 = 2

/-- An ingest port is up (R485). -/
def Mach.ethUp (m : Mach) (n : Nat) : Bool := m.fld (A.ETH_STS n) 2 0 = 2

/-- Life-cycle state (R93): 0 RAW, 1 TEST, 2 PROVISIONED, 3 SECURED, 4 RMA, 5 SCRAPPED. -/
def Mach.lcs (m : Mach) : Nat := m.fld A.GLB_STS 7 4

/-- The optical transmitters are on: an image has verified and the power manager is in RUN (R657, R660, R688, R691). -/
def Mach.opticsOn (m : Mach) : Bool := m.sys.verified && m.fld A.PWR_STS 1 0 = 0

/-! ### What the block drives, and the next state -/

/-- MGT_ALERT has a bit set and enabled (R699, R700). -/
def Mach.alert (m : Mach) : Bool := m.fld A.MGT_ALERT 3 0 &&& m.fld A.MGT_ALERT_EN 3 0 ≠ 0

/-- The output pins that the registers give (R639, R657, R700). -/
def Mach.outputs (m : Mach) : Pins := { errN := !m.bit A.FLT_PIN 30, alertN := !m.alert, optics := m.opticsOn }

/-- The state with data half `m`: the pins follow it, the queue stays. -/
def State.after (s : State) (m : Mach) : State := { s with m := m, pins := m.outputs }

/-- A meaning that only changes the data half: the next state has the same queue. -/
def State.onMach (s : State) (f : Mach → Mach) : Host.Outcome State Fault Refusal := .next (s.after (f s.m))

end Sys2Proof.Machine
end

