-- ==== Sys2Proof/Machine/Crypto.lean ====
section
/-! DEFINITION. The published standards the device uses (R16), written out: AES-256 (FIPS 197), CTR and
GCM (SP 800-38A, SP 800-38D), SHA-256 and SHA-384 (FIPS 180-4), HMAC and HKDF (RFC 5869), X25519
(RFC 7748), KMAC256 (SP 800-185). Bytes are numbers below 256 in lists. The standards that are not
written out (ML-DSA, ML-KEM, P-384) are uninterpreted functions of Config (log entry 6). -/
namespace Sys2Proof.Machine

/-- A byte string as numbers. -/
abbrev Bytes := List Nat

/-- Byte list to number list and back. -/
def toNats (b : List Byte) : Bytes := b.map BitVec.toNat
def toBytes (b : Bytes) : List Byte := b.map (BitVec.ofNat 8)

/-- The number a big-endian byte string spells, and its `n` bytes. -/
def beNat (b : Bytes) : Nat := b.foldl (fun a x => 256 * a + x) 0
def beBytes (n v : Nat) : Bytes := ((List.range n).map (fun i => (v >>> (8 * i)) % 256)).reverse

def xorBytes (a b : Bytes) : Bytes := List.zipWith (fun x y => x ^^^ y) a b

/-! ### AES-256 -/

/-- Multiplication in GF(2^8) modulo x^8 + x^4 + x^3 + x + 1. -/
def gfMul (a b : Nat) : Nat :=
  ((List.range 8).foldl (fun (s : Nat × Nat) i =>
    (if b.testBit i then s.1 ^^^ s.2 else s.1,
     if s.2.testBit 7 then (2 * s.2) % 256 ^^^ 0x1B else 2 * s.2)) (0, a)).1

/-- The inverse, x^254. -/
def gfInv (a : Nat) : Nat :=
  let a2 := gfMul a a
  let a3 := gfMul a2 a
  let a6 := gfMul a3 a3
  let a12 := gfMul a6 a6
  let a15 := gfMul a12 a3
  let a30 := gfMul a15 a15
  let a60 := gfMul a30 a30
  let a120 := gfMul a60 a60
  let a126 := gfMul a120 a6
  let a127 := gfMul a126 a
  gfMul a127 a127

/-- The S-box value of one byte. -/
def subByte (a : Nat) : Nat :=
  let x := gfInv a
  let rot (n : Nat) : Nat := (x <<< n ||| x >>> (8 - n)) % 256
  x ^^^ rot 1 ^^^ rot 2 ^^^ rot 3 ^^^ rot 4 ^^^ 0x63

/-- The S-box as a table. -/
def sbox : Array Nat := ((List.range 256).map subByte).toArray

def sboxAt (a : Nat) : Nat := sbox.getD a 0

/-- The 60 words of the AES-256 key schedule. -/
def aesSchedule (key : Bytes) : Array Bytes :=
  let w0 : Array Bytes := ((List.range 8).map (fun i => (key.drop (4 * i)).take 4)).toArray
  ((rangeFrom 8 52).foldl (fun (s : Array Bytes × Nat) i =>
    let t := s.1.getD (i - 1) []
    let u :=
      if i % 8 = 0 then
        match t.drop 1 ++ t.take 1 with
        | x :: r => (sboxAt x ^^^ s.2) :: r.map sboxAt
        | [] => []
      else if i % 8 = 4 then t.map sboxAt
      else t
    (s.1.push (xorBytes (s.1.getD (i - 8) []) u), if i % 8 = 0 then gfMul s.2 2 else s.2)) (w0, 1)).1

/-- The round key of round `r`, 16 bytes. -/
def roundKey (w : Array Bytes) (r : Nat) : Bytes :=
  w.getD (4 * r) [] ++ w.getD (4 * r + 1) [] ++ w.getD (4 * r + 2) [] ++ w.getD (4 * r + 3) []

def shiftRows (s : Bytes) : Bytes :=
  (List.range 16).map (fun i => s.getD ((i + 4 * (i % 4)) % 16) 0)

def mixColumns (s : Bytes) : Bytes :=
  (List.range 16).map (fun i =>
    let c (k : Nat) : Nat := s.getD (4 * (i / 4) + (i + k) % 4) 0
    gfMul (c 0) 2 ^^^ gfMul (c 1) 3 ^^^ c 2 ^^^ c 3)

/-- AES-256 of one block under a key schedule. -/
def aesBlockW (w : Array Bytes) (b : Bytes) : Bytes :=
  let s := (rangeFrom 1 13).foldl (fun s r => xorBytes (mixColumns (shiftRows (s.map sboxAt))) (roundKey w r))
    (xorBytes b (roundKey w 0))
  xorBytes (shiftRows (s.map sboxAt)) (roundKey w 14)

/-- AES-256 of one block (FIPS 197). -/
def aesBlock (key b : Bytes) : Bytes := aesBlockW (aesSchedule key) b

/-! ### GCM -/

/-- Multiplication in GF(2^128) as GCM orders its bits: bit 0 is the most significant. -/
def ghashMul (x y : Nat) : Nat :=
  ((List.range 128).foldl (fun (s : Nat × Nat) i =>
    (if x.testBit (127 - i) then s.1 ^^^ s.2 else s.1,
     if s.2.testBit 0 then s.2 >>> 1 ^^^ (0xE1 <<< 120) else s.2 >>> 1)) (0, y)).1

/-- 16-byte blocks of a string, the last one padded with zeros. -/
def blocks16 (b : Bytes) : List Bytes :=
  (List.range (cdiv b.length 16)).map (fun i =>
    let x := (b.drop (16 * i)).take 16
    x ++ List.replicate (16 - x.length) 0)

def ghash (h : Nat) (bs : List Bytes) : Nat := bs.foldl (fun y b => ghashMul (y ^^^ beNat b) h) 0

/-- CTR mode with a 96-bit nonce and a 32-bit block counter from `c`. -/
def ctr32 (w : Array Bytes) (nonce : Bytes) (c : Nat) (b : Bytes) : Bytes :=
  ((List.range (cdiv b.length 16)).map (fun i =>
    xorBytes ((b.drop (16 * i)).take 16) (aesBlockW w (nonce ++ beBytes 4 ((c + i) % 2 ^ 32))))).flatten

/-- The GCM tag of a ciphertext. -/
def gcmTag (w : Array Bytes) (nonce aad ct : Bytes) : Bytes :=
  let h := beNat (aesBlockW w (List.replicate 16 0))
  let y := ghash h (blocks16 aad ++ blocks16 ct ++ [beBytes 8 (8 * aad.length) ++ beBytes 8 (8 * ct.length)])
  xorBytes (beBytes 16 y) (aesBlockW w (nonce ++ [0, 0, 0, 1]))

/-- AES-256-GCM encryption: ciphertext and tag. -/
def gcmSeal (key nonce aad pt : Bytes) : Bytes × Bytes :=
  let w := aesSchedule key
  let ct := ctr32 w nonce 2 pt
  (ct, gcmTag w nonce aad ct)

/-- AES-256-GCM decryption: the plaintext, or none where the tag fails. -/
def gcmOpen (key nonce aad ct tag : Bytes) : Option Bytes :=
  let w := aesSchedule key
  if gcmTag w nonce aad ct = tag then some (ctr32 w nonce 2 ct) else none

/-! ### SHA-256, HMAC, HKDF -/

def k256 : Array Nat := ([0x428a2f98, 0x71374491, 0xb5c0fbcf, 0xe9b5dba5, 0x3956c25b, 0x59f111f1, 0x923f82a4, 0xab1c5ed5] ++
  [0xd807aa98, 0x12835b01, 0x243185be, 0x550c7dc3, 0x72be5d74, 0x80deb1fe, 0x9bdc06a7, 0xc19bf174] ++
  [0xe49b69c1, 0xefbe4786, 0xfc19dc6, 0x240ca1cc, 0x2de92c6f, 0x4a7484aa, 0x5cb0a9dc, 0x76f988da] ++
  [0x983e5152, 0xa831c66d, 0xb00327c8, 0xbf597fc7, 0xc6e00bf3, 0xd5a79147, 0x6ca6351, 0x14292967] ++
  [0x27b70a85, 0x2e1b2138, 0x4d2c6dfc, 0x53380d13, 0x650a7354, 0x766a0abb, 0x81c2c92e, 0x92722c85] ++
  [0xa2bfe8a1, 0xa81a664b, 0xc24b8b70, 0xc76c51a3, 0xd192e819, 0xd6990624, 0xf40e3585, 0x106aa070] ++
  [0x19a4c116, 0x1e376c08, 0x2748774c, 0x34b0bcb5, 0x391c0cb3, 0x4ed8aa4a, 0x5b9cca4f, 0x682e6ff3] ++
  [0x748f82ee, 0x78a5636f, 0x84c87814, 0x8cc70208, 0x90befffa, 0xa4506ceb, 0xbef9a3f7, 0xc67178f2]).toArray

def h256 : List Nat := [0x6a09e667, 0xbb67ae85, 0x3c6ef372, 0xa54ff53a, 0x510e527f, 0x9b05688c, 0x1f83d9ab, 0x5be0cd19]

def add32 (a b : Nat) : Nat := (a + b) % 2 ^ 32
def rotr (n b x k : Nat) : Nat := (x >>> k ||| x <<< (b - k)) % n

/-- The message schedule of one block, `rounds` words of `bits` bits. -/
def shaSchedule (bits rounds : Nat) (s0 s1 : Nat → Nat) (blk : Bytes) : Array Nat :=
  let n := bits / 8
  let w0 : Array Nat := ((List.range 16).map (fun i => beNat ((blk.drop (n * i)).take n))).toArray
  (rangeFrom 16 (rounds - 16)).foldl (fun w i =>
    w.push ((s1 (w.getD (i - 2) 0) + w.getD (i - 7) 0 + s0 (w.getD (i - 15) 0) + w.getD (i - 16) 0) % 2 ^ bits)) w0

/-- One compression of the SHA-2 family. -/
def shaCompress (bits rounds : Nat) (k : Array Nat) (s0 s1 e0 e1 : Nat → Nat) (h : List Nat) (blk : Bytes) : List Nat :=
  let m := 2 ^ bits
  let w := shaSchedule bits rounds s0 s1 blk
  let v := (List.range rounds).foldl (fun (v : List Nat) i =>
    let g (j : Nat) : Nat := v.getD j 0
    let ch := (g 4 &&& g 5) ^^^ ((m - 1 - g 4) &&& g 6)
    let mj := (g 0 &&& g 1) ^^^ (g 0 &&& g 2) ^^^ (g 1 &&& g 2)
    let t1 := g 7 + e1 (g 4) + ch + k.getD i 0 + w.getD i 0
    let t2 := e0 (g 0) + mj
    [(t1 + t2) % m, g 0, g 1, g 2, (g 3 + t1) % m, g 4, g 5, g 6]) h
  List.zipWith (fun a b => (a + b) % m) h v

/-- SHA padding to blocks of `bs` bytes with a length field of `ls` bytes. -/
def shaPad (bs ls : Nat) (b : Bytes) : List Bytes :=
  let z := (2 * bs - (b.length + 1 + ls) % bs) % bs
  let p := b ++ [0x80] ++ List.replicate z 0 ++ beBytes ls (8 * b.length)
  (List.range (p.length / bs)).map (fun i => (p.drop (bs * i)).take bs)

def sha256 (b : Bytes) : Bytes :=
  let r := rotr (2 ^ 32) 32
  ((shaPad 64 8 b).foldl (shaCompress 32 64 k256
    (fun x => r x 7 ^^^ r x 18 ^^^ x >>> 3) (fun x => r x 17 ^^^ r x 19 ^^^ x >>> 10)
    (fun x => r x 2 ^^^ r x 13 ^^^ r x 22) (fun x => r x 6 ^^^ r x 11 ^^^ r x 25)) h256).flatMap (beBytes 4)

def k512List : List Nat := [0x428a2f98d728ae22, 0x7137449123ef65cd, 0xb5c0fbcfec4d3b2f, 0xe9b5dba58189dbbc] ++
  [0x3956c25bf348b538, 0x59f111f1b605d019, 0x923f82a4af194f9b, 0xab1c5ed5da6d8118] ++
  [0xd807aa98a3030242, 0x12835b0145706fbe, 0x243185be4ee4b28c, 0x550c7dc3d5ffb4e2] ++
  [0x72be5d74f27b896f, 0x80deb1fe3b1696b1, 0x9bdc06a725c71235, 0xc19bf174cf692694] ++
  [0xe49b69c19ef14ad2, 0xefbe4786384f25e3, 0xfc19dc68b8cd5b5, 0x240ca1cc77ac9c65] ++
  [0x2de92c6f592b0275, 0x4a7484aa6ea6e483, 0x5cb0a9dcbd41fbd4, 0x76f988da831153b5] ++
  [0x983e5152ee66dfab, 0xa831c66d2db43210, 0xb00327c898fb213f, 0xbf597fc7beef0ee4] ++
  [0xc6e00bf33da88fc2, 0xd5a79147930aa725, 0x6ca6351e003826f, 0x142929670a0e6e70] ++
  [0x27b70a8546d22ffc, 0x2e1b21385c26c926, 0x4d2c6dfc5ac42aed, 0x53380d139d95b3df] ++
  [0x650a73548baf63de, 0x766a0abb3c77b2a8, 0x81c2c92e47edaee6, 0x92722c851482353b] ++
  [0xa2bfe8a14cf10364, 0xa81a664bbc423001, 0xc24b8b70d0f89791, 0xc76c51a30654be30] ++
  [0xd192e819d6ef5218, 0xd69906245565a910, 0xf40e35855771202a, 0x106aa07032bbd1b8] ++
  [0x19a4c116b8d2d0c8, 0x1e376c085141ab53, 0x2748774cdf8eeb99, 0x34b0bcb5e19b48a8] ++
  [0x391c0cb3c5c95a63, 0x4ed8aa4ae3418acb, 0x5b9cca4f7763e373, 0x682e6ff3d6b2b8a3] ++
  [0x748f82ee5defb2fc, 0x78a5636f43172f60, 0x84c87814a1f0ab72, 0x8cc702081a6439ec] ++
  [0x90befffa23631e28, 0xa4506cebde82bde9, 0xbef9a3f7b2c67915, 0xc67178f2e372532b] ++
  [0xca273eceea26619c, 0xd186b8c721c0c207, 0xeada7dd6cde0eb1e, 0xf57d4f7fee6ed178] ++
  [0x6f067aa72176fba, 0xa637dc5a2c898a6, 0x113f9804bef90dae, 0x1b710b35131c471b] ++
  [0x28db77f523047d84, 0x32caab7b40c72493, 0x3c9ebe0a15c9bebc, 0x431d67c49c100d4c] ++
  [0x4cc5d4becb3e42b6, 0x597f299cfc657e2a, 0x5fcb6fab3ad6faec, 0x6c44198c4a475817]

def k512 : Array Nat := k512List.toArray

def h384 : List Nat := [0xcbbb9d5dc1059ed8, 0x629a292a367cd507, 0x9159015a3070dd17, 0x152fecd8f70e5939] ++
  [0x67332667ffc00b31, 0x8eb44a8768581511, 0xdb0c2e0d64f98fa7, 0x47b5481dbefa4fa4]

def sha384 (b : Bytes) : Bytes :=
  let r := rotr (2 ^ 64) 64
  (((shaPad 128 16 b).foldl (shaCompress 64 80 k512
    (fun x => r x 1 ^^^ r x 8 ^^^ x >>> 7) (fun x => r x 19 ^^^ r x 61 ^^^ x >>> 6)
    (fun x => r x 28 ^^^ r x 34 ^^^ r x 39) (fun x => r x 14 ^^^ r x 18 ^^^ r x 41)) h384).flatMap (beBytes 8)).take 48

/-- HMAC with SHA-256. -/
def hmac256 (key msg : Bytes) : Bytes :=
  let k0 := if key.length > 64 then sha256 key else key
  let k := k0 ++ List.replicate (64 - k0.length) 0
  sha256 (k.map (· ^^^ 0x5C) ++ sha256 (k.map (· ^^^ 0x36) ++ msg))

/-- HKDF with SHA-256 (RFC 5869): `len` bytes from keying material, salt and info. -/
def hkdf256 (salt ikm info : Bytes) (len : Nat) : Bytes :=
  let prk := hmac256 salt ikm
  (((List.range (cdiv len 32)).foldl (fun (s : Bytes × Bytes) i =>
    let t := hmac256 prk (s.1 ++ info ++ [i + 1])
    (t, s.2 ++ t)) ([], [])).2).take len

/-! ### X25519 -/

def p25519 : Nat := 2 ^ 255 - 19

/-- a^e mod p, by `n` bits of the exponent. -/
def powModN (p a e n : Nat) : Nat :=
  ((List.range n).foldl (fun (s : Nat × Nat) i =>
    (if e.testBit i then s.1 * s.2 % p else s.1, s.2 * s.2 % p)) (1 % p, a % p)).1

/-- X25519 (RFC 7748): scalar and u-coordinate as 32-byte strings. -/
def x25519 (scalar u : Bytes) : Bytes :=
  let p := p25519
  let le (b : Bytes) : Nat := b.foldr (fun x a => x + 256 * a) 0
  let k0 := le (scalar.take 32)
  let k := (k0 % 2 ^ 254) / 8 * 8 + 2 ^ 254
  let x1 := le (u.take 32) % 2 ^ 255 % p
  let sub (a b : Nat) : Nat := (a + p - b) % p
  let st := ((List.range 255).reverse).foldl (fun (s : Nat × Nat × Nat × Nat) t =>
    let (x2, z2, x3, z3) := if k.testBit t then (s.2.2.1, s.2.2.2, s.1, s.2.1) else s
    let a := (x2 + z2) % p
    let aa := a * a % p
    let b := sub x2 z2
    let bb := b * b % p
    let e := sub aa bb
    let da := sub x3 z3 * a % p
    let cb := (x3 + z3) % p * b % p
    let x3' := (da + cb) % p * ((da + cb) % p) % p
    let z3' := x1 * (sub da cb * sub da cb % p) % p
    let x2' := aa * bb % p
    let z2' := e * ((aa + 121665 * e) % p) % p
    if k.testBit t then (x3', z3', x2', z2') else (x2', z2', x3', z3')) (1, 0, x1, 1)
  let r := st.1 * powModN p st.2.1 (p - 2) 255 % p
  (List.range 32).map (fun i => (r >>> (8 * i)) % 256)

/-! ### Keccak and KMAC256 -/

def keccakRc : Array Nat := ([0x1, 0x8082, 0x800000000000808a, 0x8000000080008000] ++
  [0x808b, 0x80000001, 0x8000000080008081, 0x8000000000008009] ++
  [0x8a, 0x88, 0x80008009, 0x8000000a] ++
  [0x8000808b, 0x800000000000008b, 0x8000000000008089, 0x8000000000008003] ++
  [0x8000000000008002, 0x8000000000000080, 0x800a, 0x800000008000000a] ++
  [0x8000000080008081, 0x8000000000008080, 0x80000001, 0x8000000080008008]).toArray

def rotl64 (x k : Nat) : Nat := (x <<< (k % 64) ||| x >>> (64 - k % 64)) % 2 ^ 64

/-- The rotation of lane (x, y) and the lane order of the rho and pi steps, in their walk order. -/
def rhoPi : List (Nat × Nat) :=
  ((List.range 24).foldl (fun (s : (Nat × Nat) × List (Nat × Nat)) t =>
    let (x, y) := s.1
    ((y, (2 * x + 3 * y) % 5), s.2 ++ [(y + 5 * ((2 * x + 3 * y) % 5), (t + 1) * (t + 2) / 2 % 64)])) ((1, 0), [])).2

/-- Keccak-f[1600] on 25 lanes. -/
def keccakF (s0 : Array Nat) : Array Nat :=
  (List.range 24).foldl (fun a rnd =>
    let c (x : Nat) : Nat := (List.range 5).foldl (fun v y => v ^^^ a.getD (x % 5 + 5 * y) 0) 0
    let d (x : Nat) : Nat := c (x + 4) ^^^ rotl64 (c (x + 1)) 1
    let th : Array Nat := ((List.range 25).map (fun i => a.getD i 0 ^^^ d (i % 5))).toArray
    let b := (rhoPi.foldl (fun (s : Array Nat × Nat) e => (s.1.setIfInBounds e.1 (rotl64 s.2 e.2), th.getD e.1 0))
      (th, th.getD 1 0)).1
    let chi : Array Nat := ((List.range 25).map (fun i =>
      let y := 5 * (i / 5)
      b.getD i 0 ^^^ ((2 ^ 64 - 1 - b.getD (y + (i + 1) % 5) 0) &&& b.getD (y + (i + 2) % 5) 0))).toArray
    chi.setIfInBounds 0 (chi.getD 0 0 ^^^ keccakRc.getD rnd 0)) s0

/-- Keccak sponge of rate 136 bytes with a domain byte; `len` output bytes. -/
def keccak136 (dom : Nat) (msg : Bytes) (len : Nat) : Bytes :=
  let z := 136 - msg.length % 136
  let padded := msg ++ (if z = 1 then [dom ^^^ 0x80] else [dom] ++ List.replicate (z - 2) 0 ++ [0x80])
  let absorb (a : Array Nat) (blk : Bytes) : Array Nat :=
    keccakF (((List.range 25).map (fun i =>
      if i < 17 then a.getD i 0 ^^^ ((blk.drop (8 * i)).take 8).foldr (fun x v => x + 256 * v) 0 else a.getD i 0)).toArray)
  let st := (List.range (padded.length / 136)).foldl (fun a i => absorb a ((padded.drop (136 * i)).take 136))
    (List.replicate 25 0).toArray
  let out (a : Array Nat) : Bytes :=
    (List.range 136).map (fun i => (a.getD (i / 8) 0 >>> (8 * (i % 8))) % 256)
  (((List.range (cdiv len 136)).foldl (fun (s : Array Nat × Bytes) _ => (keccakF s.1, s.2 ++ out s.1)) (st, [])).2).take len

/-- left_encode and right_encode of SP 800-185. -/
def natBytes (v : Nat) : Bytes := beBytes (max 1 (cdiv (if v = 0 then 0 else v.log2 + 1) 8)) v
def leftEnc (v : Nat) : Bytes := let b := natBytes v; b.length :: b
def rightEnc (v : Nat) : Bytes := let b := natBytes v; b ++ [b.length]
def encStr (s : Bytes) : Bytes := leftEnc (8 * s.length) ++ s
def bytePad (x : Bytes) (w : Nat) : Bytes :=
  let y := leftEnc w ++ x
  y ++ List.replicate ((w - y.length % w) % w) 0

/-- KMAC256 (SP 800-185): key, message, output bytes, customization string. -/
def kmac256 (key msg : Bytes) (len : Nat) (custom : Bytes) : Bytes :=
  keccak136 0x04 (bytePad (encStr [0x4B, 0x4D, 0x41, 0x43] ++ encStr custom) 136 ++
    bytePad (encStr key) 136 ++ msg ++ rightEnc (8 * len)) len

end Sys2Proof.Machine
end

