-- ==== Sys2Proof/Machine/Net.lean ====
section
/-! DEFINITION. Command packets as they are built, sealed, routed and queued for an egress (R96 to R109,
R119 to R126, R439, R440), and the queue register blocks (R406 to R416). -/
namespace Sys2Proof

/-! ### Header fields (R97, R98) -/

def Pkt.cls (k : Pkt) : Nat := k.flags.toNat / 64 % 4
def Pkt.mark (k : Pkt) : Bool := k.flags.toNat.testBit 5
def Pkt.posted (k : Pkt) : Bool := k.flags.toNat.testBit 4
def Pkt.enc (k : Pkt) : Bool := k.flags.toNat.testBit 3
def Pkt.ackReq (k : Pkt) : Bool := k.flags.toNat.testBit 2
def Pkt.isLast (k : Pkt) : Bool := k.flags.toNat.testBit 1
def Pkt.isFirst (k : Pkt) : Bool := k.flags.toNat.testBit 0

end Sys2Proof

namespace Sys2Proof.Machine

/-- The 32 header bytes (R97). -/
def hdrBytes (opc : BitVec 8) (k : Pkt) : List Byte :=
  [BitVec.ofNat 8 (k.ver.toNat * 16 + k.rsv0.toNat), opc] ++
  leBytes 2 k.flags.toNat ++
  leBytes 4 (k.rsv4.toNat <<< 26 ||| k.vc.toNat <<< 24 ||| k.part.val <<< 20 ||| k.dst.toNat) ++
  leBytes 4 (k.rsv8.toNat <<< 20 ||| k.src.toNat) ++
  leBytes 2 (k.rsv12.toNat <<< 14 ||| k.queue.toNat) ++
  leBytes 2 k.plen.toNat ++ leBytes 4 k.seq.toNat ++ leBytes 8 k.phase.toNat ++ leBytes 4 k.operand.toNat

/-- The packet of a header of 32 bytes and what follows it: opcode and packet (R97). -/
def parsePkt (b : List Byte) : BitVec 8 × Pkt :=
  let n (i l : Nat) : Nat := fieldAt b i l
  let plen := n 14 2
  let enc := (n 2 2).testBit 3
  (BitVec.ofNat 8 (n 1 1),
   { ver := BitVec.ofNat 4 (n 0 1 / 16), rsv0 := BitVec.ofNat 4 (n 0 1), flags := BitVec.ofNat 16 (n 2 2),
     rsv4 := BitVec.ofNat 6 (n 4 4 >>> 26), vc := BitVec.ofNat 2 (n 4 4 >>> 24),
     part := Fin.ofNat 16 (n 4 4 >>> 20), dst := BitVec.ofNat 20 (n 4 4), rsv8 := BitVec.ofNat 12 (n 8 4 >>> 20),
     src := BitVec.ofNat 20 (n 8 4), rsv12 := BitVec.ofNat 2 (n 12 2 >>> 14), queue := BitVec.ofNat 14 (n 12 2),
     plen := BitVec.ofNat 16 plen, seq := BitVec.ofNat 32 (n 16 4), phase := BitVec.ofNat 64 (n 20 8),
     operand := BitVec.ofNat 32 (n 28 4), payload := (b.drop 32).take (16 * plen),
     tag := if enc then (b.drop (32 + 16 * plen)).take 16 else [] })

/-- A request or notice of the H9 with the flags given; the phase stamp is the present phase (R106). -/
def Mach.mkPkt (m : Mach) (flags vc part dst queue seq operand : Nat) (payload : List Byte) : Pkt :=
  let p := pad16 payload
  { ver := 1, rsv0 := 0, flags := BitVec.ofNat 16 flags, rsv4 := 0, vc := BitVec.ofNat 2 vc,
    part := Fin.ofNat 16 part, dst := BitVec.ofNat 20 dst, rsv8 := 0, src := BitVec.ofNat 20 m.node, rsv12 := 0,
    queue := BitVec.ofNat 14 queue, plen := BitVec.ofNat 16 (p.length / 16), seq := BitVec.ofNat 32 seq,
    phase := m.phs.phase, operand := BitVec.ofNat 32 operand, payload := p, tag := [] }

/-- The virtual channel of an opcode (R108); none for a reserved code. -/
def vcOf (opc : Nat) : Option Nat :=
  match opc with
  | 0x01 | 0x02 | 0x31 | 0x50 | 0x51 | 0x53 | 0x70 => some 2
  | 0x03 | 0x12 | 0x24 | 0x32 | 0x52 | 0x54 | 0x60 | 0x61 | 0x7F => some 1
  | 0x10 | 0x11 | 0x20 | 0x21 | 0x22 | 0x23 | 0x30 | 0x40 => some 0
  | 0x71 => some 3
  | _ => none

/-- The responses (R107). -/
def isResponse (opc : Nat) : Bool := [0x03, 0x12, 0x24, 0x60, 0x61, 0x52, 0x54].contains opc

/-! ### The envelope (R122 to R125) -/

/-- The GCM nonce (R123). -/
def nonceOf (opc : BitVec 8) (k : Pkt) : Bytes :=
  toNats (leBytes 4 k.seq.toNat ++ leBytes 2 (k.queue.toNat + (if isResponse opc.toNat then 0x8000 else 0)) ++
    leBytes 3 k.src.toNat ++ leBytes 1 k.part.val ++ leBytes 2 0)

/-- The partition that holds key-store slot `s` (R566): the slot lies in its range. -/
def Mach.keyOwner (m : Mach) (s : Nat) : Option Nat :=
  (m.own.keys.find? (fun e => e.2.1 ≤ s && s < e.2.1 + e.2.2)).map (·.1)

/-- A slot that is LOADED, has attribute bit `a`, belongs to `p` and whose tag holds: its value (R571). -/
def Mach.slotKey (m : Mach) (p s a : Nat) : Option (List Byte) :=
  match tfind m.keys s with
  | some k => if k.state = 1 && k.attr.testBit a && k.tagOk && !m.flt.dead && m.keyOwner s = some p then some k.value else none
  | none => none

/-- The current link key of partition `p` (R480), if one is installed. -/
def Mach.linkKey (m : Mach) (p : Nat) : Option (List Byte) :=
  if m.bit (A.HRMP_LKEY_CUR p) 31 then m.slotKey p (m.fld (A.HRMP_LKEY_CUR p) 8 0) 0 else none

/-- The alternate link key of partition `p` (R480). -/
def Mach.altKey (m : Mach) (p : Nat) : Option (List Byte) :=
  if m.bit (A.HRMP_LKEY_ALT p) 31 then m.slotKey p (m.fld (A.HRMP_LKEY_ALT p) 8 0) 0 else none

/-- The packet sealed under the partition's link key where one is installed (R480); the AAD is the
header as sent, with ENC set (R122). -/
def Mach.sealPkt (m : Mach) (opc : BitVec 8) (k : Pkt) : Pkt :=
  match m.linkKey k.part.val with
  | some key =>
    let k := { k with flags := k.flags ||| 8 }
    let (c, t) := gcmSeal (toNats key) (nonceOf opc k) (toNats (hdrBytes opc k)) (toNats k.payload)
    { k with payload := toBytes c, tag := toBytes t }
  | none => k

/-! ### Routes (R439) -/

/-- Address of route entry `e` of table `t`: ring port 0 to 7, or 8 for frames the hub originates. -/
def routeAddr (t e : Nat) : Nat := if t = 8 then 0x304100 + 8 * e else A.ROUTE_LO t e

/-- The egress code a table gives: PRI while its port is up and the entry is not folded, else ALT (R439). -/
def Mach.routeEntry (m : Mach) (t e : Nat) : Nat :=
  let pri := m.fld (routeAddr t e) 27 24
  if (pri ≥ 8 || m.ringUp pri) && !m.net.folded.contains (64 * t + e) then pri else m.fld (routeAddr t e) 23 20

/-- The egress of a frame for node `dst` that table `t` governs: 8 local; none where it is rewound (R439). -/
def Mach.route (m : Mach) (t dst : Nat) : Option Nat :=
  if dst = m.node then some 8
  else
    match (List.range 64).find? (fun e =>
        m.bit (routeAddr t e) 31 && m.fld (routeAddr t e) 19 0 ≤ dst && dst ≤ m.fld (routeAddr t e + 4) 19 0) with
    | none => none
    | some e =>
      let g := m.routeEntry t e
      if g = 8 then some 8 else if g < 8 && m.ringUp g then some g else none

/-- BRL_NOROUTE of the port whose table is `t`; the hub's table lies in port 0's pages (log entry 12). -/
def Mach.noRoute (m : Mach) (t : Nat) : Mach := m.bump (A.BRL_NOROUTE (if t = 8 then 0 else t))

/-! ### Sending -/

/-- A frame takes its place behind those that wait. -/
def Mach.enqueue (m : Mach) (f : TxFrame) : Mach := { m with net := { m.net with txq := m.net.txq ++ [f] } }

/-- A packet of the hub leaves for `dst` over the ring by the hub's table; port 31 marks local delivery (R439). -/
def Mach.sendRing (m : Mach) (opc : BitVec 8) (k : Pkt) (recovery : Bool) : Mach :=
  match m.route 8 k.dst.toNat with
  | none => m.noRoute 8
  | some g => m.enqueue { port := if g = 8 then 31 else g, vc := k.vc.toNat, opc := opc, pkt := k,
                          dest := none, transit := none, recovery := recovery }

/-- A packet of the hub leaves the way of `ing`: over the ring by route, or on the ingest port it names. -/
def Mach.sendTo (m : Mach) (ing : Ingress) (opc : BitVec 8) (k : Pkt) : Mach :=
  match ing with
  | .ring _ => m.sendRing opc k false
  | .eth n _ _ _ _ => m.enqueue { port := 8 + n.val, vc := k.vc.toNat, opc := opc, pkt := k, dest := some ing,
                                  transit := none, recovery := false }

/-- The response `opc` to request `k` (R107): flags UNSEQUENCED, FIRST, LAST, POSTED; SEQ the queue's
response counter; sealed unless `clear`. A tenant without a link key can send no sealed packet (R125). -/
def Mach.respondWith (m : Mach) (clear : Bool) (ing : Ingress) (k : Pkt) (opc : BitVec 8) (payload : List Byte) : Mach :=
  if !clear && k.part ≠ 0 && (m.linkKey k.part.val).isNone then m
  else
  let q := k.queue.toNat
  let ctr := tget m.net.rspCtr q 0
  let r := m.mkPkt 0x93 1 k.part.val k.src.toNat q ctr k.seq.toNat payload
  let r := if clear then r else m.sealPkt opc r
  ({ m with net := { m.net with rspCtr := tset m.net.rspCtr q (ctr + 1) } }).sendTo ing opc r

/-- A sealed response. -/
def Mach.respond (m : Mach) (ing : Ingress) (k : Pkt) (opc : BitVec 8) (payload : List Byte) : Mach :=
  m.respondWith false ing k opc payload

/-- The payload of an ACK (R119). -/
def ackPayload (value : Nat) : List Byte := leBytes 8 value ++ leBytes 8 0

/-- The payload of a NAK (R120). -/
def nakPayload (reason : Nat) (opc : BitVec 8) (detail : Nat) : List Byte :=
  leBytes 1 reason ++ [opc] ++ leBytes 6 0 ++ leBytes 8 detail

/-- The opcodes whose response column in R108 reads "always". -/
def alwaysAnswered (opc : Nat) : Bool := [0x01, 0x11, 0x22, 0x23, 0x51, 0x53].contains opc

/-- An ACK where the request asks for one (R102). -/
def Mach.ack (m : Mach) (ing : Ingress) (k : Pkt) (value : Nat) : Mach :=
  if k.ackReq then m.respond ing k 0x60 (ackPayload value) else m

/-- A NAK, unless the request is POSTED (R102); an RNR that is sent counts in HRMP_RNR (R491). -/
def Mach.nakWith (m : Mach) (clear : Bool) (ing : Ingress) (opc : BitVec 8) (k : Pkt) (reason detail : Nat) : Mach :=
  if k.posted && !k.ackReq && !alwaysAnswered opc.toNat then m
  else
    let m := if reason = 7 then m.bump (A.HRMP_RNR k.part.val) else m
    m.respondWith clear ing k 0x61 (nakPayload reason opc detail)

def Mach.nak (m : Mach) (ing : Ingress) (opc : BitVec 8) (k : Pkt) (reason detail : Nat) : Mach :=
  m.nakWith false ing opc k reason detail

/-! ### RING_CTL packets (R448) -/

/-- A RING_CTL packet of this node. -/
def Mach.ringCtl (m : Mach) (op flags ttl arg0 arg1 dst : Nat) : Pkt :=
  m.mkPkt 0x93 3 0 dst 0 0 0 (leBytes 1 op ++ leBytes 1 flags ++ leBytes 2 ttl ++ leBytes 4 arg0 ++ leBytes 8 arg1)

/-- A broadcast that this node originates leaves on each port of BRL_BCAST_ORIG that is up (R440). -/
def Mach.broadcast (m : Mach) (op flags ttl arg0 arg1 : Nat) : Mach :=
  (List.range 8).foldl (fun a n =>
    if m.bit A.BRL_BCAST_ORIG n && m.ringUp n then
      a.enqueue { port := n, vc := 3, opc := 0x71, pkt := m.ringCtl op flags ttl arg0 arg1 0xFFFFF, dest := none,
                  transit := none, recovery := flags.testBit 0 }
    else a) m

/-! ### Queue register blocks (R406 to R416) -/

/-- The slot width of a queue block at resolved address `b` (without selector): CAP_LOG2, ISIZE, LOSSY and
whether software consumes it (R406, R415 and the blocks' chapters). -/
def queueKind (m : Mach) (b : Nat) : Nat × Nat × Bool × Bool :=
  let a := b % 2 ^ 24
  if a = 0x022020 then (9, 2, true, true)
  else if a = 0x091040 then (8, 4, true, true)
  else if 0x100000 ≤ a && a < 0x110000 then (m.fld (A.TRACE_CFG ((a - 0x100000) / 0x1000)) 20 16, 4, true, true)
  else if 0x037000 ≤ a && a < 0x038000 then (6, 1, true, false)
  else if 0x300000 ≤ a && a < 0x340000 then
    (match (a % 0x1000 - 0x40) / 0x20 with | 0 => 14 | 1 => 14 | 2 => 8 | _ => 4, 0, false, false)
  else (15, 0, false, false)

/-- Occupancy in slots (R408). -/
def Mach.qOcc (m : Mach) (b : Nat) : Nat :=
  let c := 2 ^ ((queueKind m b).1 + 1)
  (m.fld (A.Q_PTR b) 31 16 + c - m.fld (A.Q_PTR b) 15 0 % c) % c

/-- The producer sees a free slot: not full and not stopped (R409, R415). -/
def Mach.qRoom (m : Mach) (b : Nat) : Bool :=
  m.qOcc b < 2 ^ (queueKind m b).1 && !m.bit (A.Q_CTL b) 1

/-- The number of the slot that the write pointer names. -/
def Mach.qSlot (m : Mach) (b : Nat) : Nat := m.fld (A.Q_PTR b) 31 16 % 2 ^ (queueKind m b).1

/-- `n` slots committed as one item: the write pointer moves, the item counts, HWM follows (R410, R415). -/
def Mach.qCommit (m : Mach) (b n : Nat) : Mach :=
  let c := 2 ^ ((queueKind m b).1 + 1)
  let m := (m.put (A.Q_PTR b) 31 16 ((m.fld (A.Q_PTR b) 31 16 + n) % c)).bump (A.Q_ITEMS b)
  m.put (A.Q_CAP b) 31 16 (max (m.fld (A.Q_CAP b) 31 16) (m.qOcc b))

/-- `n` slots consumed: the read pointer moves. -/
def Mach.qConsume (m : Mach) (b n : Nat) : Mach :=
  let c := 2 ^ ((queueKind m b).1 + 1)
  m.put (A.Q_PTR b) 15 0 ((m.fld (A.Q_PTR b) 15 0 + n) % c)

/-- A MARKER item of `n` bytes for a gap (R414). -/
def markerItem (n count : Nat) (first : DWord) : List Byte :=
  (([0xFF, 0, 0, 0] : List Byte) ++ leBytes 4 count ++ leBytes 8 first.toNat ++ List.replicate (n - 16) 0)

/-- An item of a lossy queue held on the hub, stored in the next slot. -/
def Mach.qStore (m : Mach) (b : Nat) (item : List Byte) : Mach :=
  ({ m with qitems := tset m.qitems (2 ^ 16 * b + m.qSlot b) item }).qCommit b 1

/-- The gap marker, where one is due and a slot is free (R413, first part). `store` writes an item. -/
def Mach.lossyMark (m : Mach) (b : Nat) (store : Mach → List Byte → Mach) : Mach :=
  match tfind m.net.gaps b with
  | some (n, ph) =>
    if n ≠ 0 && m.qRoom b then
      store { m with net := { m.net with gaps := terase m.net.gaps b } } (markerItem (16 * (queueKind m b).2.1) n ph)
    else m
  | none => m

/-- An item arrives at a lossy queue: marker first, then the item, or a drop (R413). -/
def Mach.lossyPush (m : Mach) (b : Nat) (item : List Byte) (store : Mach → List Byte → Mach) : Mach :=
  let m := m.lossyMark b store
  if m.qRoom b then store m item
  else
    let (n, ph) := tget m.net.gaps b (0, m.phs.phase)
    ({ m with net := { m.net with gaps := tset m.net.gaps b (min (n + 1) (2 ^ 32 - 1), ph) } }).bump (A.Q_DROPS b)

/-- The read view of Q_STS (R415). -/
def Mach.qSts (m : Mach) (b : Nat) (limit : Nat) : Nat :=
  let occ := m.qOcc b
  let full := m.bit (A.Q_CTL b) 1 || limit ≤ occ
  occ * 2 ^ 16 + 16 * m.fld (A.Q_STS b) 4 4 + 8 * b2n ((tfind m.net.gaps b).isSome) +
    4 * b2n (m.net.flushing.contains b) + 2 * b2n full + b2n (occ = 0)

end Sys2Proof.Machine
end

