-- ==== Sys2Proof/Machine/Phase.lean ====
section
/-! DEFINITION. The ring phase: tick edges, election, beacons and lock, PHASE_REF, the epoch advance
(R34 to R63, R702). The comparators' firing stands in Comparators, since its actions reach other blocks. -/
namespace Sys2Proof.Machine

/-- The slot-table byte that governs port `j` in the current slot by its active table (R61, R67). -/
def Mach.slotByte (m : Mach) (j : Nat) : Nat :=
  let s := bitsOf m.ticks 17 10
  m.lane (A.SLOT_TABLE j s) (s % 4)

/-- Every port takes the owner of the slot that begins (R62). -/
def Mach.latchSlots (m : Mach) : Mach :=
  { m with slotOwn := (List.range 24).map (fun j => (j, m.slotByte j)) }

/-- The owner in force at port `j` (0 to 7 ring, 8 to 23 ingest): none for a shared slot (R61, R62). -/
def Mach.slotOwner (m : Mach) (j : Nat) : Option Nat :=
  let b := tget m.slotOwn j 0x10
  if b.testBit 4 then none else some (b % 16)

/-- Moves the PHS block to a state (R46); PHS_CTL.ACQ reads 1 until the state leaves ACQUIRE (R65). -/
def Mach.setPhsState (m : Mach) (st : Nat) : Mach :=
  (m.put A.PHS_STS 2 0 st).putBit A.PHS_CTL 0 (st = 1)

/-- The phase is loaded with `v` at this edge, at most its greatest value (R36): a load is no advance (R47, R59, R702). -/
def Mach.loadPhase (m : Mach) (v : Nat) : Mach :=
  ({ m with phs := { m.phs with phase := BitVec.ofNat 64 (min v (2 ^ 64 - 1)), corr := .none, loaded := true, slotEdge := false,
                                frameEdge := false } }).latchSlots

/-- A beacon loads the phase (R46, R47). It is the last event of class 5 (R51), so the comparators first see
the load at the next edge (R702). -/
def Mach.adopt (m : Mach) (v : Nat) : Mach :=
  let m := m.loadPhase v
  { m with phs := { m.phs with loadNext := true } }

/-! ### TICK_EDGE -/

/-- Ticks by which this edge advances the phase (R36, R44). -/
def Corr.step : Corr → Nat
  | .none => 1
  | .double => 2
  | .hold => 0

/-- A slot boundary crossed by advancing counts for the throttle level's pause and for telemetry (R59, R701). -/
def Mach.countSlot (m : Mach) : Mach :=
  { m with sys := { m.sys with sinceL := m.sys.sinceL + 1, slots := m.sys.slots + 1, telCount := m.sys.telCount + 1 } }

/-- The boundary at which the epoch advances is reached by a load and counts for neither (R47, R59). -/
def Mach.uncountSlot (m : Mach) : Mach :=
  { m with sys := { m.sys with sinceL := m.sys.sinceL - 1, slots := m.sys.slots - 1, telCount := m.sys.telCount - 1 } }

/-- The tick edge (R36, R37, R44): the phase advances and saturates; the pass of the edge begins. -/
def Mach.tickEdge (m : Mach) : Mach :=
  let old := m.phase
  let new := min (old + m.phs.corr.step) (2 ^ 64 - 1)
  let run := m.running
  let m1 := { m with
    phs := { m.phs with
      phase := BitVec.ofNat 64 new, corr := .none, edges := m.phs.edges + 1, loaded := m.phs.loadNext, loadNext := false,
      firstRun := run && !m.phs.ranLast, ranLast := run,
      runFrom := if run && !m.phs.ranLast then new else m.phs.runFrom,
      slotEdge := old / 1024 ≠ new / 1024, frameEdge := old / 2 ^ 18 ≠ new / 2 ^ 18 },
    regs := { m.regs with updNow := m.regs.updNext, updNext := 0 },
    gone := [] }
  let m2 := if new = 2 ^ 64 - 1 then m1.putBit A.PHS_STS 7 true else m1
  let m3 := if (m2.phs.edges - m2.phs.lastAcc) % 256 = 0 then m2.bumpF A.PHS_MISS 15 0 1 else m2
  if m3.phs.slotEdge then m3.latchSlots.countSlot else m3

/-- In the clock-stop state there is no tick edge (R618, R688). -/
def execTickEdge (s : State) : Host.Outcome State Fault Refusal :=
  s.onMach (fun m => if m.fld A.PWR_STS 1 0 = 1 then m else m.tickEdge)

/-! ### Writes of PHS registers (effects once the access is let through) -/

/-- PHS_CFG (R35, R39): TICK changes only in FREE; clearing MASTER_EN on a master enters HOLDOVER. -/
def Mach.writePhsCfg (m : Mach) (v : Nat) : Mach :=
  let a := A.PHS_CFG
  let differs := bitsOf v 1 0 ≠ m.fld a 1 0
  let free := m.phsState = 0
  let m := if differs && !free then m.putBit A.PHS_STS 5 true else m
  let m := if differs && free then m.put a 1 0 (bitsOf v 1 0) else m
  let m := ((m.put a 31 24 (bitsOf v 31 24)).put a 8 8 (bitsOf v 8 8)).put a 4 4 (bitsOf v 4 4)
  if m.phsState = 4 && !bitOf v 4 then m.setPhsState 3 else m

/-- PHS_CTL.ACQ (R46): FREE to ACQUIRE; in any other state the write has no effect. -/
def Mach.writeAcq (m : Mach) (v : Nat) : Mach :=
  if bitOf v 0 && m.phsState = 0 then
    ({ m with phs := { m.phs with silentFrom := m.phs.edges, cand := none } }).setPhsState 1
  else m

/-- PHS_EPOCH_SET (R47): armed, or refused with CFGREJ on a node that is not master and for an epoch that
does not exceed the current one. -/
def Mach.writeEpochSet (m : Mach) (v : Nat) : Mach :=
  let m := m.put A.PHS_EPOCH_SET 15 0 (bitsOf v 15 0)
  if bitOf v 31 then
    if m.phsState = 4 && bitsOf m.phase 63 48 < bitsOf v 15 0 then m.putBit A.PHS_EPOCH_SET 31 true
    else (m.putBit A.PHS_EPOCH_SET 31 false).putBit A.PHS_STS 5 true
  else m.putBit A.PHS_EPOCH_SET 31 false

/-- EPOCH_ADVANCE is due: armed, at a frame boundary (R47). -/
def Mach.epochDue (m : Mach) : Bool := m.bit A.PHS_EPOCH_SET 31 && m.phs.frameEdge

/-- The epoch advance (R47): the master loads (new epoch, tick 0) and its next beacon carries EPOCH_ADV; on
a node that is not master, or for an epoch not above the current one, it is refused. -/
def Mach.epochAdvance (m : Mach) : Mach :=
  let e := m.fld A.PHS_EPOCH_SET 15 0
  let m := m.putBit A.PHS_EPOCH_SET 31 false
  if m.phsState = 4 && bitsOf m.phase 63 48 < e then
    let m := m.uncountSlot.loadPhase (e * 2 ^ 48)
    { m with phs := { m.phs with advFlag := true } }
  else m.putBit A.PHS_STS 5 true

def execEpochAdvance (s : State) : Host.Outcome State Fault Refusal :=
  s.onMach (fun m => if m.epochDue then m.epochAdvance else m)

/-! ### PHASE_REF (R40, R41) -/

/-- One-tick correction for a difference d (R44). -/
def corrOf (d : Int) : Corr := if d ≥ 1 then .double else if d ≤ -1 then .hold else .none

/-- PHASE_DEV (R45, R41): raised when |d| exceeds MAXDEV, and again only after |d| has come back. -/
def Mach.checkDev (m : Mach) (d : Int) : Mach :=
  if d.natAbs > m.fld A.PHS_CFG 31 24 then
    if m.phs.devArmed then
      ({ m with phs := { m.phs with devArmed := false } }).raiseFault 0x72 0x125 (BitVec.ofInt 32 d).toNat
    else m
  else { m with phs := { m.phs with devArmed := true } }

/-- Ticks per PHASE_REF edge; 0 is treated as 1 (R65). -/
def Mach.refPer (m : Mach) : Nat := max 1 (m.rd A.PHS_REF_PER).toNat

/-- The nearest multiple of `per` to `t` (R40); the tie is open (Config.refTieUp, log entry 4). -/
def nearestMultiple (per t key : Nat) : Nat :=
  let lo := t / per * per
  if 2 * (t - lo) < per || (2 * (t - lo) = per && !Config.refTieUp key) then lo else lo + per

/-- The tick count moves forward to `t` (R40): the boundaries it passes are crossed at this edge (R37). -/
def Mach.alignTicks (m : Mach) (t : Nat) : Mach :=
  let old := m.phase
  let new := min (old - m.ticks + t) (2 ^ 64 - 1)
  let cross : Bool := old / 1024 ≠ new / 1024
  let m := { m with phs := { m.phs with phase := BitVec.ofNat 64 new, slotEdge := m.phs.slotEdge || cross,
                                        frameEdge := m.phs.frameEdge || old / 2 ^ 18 ≠ new / 2 ^ 18 } }
  if cross then m.latchSlots else m

/-- A PHASE_REF edge on a master with REF_EN (R40): aligns before the first beacon, corrects after it. -/
def Mach.phaseRefEdge (m : Mach) : Mach :=
  let per := m.refPer
  let now := m.phs.edges
  let prev := m.phs.lastRef
  let m := ({ m with phs := { m.phs with lastRef := some now } }).putBit A.PHS_STS 4 true
  if m.phs.beaconed then
    let t := m.ticks
    let d : Int := (nearestMultiple per t now : Int) - (t : Int)
    let m := m.checkDev d
    { m with phs := { m.phs with corr := corrOf d } }
  else if prev = some (now - per) && per ≤ now then
    m.alignTicks (cdiv m.ticks per * per)
  else m

def execPhaseRefEdge (s : State) : Host.Outcome State Fault Refusal :=
  s.onMach (fun m => if m.phsState = 4 && m.bit A.PHS_CFG 8 then m.phaseRefEdge else m)

/-- Four periods have passed without an edge (R40). -/
def Mach.refLostDue (m : Mach) : Bool :=
  m.phsState = 4 && m.bit A.PHS_CFG 8 && m.bit A.PHS_STS 4 &&
    4 * m.refPer ≤ m.phs.edges - m.phs.lastRef.getD 0

/-- PHASE_REF is lost (R40): REFOK clears, PHASE_REF_LOST is raised, the phase runs free. -/
def Mach.phaseRefLost (m : Mach) : Mach :=
  (({ m with phs := { m.phs with lastRef := none } }).putBit A.PHS_STS 4 false).raiseFault 0x70 0x125 0

def execPhaseRefLost (s : State) : Host.Outcome State Fault Refusal :=
  s.onMach (fun m => if m.refLostDue then m.phaseRefLost else m)

/-! ### Beacons (R39, R42 to R47) -/

/-- The payload of a beacon (R42). -/
def beaconPayload (delay hops tick : Nat) (adv refLocked : Bool) : List Byte :=
  leBytes 4 delay ++ leBytes 2 hops ++ leBytes 1 (tick + 4 * b2n adv + 8 * b2n refLocked) ++ leBytes 9 0

/-- A beacon frame on ring port `n`. -/
def beaconFrame (n : Nat) (k : Pkt) : TxFrame :=
  { port := n, vc := 2, opc := 0x70, pkt := k, dest := none, transit := none, recovery := false }

/-- The master emits at every edge whose tick count is a multiple of 256 (R42), once a tick: a tick of two periods (R44) is one. -/
def Mach.beaconDue (m : Mach) : Bool :=
  m.phsState = 4 && m.ticks % 256 = 0 && m.phs.emittedAt ≠ some m.phase

/-- A beacon of this master leaves on every ring port that is up (R42). -/
def Mach.beaconEmit (m : Mach) : Mach :=
  let k := m.mkPkt 0x93 2 0 0xFFFFF 0 0 0
    (beaconPayload 0 0 (m.fld A.PHS_CFG 1 0) m.phs.advFlag (m.bit A.PHS_CFG 8 && m.bit A.PHS_STS 4))
  let m := (List.range 8).foldl (fun a n => if a.ringUp n then a.enqueue (beaconFrame n k) else a) m
  { m with phs := { m.phs with beaconed := true, emittedAt := some m.phase, advFlag := false } }

def execBeaconEmit (s : State) : Host.Outcome State Fault Refusal :=
  s.onMach (fun m => if m.beaconDue then m.beaconEmit else m)

/-- The beacons heard within the last 2,048 ticks (R43). -/
def Mach.heardNow (m : Mach) : List Heard := m.phs.heard.filter (fun h => m.phs.edges < h.edge + 2048)

/-- The lowest SRC among beacons heard, or `d` where there is none. -/
def lowestSrc (l : List Heard) (d : Nat) : Nat :=
  match l with
  | [] => d
  | h :: r => r.foldl (fun a x => min a x.src) h.src

/-- The port on which `src` is heard with the smallest HOPS, ties to the lower port (R43). -/
def upstreamPort (l : List Heard) (src : Nat) : Nat :=
  let mine := l.filter (fun h => h.src = src)
  let best := mine.foldl (fun a h => min a h.hops) 0xFFFF
  (((List.range 8).find? (fun n => mine.any (fun h => h.port = n && h.hops = best)))).getD 0

/-- A master that hears a lower SRC follows it: in LOCKED, with the interval of R46 beginning here, or in HOLDOVER where the
TICK code keeps the beacon from being accepted (R39, R46, log entry 14). -/
def Mach.stepDown (m : Mach) (matched : Bool) : Mach :=
  if matched then ({ m with phs := { m.phs with lastAcc := m.phs.edges } }).setPhsState 2 else m.setPhsState 3

/-- A beacon is heard for election (R39, R43); `matched` where its TICK code is this node's. -/
def Mach.hear (m : Mach) (n src hops : Nat) (matched : Bool) : Mach :=
  let l := (m.phs.heard.filter (fun h => h.port ≠ n || h.src ≠ src)).filter (fun h => m.phs.edges < h.edge + 2048)
  let l := l ++ [{ port := n, src := src, hops := hops, edge := m.phs.edges }]
  let cur := lowestSrc l src
  let m := { m with phs := { m.phs with heard := l, silentFrom := if src < m.node then m.phs.edges else m.phs.silentFrom } }
  -- a master that hears no lower SRC is its own current master (log entry 14)
  let m := if m.phsState = 4 && m.node ≤ cur then m
    else (m.put A.PHS_MASTER 19 0 cur).put A.PHS_MASTER 31 28 (upstreamPort l cur)
  if m.phsState = 4 && src < m.node then m.stepDown matched else m

/-- An upstream beacon goes on to every other ring port that is up (R43). -/
def Mach.forwardBeacon (m : Mach) (n : Nat) (k : Pkt) (resid : Nat) : Mach :=
  let delay := fieldAt k.payload 0 4
  let hops := fieldAt k.payload 4 2
  if hops = 0xFFFF then m
  else
    let k' := { k with payload := leBytes 4 (delay + (m.rd (A.PHS_LINKDLY n)).toNat + resid) ++ leBytes 2 (hops + 1) ++
                         k.payload.drop 6 }
    (List.range 8).foldl (fun a i => if i ≠ n && a.ringUp i then a.enqueue (beaconFrame i k') else a) m

/-- d, saturated to 16 bits, as PHS_OFFSET.D records it (R44). -/
def satD (d : Int) : Nat := (BitVec.ofInt 16 (max (-32768) (min 32767 d))).toNat

/-- The expected phase of a beacon (R44). -/
def Mach.expectedPhase (m : Mach) (n : Nat) (k : Pkt) : Nat :=
  let cpt := 64 * 2 ^ m.fld A.PHS_CFG 1 0
  k.phase.toNat + (fieldAt k.payload 0 4 + (m.rd (A.PHS_LINKDLY n)).toNat) / cpt

/-- The records of an accepted beacon (R44, R65). -/
def Mach.acceptRecord (m : Mach) (k : Pkt) (d : Int) : Mach :=
  let m := ((m.put A.PHS_OFFSET 31 16 (fieldAt k.payload 4 2)).put A.PHS_OFFSET 15 0 (satD d)).put A.PHS_MISS 15 0 0
  ({ m with phs := { m.phs with lastAcc := m.phs.edges } }).putBit A.PHS_STS 6 false

/-- A beacon of the current master from the upstream port with a matching TICK code (R44 to R47). -/
def Mach.acceptBeacon (m : Mach) (n : Nat) (k : Pkt) : Mach :=
  let src := k.src.toNat
  let e := m.expectedPhase n k
  let d : Int := (e : Int) - (m.phase : Int)
  match m.phsState with
  | 1 =>
    -- ACQUIRE: the second of two consistent beacons, 256 ticks apart, loads the phase (R46)
    let good : Bool := match m.phs.cand with
      | some (s0, p0, e0, n0) =>
        s0 = src && k.phase.toNat = p0 + 256 && ((e : Int) - e0 - ((m.phs.edges : Int) - n0)).natAbs ≤ 1
      | none => false
    if good then
      ((m.acceptRecord k d).adopt e).setPhsState 2
    else { m with phs := { m.phs with cand := some (src, k.phase.toNat, e, m.phs.edges) } }
  | 2 | 3 =>
    let m := (m.checkDev d).acceptRecord k d
    let m := m.setPhsState 2
    if bitOf (fieldAt k.payload 6 1) 2 then m.adopt e
    else { m with phs := { m.phs with corr := corrOf d } }
  | _ => m

/-- A beacon of another node received on ring port `n` (R39, R43 to R47). -/
def Mach.beaconHeard (m : Mach) (n : Nat) (k : Pkt) (resid : Nat) : Mach :=
  let src := k.src.toNat
  let matched : Bool := bitsOf (fieldAt k.payload 6 1) 1 0 = m.fld A.PHS_CFG 1 0
  let m := m.hear n src (fieldAt k.payload 4 2) matched
  let current : Bool := src = m.fld A.PHS_MASTER 19 0
  let upstream := current && n = m.fld A.PHS_MASTER 31 28
  let m := if current && !matched then m.putBit A.PHS_STS 6 true else m
  let m := if upstream then m.forwardBeacon n k resid else m
  if upstream && matched then m.acceptBeacon n k else m

/-- A beacon received on ring port `n`; the node's own, come back round the ring, is none to hear (log entry 14). -/
def Mach.beaconIn (m : Mach) (n : Nat) (k : Pkt) (resid : Nat) : Mach :=
  if k.src.toNat = m.node then m else m.beaconHeard n k resid

/-! ### Election and loss of lock -/

/-- A node with MASTER_EN that has heard no lower beacon for 2,048 ticks (R39, R46). -/
def Mach.electionDue (m : Mach) : Bool :=
  let st := m.phsState
  (st = 1 || st = 2 || st = 3) && m.bit A.PHS_CFG 4 && m.phs.silentFrom + 2048 ≤ m.phs.edges &&
    m.heardNow.all (fun h => m.node ≤ h.src)

/-- It enters MASTER, keeping its phase, and is its own current master (log entry 14). -/
def Mach.becomeMaster (m : Mach) : Mach :=
  -- where no state was running before, this is the first edge of the stretch (R702)
  let first := !m.running
  let m := ({ m with phs := { m.phs with beaconed := false, lastRef := none, corr := .none, firstRun := m.phs.firstRun || first,
                                         ranLast := m.phs.ranLast || first, runFrom := if first then m.phase else m.phs.runFrom } }).setPhsState 4
  m.wr A.PHS_MASTER (BitVec.ofNat 32 m.node)

def execBecomeMaster (s : State) : Host.Outcome State Fault Refusal :=
  s.onMach (fun m => if m.electionDue then m.becomeMaster else m)

/-- 1,152 ticks in LOCKED without an accepted beacon (R46). -/
def Mach.phaseLostDue (m : Mach) : Bool := m.phsState = 2 && m.phs.lastAcc + 1152 ≤ m.phs.edges

/-- PHASE_LOST is raised and the state becomes HOLDOVER (R46). -/
def Mach.phaseLost (m : Mach) : Mach :=
  ((m.setPhsState 3).bumpF A.PHS_MISS 31 16 1).raiseFault 0x71 0x125 (m.fld A.PHS_MISS 15 0)

def execPhaseLost (s : State) : Host.Outcome State Fault Refusal :=
  s.onMach (fun m => if m.phaseLostDue then m.phaseLost else m)

/-! ### Comparator registers (R55 to R57) -/

/-- The owner of comparator `c` (R57, R65). -/
def Mach.cmpOwner (m : Mach) (c : Nat) : Nat := m.fld (A.PHS_CMP_OWN (c / 8)) (4 * (c % 8) + 3) (4 * (c % 8))

/-- The late mark of comparator `c` (64 for GLB_UPD_AT): armed with a target at or below the phase of the
edge whose pass handled the write (R702). -/
def Mach.markArm (m : Mach) (c target : Nat) : Mach :=
  let l := m.phs.lateArm.filter (· ≠ c)
  { m with phs := { m.phs with lateArm := if target ≤ m.phase then c :: l else l } }

/-- A write of a comparator's CTL (R56, R66). -/
def Mach.writeCmpCtl (m : Mach) (c v : Nat) : Mach :=
  let a := A.CMP_CTL c
  let m := m.put a 15 0 (bitsOf v 15 0)
  let m := if bitOf v 28 then m.putBit a 28 false else m
  if bitOf v 31 then
    (((m.putBit a 31 true).putBit a 30 false).putBit a 29 false).markArm c (m.rd64 (A.CMP_TARGET_LO c))
  else m.putBit a 31 false

/-- A write of PHS_CMP_OWNn clears ARMED of each comparator whose owner it changes (R57). -/
def Mach.writeCmpOwn (m : Mach) (n v : Nat) : Mach :=
  (List.range 8).foldl (fun a k =>
    let new := bitsOf v (4 * k + 3) (4 * k)
    if a.cmpOwner (8 * n + k) = new then a
    else (a.put (A.PHS_CMP_OWN n) (4 * k + 3) (4 * k) new).putBit (A.CMP_CTL (8 * n + k)) 31 false) m

/-- LATE at a firing (R702). -/
def Mach.isLate (m : Mach) (c target : Nat) : Bool :=
  m.phs.lateArm.contains c || (m.phs.loaded && target < m.phase) || (m.phs.firstRun && target < m.phase)

end Sys2Proof.Machine
end

