-- ==== Sys2Proof/Machine/Brl.lean ====
section
/-! DEFINITION. Brehioft Ring Link: fragments, frames, credits, egress order, routing, training, failure
and fold, RING_CTL (R418 to R459). -/
namespace Sys2Proof.Machine

/-! ### Fragments (R424) -/

/-- CRC-16, polynomial 0x1021, initial value 0xFFFF, no reflection, no final XOR (R424). -/
def crc16 (b : List Byte) : Nat :=
  b.foldl (fun c x => (List.range 8).foldl (fun c _ =>
    if c.testBit 15 then (2 * c % 65536) ^^^ 0x1021 else 2 * c % 65536) (c ^^^ (x.toNat <<< 8))) 0xFFFF


end Sys2Proof.Machine

namespace Sys2Proof
open Machine

/-! Fields of a fragment tag (R424). -/
def Frag.typ (x : Frag) : Nat := bitsOf x.tag.toNat 1 0
def Frag.first (x : Frag) : Bool := x.tag.toNat.testBit 4
def Frag.last (x : Frag) : Bool := x.tag.toNat.testBit 5
def Frag.vc (x : Frag) : Nat := bitsOf x.tag.toNat 7 6
def Frag.nbytes (x : Frag) : Nat := if bitsOf x.tag.toNat 15 10 = 0 then 64 else bitsOf x.tag.toNat 15 10
def Frag.crcOk (x : Frag) : Bool := crc16 (leBytes 2 x.tag.toNat ++ x.body) = bitsOf x.tag.toNat 31 16

end Sys2Proof

namespace Sys2Proof.Machine

/-- Fragments of a frame with a header (R427). -/
def fragsOf (plen : Nat) (enc : Bool) : Nat := cdiv (32 + 16 * plen + 16 * b2n enc) 64

/-- The largest frame of a virtual channel, in fragments (R427). -/
def maxFrags (vc : Nat) : Nat := match vc with | 0 | 1 => 1025 | 2 => 65 | _ => 1

/-- Queue block of the buffer of VC `vc` of ring port `n` (R453). -/
def vcBlock (n vc : Nat) : Nat := 0x302040 + 0x8000 * n + 0x20 * vc

/-- Key of a credit pool or share (R433). VC2 and VC3 have one pool each. -/
def crKey (n vc part : Nat) : Nat := 64 * n + 16 * vc + (if vc < 2 then part else 0)

/-! ### Credits (R433, R435) -/

/-- Credit held towards the partner of port `n` (R433). -/
def Mach.credit (m : Mach) (n vc part : Nat) : Nat :=
  let k := crKey n vc part
  sub32 (tget m.net.crSize k 0 + tget m.net.crRecv k 0) (tget m.net.crSent k 0)

/-- Fragments leave this end's buffer: their credits are freed (R433). -/
def Mach.freeCredits (m : Mach) (n vc part frags : Nat) : Mach :=
  let k := crKey n vc part
  { m with net := { m.net with crFree := tset m.net.crFree k ((tget m.net.crFree k 0 + frags) % 2 ^ 32),
                               crDirty := k :: m.net.crDirty.filter (· ≠ k) } }

/-- Fragments of a frame that waits to go out. -/
def TxFrame.frags (f : TxFrame) : Nat := fragsOf f.pkt.plen.toNat f.pkt.enc

/-- The credit a frame needs at its egress (R435). -/
def Mach.creditNeeded (m : Mach) (f : TxFrame) : Nat :=
  let transit := match f.transit with | some i => m.bit (A.BRL_PORT_CFG f.port) (8 + i) | none => false
  match f.vc with
  | 0 | 1 => if transit then f.frags else f.frags + 1025
  | 2 => if transit then f.frags else f.frags + 65
  | _ => if f.recovery then (if transit then 1 else 2) else (if transit then 3 else 4)

def Mach.hasCredit (m : Mach) (f : TxFrame) : Bool :=
  m.creditNeeded f ≤ m.credit f.port f.vc f.pkt.part.val

/-! ### Egress order (R431, R432, R450) -/

/-- Ring egress is stopped: VC0 to VC2 start no frame (R635). -/
def Mach.egressStopped (m : Mach) : Bool := m.bit A.FLT_EGRESS 0

/-- A waiting frame may start at its egress: credit, and for VC0 and VC1 the slot and the fit (R432). -/
def Mach.ringEligible (m : Mach) (room : Nat) (f : TxFrame) : Bool :=
  m.hasCredit f && (f.vc = 3 || !m.egressStopped) &&
    (2 ≤ f.vc || (f.frags ≤ room && (match m.slotOwner f.port with | some p => p = f.pkt.part.val | none => true)))

/-- The first waiting frame of port `n`, VC `vc` and partition `part`: frames of one VC and one partition
keep their order (R430). -/
def headFrame (q : List TxFrame) (n vc part : Nat) : Option TxFrame :=
  q.find? (fun f => f.port = n && f.vc = vc && f.pkt.part.val = part)

/-- The first waiting frame of port `n` on VC2 or VC3. -/
def headFrameVc (q : List TxFrame) (n vc : Nat) : Option TxFrame := q.find? (fun f => f.port = n && f.vc = vc)

/-- The VC0 or VC1 frame that starts for partition `p`: where both are eligible, the VC that did not start
the last one (R431). -/
def pickVc (last : Nat) (f0 f1 : Option TxFrame) : Option TxFrame :=
  match f0, f1 with
  | some a, some b => if last = 0 then some b else some a
  | some a, none => some a
  | none, b => b

/-- The frame that port `n` starts next (R431, R450). `openVc` is the VC of the frame open at the egress
and `room` the positions left before the next slot boundary. -/
def Mach.nextRingFrame (m : Mach) (n : Nat) (openVc : Option Nat) (room : Nat) : Option TxFrame :=
  let ok (f : Option TxFrame) : Option TxFrame := f.filter (m.ringEligible room)
  match ok (headFrameVc m.net.txq n 3) with
  | some f => some f
  | none =>
    match if openVc = some 2 then none else ok (headFrameVc m.net.txq n 2) with
    | some f => some f
    | none =>
      if openVc.isSome then none
      else
        let cand (p : Nat) : Option TxFrame :=
          pickVc (tget m.net.lastVc n 1) (ok (headFrame m.net.txq n 0 p)) (ok (headFrame m.net.txq n 1 p))
        match m.rotated 16 (fun p => (cand p).isSome) with
        | some p => cand p
        | none => none

/-- The list without the first occurrence of an element. -/
def dropFirst (l : List TxFrame) (f : TxFrame) : List TxFrame :=
  match l with
  | [] => []
  | x :: r => if x = f then r else x :: dropFirst r f

/-- A frame starts at ring port `n`: it leaves the queue and uses its credits (R432, R433). -/
def Mach.startRing (m : Mach) (n : Nat) (f : TxFrame) (preempts : Bool) : Mach :=
  let k := crKey n f.vc f.pkt.part.val
  let m := { m with net := { m.net with
    txq := dropFirst m.net.txq f, sent := m.net.sent ++ [f],
    crSent := tset m.net.crSent k ((tget m.net.crSent k 0 + f.frags) % 2 ^ 32),
    lastVc := if f.vc < 2 then tset m.net.lastVc n f.vc else m.net.lastVc } }
  let m := m.bump (A.BRL_TX_FRAMES n)
  let m := match f.transit with | some i => m.freeCredits i f.vc f.pkt.part.val f.frags | none => m
  if preempts then m.bump (A.BRL_PREEMPT n) else m

/-- An egress starts its next frame, if one may start (R431, R432). -/
def Mach.frameStart (m : Mach) (n : Nat) (openVc : Option Nat) (room : Nat) : Mach :=
  if m.ringUp n then
    match m.nextRingFrame n openVc room with
    | some f => m.startRing n f openVc.isSome
    | none => m
  else m

def execBrlFrameStart (n : Fin 8) (openVc : Option (Fin 4)) (room : Nat) (s : State) :
    Host.Outcome State Fault Refusal :=
  s.onMach (fun m => m.frameStart n.val (openVc.map Fin.val) room)

/-! ### Receive: reassembly, routing, forwarding (R427 to R429, R451) -/

/-- A frame is rewound: counted in Q_BAD and its buffer freed (R410, R428). -/
def Mach.badFrame (m : Mach) (n vc part frags : Nat) : Mach :=
  (m.bump (A.Q_BAD (vcBlock n vc))).freeCredits n vc part frags

/-- A whole good frame that came in on ring port `n` (R428, R434, R439): local frames go to the packet
commands, others wait at their egress. A frame for local delivery is consumed on arrival (R437). -/
def Mach.frameIn (m : Mach) (n vc : Nat) (bytes : List Byte) (frags : Nat) : Mach :=
  let (opc, k) := parsePkt bytes
  let part := k.part.val
  if fragsOf k.plen.toNat k.enc ≠ frags || k.vc.toNat ≠ vc then m.badFrame n vc part frags
  else
    let m := m.bump (A.BRL_RX_FRAMES n)
    if vc < 2 && (m.rd (if vc = 0 then A.BRL_SHARE0 n part else A.BRL_SHARE1 n part)).toNat = 0 then
      (m.bump (A.BRL_SHARE_DROP n)).badFrame n vc part frags
    else
      let m := m.bump (A.Q_ITEMS (vcBlock n vc))
      if k.dst.toNat = 0xFFFFF then m.freeCredits n vc part frags
      else
        match m.route n k.dst.toNat with
        | none => (m.noRoute n).badFrame n vc part frags
        | some 8 => m.freeCredits n vc part frags
        | some g =>
          let recovery := opc = 0x71 && bitOf (fieldAt k.payload 1 1) 0
          m.enqueue { port := g, vc := vc, opc := opc, pkt := k, dest := none, transit := some n, recovery := recovery }

/-- The partition whose share a frame counts against (R434): its header's, and a free one where the
fragment of the header is unusable (log entry 23). -/
def Mach.framePart (m : Mach) (x : Frag) (unusable : Bool) : Nat × Mach :=
  if unusable then (m.draw.1.toNat % 16, m.draw.2) else ((parsePkt x.body).2.part.val, m)

/-- One DATA fragment of VC `vc` on port `n` (R428). A fragment that is discarded after its frame turned
bad frees its credit too (R433). -/
def Mach.dataFrag (m : Mach) (n : Nat) (x : Frag) (unusable : Bool) : Mach :=
  let vc := x.vc
  let key := 4 * n + vc
  let a := tget m.net.asm key {}
  let setA (m : Mach) (a : Asm) : Mach := { m with net := { m.net with asm := tset m.net.asm key a } }
  if x.first then
    let m := if a.isOpen && !a.bad then m.badFrame n vc a.part a.frags else m
    let (part, m) := m.framePart x unusable
    let a : Asm := { isOpen := true, bad := unusable, frags := 1, part := part,
                     bytes := x.body.take (if x.last then x.nbytes else 64) }
    let m := if unusable then m.badFrame n vc part 1 else m
    if x.last then
      let m := setA m {}
      if unusable then m else m.frameIn n vc a.bytes 1
    else setA m a
  else if a.isOpen then
    let frags := a.frags + 1
    let bad := a.bad || unusable || maxFrags vc < frags
    let m := if a.bad then m.freeCredits n vc a.part 1 else if bad then m.badFrame n vc a.part frags else m
    let bytes := a.bytes ++ x.body.take (if x.last then x.nbytes else 64)
    if x.last then
      let m := setA m {}
      if bad then m else m.frameIn n vc bytes frags
    else setA m { isOpen := true, bad := bad, frags := frags, part := a.part, bytes := bytes }
  else m.bump (A.BRL_CRC n)

/-- One fragment as the decoder hands it on (R421, R424). -/
def Mach.fragIn (m : Mach) (n : Nat) (x : Frag) : Mach :=
  let m := if x.corrected = 0 || x.uncorrectable then m else m.bump (A.BRL_CORR n)
  let m := if x.uncorrectable then m.bump (A.BRL_UNC n) else m
  let badCrc := !x.uncorrectable && !x.crcOk
  let m := if badCrc then m.bump (A.BRL_CRC n) else m
  let unusable := x.uncorrectable || badCrc || x.typ = 3
  if x.typ = 1 || (unusable && x.typ ≠ 2 && x.typ ≠ 0) then m.dataFrag n x unusable else m

/-- Fragments arrive in order on a ring port that is up; a frame they complete that may leave at once is
forwarded cut-through (R451), and otherwise waits whole in its buffer. -/
def Mach.transitIn (m : Mach) (n : Nat) (frs : List Frag) (room : Nat) : Mach :=
  if m.ringUp n then
    let before := m.net.txq.length
    let m := frs.foldl (fun a x => a.fragIn n x) m
    (m.net.txq.drop before).foldl (fun a f =>
      if f.port < 8 && a.ringUp f.port && a.ringEligible room f &&
         !(a.net.txq.takeWhile (· ≠ f)).any (fun g => g.port = f.port) &&
         (2 ≤ f.vc || a.fld (A.BRL_PORT_STS f.port) 20 16 ≤ a.fld (A.BRL_PORT_STS n) 20 16)
      then a.startRing f.port f false else a) m
  else m

def execBrlTransit (n : Fin 8) (frs : List Frag) (room : Nat) (s : State) : Host.Outcome State Fault Refusal :=
  s.onMach (fun m => m.transitIn n.val frs room)

/-! ### CTL fragments (R426) -/

/-- A CREDIT entry for pool key `k`: bytes 1 to 7. -/
def creditEntry (n k count : Nat) : CtlEntry :=
  { port := n, typ := 1, b := leBytes 1 (k % 64 / 16 + 16 * (k % 16)) ++ leBytes 2 0 ++ leBytes 4 count }

/-- An end sends a CTL fragment: up to 8 entries for the counts that changed (R426). -/
def Mach.ctlSend (m : Mach) (n : Nat) : Mach :=
  if m.ringUp n then
    let mine := (m.net.crDirty.filter (fun k => k / 64 = n)).take 8
    let es : List CtlEntry := if mine.isEmpty then [{ port := n, typ := 0, b := leBytes 7 0 }]
              else mine.map (fun k => creditEntry n k (tget m.net.crFree k 0))
    { m with net := { m.net with ctlOut := m.net.ctlOut ++ es, crDirty := m.net.crDirty.filter (fun k => !mine.contains k) } }
  else m

def execCtlSend (n : Fin 8) (s : State) : Host.Outcome State Fault Refusal := s.onMach (fun m => m.ctlSend n.val)

/-- A CREDIT entry received (R433); while the port is DOWN or FAULTED credits are void (R443). -/
def Mach.creditIn (m : Mach) (n vc part count : Nat) : Mach :=
  if m.ringUp n then { m with net := { m.net with crRecv := tset m.net.crRecv (crKey n vc part) count } } else m

def execCredit (n : Fin 8) (vc : Fin 4) (part : Fin 16) (count : Word) (s : State) : Host.Outcome State Fault Refusal :=
  s.onMach (fun m => m.creditIn n.val vc.val part.val count.toNat)

/-! ### Link states (R442 to R447) -/

/-- Number of set bits of a 16-bit lane map. -/
def lanesOf (map : Nat) : Nat := ((List.range 16).filter (fun i => map.testBit i)).length

/-- The lane map in force at a port. -/
def Mach.lanes (m : Mach) (n : Nat) : Nat := tget m.net.laneMap n 0

/-- A new lane map takes force (R425, R444). -/
def Mach.setLanes (m : Mach) (n map : Nat) : Mach :=
  ({ m with net := { m.net with laneMap := tset m.net.laneMap n map } }).put (A.BRL_PORT_STS n) 20 16 (lanesOf map)

/-- Every route entry, of any table, whose PRI names port `n` (R446). -/
def Mach.entriesOf (m : Mach) (n : Nat) : List Nat :=
  (List.range 9).flatMap (fun t => ((List.range 64).filter (fun e =>
    m.bit (routeAddr t e) 31 && m.fld (routeAddr t e) 27 24 = n)).map (fun e => 64 * t + e))

/-- Fold (R446): entries of the down port select ALT, and frames that wait for it take the new egress. -/
def Mach.fold (m : Mach) (n : Nat) : Mach :=
  let es := m.entriesOf n
  let m := { m with net := { m.net with folded := m.net.folded.filter (fun x => !es.contains x) ++ es } }
  let m := if es.isEmpty then m else m.putBit (A.BRL_PORT_STS n) 7 true
  let moved := m.net.txq.filter (fun f => f.port = n && f.opc ≠ 0x70)
  let m := { m with net := { m.net with txq := m.net.txq.filter (fun f => f.port ≠ n) } }
  moved.foldl (fun a f =>
    let t := f.transit.getD 8
    match a.route t f.pkt.dst.toNat with
    | some g => if f.pkt.dst.toNat = 0xFFFFF then a else a.enqueue { f with port := if g = 8 then 31 else g }
    | none => if f.pkt.dst.toNat = 0xFFFFF then a else a.noRoute t) m

/-- A port's buffers and credits when it is taken down: contexts closed, open frames rewound, credits void (R443). -/
def Mach.voidPort (m : Mach) (n : Nat) : Mach :=
  let m := (List.range 4).foldl (fun a vc =>
    if (tget a.net.asm (4 * n + vc) {}).isOpen && !(tget a.net.asm (4 * n + vc) {}).bad then a.bump (A.Q_BAD (vcBlock n vc)) else a) m
  { m with net := { m.net with
      asm := tdrop m.net.asm (fun k => k / 4 = n), crSize := tdrop m.net.crSize (fun k => k / 64 = n),
      crRecv := tdrop m.net.crRecv (fun k => k / 64 = n), crSent := tdrop m.net.crSent (fun k => k / 64 = n),
      crFree := tdrop m.net.crFree (fun k => k / 64 = n), crDirty := m.net.crDirty.filter (fun k => k / 64 ≠ n) } }

/-- The port leaves service without a notice of its own: FORCE_DOWN, isolation, ring reset. -/
def Mach.portDownQuiet (m : Mach) (n : Nat) : Mach :=
  ((((m.put (A.BRL_PORT_STS n) 2 0 0).putBit (A.BRL_PORT_CTL n) 0 false).setLanes n 0).voidPort n).fold n

/-- A port goes DOWN by a cause of R445: event bit, DOWN entries, fold, DEG fault, LINK_DOWN broadcast. -/
def Mach.portDown (m : Mach) (n bit : Nat) : Mach :=
  let m := (m.putBit (A.BRL_PORT_EVT n) bit true).portDownQuiet n
  let m := { m with net := { m.net with ctlOut := m.net.ctlOut ++ [CtlEntry.mk n 6 (leBytes 7 0)] } }
  let m := m.raiseFault 0x62 (0xC0 + n) (m.rd (A.BRL_PORT_EVT n)).toNat
  m.broadcast 2 0 0xFFFF (m.node + n * 2 ^ 24) m.phase

/-- The port is UP or in training. -/
def Mach.ringLive (m : Mach) (n : Nat) : Bool := m.fld (A.BRL_PORT_STS n) 2 0 = 1 || m.ringUp n

def execDown (n : Fin 8) (s : State) : Host.Outcome State Fault Refusal :=
  s.onMach (fun m => if m.ringLive n.val then m.portDown n.val 2 else m)

/-- Fewer than 8 lanes, or no good CTL fragment for 1 µs, which the command reports (R445). -/
def execBrlLos (n : Fin 8) (noCtl : Bool) (s : State) : Host.Outcome State Fault Refusal :=
  s.onMach (fun m => if m.ringUp n.val && (noCtl || m.fld (A.BRL_PORT_STS n.val) 20 16 < 8) then m.portDown n.val 0 else m)

/-- `count` uncorrectable codewords fell within 64 µs (R445). -/
def execBrlUncLimit (n : Fin 8) (count : Nat) (s : State) : Host.Outcome State Fault Refusal :=
  s.onMach (fun m => if m.ringUp n.val && m.fld (A.BRL_PORT_CFG n.val) 31 16 < count then m.portDown n.val 1 else m)

/-- A lane's laser fails (R420): the spare switches in and retrains the lane, or the lane is lost. -/
def Mach.ringLaserFail (m : Mach) (n lane : Nat) : Mach :=
  let used := m.bit (A.BRL_OPT_SPARE n) 31
  let m := m.putBit (A.BRL_OPT_FAIL n) lane true
  let m := m.setLanes n (withBits (m.lanes n) lane lane 0)
  if used then m.raiseFault 0x61 (0xC0 + n) lane
  else
    let m := ((m.putBit (A.BRL_OPT_SPARE n) 31 true).put (A.BRL_OPT_SPARE n) 3 0 lane).putBit (A.BRL_OPT_LASER n) 16 true
    let m := (m.putBit (A.BRL_PORT_STS n) 6 true).putBit (A.BRL_PORT_EVT n) 3 true
    ({ m with net := { m.net with retrain := tset m.net.retrain n lane } }).raiseFault 0x60 (0xC0 + n) lane

def execBrlLaserFail (n : Fin 8) (lane : Fin 16) (s : State) : Host.Outcome State Fault Refusal :=
  s.onMach (fun m => m.ringLaserFail n.val lane.val)

/-- The lane that the spare serves is back, announced by a LANES entry (R444). -/
def Mach.laneRetrained (m : Mach) (n period : Nat) : Mach :=
  match tfind m.net.retrain n with
  | some lane =>
    let m := { m with net := { m.net with retrain := terase m.net.retrain n } }
    if m.ringUp n then
      let map := withBits (m.lanes n) lane lane 1
      let m := m.setLanes n map
      { m with net := { m.net with ctlOut := m.net.ctlOut ++ 
          [CtlEntry.mk n 5 (leBytes 1 0 ++ leBytes 2 map ++ leBytes 4 period)] } }
    else m
  | none => m

def execBrlLaneRetrainDone (n : Fin 8) (period : Word) (s : State) : Host.Outcome State Fault Refusal :=
  s.onMach (fun m => m.laneRetrained n.val period.toNat)

/-- A LANES entry received (R426, R444). -/
def execLanes (n : Fin 8) (map : BitVec 16) (s : State) : Host.Outcome State Fault Refusal :=
  s.onMach (fun m => if m.ringUp n.val then m.setLanes n.val map.toNat else m)

/-- The port may train: DOWN, not held down, not isolated, its optics on, and BRL_NODE a node id (R442, R443, R657). -/
def Mach.mayTrain (m : Mach) (n : Nat) : Bool :=
  m.fld (A.BRL_PORT_STS n) 2 0 = 0 && !m.bit (A.BRL_PORT_CTL n) 1 && m.node ≠ 0xFFFFF &&
    m.fld (A.FLT_USTS (0xC0 + n)) 31 29 < 3 && m.opticsOn

/-- Training starts (R443). -/
def Mach.startTraining (m : Mach) (n : Nat) : Mach :=
  let m := (m.put (A.BRL_PORT_STS n) 2 0 1).putBit (A.BRL_PORT_CTL n) 0 true
  { m with net := { m.net with overrun := m.net.overrun.filter (· ≠ n) } }

def execBrlLight (n : Fin 8) (s : State) : Host.Outcome State Fault Refusal :=
  s.onMach (fun m => if m.mayTrain n.val && m.bit (A.BRL_PORT_CFG n.val) 0 then m.startTraining n.val else m)

/-- TRAIN entries received (R444, step 3): the partner's node and port, TICK code, lane map, and its
pool and share sizes: 16 VC0 shares, 16 VC1 shares, the VC2 and the VC3 pool. A duplicate node id, another
TICK code or fewer than 8 common lanes end in FAULTED (R442, R443). -/
def Mach.trainIn (m : Mach) (n node port tick map : Nat) (sizes : List Nat) : Mach :=
  if m.fld (A.BRL_PORT_STS n) 2 0 ≠ 1 then m
  else
    let m := (m.put (A.BRL_PEER n) 19 0 node).put (A.BRL_PEER n) 26 24 port
    let faulted (m : Mach) : Mach := (m.put (A.BRL_PORT_STS n) 2 0 3).putBit (A.BRL_PORT_CTL n) 0 false
    if node = m.node then
      (faulted (m.putBit (A.BRL_PORT_EVT n) 4 true)).raiseFault 0x63 (0xC0 + n) node
    else
      let own := (m.rd (A.BRL_OPT_LASER n)).toNat &&& (0xFFFF ^^^ (m.rd (A.BRL_OPT_FAIL n)).toNat)
      let own := if m.bit (A.BRL_OPT_SPARE n) 31 && m.bit (A.BRL_OPT_LASER n) 16 then own ||| 2 ^ m.fld (A.BRL_OPT_SPARE n) 3 0 else own
      let common := own &&& map
      if tick ≠ m.fld A.PHS_CFG 1 0 || lanesOf common < 8 then faulted m
      else
        let m := m.setLanes n common
        let put (a : Tab Nat) (i : Nat) : Tab Nat :=
          tset a (if i < 32 then 64 * n + i else 64 * n + 16 * (i - 30)) (sizes.getD i 0)
        { m with net := { m.net with peerTick := tset m.net.peerTick n tick, peerLanes := tset m.net.peerLanes n map,
                                     crSize := (List.range 34).foldl put m.net.crSize } }

def execTrain (n : Fin 8) (node : BitVec 20) (port : Fin 8) (tick : BitVec 2) (map : BitVec 16) (sizes : List Nat)
    (s : State) : Host.Outcome State Fault Refusal :=
  s.onMach (fun m => m.trainIn n.val node.toNat port.val tick.toNat map.toNat sizes)

/-- A number list in rising order. -/
def insertSorted (x : Nat) (l : List Nat) : List Nat :=
  match l with
  | [] => [x]
  | y :: r => if x ≤ y then x :: y :: r else y :: insertSorted x r
def sortNats (l : List Nat) : List Nat := l.foldr insertSorted []

/-- The link delay of training (R444, step 4): half the median of round trip less turnaround, of 16
exchanges; the median of an even count is the mean of the two middle values (log entry 13). -/
def linkDelay (echo : List (Nat × Nat)) : Nat :=
  let l := sortNats (echo.map (fun e => e.1 - e.2))
  let h := l.length / 2
  if l.length % 2 = 1 then l.getD h 0 / 2 else (l.getD (h - 1) 0 + l.getD h 0) / 4

/-- Folded entries of port `n` return to PRI (R447). -/
def Mach.revertPort (m : Mach) (n : Nat) : Mach :=
  let es := m.entriesOf n
  ({ m with net := { m.net with folded := m.net.folded.filter (fun x => !es.contains x) } }).putBit (A.BRL_PORT_STS n) 7 false

/-- All steps of R444 are done: UP, link delay set, credits initialised, LINK_UP broadcast. -/
def Mach.trained (m : Mach) (n : Nat) (echo : List (Nat × Nat)) : Mach :=
  let m := (m.put (A.BRL_PORT_STS n) 2 0 2).putBit (A.BRL_PORT_CTL n) 0 false
  let m := m.wr (A.PHS_LINKDLY n) (BitVec.ofNat 32 (linkDelay echo))
  let m := { m with net := { m.net with
      crRecv := tdrop m.net.crRecv (fun k => k / 64 = n), crSent := tdrop m.net.crSent (fun k => k / 64 = n),
      crFree := tdrop m.net.crFree (fun k => k / 64 = n) } }
  let m := if m.bit (A.BRL_PORT_CFG n) 1 then m.revertPort n else m
  m.broadcast 3 0 0xFFFF (m.node + n * 2 ^ 24) m.phase

def execBrlTrainDone (n : Fin 8) (echo : List (Nat × Nat)) (s : State) : Host.Outcome State Fault Refusal :=
  s.onMach (fun m => if m.fld (A.BRL_PORT_STS n.val) 2 0 = 1 then m.trained n.val echo else m)

/-- A training step overran its bound: DOWN, with a retry to come (R443). -/
def Mach.trainOverrun (m : Mach) (n : Nat) : Mach :=
  let m := ((m.put (A.BRL_PORT_STS n) 2 0 0).putBit (A.BRL_PORT_CTL n) 0 false).setLanes n 0
  { m with net := { m.net with overrun := n :: m.net.overrun.filter (· ≠ n) } }

def execBrlTrainOverrun (n : Fin 8) (s : State) : Host.Outcome State Fault Refusal :=
  s.onMach (fun m => if m.fld (A.BRL_PORT_STS n.val) 2 0 = 1 then m.trainOverrun n.val else m)

def execBrlTrainRetry (n : Fin 8) (s : State) : Host.Outcome State Fault Refusal :=
  s.onMach (fun m => if m.net.overrun.contains n.val && m.mayTrain n.val then m.startTraining n.val else m)

/-! ### Writes of BRL registers -/

/-- BRL_PORT_CTL (R443, R447, R454): FORCE_DOWN, REVERT and TRAIN. -/
def Mach.writePortCtl (m : Mach) (n v : Nat) : Mach :=
  let m := m.putBit (A.BRL_PORT_CTL n) 1 (bitOf v 1)
  let m := if bitOf v 1 && m.fld (A.BRL_PORT_STS n) 2 0 ≠ 0 then m.portDownQuiet n else m
  let m := if bitOf v 2 && m.ringUp n then m.revertPort n else m
  if bitOf v 0 && m.mayTrain n then m.startTraining n else m

/-- BRL_NODE (R442): only while every ring port is DOWN. -/
def Mach.writeNode (m : Mach) (v : Nat) : Mach :=
  if (List.range 8).all (fun n => m.fld (A.BRL_PORT_STS n) 2 0 = 0) then m.put A.BRL_NODE 19 0 v
  else m.putBit A.BRL_STS 0 true

/-- A share register of port `n`: VC0 or VC1 (R456). -/
def shareAddr (n vc p : Nat) : Nat := if vc = 0 then A.BRL_SHARE0 n p else A.BRL_SHARE1 n p

/-- BRL_SHARE (R434, R456): only while the port is DOWN and the shares stay valid. -/
def Mach.writeShare (m : Mach) (n vc p v : Nat) : Mach :=
  let f := bitsOf v 15 0
  let total := (List.range 16).foldl (fun t q => t + if q = p then f else m.fld (shareAddr n vc q) 15 0) 0
  if m.fld (A.BRL_PORT_STS n) 2 0 = 0 && (f = 0 || 2050 ≤ f) && total ≤ 16384 then m.put (shareAddr n vc p) 15 0 f
  else m.putBit (A.BRL_PORT_EVT n) 5 true

/-! ### RING_CTL (R440, R448, R449) -/

/-- The layout that R448 gives every RING_CTL, with the OP that the command names. -/
def ringCtlOk (k : Pkt) (op : Nat) : Bool :=
  k.ver = 1 && k.rsv0 = 0 && k.rsv4 = 0 && k.rsv8 = 0 && k.rsv12 = 0 &&
  k.plen.toNat = 1 && k.part.val = 0 && k.vc.toNat = 3 && k.queue.toNat = 0 && k.flags.toNat = 0x93 &&
  fieldAt k.payload 0 1 = op && fieldAt k.payload 1 1 < 2

/-- A broadcast goes on, with TTL less 1 while that stays above 0, to the ports of the arrival port's
mask; a broadcast that carries this node's own id does not (R440). -/
def Mach.forwardCtl (m : Mach) (n : Nat) (k : Pkt) : Mach :=
  let ttl := fieldAt k.payload 2 2
  if 2 ≤ ttl then
    let k' := { k with payload := k.payload.take 2 ++ leBytes 2 (ttl - 1) ++ k.payload.drop 4 }
    (List.range 8).foldl (fun a i =>
      if a.bit (A.BRL_BCAST n) i then
        a.enqueue { port := i, vc := 3, opc := 0x71, pkt := k', dest := none, transit := some n,
                    recovery := bitOf (fieldAt k.payload 1 1) 0 }
      else a) m
  else m

/-- Receives a RING_CTL of OP `op` on ring port `n`; `handle` is what the node does with it (R440, R448). -/
def Mach.ringCtlIn (m : Mach) (n : Nat) (k : Pkt) (op : Nat) (handle : Mach → Mach) : Mach :=
  if !m.ringUp n then m
  else if !ringCtlOk k op then m.bump (A.BRL_NOROUTE n)
  else if k.dst.toNat = 0xFFFFF then
    if k.src.toNat = m.node then m
    else
      let m := m.forwardCtl n k
      if m.bit (A.BRL_BCAST n) 8 then handle m else m
  else if k.dst.toNat = m.node then handle m
  else m

/-- RESET (R449, R654): a ring reset as a class 1 event. -/
def execRingCtlReset (n : Fin 8) (k : Pkt) (s : State) : Host.Outcome State Fault Refusal :=
  s.onMach (fun m => m.ringCtlIn n.val k 1 (fun m => { m with ringReq := true }))

/-- The PEER_LINK fault of a link notice (R449, R629): node, port and up or down. -/
def Mach.peerLink (m : Mach) (k : Pkt) (up : Bool) : Mach :=
  m.raiseFault 0x99 0x14F (bitsOf (fieldAt k.payload 4 4) 27 0 + 2 ^ 28 * b2n up)

def execLinkDown (n : Fin 8) (k : Pkt) (s : State) : Host.Outcome State Fault Refusal :=
  s.onMach (fun m => m.ringCtlIn n.val k 2 (fun m => m.peerLink k false))

def execLinkUp (n : Fin 8) (k : Pkt) (s : State) : Host.Outcome State Fault Refusal :=
  s.onMach (fun m => m.ringCtlIn n.val k 3 (fun m => m.peerLink k true))

def execEcho (n : Fin 8) (k : Pkt) (s : State) : Host.Outcome State Fault Refusal :=
  s.onMach (fun m => m.ringCtlIn n.val k 4 (fun m =>
    m.sendRing 0x71 (m.ringCtl 5 0 0 (fieldAt k.payload 4 4) m.phase k.src.toNat) false))

def execEchoRsp (n : Fin 8) (k : Pkt) (s : State) : Host.Outcome State Fault Refusal :=
  s.onMach (fun m => m.ringCtlIn n.val k 5 (fun m =>
    { m with net := { m.net with echoRsp := m.net.echoRsp ++
        [(k.src.toNat, fieldAt k.payload 4 4, BitVec.ofNat 64 (fieldAt k.payload 8 8))] } }))

/-- FAULT (R449): a peer's fault raises PEER_FAULT, with the peer's node and class (R629). -/
def execRingFault (n : Fin 8) (k : Pkt) (s : State) : Host.Outcome State Fault Refusal :=
  s.onMach (fun m => m.ringCtlIn n.val k 6 (fun m =>
    m.raiseFault 0x98 0x14F (k.src.toNat + 2 ^ 24 * (fieldAt k.payload 4 1 % 8))))

end Sys2Proof.Machine
end

