-- ==== Sys2Proof/Machine/Eth.lean ====
section
/-! DEFINITION. The ingest ports: which frames they take, when they go DOWN and come back, and what they
send next (R460 to R467, R484 to R488). The receive shares of R465 stand in Receive. -/
namespace Sys2Proof.Machine

/-- What becomes of a received Ethernet frame (R126, R461, R462). -/
inductive EthVerdict where
  | accept | badFcs | drop | ip
  deriving DecidableEq, Repr

/-- The port's IPv6 address as a number, first byte on the wire highest, and its IPv4 address (R485). -/
def Mach.ethIp6 (m : Mach) (n : Nat) : Nat :=
  beNat ((List.range 4).flatMap (fun i => toNats (leBytes 4 (m.rd (A.ETH_IP6 n i)).toNat)))
def Mach.ethIp4 (m : Mach) (n : Nat) : Nat := beNat (toNats (leBytes 4 (m.rd (A.ETH_IP4 n)).toNat))

/-- The port's MAC address, first byte on the wire highest (R485). -/
def Mach.ethMac (m : Mach) (n : Nat) : Nat :=
  beNat (toNats (leBytes 4 (m.rd (A.ETH_MAC_LO n)).toNat ++ leBytes 2 (m.rd (A.ETH_MAC_HI n)).toNat))

/-- The receive decision for a frame on port `n`. -/
def Mach.ethVerdict (m : Mach) (n : Nat) (f : EthFrame) : EthVerdict :=
  let vlan := m.bit (A.ETH_CFG n) 31
  let v6 := f.etherType.toNat = 0x86DD
  let tagOk := match f.tag with | some vid => vlan && vid.toNat = m.fld (A.ETH_CFG n) 27 16 | none => !vlan
  let ip := if v6 then m.ethIp6 n else m.ethIp4 n
  if !f.fcsOk then .badFcs
  else if f.bytes < 64 || 9216 < f.bytes || f.dstMac.toNat ≠ m.ethMac n || !tagOk ||
      (f.etherType.toNat ≠ 0x86DD && f.etherType.toNat ≠ 0x0800) || ip = 0 || f.dstIp.toNat ≠ ip then .drop
  else if f.fragment || f.extras then .ip
  else if f.udpPort.toNat ≠ m.fld A.HRMP_CFG 31 16 then .drop
  else if !f.udpLenOk || !f.checksumOk then .ip
  else .accept

/-- A frame that is no accepted command datagram is dropped and counted (R126, R461, R462). -/
def Mach.ethDrop (m : Mach) (n : Nat) (f : EthFrame) : Mach :=
  match m.ethVerdict n f with
  | .badFcs => m.bump (A.ETH_RX_FCS n)
  | .drop => m.bump (A.ETH_RX_DROP n)
  | .ip => m.bump (A.ETH_RX_IP n)
  | .accept => m

def execEthFrameDrop (n : Fin 16) (f : EthFrame) (s : State) : Host.Outcome State Fault Refusal :=
  s.onMach (fun m => m.ethDrop n.val f)

/-! ### Link state (R464) -/

def Mach.ethState (m : Mach) (n : Nat) : Nat := m.fld (A.ETH_STS n) 2 0

/-- Loss of signal or alignment, or the high bit-error-ratio condition (R464). -/
def Mach.ethPortDown (m : Mach) (n : Nat) (ber : Bool) : Mach :=
  let m := (m.put (A.ETH_STS n) 2 0 0).putBit (A.ETH_EVT n) (if ber then 1 else 0) true
  let m := if ber then m.putBit (A.ETH_STS n) 4 true else m
  m.raiseFault 0x69 (0xD0 + n) (m.rd (A.ETH_EVT n)).toNat

def execEthPortDown (n : Fin 16) (ber : Bool) (s : State) : Host.Outcome State Fault Refusal :=
  s.onMach (fun m => if m.ethUp n.val then m.ethPortDown n.val ber else m)

/-- A laser fails (R464): the spare is tuned in and a link that was not
DOWN retrains, or the port stays DOWN. -/
def Mach.ethLaserFail (m : Mach) (n lane : Nat) : Mach :=
  let used := m.bit (A.ETH_OPT_SPARE n) 31
  let m := m.putBit (A.ETH_OPT_FAIL n) lane true
  if used then
    let m := (m.put (A.ETH_STS n) 2 0 0).putBit (A.ETH_EVT n) 0 true
    m.raiseFault 0x69 (0xD0 + n) (m.rd (A.ETH_EVT n)).toNat
  else
    let m := ((m.putBit (A.ETH_OPT_SPARE n) 31 true).put (A.ETH_OPT_SPARE n) 1 0 lane).putBit (A.ETH_OPT_LASER n) 4 true
    let m := if m.ethState n = 0 then m else m.put (A.ETH_STS n) 2 0 1
    let m := (m.putBit (A.ETH_STS n) 3 true).putBit (A.ETH_EVT n) 2 true
    m.raiseFault 0x68 (0xD0 + n) lane

def execEthLaserFail (n : Fin 16) (lane : Fin 4) (s : State) : Host.Outcome State Fault Refusal :=
  s.onMach (fun m => m.ethLaserFail n.val lane.val)

/-- Lasers of the port that have failed with no spare to serve them. -/
def Mach.ethLanesLost (m : Mach) (n : Nat) : Nat :=
  ((List.range 4).filter (fun i => m.bit (A.ETH_OPT_FAIL n) i)).length - b2n (m.bit (A.ETH_OPT_SPARE n) 31)

/-- With AUTO set a DOWN port trains when light returns (R464). -/
def execEthLight (n : Fin 16) (s : State) : Host.Outcome State Fault Refusal :=
  s.onMach (fun m =>
    if m.ethState n.val = 0 && m.bit (A.ETH_CFG n.val) 2 && !m.bit (A.ETH_CFG n.val) 0 && m.ethLanesLost n.val = 0 &&
       m.fld (A.FLT_USTS (0xD0 + n.val)) 31 29 < 3 && m.opticsOn
    then m.put (A.ETH_STS n.val) 2 0 1 else m)

def execEthTrainDone (n : Fin 16) (s : State) : Host.Outcome State Fault Refusal :=
  s.onMach (fun m => if m.ethState n.val = 1 then (m.put (A.ETH_STS n.val) 2 0 2).putBit (A.ETH_STS n.val) 4 false else m)

/-- ETH_CFG (R460, R485): SPEED and the VLAN fields change only while the port is DOWN; FORCE_DOWN holds it DOWN. -/
def Mach.writeEthCfg (m : Mach) (n v : Nat) : Mach :=
  let down := m.ethState n = 0
  let m := (m.putBit (A.ETH_CFG n) 2 (bitOf v 2)).putBit (A.ETH_CFG n) 0 (bitOf v 0)
  let m := if down then (m.putBit (A.ETH_CFG n) 1 (bitOf v 1)).put (A.ETH_CFG n) 31 16 (bitsOf v 31 16) else m
  if bitOf v 0 then m.put (A.ETH_STS n) 2 0 0 else m

/-- A receive share (R487): ignored where the shares of the port would sum to more than 256 units. -/
def Mach.writeRxShare (m : Mach) (n p v : Nat) : Mach :=
  let total := (List.range 16).foldl (fun t q => t + if q = p then bitsOf v 8 0 else m.fld (A.ETH_RXSHARE n q) 8 0) 0
  if total ≤ 256 then m.put (A.ETH_RXSHARE n p) 8 0 v else m

/-! ### Transmit (R467) -/

/-- Bytes a frame takes on the wire: preamble and delimiter 8, Ethernet header 14 and tag 4, IP, UDP, packet,
FCS 4, gap 12, padded to the 64-byte minimum (R160, R461, R467). -/
def wireBytes (vlan : Bool) (f : TxFrame) : Nat :=
  let iph := match f.dest with | some (.eth _ false _ _ _) => 20 | _ => 40
  20 + max 64 (18 + (if vlan then 4 else 0) + iph + 8 + 32 + 16 * f.pkt.plen.toNat + 16 * b2n f.pkt.enc)

/-- A VC0 or VC1 frame may start: its slot, and the end of its wire time before the slot's (R467). -/
def Mach.ethEligible (m : Mach) (room : Nat) (f : TxFrame) : Bool :=
  (match m.slotOwner f.port with | some p => p = f.pkt.part.val | none => true) &&
    wireBytes (m.bit (A.ETH_CFG (f.port - 8)) 31) f ≤ room

/-- The frame that an ingest port starts next (R467). -/
def Mach.nextEthFrame (m : Mach) (port room : Nat) : Option TxFrame :=
  match headFrameVc m.net.txq port 3 with
  | some f => some f
  | none =>
    match headFrameVc m.net.txq port 2 with
    | some f => some f
    | none =>
      let cand (p : Nat) : Option TxFrame :=
        pickVc (tget m.net.lastVc port 1) ((headFrame m.net.txq port 0 p).filter (m.ethEligible room))
          ((headFrame m.net.txq port 1 p).filter (m.ethEligible room))
      match m.rotated 16 (fun p => (cand p).isSome) with
      | some p => cand p
      | none => none

/-- The port sends its next frame; `room` is the bytes left of the slot at the port's rate. -/
def Mach.ethTxStart (m : Mach) (n room : Nat) : Mach :=
  if m.ethUp n then
    match m.nextEthFrame (8 + n) room with
    | some f =>
      ({ m with net := { m.net with txq := dropFirst m.net.txq f, sent := m.net.sent ++ [f],
                                    lastVc := if f.vc < 2 then tset m.net.lastVc (8 + n) f.vc else m.net.lastVc } }).bump
        (A.ETH_TX_FRAMES n)
    | none => m
  else m

def execEthTxStart (n : Fin 16) (room : Nat) (s : State) : Host.Outcome State Fault Refusal :=
  s.onMach (fun m => m.ethTxStart n.val room)

end Sys2Proof.Machine
end

