-- ==== Sys2Proof/Machine/Memory.lean ====
section
/-! DEFINITION. Memory: channels, lines, translation, errors and poison, keying, scrubbing and the
retirement of a channel (R492 to R523). -/
namespace Sys2Proof.Machine

/-! ### Channels -/

/-- The channel of a physical address (R492). -/
def chanOf (pa : Nat) : Nat := pa / 2 ^ 33

/-- State of channel `ch` (R494). -/
def Mach.chState (m : Mach) (ch : Nat) : Nat := m.fld (A.MEM_CH_STS ch) 2 0

/-- Moves a channel to a state. -/
def Mach.setChState (m : Mach) (ch st : Nat) : Mach := m.put (A.MEM_CH_STS ch) 2 0 st

/-- The partition that owns channel `ch`. -/
def Mach.chOwner (m : Mach) (ch : Nat) : Option Nat :=
  if m.bit (A.MEM_CH_STS ch) 27 then some (m.fld (A.MEM_CH_STS ch) 31 28) else none

/-- The channels that `p` owns. -/
def Mach.channelsOf (m : Mach) (p : Nat) : List Nat := (List.range 64).filter (fun ch => m.chOwner ch = some p)

/-- First byte and length of the snapshot area of `p` (R401, R404). -/
def Mach.snapBase (m : Mach) (p : Nat) : Nat := m.rd64 (A.LOAM_SNAP_BASE_LO p)
def Mach.snapLen (m : Mach) (p : Nat) : Nat := m.fld (A.LOAM_SNAP_SIZE p) 15 0 * 2 ^ 21

/-- `pa` lies in the memory of `p` (R493). -/
def Mach.inMem (m : Mach) (p pa : Nat) : Bool :=
  pa < 2 ^ 39 && m.chOwner (chanOf pa) = some p && m.chState (chanOf pa) ≠ 5 &&
    !(m.snapBase p ≤ pa && pa < m.snapBase p + m.snapLen p)

/-- Every byte of [pa, pa + n) lies in the memory of `p`; `n` is a page size, at most a channel, and pages
are aligned, so one channel holds it. -/
def Mach.rangeInMem (m : Mach) (p pa n : Nat) : Bool :=
  m.inMem p pa && m.inMem p (pa + n - 1) &&
    (m.snapLen p = 0 || m.snapBase p + m.snapLen p ≤ pa || pa + n ≤ m.snapBase p)

/-! ### Lines: errors and poison (R511, R512) -/

/-- MEM_ERR_PA records the line that failed (R511). -/
def Mach.errPa (m : Mach) (line : Nat) : Mach :=
  m.wr64 (A.MEM_ERR_PA_LO (chanOf (line * 64))) (line * 64)

/-- The line is rewritten as poisoned. -/
def Mach.poisonLine (m : Mach) (line : Nat) : Mach :=
  { m with mem := { m.mem with poison := line :: m.mem.poison.filter (· ≠ line) } }

/-- What a read, walk or scrub of a line finds (R511). -/
inductive Found where
  | clean
  | corrected (dev : Nat)
  | uncorrectable
  | tagFailure
  deriving DecidableEq, Repr

/-- A corrected error is attributed to its device (R514). -/
def Mach.devCorrected (m : Mach) (ch dev : Nat) : Mach :=
  let k := 2 ^ 16 * ch + dev
  let n := tget m.mem.devCount k 0 + 1
  let m := { m with mem := { m.mem with devCount := tset m.mem.devCount k n } }
  let m := m.put (A.MEM_DEV_CORR ch) 15 0 (min 0xFFFF (max (m.fld (A.MEM_DEV_CORR ch) 15 0) n))
  if max 1 (m.fld (A.MEM_CH_CFG ch) 15 0) ≤ n && !m.bit (A.MEM_CH_STS ch) 7 then
    ({ m with mem := { m.mem with badDev := tset m.mem.badDev ch dev } }.putBit (A.MEM_CH_STS ch) 7 true).raiseFault
      0x53 (0x80 + ch) dev
  else m

/-- A line found bad: poisoned, counted, recorded (R511). -/
def Mach.lineBad (m : Mach) (line counter src : Nat) (raise : Bool) : Mach :=
  let m := ((m.poisonLine line).bump counter).errPa line
  if raise then m.raiseFault src (0x80 + chanOf (line * 64)) (line % 2 ^ 32) else m

/-- The outcome of R511 for what was found on `line`; `raise` is clear when the fault itself is the command. -/
def Mach.memFound (m : Mach) (line : Nat) (f : Found) (raise : Bool) : Mach :=
  let ch := chanOf (line * 64)
  let bad := m.lineBad line (A.MEM_UNCORR ch) 0x51 raise
  match f with
  | .clean => m
  | .corrected dev =>
    -- a DEGRADED channel corrects its bad device only (R514)
    if m.bit (A.MEM_CH_STS ch) 7 && tfind m.mem.badDev ch ≠ some dev then m.lineBad line (A.MEM_UNCORR ch) 0x51 true
    else
      let m := m.bump (A.MEM_CORR ch)
      let m := if raise then m.raiseFault 0x50 (0x80 + ch) dev else m
      m.devCorrected ch dev
  | .uncorrectable => bad
  | .tagFailure => m.lineBad line (A.MEM_ITAG ch) 0x52 raise

/-- Kinds of failure of an access (R500). -/
inductive XKind where
  | xlate (lvl : Nat)
  | boundary
  | memErr
  /-- the channel is SEALED or in INIT: the key slot (R494) -/
  | key (slot : Nat)
  deriving DecidableEq, Repr

/-- A failed access: its kind and the VA it concerns. -/
structure XFail where
  kind : XKind
  va : Nat
  deriving DecidableEq, Repr

/-- A read of one line at the order point: none where it is served (R494, R511, R512). -/
def Mach.lineRead (m : Mach) (p pa : Nat) : Mach × Option XKind :=
  let ch := chanOf pa
  let st := m.chState ch
  if st = 1 || st = 2 then (m, some (.key (m.fld (A.MMU_KEY p) 8 0)))
  else if st = 0 || st = 5 then (m, some .memErr)
  else if m.mem.failed.contains ch then ((m.bump (A.MEM_UNCORR ch)).errPa (pa / 64), some .memErr)
  else if m.mem.poison.contains (pa / 64) then ((m.bump (A.MEM_POISON_RD ch)).errPa (pa / 64), some .memErr)
  else (m, none)

/-- A full write of a line needs no read, and ends its poison (R512). -/
def Mach.lineFull (m : Mach) (p pa : Nat) : Mach × Option XKind :=
  let ch := chanOf pa
  let st := m.chState ch
  if st = 1 || st = 2 then (m, some (.key (m.fld (A.MMU_KEY p) 8 0)))
  else if st = 0 || st = 5 then (m, some .memErr)
  else if m.mem.failed.contains ch then ((m.bump (A.MEM_UNCORR ch)).errPa (pa / 64), some .memErr)
  else ({ m with mem := { m.mem with poison := m.mem.poison.filter (· ≠ pa / 64) } }, none)

/-! ### Translation (R497 to R502) -/

/-- Bytes that one entry of a table of level `lvl` spans (R497). -/
def lvlSpan (lvl : Nat) : Nat := if lvl = 1 then 2 ^ 30 else if lvl = 2 then 2 ^ 21 else 2 ^ 16

/-- The index of `va` at level `lvl` (R497). -/
def lvlIndex (lvl va : Nat) : Nat :=
  if lvl = 1 then bitsOf va 47 30 else if lvl = 2 then bitsOf va 29 21 else bitsOf va 20 16

/-- The physical address in an entry, PA[39:8] (R498). -/
def entryPa (e : Nat) : Nat := bitsOf e 39 8 * 256

/-- An entry is invalid at level `lvl` (R498). -/
def entryInvalid (lvl e : Nat) : Bool :=
  !bitOf e 0 || bitsOf e 63 40 ≠ 0 || bitsOf e 7 2 ≠ 0 || (lvl = 3 && !bitOf e 1) ||
    (if bitOf e 1 then entryPa e % lvlSpan lvl ≠ 0 else lvl = 1 && bitsOf e 11 8 ≠ 0)

/-- A victim leaves a full cache; which one the spec leaves open, so a free value names it. -/
def cacheAdd (l : List MmuEnt) (part cap victim : Nat) (x : MmuEnt) : List MmuEnt :=
  let mine := l.filter (fun y => y.part = part)
  let l := if cap ≤ mine.length then
      match mine[victim % cap]? with
      | some v => l.filter (· ≠ v)
      | none => l
    else l
  l ++ [x]

/-- The walk of R499 from table `t`, over the levels still to visit: the page's PA and size, with the table
pointers found on the way. -/
def Mach.walkFrom (m : Mach) (p va t : Nat) (ptrs : List MmuEnt) (lvls : List Nat) :
    Mach × Except XKind (Nat × Nat × List MmuEnt) :=
  match lvls with
  | [] => (m, .error (.xlate 3))
  | lvl :: r =>
    let ea := t + 8 * lvlIndex lvl va
    if !m.inMem p ea then (m, .error .boundary)
    else
      match m.lineRead p ea with
      | (m, some k) => (m, .error k)
      | (m, none) =>
        let e := leNat (memRead m.mem.cells ea 8)
        if entryInvalid lvl e then (m, .error (.xlate lvl))
        else if bitOf e 1 then
          if m.rangeInMem p (entryPa e) (lvlSpan lvl) then (m, .ok (entryPa e, lvl, ptrs))
          else (m, .error .boundary)
        else
          m.walkFrom p va (entryPa e) (ptrs ++ [{ part := p, lvl := lvl + 1, va := va / lvlSpan lvl * lvlSpan lvl, pa := entryPa e }]) r

/-- The root of the tables of `p`. -/
def Mach.mmuRoot (m : Mach) (p : Nat) : Nat := m.rd64 (A.MMU_ROOT_LO p)

/-- The code of a failure kind in MMU_FAULT.KIND (R523); a sealed line counts as MEM_ERR. -/
def XKind.code : XKind → Nat
  | .xlate _ => 1
  | .boundary => 2
  | .memErr => 3
  | .key _ => 3

/-- The level that a failed walk reached. -/
def XKind.lvl : XKind → Nat
  | .xlate l => l
  | _ => 0

/-- The first failure of a partition is recorded, later ones are counted only (R500). -/
def Mach.walkFailed (m : Mach) (src p va : Nat) (k : XKind) : Mach :=
  let m := m.bump (A.MMU_WALKFAIL p)
  if m.bit (A.MMU_FAULT p) 31 then m
  else
    (m.wr (A.MMU_FAULT p) (BitVec.ofNat 32 (2 ^ 31 + k.code * 2 ^ 29 + k.lvl * 2 ^ 27 + src * 2 ^ 20))).wr64
      (A.MMU_FAULT_VA_LO p) va

/-- Translates one address for `p` (R499, R501): its PA and the size of its page. `src` is the SRC code of
MMU_FAULT, `first` the VA that a failure reports. -/
def Mach.xlateOne (m : Mach) (src p va first : Nat) : Mach × Except XFail (Nat × Nat) :=
  match m.mem.leaf.find? (fun e => e.part = p && e.va = va / lvlSpan e.lvl * lvlSpan e.lvl) with
  | some e => (m, .ok (e.pa + va % lvlSpan e.lvl, lvlSpan e.lvl))
  | none =>
    let m := m.bump (A.MMU_WALKS p)
    let hit (lvl : Nat) : Option MmuEnt :=
      m.mem.ptr.find? (fun e => e.part = p && e.lvl = lvl && e.va = va / lvlSpan (lvl - 1) * lvlSpan (lvl - 1))
    let res := match hit 3 with
      | some e => m.walkFrom p va e.pa [] [3]
      | none =>
        match hit 2 with
        | some e => m.walkFrom p va e.pa [] [2, 3]
        | none => m.walkFrom p va (m.mmuRoot p) [] [1, 2, 3]
    match res with
    | (m, .error k) => (m.walkFailed src p first k, .error { kind := k, va := first })
    | (m, .ok (pa, lvl, ptrs)) =>
      let (d, m) := m.draw
      let leaf := cacheAdd m.mem.leaf p 2048 d.toNat { part := p, lvl := lvl, va := va / lvlSpan lvl * lvlSpan lvl, pa := pa }
      let ptr := ptrs.foldl (fun l x => cacheAdd l p 512 (d.toNat / 2048) x) m.mem.ptr
      ({ m with mem := { m.mem with leaf := leaf, ptr := ptr } }, .ok (pa + va % lvlSpan lvl, lvlSpan lvl))

/-- A piece of a translated range: offset in the request, PA and length. -/
structure Seg where
  off : Nat
  pa : Nat
  len : Nat
  deriving DecidableEq, Repr

/-- Translates [va, va + n), page by page, `fuel` pages at most. -/
def Mach.xlateFrom (m : Mach) (src p va off n : Nat) (acc : List Seg) : (fuel : Nat) → Mach × Except XFail (List Seg)
  | 0 => (m, .ok acc)
  | fuel + 1 =>
    if n ≤ off then (m, .ok acc)
    else
      match m.xlateOne src p ((va + off) % 2 ^ 48) ((va + off) % 2 ^ 48) with
      | (m, .error e) => (m, .error e)
      | (m, .ok (pa, size)) =>
        let len := min (size - pa % size) (n - off)
        m.xlateFrom src p va (off + len) n (acc ++ [{ off := off, pa := pa, len := len }]) fuel

/-- Translates every page that [va, va + n) touches (R499). -/
def Mach.xlate (m : Mach) (src p va n : Nat) : Mach × Except XFail (List Seg) :=
  m.xlateFrom src p va 0 n [] (n / 2 ^ 16 + 2)

/-- The pieces of a translated range that lie in one line each, in ascending order. -/
def lineSegs (segs : List Seg) : List Seg :=
  segs.flatMap (fun s =>
    let l0 := s.pa / 64
    (List.range ((s.pa + s.len - 1) / 64 + 1 - l0)).map (fun i =>
      let a := max s.pa ((l0 + i) * 64)
      let b := min (s.pa + s.len) ((l0 + i + 1) * 64)
      { off := s.off + (a - s.pa), pa := a, len := b - a }))

/-! ### Reads, writes and updates of translated memory -/

/-- Every line of `segs` is read in ascending order until one fails. -/
def Mach.checkLines (m : Mach) (p va : Nat) : List Seg → Mach × Option XFail
  | [] => (m, none)
  | s :: r =>
    match m.lineRead p s.pa with
    | (m, some k) => (m, some { kind := k, va := (va + s.off) % 2 ^ 48 })
    | (m, none) => m.checkLines p va r

/-- The bytes of a virtual range. -/
def Mach.vread (m : Mach) (src p va n : Nat) : Mach × Except XFail (List Byte) :=
  match m.xlate src p va n with
  | (m, .error e) => (m, .error e)
  | (m, .ok segs) =>
    match m.checkLines p va (lineSegs segs) with
    | (m, some e) => (m, .error e)
    | (m, none) => (m, .ok (segs.flatMap (fun s => memRead m.mem.cells s.pa s.len)))

/-- Each line piece is replaced by `g offset oldBytes`, in ascending order; a line fully overwritten is not
read where `full` holds. The lines before a failing one stay written (R512). -/
def Mach.modLines (m : Mach) (p va : Nat) (full : Bool) (g : Nat → List Byte → List Byte) :
    List Seg → Mach × Option XFail
  | [] => (m, none)
  | s :: r =>
    match (if full && s.len = 64 then m.lineFull p s.pa else m.lineRead p s.pa) with
    | (m, some k) => (m, some { kind := k, va := (va + s.off) % 2 ^ 48 })
    | (m, none) =>
      let m := { m with mem := { m.mem with
        cells := memWrite m.mem.cells s.pa (g s.off (memRead m.mem.cells s.pa s.len)) } }
      m.modLines p va full g r

/-- An update of a virtual range: every page is translated before the first line is touched (R112). -/
def Mach.vupdate (m : Mach) (src p va n : Nat) (full : Bool) (g : Nat → List Byte → List Byte) : Mach × Option XFail :=
  match m.xlate src p va n with
  | (m, .error e) => (m, some e)
  | (m, .ok segs) => m.modLines p va full g (lineSegs segs)

/-- A write of bytes to a virtual range. -/
def Mach.vwrite (m : Mach) (src p va : Nat) (b : List Byte) : Mach × Option XFail :=
  m.vupdate src p va b.length true (fun off old => (b.drop off).take old.length)

/-- A physical read and write of Kaolin's and Loam's own (snapshot area, R404). -/
def Mach.pread (m : Mach) (pa n : Nat) : List Byte := memRead m.mem.cells pa n
def Mach.pwrite (m : Mach) (pa : Nat) (b : List Byte) : Mach :=
  { m with mem := { m.mem with cells := memWrite m.mem.cells pa b } }

/-! ### Keying and initialisation (R504, R509, R510) -/

/-- READY is set when every channel of `p` is ACTIVE (R510). -/
def Mach.readyCheck (m : Mach) (p : Nat) : Mach :=
  if m.bit (A.MMU_KEY p) 31 && (m.channelsOf p).all (fun ch => m.chState ch = 3) then m.putBit (A.MMU_KEY p) 29 true
  else m

/-- The slot belongs to the partition and carries XTS (R504, R568). -/
def Mach.xtsSlot (m : Mach) (p s : Nat) : Bool := (m.slotKey p s 1).isSome

/-- A key of `p` is installed: VALID, ITAG and SLOT, and its SEALED channels begin INIT (R504, R510). -/
def Mach.installMemKey (m : Mach) (p slot : Nat) (itag : Bool) : Mach :=
  let m := m.wr (A.MMU_KEY p) (BitVec.ofNat 32 (2 ^ 31 + b2n itag * 2 ^ 30 + slot))
  let m := (m.channelsOf p).foldl (fun a ch => if a.chState ch = 1 then a.setChState ch 2 else a) m
  m.readyCheck p

/-- A write of MMU_KEY (R504). -/
def Mach.writeMmuKey (m : Mach) (p v : Nat) : Mach :=
  let rej := m.putBit (A.MMU_STS p) 0 true
  if m.bit (A.MMU_KEY p) 31 then rej
  else if bitOf v 31 then
    if m.xtsSlot p (bitsOf v 8 0) then m.installMemKey p (bitsOf v 8 0) (bitOf v 30) else rej
  else if bitOf v 30 then rej
  else m.put (A.MMU_KEY p) 8 0 (bitsOf v 8 0)

/-- A channel has written every line with zeros under the new key (R510). -/
def Mach.channelInitDone (m : Mach) (ch : Nat) : Mach :=
  let m := { m with mem := { m.mem with
    cells := memZero m.mem.cells (ch * 2 ^ 33) (2 ^ 33),
    poison := m.mem.poison.filter (fun l => chanOf (l * 64) ≠ ch) } }
  let m := m.setChState ch 3
  match m.chOwner ch with
  | some p => m.readyCheck p
  | none => m

def execChannelInitDone (ch : Fin 64) (s : State) : Host.Outcome State Fault Refusal :=
  s.onMach (fun m => if m.chState ch = 2 then m.channelInitDone ch else m)

/-! ### Invalidation (R502) -/

/-- A channel of `p` is RETIRING. -/
def Mach.retiring (m : Mach) (p : Nat) : Bool := (m.channelsOf p).any (fun ch => m.chState ch = 4)

/-- Every cached entry of `p` goes. -/
def Mach.dropCache (m : Mach) (p : Nat) : Mach :=
  { m with mem := { m.mem with leaf := m.mem.leaf.filter (fun e => e.part ≠ p),
                               ptr := m.mem.ptr.filter (fun e => e.part ≠ p) } }

/-- The entries of `p` whose span meets [va, va + n) go. -/
def Mach.dropRange (m : Mach) (p va n : Nat) : Mach :=
  let meets (e : MmuEnt) (span : Nat) : Bool := e.part = p && e.va < va + n && va < e.va + span
  { m with mem := { m.mem with
      leaf := m.mem.leaf.filter (fun e => !meets e (lvlSpan e.lvl)),
      ptr := m.mem.ptr.filter (fun e => !meets e (lvlSpan (e.lvl - 1))) } }

/-- OP ALL: the cache is empty and DONE reads 0 until MMU_INV_DONE. -/
def Mach.invAll (m : Mach) (p : Nat) : Mach := (m.dropCache p).putBit (A.MMU_INV_CTL p) 31 false

/-- OP RANGE over the range of the MMU_INV registers. -/
def Mach.invRange (m : Mach) (p : Nat) : Mach :=
  (m.dropRange p (m.rd64 (A.MMU_INV_LO p)) (max 1 (m.rd (A.MMU_INV_CNT p)).toNat * 2 ^ 16)).putBit
    (A.MMU_INV_CTL p) 31 false

/-- A write of MMU_INV_CTL (R502, R519). -/
def Mach.writeMmuInv (m : Mach) (p v : Nat) : Mach :=
  if m.retiring p then m.putBit (A.MMU_STS p) 1 true
  else
    match bitsOf v 1 0 with
    | 1 => m.invAll p
    | 2 => m.invRange p
    | _ => m

/-- MMU_ROOT takes both its words, and the write acts as OP ALL (R502, R519); `lo` is the held low word. -/
def Mach.writeMmuRoot (m : Mach) (p lo hi : Nat) : Mach :=
  if m.retiring p then m.putBit (A.MMU_STS p) 1 true
  else ((m.put (A.MMU_ROOT_LO p) 31 21 (bitsOf lo 31 21)).put (A.MMU_ROOT_HI p) 7 0 (bitsOf hi 7 0)).invAll p

/-- No access uses a discarded entry any more (R502). -/
def execMmuInvDone (p : Fin 16) (s : State) : Host.Outcome State Fault Refusal :=
  s.onMach (fun m => m.putBit (A.MMU_INV_CTL p) 31 true)

/-! ### Retirement (R515 to R519) -/

/-- A register of page 0x061 for partition `p` (ATT_SEL selects it, R562). -/
def partReg (a p : Nat) : Nat := a + 2 ^ 24 * p

/-- PART_STS.CFG_GEN counts a change of what `p` holds (R532). -/
def Mach.cfgGen (m : Mach) (p : Nat) : Mach := m.bumpF (partReg A.PART_STS p) 31 16 1

/-- The non-zero entries of the table of `n` entries at `t`, in ascending index. -/
def tableEntries (cells : List Host.Cell) (t n : Nat) : List (Nat × Nat) :=
  let idx := (cells.filter (fun c => t ≤ c.1 && c.1 < t + 8 * n)).map (fun c => (c.1 - t) / 8)
  idx.eraseDups.map (fun i => (i, leNat (memRead cells (t + 8 * i) 8)))

/-- The leaf pages under the table `t` of level `lvl` whose span begins at `va`, and the tables reached;
`lvls` are the levels still to visit, and `own` tells the addresses that a walk may read (R499). -/
def treeFrom (cells : List Host.Cell) (own : Nat → Bool) (t va : Nat) : (lvls : List Nat) → List MigPage × List Nat
  | [] => ([], [])
  | lvl :: r =>
    let n := if lvl = 1 then 262144 else if lvl = 2 then 512 else 32
    (tableEntries cells t n).foldl (fun (acc : List MigPage × List Nat) (e : Nat × Nat) =>
      let v := va + e.1 * lvlSpan lvl
      if entryInvalid lvl e.2 || !own (t + 8 * e.1) then acc
      else if bitOf e.2 1 then
        (acc.1 ++ [{ va := v, lvl := lvl, entry := t + 8 * e.1, pa := entryPa e.2, dst := 0 }], acc.2)
      else
        let sub := treeFrom cells own (entryPa e.2) v r
        (acc.1 ++ sub.1, acc.2 ++ sub.2)) ([], [t])

/-- The table tree of `p` (R516): a line outside its memory or poisoned is not read. -/
def Mach.tree (m : Mach) (p : Nat) : List MigPage × List Nat :=
  treeFrom m.mem.cells (fun a => m.inMem p a && !m.mem.poison.contains (a / 64)) (m.mmuRoot p) 0 [1, 2, 3]

/-- Channels that the table `t` of level `lvl` touches: tables lie in one channel or cross none (R497). -/
def tablesIn (ts : List Nat) (ch : Nat) : Bool := ts.any (fun t => chanOf t = ch)

/-- A reserve entry is well-formed, aligned and in the memory of `p` outside channel `ch` (R515, R516). -/
def Mach.reserveOk (m : Mach) (p ch e : Nat) : Bool :=
  let size := bitsOf e 1 0
  let pa := bitsOf e 39 16 * 2 ^ 16
  let n := lvlSpan (3 - size)
  size < 3 && bitsOf e 63 40 = 0 && bitsOf e 15 2 = 0 && pa % n = 0 && m.rangeInMem p pa n && chanOf pa ≠ ch

/-- Destinations: each page of the channel takes the first unused entry of its size (R517). -/
def assignReserve (res : List Nat) : List MigPage → Option (List MigPage)
  | [] => some []
  | g :: r =>
    match res.find? (fun e => bitsOf e 1 0 = 3 - g.lvl) with
    | none => none
    | some e => (assignReserve (res.erase e) r).map (fun l => { g with dst := bitsOf e 39 16 * 2 ^ 16 } :: l)

/-- The reserve list of `p` as registered (R515). -/
def Mach.reserveList (m : Mach) (p : Nat) : Mach × Except XFail (List Nat) :=
  let n := m.fld (A.MMU_RES_CNT p) 23 0
  match m.vread 4 p (m.rd64 (A.MMU_RES_LO p)) (8 * n) with
  | (m, .error e) => (m, .error e)
  | (m, .ok b) => (m, .ok ((List.range n).map (fun i => fieldAt b (8 * i) 8)))

/-- ERR and RETIRE after a refusal (R516). -/
def Mach.retireErr (m : Mach) (ch err : Nat) : Mach :=
  (m.put (A.MEM_MIG_STS ch) 31 24 err).putBit (A.MEM_CH_CTL ch) 0 (m.chState ch = 4)

/-- A write of 1 to MEM_CH_CTL.RETIRE (R516, R517). -/
def Mach.retire (m : Mach) (ch : Nat) : Mach :=
  match m.chOwner ch with
  | none => m.retireErr ch 8
  | some p =>
    let mode := m.fld (A.LOAM_MODE p) 1 0
    let base := m.snapBase p
    if m.chState ch ≠ 3 then m.retireErr ch 8
    else if m.retiring p then m.retireErr ch 9
    else if ((m.channelsOf p).filter (fun c => m.chState c ≠ 5)).length ≤ 1 then m.retireErr ch 3
    else if 2 ≤ mode then m.retireErr ch 2
    else if m.snapLen p ≠ 0 && chanOf base ≤ ch && ch ≤ chanOf (base + m.snapLen p - 1) then m.retireErr ch 5
    else
      let (pages, tables) := m.tree p
      if tablesIn tables ch then m.retireErr ch 4
      else
        match m.reserveList p with
        | (m, .error _) => m.retireErr ch 7
        | (m, .ok res) =>
          if !res.all (m.reserveOk p ch) then m.retireErr ch 7
          else
            match assignReserve res (pages.filter (fun g => chanOf g.pa = ch)) with
            | none => m.retireErr ch 6
            | some plan =>
              let m := (m.setChState ch 4).putBit (A.MEM_CH_CTL ch) 0 true
              let m := m.wr (A.MEM_MIG_STS ch) 0
              let m := { m with mem := { m.mem with mig := tset m.mem.mig ch (mode, plan) } }
              m.put (A.LOAM_MODE p) 1 0 3

/-- The lines of [pa, pa + n) that cannot be read. -/
def Mach.badLines (m : Mach) (pa n : Nat) : List Nat :=
  if m.mem.failed.contains (chanOf pa) then rangeFrom (pa / 64) (n / 64)
  else m.mem.poison.filter (fun l => pa / 64 ≤ l && l < (pa + n) / 64)

/-- One page moves: its bytes, its poison, its leaf entry, its translations (R517, R518). -/
def Mach.retirePage (m : Mach) (ch p : Nat) (g : MigPage) : Mach :=
  let n := lvlSpan g.lvl
  let bad := m.badLines g.pa n
  let moved := (m.mem.cells.filter (fun c => g.pa ≤ c.1 && c.1 < g.pa + n)).map (fun c => (c.1 - g.pa + g.dst, c.2))
  let cells := moved.foldl (fun l c => memSet l c.1 c.2) (memZero m.mem.cells g.dst n)
  let poison := m.mem.poison.filter (fun l => !(g.dst / 64 ≤ l && l < (g.dst + n) / 64))
  let e := leNat (memRead cells g.entry 8)
  let e := withBits e 39 8 (g.dst / 256)
  let m := { m with mem := { m.mem with
    cells := memWrite cells g.entry (leBytes 8 e),
    poison := poison ++ bad.map (fun l => l - g.pa / 64 + g.dst / 64) } }
  let m := m.bumpF (A.MEM_MIG_POISON ch) 31 0 bad.length
  let m := m.dropRange p g.va n
  m.bumpF (A.MEM_MIG_STS ch) 23 0 1

/-- The next page finishes copying. -/
def Mach.retirePageDone (m : Mach) (ch : Nat) : Mach :=
  match tfind m.mem.mig ch, m.chOwner ch with
  | some (mode, g :: r), some p =>
    let m := m.retirePage ch p g
    { m with mem := { m.mem with mig := tset m.mem.mig ch (mode, r) } }
  | _, _ => m

def execRetirePageDone (ch : Fin 64) (s : State) : Host.Outcome State Fault Refusal :=
  s.onMach (fun m => if m.chState ch = 4 then m.retirePageDone ch else m)

/-- The channel leaves the partition, which counts a change (R532), and Loam returns to its former mode (R517). -/
def Mach.retireDone (m : Mach) (ch : Nat) : Mach :=
  let m := (((m.setChState ch 5).put (A.MEM_MIG_STS ch) 31 24 1)).putBit (A.MEM_CH_CTL ch) 0 false
  let mode := (tget m.mem.mig ch (0, [])).1
  let m := if m.fld (A.FLT_USTS (0x80 + ch)) 31 29 = 4 then m.put (A.FLT_USTS (0x80 + ch)) 31 29 5 else m
  let m := { m with mem := { m.mem with mig := terase m.mem.mig ch } }
  match m.chOwner ch with
  | some p => (m.cfgGen p).put (A.LOAM_MODE p) 1 0 mode
  | none => m

/-! ### Scrubbing (R513, R514) -/

/-- The scrub reads the next line of a channel, which shows `f`; the line after the last begins a new pass. -/
def Mach.scrubLine (m : Mach) (ch : Nat) (f : Found) : Mach :=
  let i := tget m.mem.scrubAt ch 0
  let line := ch * 2 ^ 27 + i
  let m := if m.mem.poison.contains line then (m.bump (A.MEM_POISON_RD ch)).errPa line else m.memFound line f true
  let m := { m with mem := { m.mem with scrubAt := tset m.mem.scrubAt ch ((i + 1) % 2 ^ 27) } }
  if i + 1 = 2 ^ 27 then
    let m := { m with mem := { m.mem with devCount := tdrop m.mem.devCount (fun k => k / 2 ^ 16 = ch) } }
    (m.bump (A.MEM_SCRUB_PASS ch)).put (A.MEM_DEV_CORR ch) 15 0 0
  else m

/-- What the command says the scrub found: no error, a correctable error of device `dev`, or one that is
not; a scrub never checks tags (R513). -/
def scrubFound (dev : Option (BitVec 8)) (unc : Bool) : Found :=
  if unc then .uncorrectable else match dev with | some d => .corrected d.toNat | none => .clean

def execScrubLine (ch : Fin 64) (dev : Option (BitVec 8)) (unc : Bool) (s : State) : Host.Outcome State Fault Refusal :=
  s.onMach (fun m => if m.chState ch ≠ 0 && m.chState ch ≠ 5 then m.scrubLine ch (scrubFound dev unc) else m)

end Sys2Proof.Machine
end

