-- ==== Sys2Proof/Machine/Trace.lean ====
section
/-! DEFINITION. The trace queue of a partition (R402, R403), to which several blocks write. -/
namespace Sys2Proof.Machine

/-- The queue block of the trace queue of `p` (R401). -/
def traceBlock (p : Nat) : Nat := 0x100080 + 0x1000 * p

/-- A trace item of 64 bytes (R403): KIND, bytes 2 to 7, bytes 16 onward. -/
def Mach.traceItem (m : Mach) (kind : Nat) (b2 b16 : List Byte) : List Byte :=
  leBytes 2 kind ++ slice b2 0 6 ++ leBytes 8 m.phase ++ slice b16 0 48

/-- An item is written through the tables of `p`; a failure clears EN and counts the item (R402). -/
def Mach.traceStore (p : Nat) (m : Mach) (item : List Byte) : Mach :=
  let b := traceBlock p
  match m.vwrite 4 p (m.rd64 (A.TRACE_BASE_LO p) + 64 * m.qSlot b) item with
  | (m, none) => m.qCommit b 1
  | (m, some _) => (m.putBit (A.TRACE_CFG p) 31 false).bump (A.Q_DROPS b)

/-- An event of kind `kind` of partition `p` is traced where the kind is enabled (R402). -/
def Mach.trace (m : Mach) (p kind : Nat) (b2 b16 : List Byte) : Mach :=
  if m.bit (A.TRACE_CFG p) 31 && m.bit (A.TRACE_CFG p) (kind - 1) then
    m.lossyPush (traceBlock p) (m.traceItem kind b2 b16) (Mach.traceStore p)
  else m

/-- A write of TRACE_CFG (R401, R402): CAP_LOG2 only while EN is 0, and setting EN resets the queue. -/
def Mach.writeTraceCfg (m : Mach) (p v : Nat) : Mach :=
  let a := A.TRACE_CFG p
  let was := m.bit a 31
  let cap := let c := bitsOf v 20 16; if 8 ≤ c && c ≤ 15 then c else 8
  let m := if was then m else m.put a 20 16 cap
  let m := m.put a 7 0 (bitsOf v 7 0)
  let b := traceBlock p
  let m := if bitOf v 31 && !was then
      let m := m.wr (A.Q_PTR b) 0
      { m with net := { m.net with gaps := terase m.net.gaps b } }
    else m
  m.putBit a 31 (bitOf v 31)

end Sys2Proof.Machine
end

