-- ==== Sys2Proof/Machine/TileBase.lean ====
section
/-! DEFINITION. What all kernel instructions share (R206, R214 to R230, R242): tile memory, scalar and
vector registers, descriptors and their checks, decoding, issue, waiting and kernel faults. -/
namespace Sys2Proof.Machine

/-! ### Access to a tile -/

def Mach.tile (m : Mach) (t : Nat) : Tile := tget m.tiles t {}
def Mach.setTile (m : Mach) (t : Nat) (x : Tile) : Mach := { m with tiles := tset m.tiles t x }

/-- TILE_STS.STATE (R249). -/
def Mach.tileState (m : Mach) (t : Nat) : Nat := m.fld (A.TILE_STS t) 3 0
def Mach.setTileState (m : Mach) (t st : Nat) : Mach := m.put (A.TILE_STS t) 3 0 st

def Mach.tilePc (m : Mach) (t : Nat) : Nat := m.fld (A.TILE_PC t) 23 0
def Mach.setTilePc (m : Mach) (t pc : Nat) : Mach := m.put (A.TILE_PC t) 23 0 pc

/-- Scalar register (R219): s0 reads 0. -/
def Tile.sreg (x : Tile) (i : Nat) : Nat := if i = 0 then 0 else (tget x.s i 0).toNat
/-- A write of a scalar register; s0 ignores it (R219). -/
def Tile.setS (x : Tile) (i v : Nat) : Tile := if i = 0 then x else { x with s := tset x.s i (BitVec.ofNat 64 v) }

/-- The null descriptor: SPACE 2 (R226). -/
def nullDesc : Nat := 2 ^ 127
def Tile.vreg (x : Tile) (i : Nat) : Nat := tget x.v i nullDesc
def Tile.setV (x : Tile) (i v : Nat) : Tile := { x with v := tset x.v i (v % 2 ^ 128) }

/-- Bytes written to local memory; a line written in full loses its poison (R243). -/
def Tile.store (x : Tile) (a : Nat) (b : List Byte) : Tile :=
  { x with mem := memWrite x.mem a b,
           poison := x.poison.filter (fun l => !(a ≤ 64 * l && 64 * l + 64 ≤ a + b.length)) }

/-- The first poisoned line that [a, a + n) touches. -/
def Tile.poisonIn (x : Tile) (a n : Nat) : Option Nat :=
  x.poison.find? (fun l => n ≠ 0 && a < 64 * l + 64 && 64 * l < a + n)

/-- Is the tile empty of issued work? -/
def Tile.drained (x : Tile) : Bool :=
  x.arr.isEmpty && x.dma.isEmpty && x.brz.isEmpty && x.gen.isEmpty && x.noise.isEmpty && x.chain.isEmpty

/-- Resident shards on tile `t` are lost (R331). -/
def Mach.dropShards (m : Mach) (t : Nat) : Mach := { m with shards := m.shards.filter (fun s => !s.tiles.contains t) }

/-- Tile store, Bronze state and seed expander zeroized, code kept (R193). -/
def Mach.wipeTile (m : Mach) (t : Nat) : Mach :=
  let x := m.tile t
  (m.setTile t { x with mem := memZero x.mem 0 0x800000, poison := [], brz := [], gen := [] }).dropShards t

/-- The gate engine's node that runs on tile `t`. -/
def Mach.gateOn (m : Mach) (t : Nat) : Option GateRun := m.gates.find? (fun g => g.tiles.contains t)

/-- An expansion may claim the tile: idle, or a gate node between levels (R193, R341). -/
def Mach.tileClaimable (m : Mach) (t : Nat) : Bool :=
  m.tileState t = 0 || m.tileState t = 4 || (match m.gateOn t with | some g => m.tileState t = 2 && !g.busy | none => false)

/-- The tile returns from an expansion: to its gate node, or idle. -/
def Mach.expandedTile (m : Mach) (t : Nat) : Mach := m.setTileState t (if (m.gateOn t).isSome then 2 else 0)

/-- The result of a node waits for its completion edge (R386). -/
def Mach.nodeResult (m : Mach) (n : Nat × Nat × Nat) (code detail : Nat) : Mach :=
  { m with nodeRes := m.nodeRes ++ [(n, code, detail)] }

/-! ### Descriptors (R226, R227) -/

def dSpace (d : Nat) : Nat := bitsOf d 127 126
def dFmt (d : Nat) : Nat := bitsOf d 125 122
def dSp (d : Nat) : Bool := bitOf d 121
def dBs (d : Nat) : Bool := bitOf d 120
def dRows (d : Nat) : Nat := bitsOf d 119 88
def dCols (d : Nat) : Nat := bitsOf d 87 72
def dStride (d : Nat) : Nat := bitsOf d 71 48
def dBase (d : Nat) : Nat := bitsOf d 47 0

/-- Element width in bits of a format code; none for a reserved one (R255, R256). -/
def fmtWidth (f : Nat) : Option Nat :=
  match f with
  | 0x0 => some 32 | 0x1 => some 64 | 0x2 => some 64 | 0x3 => some 4 | 0x4 => some 4 | 0x5 => some 8
  | 0x6 => some 8 | 0x7 => some 8 | 0x8 => some 16 | 0x9 => some 16 | 0xA => some 32
  | _ => none

/-- Bits of a row, or of a quad where SP is set (R226, R279). -/
def rowBits (d : Nat) : Nat :=
  let w := (fmtWidth (dFmt d)).getD 8
  let slot := dCols d * w + (if dBs d then dCols d / 32 * 8 else 0)
  if dSp d then 2 * slot + 4 * dCols d else slot

def rowBytes (d : Nat) : Nat := cdiv (rowBits d) 8

/-- Rows as stored: quads where SP is set. -/
def storedRows (d : Nat) : Nat := if dSp d then dRows d / 4 else dRows d

/-- First byte after the footprint (R226). -/
def footEnd (d : Nat) : Nat := dBase d + (storedRows d - 1) * dStride d + rowBytes d

/-- A kernel fault: cause and DETAIL (R242). -/
abbrev KF := Nat × Nat

/-- DESC_BAD with the register and the field code of R225. -/
def descBad (reg field : Nat) : Option KF := some (7, reg + 256 * field)

/-- The checks of R227 on descriptor `d` of register `reg`; `dst` where the instruction writes it. -/
def checkDesc (reg d : Nat) (dst : Bool) : Option KF :=
  let sp := dSpace d
  if sp = 3 || sp = 2 then descBad reg 5
  else if dRows d = 0 then descBad reg 3
  else if dCols d = 0 then descBad reg 2
  else if (fmtWidth (dFmt d)).isNone then some (8, dFmt d)
  else if rowBits d % 8 ≠ 0 then descBad reg 2
  else if dBs d && dCols d % 32 ≠ 0 then descBad reg 2
  else if storedRows d > 1 && dStride d < rowBytes d then descBad reg 1
  else if sp = 0 then
    if dBase d ≥ 2 ^ 24 then some (3, dBase d)
    else if dBase d < 0x840000 && 0x800000 < footEnd d then
      (if dst then some (2, max (dBase d) 0x800000) else some (3, max (dBase d) 0x800000))
    else if 0x800000 < footEnd d then descBad reg 0
    else none
  else none

/-- A local descriptor is needed. -/
def needLocal (reg d : Nat) : Option KF := if dSpace d ≠ 0 then descBad reg 5 else none

/-- SP = 1 is refused by every instruction but MMA and the transfers (R281). -/
def noSp (d : Nat) : Option KF := if dSp d then some (8, dFmt d) else none

/-- Byte ranges of the rows of a local descriptor: for the interlock of R230 the whole footprint. -/
def foot (d : Nat) : List (Nat × Nat) := if dSpace d = 0 then [(dBase d, footEnd d)] else []

/-- Row `r` of a local descriptor. -/
def Tile.row (x : Tile) (d r : Nat) : List Byte := memRead x.mem (dBase d + r * dStride d) (rowBytes d)

/-- Element `c` of a row of bytes, at width `w` bits (R257). -/
def elemAt (w : Nat) (b : List Byte) (c : Nat) : Nat :=
  if w = 4 then (let y := (b.getD (c / 2) 0).toNat; if c % 2 = 0 then y % 16 else y / 16)
  else fieldAt b (c * (w / 8)) (w / 8)

/-- A row of elements packed (R257). -/
def packRow (w : Nat) (l : List Nat) : List Byte :=
  if w = 4 then (List.range (cdiv l.length 2)).map (fun i => BitVec.ofNat 8 (l.getD (2 * i) 0 % 16 + 16 * (l.getD (2 * i + 1) 0 % 16)))
  else l.flatMap (fun v => leBytes (w / 8) v)

/-- The first poisoned line a local descriptor's rows touch. -/
def Tile.poisonDesc (x : Tile) (d : Nat) : Option Nat :=
  if dSpace d = 0 then (List.range (storedRows d)).findSome? (fun r => x.poisonIn (dBase d + r * dStride d) (rowBytes d))
  else none

/-! ### Decode (R221 to R241) -/

/-- How an operation uses its fields: 0 not at all, 1 as a scalar register, 2 as a vector register; whether it
uses X and IMM. -/
structure OpUse where
  d : Nat
  a : Nat
  b : Nat
  x : Bool
  imm : Bool
  deriving DecidableEq, Repr

/-- The use of fields by CLS and OP; none where reserved (R222, R223, R225, R228, R232, R233, R239 to R241). -/
def opUse (cls op : Nat) : Option OpUse :=
  match cls with
  | 0 =>
    if op = 0x0F || op = 0x17 || op = 0x18 then some ⟨1, 1, 0, false, false⟩
    else if op = 0x1C || op = 0x1E || op = 0x1F then some ⟨1, 0, 0, false, false⟩
    else if op = 0x1D then some ⟨0, 0, 1, false, false⟩
    else if op ≤ 0x1B && op ≠ 0x19 then some ⟨1, 1, 1, false, false⟩
    else none
  | 1 =>
    if op = 0x0F || op = 0x17 || op = 0x18 then some ⟨1, 1, 0, false, false⟩
    else if op = 0x1C || op = 0x1E || op = 0x1F then some ⟨1, 0, 0, false, false⟩
    else if op = 0x1D then some ⟨0, 0, 0, false, true⟩
    else if op ≤ 0x1B then some ⟨1, 1, 0, false, true⟩
    else none
  | 2 =>
    if op ≤ 0x06 then some ⟨1, 1, 0, false, true⟩
    else if 0x08 ≤ op && op ≤ 0x0B then some ⟨0, 1, 1, false, true⟩
    else if op = 0x10 then some ⟨2, 1, 0, false, true⟩
    else if op = 0x11 then some ⟨0, 1, 2, false, true⟩
    else if op = 0x12 then some ⟨2, 2, 0, false, false⟩
    else if op = 0x13 then some ⟨2, 1, 0, true, true⟩
    else if op = 0x14 then some ⟨1, 2, 0, true, false⟩
    else none
  | 3 =>
    if op = 0x00 || op = 0x08 || op = 0x0E then some ⟨0, 0, 0, false, true⟩
    else if 0x01 ≤ op && op ≤ 0x06 then some ⟨0, 1, 1, false, true⟩
    else if op = 0x09 || op = 0x0F then some ⟨0, 0, 0, false, false⟩
    else if op = 0x0A then some ⟨0, 1, 0, false, false⟩
    else if op = 0x0B then some ⟨0, 1, 0, false, true⟩
    else none
  | 4 =>
    if op = 0 then some ⟨0, 2, 2, true, false⟩
    else if op ≤ 3 then some ⟨2, 2, 2, true, false⟩
    else none
  | 5 =>
    if op = 0 then some ⟨0, 2, 2, true, false⟩
    else if op = 2 then some ⟨0, 0, 0, true, false⟩
    else if op = 3 then some ⟨1, 0, 0, true, false⟩
    else if op = 4 then some ⟨2, 0, 0, true, false⟩
    else if op = 5 then some ⟨0, 0, 0, false, true⟩
    else none
  | 6 =>
    -- operands of the Bronze operations by R324; SEXP and NOISE by R236, R238
    match op with
    | 0x00 => some ⟨2, 2, 0, false, false⟩
    | 0x01 => some ⟨2, 2, 0, true, false⟩
    | 0x02 => some ⟨2, 2, 2, false, false⟩
    | 0x03 => some ⟨2, 2, 2, false, false⟩
    | 0x04 => some ⟨2, 2, 2, false, false⟩
    | 0x05 => some ⟨2, 2, 2, false, false⟩
    | 0x06 => some ⟨2, 2, 0, true, true⟩
    | 0x07 => some ⟨2, 2, 1, true, false⟩
    | 0x08 => some ⟨2, 2, 0, false, true⟩
    | 0x09 => some ⟨2, 2, 2, true, true⟩
    | 0x0A => some ⟨2, 2, 2, true, true⟩
    | 0x0B => some ⟨2, 2, 0, false, true⟩
    | 0x10 => some ⟨2, 1, 1, true, true⟩
    | 0x11 => some ⟨2, 0, 0, true, true⟩
    | _ => none
  | 7 =>
    if op = 0 || op = 6 || op = 7 then some ⟨0, 0, 0, false, true⟩
    else if op ≤ 4 then some ⟨0, 0, 0, false, false⟩
    else if op = 5 then some ⟨0, 1, 0, false, true⟩
    else if op = 8 then some ⟨0, 1, 1, false, false⟩
    else none
  | 8 =>
    if op = 0 || op = 2 then some ⟨0, 2, 0, true, false⟩
    else if op = 1 then some ⟨2, 0, 0, true, false⟩
    else none
  | _ => none

/-- A fetched instruction word with its address (R221). -/
structure TIns where
  w : Nat
  pc : Nat
  deriving DecidableEq, Repr

def TIns.cls (i : TIns) : Nat := bitsOf i.w 63 60
def TIns.op (i : TIns) : Nat := bitsOf i.w 59 54
def TIns.d (i : TIns) : Nat := bitsOf i.w 53 49
def TIns.a (i : TIns) : Nat := bitsOf i.w 48 44
def TIns.b (i : TIns) : Nat := bitsOf i.w 43 39
def TIns.x (i : TIns) : Nat := bitsOf i.w 38 32
def TIns.imm (i : TIns) : Nat := bitsOf i.w 31 0
/-- IMM sign-extended, mod 2^64 (R221). -/
def TIns.sext (i : TIns) : Nat := (BitVec.signExtend 64 (BitVec.ofNat 32 i.imm)).toNat
/-- CLS × 64 + OP. -/
def TIns.code (i : TIns) : Nat := i.cls * 64 + i.op

/-- A field that does not fit its use: unused and non-zero, or a vector field with its top bit set (R221). -/
def badField (use f : Nat) : Bool := if use = 0 then f ≠ 0 else use = 2 && 16 ≤ f

/-- The word is legal: a defined operation, no unused field set (R221). -/
def TIns.legal (i : TIns) : Bool :=
  match opUse i.cls i.op with
  | none => false
  | some u => !(badField u.d i.d || badField u.a i.a || badField u.b i.b || (!u.x && i.x ≠ 0) || (!u.imm && i.imm ≠ 0))

/-! ### Issue -/

/-- What issuing an instruction comes to: it takes effect and goes on in sequence, or at a target; it
faults; it waits (R230). -/
inductive TRes where
  | seq (m : Mach)
  | jump (m : Mach) (target : Nat)
  | stop (m : Mach)
  | fault (cause detail : Nat)
  | wait (m : Mach)

/-- A kernel fault: no later instruction issues, and the record waits for the engines to drain (R242). -/
def Mach.kfault (m : Mach) (t cause detail pc : Nat) : Mach :=
  let x := m.tile t
  let m := m.setTile t { x with fault := if x.fault.isSome then x.fault else some (cause, detail % 2 ^ 64, pc) }
  m.setTileState t 3

/-- After the instruction at the end of a loop body, the body is repeated or left (R228). -/
def loopNext (pc : Nat) : List (Nat × Nat × Nat) → Nat × List (Nat × Nat × Nat)
  | [] => (pc + 8, [])
  | (a, b, n) :: r =>
    if b = pc then (if 1 < n then (a, (a, b, n - 1) :: r) else loopNext pc r) else (pc + 8, (a, b, n) :: r)

/-- A branch target is in the running kernel's code region and aligned (R228). -/
def Tile.pcOk (x : Tile) (pc : Nat) : Bool := pc % 8 = 0 && x.cbase ≤ pc && pc < x.cbase + x.clen

/-- CNT_INSTR counts an instruction issued (R251). -/
def Mach.countIns (m : Mach) (t : Nat) : Mach :=
  m.wr64 (A.CNT_INSTR_LO t) (min (m.rd64 (A.CNT_INSTR_LO t) + 1) (2 ^ 64 - 1))

/-- The tile issues its next instruction: a kernel is RUNNING, no END, no fault (R229, R242), not held (R540), and the
tile is not isolated (R634). -/
def Mach.canIssue (m : Mach) (t : Nat) : Bool :=
  let x := m.tile t
  m.tileState t = 2 && x.node.isSome && !x.ended && x.fault.isNone && (!x.halted || x.step) && m.fld (A.FLT_USTS t) 31 29 < 3

/-- A held tile has issued the one instruction of its STEP (R540). -/
def Mach.stepped (m : Mach) (t : Nat) : Mach := if (m.tile t).halted then m.setTile t { m.tile t with step := false } else m

/-- Kaolin has sealed the tile, for an expansion (R193) or a protocol session (R349). -/
def Mach.tileSealed (m : Mach) (t : Nat) : Bool :=
  m.tileState t = 6 || m.loam.sessions.any (fun s => s.tiles.contains t)

/-- The instruction at the program counter. -/
def Mach.fetch (m : Mach) (t : Nat) : TIns :=
  let pc := m.tilePc t
  { w := leNat (memRead (m.tile t).mem pc 8), pc := pc }

/-- Tile `t` issues its next instruction, which has one of the codes `cs` and the meaning `f`. -/
def Mach.issue (m : Mach) (t : Nat) (cs : List Nat) (f : Mach → Tile → TIns → TRes) : Mach :=
  if !m.canIssue t then m
  else
    let x := m.tile t
    let i := m.fetch t
    if !x.pcOk i.pc then (m.kfault t 5 i.pc i.pc).stepped t
    else if (opUse i.cls i.op).isNone then (m.kfault t 1 i.w i.pc).stepped t
    else if !cs.contains i.code then m
    else if !i.legal then (m.kfault t 1 i.w i.pc).stepped t
    else
      match f m x i with
      | .seq m =>
        let x := m.tile t
        let (pc, loops) := loopNext i.pc x.loops
        (((m.setTile t { x with loops := loops }).setTilePc t pc).countIns t).stepped t
      | .jump m pc => (if (m.tile t).pcOk pc then (m.setTilePc t pc).countIns t else m.kfault t 5 pc i.pc).stepped t
      | .stop m => (m.countIns t).stepped t
      | .fault c d => (m.kfault t c d i.pc).stepped t
      | .wait m => m

/-- An instruction that writes one scalar register. -/
def Mach.seqS (m : Mach) (t : Nat) (x : Tile) (d v : Nat) : TRes := .seq (m.setTile t (x.setS d v))

/-! ### Interlocks (R229, R230) -/

/-- Two ranges meet. -/
def meets (a b : Nat × Nat) : Bool := a.1 < b.2 && b.1 < a.2

/-- An incomplete operation of `l` bars an instruction that reads `rds` and writes `wrs`. -/
def bars (l : List EngOp) (rds wrs : List (Nat × Nat)) : Bool :=
  l.any (fun o => wrs.any (fun w => o.rds.any (meets w) || o.wrs.any (meets w)) || rds.any (fun r => o.wrs.any (meets r)))

/-- The engine queues, by number: 0 array, 1 DMA, 2 Bronze, 3 seed expander, 4 noise, 5 chain. -/
def Tile.queue (x : Tile) (k : Nat) : List EngOp :=
  match k with | 0 => x.arr | 1 => x.dma | 2 => x.brz | 3 => x.gen | 4 => x.noise | _ => x.chain

/-- Entries of each queue (R229); the DMA engine has one per tag. -/
def queueCap (k : Nat) : Nat := match k with | 0 => 4 | 1 => 16 | 2 => 4 | _ => 2

/-- An instruction outside every queue (9), or of queue `k`, must wait (R230). -/
def Tile.barred (x : Tile) (k : Nat) (rds wrs : List (Nat × Nat)) : Bool :=
  [0, 1, 2, 3, 4, 5].any (fun j => j ≠ k && bars (x.queue j) rds wrs)

/-- Operations in flight. -/
def Tile.inFlight (x : Tile) : Nat := ([0, 1, 2, 3, 4, 5].map (fun j => (x.queue j).length)).sum

/-- The tile with operation `o` behind the others of queue `k`. -/
def Tile.push (x : Tile) (k : Nat) (o : EngOp) : Tile :=
  match k with
  | 0 => { x with arr := x.arr ++ [o] }
  | 1 => { x with dma := x.dma ++ [o] }
  | 2 => { x with brz := x.brz ++ [o] }
  | 3 => { x with gen := x.gen ++ [o] }
  | 4 => { x with noise := x.noise ++ [o] }
  | _ => { x with chain := x.chain ++ [o] }

/-- Issue of an engine operation, or a wait: queue full, 32 operations in flight, footprints (R229, R230). -/
def Mach.engine (m : Mach) (t : Nat) (x : Tile) (k : Nat) (o : EngOp) : TRes :=
  if queueCap k ≤ (x.queue k).length || 32 ≤ x.inFlight || x.barred k o.rds o.wrs then .wait m
  else .seq (m.setTile t (x.push k o))

/-- The operation record of an instruction at issue. -/
def engOp (x : Tile) (i : TIns) (rds wrs : List (Nat × Nat)) : EngOp :=
  { code := i.code, x := i.x, imm := i.imm, vA := x.vreg i.a, vB := x.vreg i.b, vD := x.vreg i.d,
    sA := x.sreg i.a, sB := x.sreg i.b, ftz := x.ftz, sr := x.sr, pc := i.pc, rds := rds, wrs := wrs }

/-- The first fault among checks in order. -/
def firstKF (l : List (Option KF)) : Option KF := l.findSome? id

/-- Issue after checks: the first failing one faults. -/
def checked (l : List (Option KF)) (r : TRes) : TRes :=
  match firstKF l with
  | some (c, d) => .fault c d
  | none => r

/-! ### The end of a kernel (R220, R242) -/

/-- Records a fault: TILE_KFAULT and its address and DETAIL; the tile is FAULTED and tells Loam (R242). -/
def Mach.recordFault (m : Mach) (t : Nat) (f : Nat × Nat × Nat) : Mach :=
  let x := m.tile t
  let m := if m.bit (A.TILE_KFAULT t) 31 then m
    else ((m.wr (A.TILE_KFAULT t) (BitVec.ofNat 32 (2 ^ 31 + f.1))).wr (A.TILE_KFAULT_PC t) (BitVec.ofNat 32 f.2.2)).wr64
      (A.TILE_KFAULT_DET_LO t) f.2.1
  (m.setTile t { x with fault := none, dmaFail := [], report := some false }).setTileState t 4

/-- The fault that waits for the drain: the one raised, or a DMA fault that END meets (R242). -/
def Tile.dueFault (x : Tile) (pc : Nat) : Option (Nat × Nat × Nat) :=
  match x.fault with
  | some f => some f
  | none => if x.ended then (match x.dmaFail with | (_, d) :: _ => some (9, d, pc) | [] => none) else none

def Mach.kernelFaultRecord (m : Mach) (t : Nat) : Mach :=
  match (m.tile t).dueFault (m.tilePc t) with
  | some f => if (m.tile t).drained then m.recordFault t f else m
  | none => m

def execKernelFaultRecord (t : Fin 80) (s : State) : Host.Outcome State Fault Refusal :=
  s.onMach (fun m => if m.tileState t = 3 then m.kernelFaultRecord t else m)

/-- After END and every issued operation, the tile reports the kernel complete (R220). -/
def Mach.kernelReport (m : Mach) (t : Nat) : Mach :=
  let x := m.tile t
  (m.setTile t { x with report := some true, ended := false }).setTileState t 0

def execKernelReport (t : Fin 80) (s : State) : Host.Outcome State Fault Refusal :=
  s.onMach (fun m => if m.tileState t = 3 && (m.tile t).ended && (m.tile t).drained && ((m.tile t).dueFault 0).isNone
    then m.kernelReport t else m)

end Sys2Proof.Machine
end

