-- ==== Sys2Proof/Machine/Scalar.lean ====
section
/-! DEFINITION. Kernel instructions of classes 0 to 3 and 7: scalar arithmetic, loads and stores, vector
descriptors, control, and synchronisation (R223 to R232). -/
namespace Sys2Proof.Machine

/-- The field modulus (R223). -/
def qF : Nat := 2 ^ 64 - 2 ^ 32 + 1

/-- The signed reading of a 64-bit value. -/
def sig (a : Nat) : Int := (BitVec.ofNat 64 a).toInt
/-- An integer as a 64-bit value. -/
def unsig (a : Int) : Nat := (BitVec.ofInt 64 a).toNat

/-- Result of a scalar operation: value (its low 64 bits count), and whether DZ or OV is set (R224). -/
structure AluRes where
  v : Nat
  dz : Bool
  ov : Bool
  deriving DecidableEq, Repr

/-- The second source: sB, or the immediate in class 1 (R223). -/
def Tile.srcB (x : Tile) (i : TIns) : Nat := if i.cls = 1 then i.sext else x.sreg i.b

/-- Sticky flags (R224, R249). -/
def Mach.stickFlags (m : Mach) (t : Nat) (dz ov : Bool) : Mach :=
  let m := if dz then m.putBit (A.TILE_SFLAGS t) 0 true else m
  if ov then m.putBit (A.TILE_SFLAGS t) 1 true else m

/-- A scalar operation of class 0 or 1 with operation number `op` (R223, R224). -/
def Mach.scalar (m : Mach) (t op : Nat) (f : Nat → Nat → AluRes) : Mach :=
  m.issue t [op, 64 + op] (fun m x i =>
    let r := f (x.sreg i.a) (x.srcB i)
    (m.stickFlags t r.dz r.ov).seqS t x i.d r.v)

/-- ADD. -/
def aluAdd : Nat → Nat → AluRes := fun a b => ⟨a + b, false, false⟩

def execAdd (t : Fin 80) (s : State) : Host.Outcome State Fault Refusal :=
  s.onMach (fun m => m.scalar t 0x00 aluAdd)

/-- SUB. -/
def aluSub : Nat → Nat → AluRes := fun a b => ⟨a + 2 ^ 64 - b, false, false⟩

def execSub (t : Fin 80) (s : State) : Host.Outcome State Fault Refusal :=
  s.onMach (fun m => m.scalar t 0x01 aluSub)

/-- MUL. -/
def aluMul : Nat → Nat → AluRes := fun a b => ⟨a * b, false, false⟩

def execMul (t : Fin 80) (s : State) : Host.Outcome State Fault Refusal :=
  s.onMach (fun m => m.scalar t 0x02 aluMul)

/-- MULHU. -/
def aluMulhu : Nat → Nat → AluRes := fun a b => ⟨a * b / 2 ^ 64, false, false⟩

def execMulhu (t : Fin 80) (s : State) : Host.Outcome State Fault Refusal :=
  s.onMach (fun m => m.scalar t 0x03 aluMulhu)

/-- MULHS. -/
def aluMulhs : Nat → Nat → AluRes := fun a b => ⟨unsig (sig a * sig b / 2 ^ 64), false, false⟩

def execMulhs (t : Fin 80) (s : State) : Host.Outcome State Fault Refusal :=
  s.onMach (fun m => m.scalar t 0x04 aluMulhs)

/-- DIVU. -/
def aluDivu : Nat → Nat → AluRes := fun a b => if b = 0 then ⟨2 ^ 64 - 1, true, false⟩ else ⟨a / b, false, false⟩

def execDivu (t : Fin 80) (s : State) : Host.Outcome State Fault Refusal :=
  s.onMach (fun m => m.scalar t 0x05 aluDivu)

/-- DIVS. -/
def aluDivs : Nat → Nat → AluRes := fun a b =>
    if b = 0 then ⟨2 ^ 64 - 1, true, false⟩
    else if sig a = -2 ^ 63 && sig b = -1 then ⟨2 ^ 63, false, true⟩
    else ⟨unsig ((sig a).tdiv (sig b)), false, false⟩

def execDivs (t : Fin 80) (s : State) : Host.Outcome State Fault Refusal :=
  s.onMach (fun m => m.scalar t 0x06 aluDivs)

/-- REMU. -/
def aluRemu : Nat → Nat → AluRes := fun a b => if b = 0 then ⟨a, true, false⟩ else ⟨a % b, false, false⟩

def execRemu (t : Fin 80) (s : State) : Host.Outcome State Fault Refusal :=
  s.onMach (fun m => m.scalar t 0x07 aluRemu)

/-- REMS. -/
def aluRems : Nat → Nat → AluRes := fun a b => if b = 0 then ⟨a, true, false⟩ else ⟨unsig ((sig a).tmod (sig b)), false, false⟩

def execRems (t : Fin 80) (s : State) : Host.Outcome State Fault Refusal :=
  s.onMach (fun m => m.scalar t 0x08 aluRems)

/-- AND. -/
def aluTileAnd : Nat → Nat → AluRes := fun a b => ⟨a &&& b, false, false⟩

def execTileAnd (t : Fin 80) (s : State) : Host.Outcome State Fault Refusal :=
  s.onMach (fun m => m.scalar t 0x09 aluTileAnd)

/-- OR. -/
def aluTileOr : Nat → Nat → AluRes := fun a b => ⟨a ||| b, false, false⟩

def execTileOr (t : Fin 80) (s : State) : Host.Outcome State Fault Refusal :=
  s.onMach (fun m => m.scalar t 0x0A aluTileOr)

/-- XOR. -/
def aluTileXor : Nat → Nat → AluRes := fun a b => ⟨a ^^^ b, false, false⟩

def execTileXor (t : Fin 80) (s : State) : Host.Outcome State Fault Refusal :=
  s.onMach (fun m => m.scalar t 0x0B aluTileXor)

/-- SHL. -/
def aluShl : Nat → Nat → AluRes := fun a b => let n := b % 256; if 64 ≤ n then ⟨0, false, a ≠ 0⟩ else ⟨a <<< n, false, false⟩

def execShl (t : Fin 80) (s : State) : Host.Outcome State Fault Refusal :=
  s.onMach (fun m => m.scalar t 0x0C aluShl)

/-- SHR. -/
def aluShr : Nat → Nat → AluRes := fun a b => ⟨a >>> (b % 256), false, false⟩

def execShr (t : Fin 80) (s : State) : Host.Outcome State Fault Refusal :=
  s.onMach (fun m => m.scalar t 0x0D aluShr)

/-- SAR. -/
def aluSar : Nat → Nat → AluRes := fun a b => ⟨unsig (sig a >>> (b % 256)), false, false⟩

def execSar (t : Fin 80) (s : State) : Host.Outcome State Fault Refusal :=
  s.onMach (fun m => m.scalar t 0x0E aluSar)

/-- NEG. -/
def aluNeg : Nat → Nat → AluRes := fun a _ => ⟨2 ^ 64 - a, false, a = 2 ^ 63⟩

def execNeg (t : Fin 80) (s : State) : Host.Outcome State Fault Refusal :=
  s.onMach (fun m => m.scalar t 0x0F aluNeg)

/-- MIN. -/
def aluMin : Nat → Nat → AluRes := fun a b => ⟨if sig a ≤ sig b then a else b, false, false⟩

def execMin (t : Fin 80) (s : State) : Host.Outcome State Fault Refusal :=
  s.onMach (fun m => m.scalar t 0x10 aluMin)

/-- MAX. -/
def aluMax : Nat → Nat → AluRes := fun a b => ⟨if sig a ≤ sig b then b else a, false, false⟩

def execMax (t : Fin 80) (s : State) : Host.Outcome State Fault Refusal :=
  s.onMach (fun m => m.scalar t 0x11 aluMax)

/-- MINU. -/
def aluMinu : Nat → Nat → AluRes := fun a b => ⟨Nat.min a b, false, false⟩

def execMinu (t : Fin 80) (s : State) : Host.Outcome State Fault Refusal :=
  s.onMach (fun m => m.scalar t 0x12 aluMinu)

/-- MAXU. -/
def aluMaxu : Nat → Nat → AluRes := fun a b => ⟨Nat.max a b, false, false⟩

def execMaxu (t : Fin 80) (s : State) : Host.Outcome State Fault Refusal :=
  s.onMach (fun m => m.scalar t 0x13 aluMaxu)

/-- SLT. -/
def aluSlt : Nat → Nat → AluRes := fun a b => ⟨b2n (sig a < sig b), false, false⟩

def execSlt (t : Fin 80) (s : State) : Host.Outcome State Fault Refusal :=
  s.onMach (fun m => m.scalar t 0x14 aluSlt)

/-- SLTU. -/
def aluSltu : Nat → Nat → AluRes := fun a b => ⟨b2n (a < b), false, false⟩

def execSltu (t : Fin 80) (s : State) : Host.Outcome State Fault Refusal :=
  s.onMach (fun m => m.scalar t 0x15 aluSltu)

/-- SEQ. -/
def aluSeq : Nat → Nat → AluRes := fun a b => ⟨b2n (a = b), false, false⟩

def execSeq (t : Fin 80) (s : State) : Host.Outcome State Fault Refusal :=
  s.onMach (fun m => m.scalar t 0x16 aluSeq)

/-- POPC. -/
def aluPopc : Nat → Nat → AluRes := fun a _ => ⟨((List.range 64).filter (fun i => a.testBit i)).length, false, false⟩

def execPopc (t : Fin 80) (s : State) : Host.Outcome State Fault Refusal :=
  s.onMach (fun m => m.scalar t 0x17 aluPopc)

/-- CLZ. -/
def aluClz : Nat → Nat → AluRes := fun a _ => ⟨if a = 0 then 64 else 63 - a.log2, false, false⟩

def execClz (t : Fin 80) (s : State) : Host.Outcome State Fault Refusal :=
  s.onMach (fun m => m.scalar t 0x18 aluClz)

/-- ADDQ. -/
def aluAddq : Nat → Nat → AluRes := fun a b => ⟨(a + b) % qF, false, false⟩

def execAddq (t : Fin 80) (s : State) : Host.Outcome State Fault Refusal :=
  s.onMach (fun m => m.scalar t 0x1A aluAddq)

/-- MULQ. -/
def aluMulq : Nat → Nat → AluRes := fun a b => ⟨a * b % qF, false, false⟩

def execMulq (t : Fin 80) (s : State) : Host.Outcome State Fault Refusal :=
  s.onMach (fun m => m.scalar t 0x1B aluMulq)

/-- MOVHI exists in class 1 only (R223). -/
def Mach.movhi (m : Mach) (t : Nat) : Mach :=
  m.issue t [64 + 0x19] (fun m x i => m.seqS t x i.d (x.sreg i.a % 2 ^ 32 + i.imm * 2 ^ 32))
def execMovhi (t : Fin 80) (s : State) : Host.Outcome State Fault Refusal := s.onMach (fun m => m.movhi t)

/-- RDFLAG: sD := SFLAGS, OV in bit 1 and DZ in bit 0 (R223, R249). -/
def Mach.rdflag (m : Mach) (t : Nat) : Mach :=
  m.issue t [0x1C, 64 + 0x1C] (fun m x i => m.seqS t x i.d (m.fld (A.TILE_SFLAGS t) 1 0))
def execRdflag (t : Fin 80) (s : State) : Host.Outcome State Fault Refusal := s.onMach (fun m => m.rdflag t)

/-- CLRFLAG: SFLAGS := SFLAGS AND NOT sB (R223). -/
def Mach.clrflag (m : Mach) (t : Nat) : Mach :=
  m.issue t [0x1D, 64 + 0x1D] (fun m x i =>
    let f := m.fld (A.TILE_SFLAGS t) 1 0
    let b := x.srcB i
    .seq (m.put (A.TILE_SFLAGS t) 1 0 (b2n (bitOf f 0 && !bitOf b 0) + 2 * b2n (bitOf f 1 && !bitOf b 1))))
def execClrflag (t : Fin 80) (s : State) : Host.Outcome State Fault Refusal := s.onMach (fun m => m.clrflag t)

/-- RAND: 64 bits of the random port, a free value (R223, R237). -/
def Mach.rand (m : Mach) (t : Nat) : Mach :=
  m.issue t [0x1E, 64 + 0x1E] (fun m x i => let (v, m) := m.draw; m.seqS t x i.d v.toNat)
def execRand (t : Fin 80) (s : State) : Host.Outcome State Fault Refusal := s.onMach (fun m => m.rand t)

/-- RDPH: the phase at the tick edge before issue (R223). -/
def Mach.rdph (m : Mach) (t : Nat) : Mach :=
  m.issue t [0x1F, 64 + 0x1F] (fun m x i => m.seqS t x i.d m.phase)
def execRdph (t : Fin 80) (s : State) : Host.Outcome State Fault Refusal := s.onMach (fun m => m.rdph t)

/-! ### Loads and stores (R206, R225, R243) -/

/-- The address of a load or store: sA + sext(IMM), mod 2^64. -/
def Tile.ea (x : Tile) (i : TIns) : Nat := (x.sreg i.a + i.sext) % 2 ^ 64

/-- Checks of a local access of `n` bytes: alignment, range, and code memory for a store (R206, R217, R225). -/
def localCheck (a n : Nat) (store : Bool) : Option KF :=
  if a % n ≠ 0 then some (4, a)
  else if 0x840000 ≤ a then some (3, a)
  else if store && 0x800000 ≤ a then some (2, a)
  else none

/-- A load of `n` bytes, sign-extended where `sx` (R225); it meets poison once no operation bars it (R230, R243). -/
def Mach.load (m : Mach) (t op n : Nat) (sx : Bool) : Mach :=
  m.issue t [128 + op] (fun m x i =>
    let a := x.ea i
    checked [localCheck a n false]
      (if x.barred 9 [(a, a + n)] [] then .wait m
       else checked [(x.poisonIn a n).map (fun _ => (0x0B, a))]
        (let v := leNat (memRead x.mem a n)
         let v := if sx then ((BitVec.ofNat (8 * n) v).signExtend 64).toNat else v
         m.seqS t x i.d v)))

/-- A store of the low `n` bytes of sB (R225). -/
def Mach.tstore (m : Mach) (t op n : Nat) : Mach :=
  m.issue t [128 + op] (fun m x i =>
    let a := x.ea i
    checked [localCheck a n true]
      (if x.barred 9 [] [(a, a + n)] then .wait m
       else .seq (m.setTile t (x.store a (leBytes n (x.sreg i.b))))))

def execLd8 (t : Fin 80) (s : State) : Host.Outcome State Fault Refusal := s.onMach (fun m => m.load t 0 1 false)
def execLd16 (t : Fin 80) (s : State) : Host.Outcome State Fault Refusal := s.onMach (fun m => m.load t 1 2 false)
def execLd32 (t : Fin 80) (s : State) : Host.Outcome State Fault Refusal := s.onMach (fun m => m.load t 2 4 false)
def execLd64 (t : Fin 80) (s : State) : Host.Outcome State Fault Refusal := s.onMach (fun m => m.load t 3 8 false)
def execLds8 (t : Fin 80) (s : State) : Host.Outcome State Fault Refusal := s.onMach (fun m => m.load t 4 1 true)
def execLds16 (t : Fin 80) (s : State) : Host.Outcome State Fault Refusal := s.onMach (fun m => m.load t 5 2 true)
def execLds32 (t : Fin 80) (s : State) : Host.Outcome State Fault Refusal := s.onMach (fun m => m.load t 6 4 true)
def execSt8 (t : Fin 80) (s : State) : Host.Outcome State Fault Refusal := s.onMach (fun m => m.tstore t 8 1)
def execSt16 (t : Fin 80) (s : State) : Host.Outcome State Fault Refusal := s.onMach (fun m => m.tstore t 9 2)
def execSt32 (t : Fin 80) (s : State) : Host.Outcome State Fault Refusal := s.onMach (fun m => m.tstore t 10 4)
def execSt64 (t : Fin 80) (s : State) : Host.Outcome State Fault Refusal := s.onMach (fun m => m.tstore t 11 8)

/-- VLD: 16 aligned bytes into vD (R225). -/
def Mach.vld (m : Mach) (t : Nat) : Mach :=
  m.issue t [128 + 0x10] (fun m x i =>
    let a := x.ea i
    checked [localCheck a 16 false]
      (if x.barred 9 [(a, a + 16)] [] then .wait m
       else checked [(x.poisonIn a 16).map (fun _ => (0x0B, a))] (.seq (m.setTile t (x.setV i.d (leNat (memRead x.mem a 16)))))))
def execVld (t : Fin 80) (s : State) : Host.Outcome State Fault Refusal := s.onMach (fun m => m.vld t)

/-- VST: vB to 16 aligned bytes (R225). -/
def Mach.vst (m : Mach) (t : Nat) : Mach :=
  m.issue t [128 + 0x11] (fun m x i =>
    let a := x.ea i
    checked [localCheck a 16 true]
      (if x.barred 9 [] [(a, a + 16)] then .wait m
       else .seq (m.setTile t (x.store a (leBytes 16 (x.vreg i.b))))))
def execVst (t : Fin 80) (s : State) : Host.Outcome State Fault Refusal := s.onMach (fun m => m.vst t)

/-- VMOV (R225). -/
def Mach.vmov (m : Mach) (t : Nat) : Mach :=
  m.issue t [128 + 0x12] (fun m x i => .seq (m.setTile t (x.setV i.d (x.vreg i.a))))
def execVmov (t : Fin 80) (s : State) : Host.Outcome State Fault Refusal := s.onMach (fun m => m.vmov t)

/-- Bits of the descriptor field that X names (R225, R226). -/
def descField (x : Nat) : Option (Nat × Nat) :=
  match x with
  | 0 => some (47, 0) | 1 => some (71, 48) | 2 => some (87, 72) | 3 => some (119, 88) | 4 => some (125, 122)
  | 5 => some (127, 126) | 6 => some (121, 121) | 7 => some (120, 120)
  | _ => none

/-- VSET: field X of vD := sA + sext(IMM), truncated; another X is ILLEGAL (R225). -/
def Mach.vset (m : Mach) (t : Nat) : Mach :=
  m.issue t [128 + 0x13] (fun m x i =>
    match descField i.x with
    | some (hi, lo) => .seq (m.setTile t (x.setV i.d (withBits (x.vreg i.d) hi lo (x.ea i))))
    | none => .fault 1 i.w)
def execVset (t : Fin 80) (s : State) : Host.Outcome State Fault Refusal := s.onMach (fun m => m.vset t)

/-- VGET: sD := field X of vA (R225). -/
def Mach.vget (m : Mach) (t : Nat) : Mach :=
  m.issue t [128 + 0x14] (fun m x i =>
    match descField i.x with
    | some (hi, lo) => m.seqS t x i.d (bitsOf (x.vreg i.a) hi lo)
    | none => .fault 1 i.w)
def execVget (t : Fin 80) (s : State) : Host.Outcome State Fault Refusal := s.onMach (fun m => m.vget t)

/-! ### Control (R228) -/

/-- The branch target PC + sext(IMM). -/
def TIns.target (i : TIns) : Nat := (i.pc + i.sext) % 2 ^ 64

/-- A conditional branch. A taken branch at the end of a loop body leaves the loop's count as it is. -/
def Mach.branch (m : Mach) (t op : Nat) (c : Nat → Nat → Bool) : Mach :=
  m.issue t [192 + op] (fun m x i => if c (x.sreg i.a) (x.sreg i.b) then .jump m i.target else .seq m)

def execBr (t : Fin 80) (s : State) : Host.Outcome State Fault Refusal := s.onMach (fun m => m.branch t 0 (fun _ _ => true))
def execBeq (t : Fin 80) (s : State) : Host.Outcome State Fault Refusal := s.onMach (fun m => m.branch t 1 (fun a b => a = b))
def execBne (t : Fin 80) (s : State) : Host.Outcome State Fault Refusal := s.onMach (fun m => m.branch t 2 (fun a b => a ≠ b))
def execBlt (t : Fin 80) (s : State) : Host.Outcome State Fault Refusal := s.onMach (fun m => m.branch t 3 (fun a b => sig a < sig b))
def execBge (t : Fin 80) (s : State) : Host.Outcome State Fault Refusal := s.onMach (fun m => m.branch t 4 (fun a b => sig b ≤ sig a))
def execBltu (t : Fin 80) (s : State) : Host.Outcome State Fault Refusal := s.onMach (fun m => m.branch t 5 (fun a b => a < b))
def execBgeu (t : Fin 80) (s : State) : Host.Outcome State Fault Refusal := s.onMach (fun m => m.branch t 6 (fun a b => b ≤ a))

/-- STACK with the two depths (R242). -/
def stackFault (x : Tile) : TRes := .fault 6 (x.link.length + 256 * x.loops.length)

/-- CALL (R228). -/
def Mach.call (m : Mach) (t : Nat) : Mach :=
  m.issue t [192 + 0x08] (fun m x i =>
    if 16 ≤ x.link.length then stackFault x
    else if !x.pcOk i.target then .fault 5 i.target
    else .jump (m.setTile t { x with link := (i.pc + 8) :: x.link }) i.target)
def execCall (t : Fin 80) (s : State) : Host.Outcome State Fault Refusal := s.onMach (fun m => m.call t)

/-- RET (R228). -/
def Mach.ret (m : Mach) (t : Nat) : Mach :=
  m.issue t [192 + 0x09] (fun m x _ =>
    match x.link with
    | [] => stackFault x
    | a :: r => if x.pcOk a then .jump (m.setTile t { x with link := r }) a else .fault 5 a)
def execRet (t : Fin 80) (s : State) : Host.Outcome State Fault Refusal := s.onMach (fun m => m.ret t)

/-- JR (R228). -/
def Mach.jr (m : Mach) (t : Nat) : Mach := m.issue t [192 + 0x0A] (fun m x i => .jump m (x.sreg i.a))
def execJr (t : Fin 80) (s : State) : Host.Outcome State Fault Refusal := s.onMach (fun m => m.jr t)

/-- LOOP: the body runs from PC + 8 to PC + sext(IMM) inclusive, sA times; it is skipped for 0, and where its
end ends an outer body too, that one goes on (R228). -/
def Mach.loop (m : Mach) (t : Nat) : Mach :=
  m.issue t [192 + 0x0B] (fun m x i =>
    let n := x.sreg i.a
    if !x.pcOk i.target then .fault 5 i.target
    else if 4 ≤ x.loops.length then stackFault x
    else if n = 0 then (let (pc, loops) := loopNext i.target x.loops; .jump (m.setTile t { x with loops := loops }) pc)
    else .jump (m.setTile t { x with loops := (i.pc + 8, i.target, n) :: x.loops }) (i.pc + 8))
def execLoop (t : Fin 80) (s : State) : Host.Outcome State Fault Refusal := s.onMach (fun m => m.loop t)

/-- TRAP ends the kernel with fault TRAP, DETAIL = IMM (R228). -/
def Mach.trap (m : Mach) (t : Nat) : Mach := m.issue t [192 + 0x0E] (fun _ _ i => .fault 0x0D i.imm)
def execTrap (t : Fin 80) (s : State) : Host.Outcome State Fault Refusal := s.onMach (fun m => m.trap t)

/-- END stops issue; the tile drains (R220). -/
def Mach.endKernel (m : Mach) (t : Nat) : Mach :=
  m.issue t [192 + 0x0F] (fun m x _ => .stop ((m.setTile t { x with ended := true }).setTileState t 3))
def execEndKernel (t : Fin 80) (s : State) : Host.Outcome State Fault Refusal := s.onMach (fun m => m.endKernel t)

/-! ### Synchronisation (R231, R232) -/

/-- The tag of a transfer. -/
def EngOp.tag (o : EngOp) : Nat := o.x % 16

/-- The first failed transfer whose tag is in `mask` faults at the wait (R242). -/
def Tile.dmaMet (x : Tile) (mask : Nat) : Option KF :=
  (x.dmaFail.find? (fun e => mask.testBit e.1)).map (fun e => (9, e.2))

/-- A wait: until `done`; then a DMA fault that it meets, or on. -/
def waitFor (m : Mach) (done : Bool) (f : Option KF) : TRes :=
  if !done then .wait m else checked [f] (.seq m)

def Mach.waitdma (m : Mach) (t : Nat) : Mach :=
  m.issue t [448] (fun m x i =>
    let mask := i.imm % 2 ^ 16
    waitFor m (!x.dma.any (fun o => mask.testBit o.tag)) (x.dmaMet mask))
def execWaitdma (t : Fin 80) (s : State) : Host.Outcome State Fault Refusal := s.onMach (fun m => m.waitdma t)

def Mach.waitarr (m : Mach) (t : Nat) : Mach := m.issue t [449] (fun m x _ => waitFor m x.arr.isEmpty none)
def execWaitarr (t : Fin 80) (s : State) : Host.Outcome State Fault Refusal := s.onMach (fun m => m.waitarr t)

def Mach.waitbr (m : Mach) (t : Nat) : Mach :=
  m.issue t [450] (fun m x _ => waitFor m (x.brz.isEmpty && x.gen.isEmpty && x.noise.isEmpty) none)
def execWaitbr (t : Fin 80) (s : State) : Host.Outcome State Fault Refusal := s.onMach (fun m => m.waitbr t)

def Mach.waitall (m : Mach) (t : Nat) : Mach :=
  m.issue t [451] (fun m x _ => waitFor m x.drained (x.dmaMet 0xFFFF))
def execWaitall (t : Fin 80) (s : State) : Host.Outcome State Fault Refusal := s.onMach (fun m => m.waitall t)

/-- An operation that writes the partition's memory: a transfer with a VA destination, or a chain operation
whose successor is memory (R231, R303). -/
def Tile.writesMem (x : Tile) (o : EngOp) : Bool :=
  let c := o.code - 256
  if 512 ≤ o.code then
    match tfind x.chTab (o.x % 4) with | some (_, .mem _ _ _) => o.code ≠ 513 | _ => false
  else (c = 0 && dSpace o.vB = 1) || c = 2 || c = 3

/-- Every memory write that the tile has issued has landed (R231). -/
def Tile.fenced (x : Tile) : Bool := !(x.dma ++ x.chain).any x.writesMem

def Mach.fence (m : Mach) (t : Nat) : Mach := m.issue t [452] (fun m x _ => waitFor m x.fenced none)
def execFence (t : Fin 80) (s : State) : Host.Outcome State Fault Refusal := s.onMach (fun m => m.fence t)

/-- The partition that runs on a tile. -/
def Mach.tilePart (m : Mach) (t : Nat) : Nat := (m.tileOwner t).getD 0

/-- SIGNAL: a FENCE, then the counter (R231, R232). -/
def Mach.signal (m : Mach) (t : Nat) : Mach :=
  m.issue t [453] (fun m x i =>
    if x.fenced then
      let n := i.imm % 4096
      .seq (m.ctrAdd (m.tilePart t) (x.sreg i.a % 4096) (if n = 0 then 1 else n))
    else .wait m)
def execSignal (t : Fin 80) (s : State) : Host.Outcome State Fault Refusal := s.onMach (fun m => m.signal t)

/-- How many TBARs with a tag a tile has issued. -/
def Tile.bars' (x : Tile) (tag : Nat) : Nat := tget x.tbars tag 0

/-- TBAR: counted once, it passes when every tile of the node's target set has issued as many with its tag,
or has ended (R232). -/
def Mach.tbar (m : Mach) (t : Nat) : Mach :=
  m.issue t [455] (fun m x i =>
    let tag := i.imm % 16
    let x := if x.tbarNow then x else { x with tbars := tset x.tbars tag (x.bars' tag + 1), tbarNow := true }
    let m := m.setTile t x
    let k := x.bars' tag
    if x.target.all (fun u =>
        let y := m.tile u
        u = t || y.node ≠ x.node || y.ended || y.fault.isSome || y.report.isSome || k ≤ y.bars' tag) then
      .seq (m.setTile t { x with tbarNow := false })
    else .wait m)
def execTbar (t : Fin 80) (s : State) : Host.Outcome State Fault Refusal := s.onMach (fun m => m.tbar t)

/-- WAITCTR (R232, R390). -/
def Mach.waitctr (m : Mach) (t : Nat) : Mach :=
  m.issue t [456] (fun m x i => waitFor m (x.sreg i.b ≤ m.ctr (m.tilePart t) (x.sreg i.a % 4096)) none)
def execWaitctr (t : Fin 80) (s : State) : Host.Outcome State Fault Refusal := s.onMach (fun m => m.waitctr t)

end Sys2Proof.Machine
end

