-- ==== Sys2Proof/Machine/Float.lean ====
section
/-! DEFINITION. Element values, exact products, rounding and conversion (R255 to R278), the Pewter group
sum and the compensated promotion (R283 to R291), and the element sums of chains (R300, R301). -/
namespace Sys2Proof.Machine

/-- A value: NaN, an infinity, or ± m × 2^e exactly (R266 to R269). -/
inductive FVal where
  | nan
  | inf (neg : Bool)
  | fin (neg : Bool) (m : Nat) (e : Int)
  deriving DecidableEq, Repr

/-- A floating-point format: exponent bits, fraction bits, bias, and how it carries special values (R266,
R267): infinities, and the NaN it writes. -/
structure FFmt where
  eb : Nat
  fb : Nat
  bias : Int
  hasInf : Bool
  hasNan : Bool
  nan : Nat
  deriving DecidableEq, Repr

def fp4 : FFmt := ⟨2, 1, 1, false, false, 0⟩
def e4m3 : FFmt := ⟨4, 3, 7, false, true, 0x7F⟩
def e5m2 : FFmt := ⟨5, 2, 15, true, true, 0x7F⟩
def fp16 : FFmt := ⟨5, 10, 15, true, true, 0x7E00⟩
def bf16 : FFmt := ⟨8, 7, 127, true, true, 0x7FC0⟩
def fp32 : FFmt := ⟨8, 23, 127, true, true, 0x7FC00000⟩

/-- The floating-point format of a format code. -/
def fmtOf (f : Nat) : Option FFmt :=
  match f with
  | 0x4 => some fp4 | 0x6 => some e4m3 | 0x7 => some e5m2 | 0x8 => some bf16 | 0x9 => some fp16 | 0xA => some fp32
  | _ => none

/-- The encoding of an infinity's magnitude. -/
def FFmt.infEnc (F : FFmt) : Nat := (2 ^ F.eb - 1) * 2 ^ F.fb

/-- The largest finite magnitude's encoding: below infinity, or below E4M3's one NaN, or FP4's top (R266, R267). -/
def FFmt.maxEnc (F : FFmt) : Nat :=
  if F.hasInf then F.infEnc - 1 else if F.hasNan then 2 ^ (F.eb + F.fb) - 2 else 2 ^ (F.eb + F.fb) - 1

/-- The value of an encoding; FTZ reads a subnormal as a zero of its sign (R266 to R268, R278). -/
def FFmt.decode (F : FFmt) (ftz : Bool) (b : Nat) : FVal :=
  let neg := b.testBit (F.eb + F.fb)
  let mag := b % 2 ^ (F.eb + F.fb)
  let ex := mag / 2 ^ F.fb
  let fr := mag % 2 ^ F.fb
  if F.hasInf && mag = F.infEnc then .inf neg
  else if F.hasNan && F.maxEnc < mag then .nan
  else if ex = 0 then .fin neg (if ftz then 0 else fr) (1 - F.bias - F.fb)
  else .fin neg (2 ^ F.fb + fr) (ex - F.bias - F.fb)

/-- The sign bit of a format. -/
def FFmt.sign (F : FFmt) (neg : Bool) : Nat := if neg then 2 ^ (F.eb + F.fb) else 0

/-- m × 2^s rounded to an integer, ties to even. -/
def rne (m : Nat) (s : Int) : Nat :=
  if 0 ≤ s then m * 2 ^ s.toNat
  else
    let d := 2 ^ (-s).toNat
    let q := m / d
    let r := m % d
    if 2 * r < d then q else if d < 2 * r then q + 1 else q + q % 2

/-- The exponent of the unit in the last place at magnitude m × 2^e, and of the smallest subnormal. -/
def FFmt.quantum (F : FFmt) (m : Nat) (e : Int) : Int :=
  max ((m.log2 : Int) + e - F.fb) (1 - F.bias - F.fb)

/-- A magnitude's encoding from its count of units at quantum q: the carry into the exponent falls out. -/
def FFmt.encMag (F : FFmt) (n : Nat) (q : Int) : Nat := (q - (1 - F.bias - F.fb)).toNat * 2 ^ F.fb + n

/-- What a magnitude above the largest finite becomes (R273, R274). -/
def FFmt.over (F : FFmt) : Nat := if F.hasInf then F.infEnc else F.maxEnc

/-- FTZ on a result: below the smallest normal is a zero (R278). -/
def FFmt.flush (F : FFmt) (ftz : Bool) (enc : Nat) : Nat := if ftz && enc < 2 ^ F.fb then 0 else enc

/-- Rounding to nearest even (R274, R275). -/
def FFmt.round (F : FFmt) (ftz : Bool) : FVal → Nat
  | .nan => F.nan
  | .inf neg => F.sign neg + F.over
  | .fin neg m e =>
    if m = 0 then F.sign neg
    else
      let q := F.quantum m e
      let enc := F.encMag (rne m (e - q)) q
      F.sign neg + (if F.maxEnc < enc then F.over else F.flush ftz enc)

/-- Stochastic rounding with the 16 random bits `r` (R276). -/
def FFmt.roundSr (F : FFmt) (ftz : Bool) (r : Nat) : FVal → Nat
  | .nan => F.nan
  | .inf neg => F.sign neg + F.over
  | .fin neg m e =>
    if m = 0 then F.sign neg
    else
      let q := F.quantum m e
      let s := e - q
      if 0 ≤ s then
        let enc := F.encMag (m * 2 ^ s.toNat) q
        F.sign neg + (if F.maxEnc < enc then F.over else F.flush ftz enc)
      else
        let d := 2 ^ (-s).toNat
        let D := 2 ^ 16 * (m % d) / d
        let lo := F.encMag (m / d) q
        let enc := if r < D then lo + 1 else lo
        -- above the largest finite magnitude: the out-of-range row of R274 (R276)
        if F.maxEnc ≤ lo then F.sign neg + (if lo = F.maxEnc && m % d = 0 then lo else F.over)
        else F.sign neg + (if F.maxEnc < enc then F.over else F.flush ftz enc)

/-- Does stochastic rounding take random bits for this value (R276)? -/
def FVal.takesBits : FVal → Bool
  | .fin _ m _ => m ≠ 0
  | _ => false

/-! ### Exact arithmetic -/

/-- The exact product (R270, R271). -/
def FVal.mul (a b : FVal) : FVal :=
  match a, b with
  | .nan, _ => .nan
  | _, .nan => .nan
  | .inf s, .inf t => .inf (s != t)
  | .inf s, .fin t m _ => if m = 0 then .nan else .inf (s != t)
  | .fin s m _, .inf t => if m = 0 then .nan else .inf (s != t)
  | .fin s m e, .fin t n f => .fin (s != t) (m * n) (e + f)

/-- A signed value at exponent e as an integer multiple of 2^f, f ≤ e. -/
def scaleInt (neg : Bool) (m : Nat) (e f : Int) : Int :=
  let v : Int := (m * 2 ^ (e - f).toNat : Nat)
  if neg then -v else v

/-- The value n × 2^e; an exact zero is +0. -/
def FVal.ofInt (n : Int) (e : Int) : FVal := .fin (n < 0) n.natAbs e

/-- The exact sum; infinities and NaN as IEEE 754, −0 only from two −0 (R271, R300). -/
def FVal.add (a b : FVal) : FVal :=
  match a, b with
  | .nan, _ => .nan
  | _, .nan => .nan
  | .inf s, .inf t => if s = t then .inf s else .nan
  | .inf s, .fin _ _ _ => .inf s
  | .fin _ _ _, .inf t => .inf t
  | .fin s m e, .fin t n f =>
    if m = 0 && n = 0 then .fin (s && t) 0 0
    else
      let g := min e f
      FVal.ofInt (scaleInt s m e g + scaleInt t n f g) g

def FVal.neg : FVal → FVal
  | .nan => .nan
  | .inf s => .inf (!s)
  | .fin s m e => .fin (!s) m e

def FVal.special : FVal → Bool
  | .fin _ _ _ => false
  | _ => true

/-- |a| ≥ |b| for finite values. -/
def FVal.absGe : FVal → FVal → Bool
  | .fin _ m e, .fin _ n f => let g := min e f; n * 2 ^ (f - g).toNat ≤ m * 2 ^ (e - g).toNat
  | _, _ => true

/-! ### Elements (R255, R265, R269) -/

/-- A two's complement integer of `w` bits as a value. -/
def intVal (w b : Nat) : FVal := FVal.ofInt (BitVec.ofNat w b).toInt 0

/-- The value of an element of format `f` under an optional block scale; FTZ by the encoding alone. -/
def elemVal (f : Nat) (ftz : Bool) (scale : Option Nat) (b : Nat) : FVal :=
  let v := match fmtOf f with
    | some F => F.decode ftz b
    | none => if f = 3 then intVal 4 b else if f = 5 then intVal 8 b else FVal.ofInt (b : Int) 0
  match scale with
  | none => v
  | some s => if s = 0xFF then .nan else v.mul (.fin false 1 ((s : Int) - 127))

/-! ### Promotion (R287, R291) -/

/-- One rounding to FP32, as a value; FTZ flushes a subnormal result. -/
def fl (ftz : Bool) (v : FVal) : FVal := fp32.decode false (fp32.round ftz v)

/-- promote(s, c, g) on values; g is already FP32. FTZ flushes t, e and c (R291). -/
def promote (ftz : Bool) (s c g : FVal) : FVal × FVal :=
  let zero : FVal := .fin false 0 0
  if s.special || g.special then (s.add g, zero)
  else
    let t := fl ftz (s.add g)
    if t.special then (t, zero)
    else
      let e := if s.absGe g then fl ftz ((fl false (s.add t.neg)).add g) else fl ftz ((fl false (g.add t.neg)).add s)
      (t, fl ftz (c.add e))

/-- The group value of a list of exact products: none where all are zero; NaN or an infinity where R271
calls for it (R284, R286). -/
def groupVal (ps : List FVal) : Option FVal :=
  if ps.any FVal.special then some (ps.foldl (fun a p => if p.special then (if a.special then a.add p else p) else a) (.fin false 0 0))
  else
    let tops := ps.filterMap (fun p => match p with | .fin _ m e => if m = 0 then none else some ((m.log2 : Int) + e) | _ => none)
    match tops with
    | [] => none
    | h :: r =>
      let eg := r.foldl max h
      let word := ps.foldl (fun (a : Int) p => match p with
        | .fin neg m e => let u : Int := (rne m (e + 14 - eg) : Nat); if neg then a - u else a + u
        | _ => a) 0
      some (FVal.ofInt word (eg - 14))

/-- pair_add of R301. -/
def pairAdd (s1 c1 s2 c2 : FVal) : FVal × FVal :=
  let zero : FVal := .fin false 0 0
  if s1.special || s2.special then (s1.add s2, zero)
  else
    let t := fl false (s1.add s2)
    if t.special then (t, zero)
    else
      let e := if s1.absGe s2 then fl false ((fl false (s1.add t.neg)).add s2) else fl false ((fl false (s2.add t.neg)).add s1)
      (t, fl false ((fl false (c1.add c2)).add e))

/-- ⊕ in element mode (R300): none where the format has none. -/
def chainAdd (f a b : Nat) : Option Nat :=
  match f with
  | 0x0 => some ((a + b) % 2 ^ 32)
  | 0x1 => some ((a + b) % 2 ^ 64)
  | 0x2 => some ((a + b) % qF)
  | 0x8 => some (bf16.round false ((bf16.decode false a).add (bf16.decode false b)))
  | 0x9 => some (fp16.round false ((fp16.decode false a).add (fp16.decode false b)))
  | 0xA => some (fp32.round false ((fp32.decode false a).add (fp32.decode false b)))
  | _ => none

end Sys2Proof.Machine
end

