-- ==== Sys2Proof/Machine/Array.lean ====
section
/-! DEFINITION. The cell array: MMA, the accumulator tiles and their counters, ACCOUT and modes (R208 to
R213, R239, R279 to R294). -/
namespace Sys2Proof.Machine

/-- Local address of entry (m, j) of accumulator tile a (R212). -/
def accAddr (a r j : Nat) : Nat := 0x700000 + a * 0x20000 + 8 * (128 * r + j)

/-- The byte range of accumulator tile a (R206). -/
def accRange (a : Nat) : Nat × Nat := (0x700000 + a * 0x20000, 0x700000 + (a + 1) * 0x20000)

/-- K_pass of a format, dense or sparse (R209). -/
def kPass (f : Nat) (sparse : Bool) : Nat :=
  match f with
  | 0x3 => 512
  | 0x4 => if sparse then 1024 else 512
  | 0x5 => 256
  | 0x6 => if sparse then 512 else 256
  | 0x7 => if sparse then 512 else 256
  | _ => 128

/-- Is the pair of formats one that the array takes (R211)? -/
def mmaPair (a b : Nat) : Bool :=
  (a = 0 || (3 ≤ a && a ≤ 0xA)) && (a = b || (a = 6 && b = 7) || (a = 7 && b = 6))

/-- The checks of an MMA at issue (R208, R211, R227, R281), registers `ra` and `rb`. -/
def mmaChecks (ra rb va vb : Nat) (sparse : Bool) : List (Option KF) :=
  [checkDesc ra va false, checkDesc rb vb false, needLocal ra va, needLocal rb vb,
   if mmaPair (dFmt va) (dFmt vb) then none else some (8, if dFmt va = 0 || (3 ≤ dFmt va && dFmt va ≤ 0xA) then dFmt vb else dFmt va),
   if dSp va then some (8, dFmt va) else none,
   if dSp vb != sparse then some (8, dFmt vb) else none,
   if sparse && !(dFmt vb = 4 || dFmt vb = 6 || dFmt vb = 7) then some (8, dFmt vb) else none,
   if dFmt va = 4 && !(dBs va && dBs vb) then descBad (if dBs va then rb else ra) 7 else none,
   if dFmt va = 3 && dBs va != dBs vb then descBad rb 7 else none,
   if dFmt va ≠ 4 && dFmt va ≠ 3 && (dBs va || dBs vb) then descBad (if dBs va then ra else rb) 7 else none,
   if sparse && dRows vb % 4 ≠ 0 then descBad rb 3 else none,
   if sparse && dCols vb % 2 ≠ 0 then descBad rb 2 else none,
   if 128 < dRows va then descBad ra 3 else none,
   if 128 < dCols vb then descBad rb 2 else none,
   if dRows vb ≠ dCols va then descBad rb 3 else none,
   if kPass (dFmt va) sparse < dCols va then descBad ra 2 else none]

/-- An MMA issues (R208, R239). -/
def Mach.mma (m : Mach) (t : Nat) : Mach :=
  m.issue t [320] (fun m x i =>
    let va := x.vreg i.a
    let vb := x.vreg i.b
    let acc := accRange (i.x % 8)
    checked (mmaChecks i.a i.b va vb (i.x.testBit 4))
      (m.engine t x 0 (engOp x i (foot va ++ foot vb ++ [acc]) [acc])))

def execMma (t : Fin 80) (s : State) : Host.Outcome State Fault Refusal := s.onMach (fun m => m.mma t)

/-- The elements of operand row `r` as values, with their block scales (R269). -/
def Tile.operandRow (x : Tile) (d : Nat) (ftz : Bool) (r : Nat) : List FVal :=
  let b := x.row d r
  let w := (fmtWidth (dFmt d)).getD 8
  let sOff := dCols d * w / 8
  (List.range (dCols d)).map (fun c =>
    elemVal (dFmt d) ftz (if dBs d then some (b.getD (sOff + c / 32) 0).toNat else none) (elemAt w b c))

/-- Weights of logical row k, per column: one value dense, two of a quad where sparse and placed at k (R280). -/
def Tile.weightRow (x : Tile) (d : Nat) (ftz : Bool) (k : Nat) : List (List FVal) :=
  if dSp d then
    let b := x.row d (k / 4)
    let w := (fmtWidth (dFmt d)).getD 8
    let j := dCols d
    let slot := j * w / 8 + (if dBs d then j / 32 else 0)
    let val (s c : Nat) : FVal :=
      elemVal (dFmt d) ftz (if dBs d then some (b.getD (s * slot + j * w / 8 + c / 32) 0).toNat else none)
        (elemAt w (b.drop (s * slot)) c)
    (List.range j).map (fun c =>
      let p := elemAt 4 (b.drop (2 * slot)) c
      (if p % 4 = k % 4 then [val 0 c] else []) ++ (if p / 4 = k % 4 then [val 1 c] else []))
  else (x.operandRow d ftz k).map (fun v => [v])

/-- An accumulator entry's words. -/
def Tile.accWord (x : Tile) (a r j : Nat) : Nat × Nat :=
  (leNat (memRead x.mem (accAddr a r j) 4), leNat (memRead x.mem (accAddr a r j + 4) 4))

/-- One entry of a floating-point path: products in ascending k folded into (s, c) (R282 to R291). -/
def foldEntry (fmt : Nat) (ftz : Bool) (sc : FVal × FVal) (prods : List (Nat × FVal)) : FVal × FVal :=
  if fmt = 0x8 || fmt = 0x9 then
    prods.foldl (fun sc p => promote ftz sc.1 sc.2 (fl ftz p.2)) sc
  else if fmt = 0xA then
    prods.foldl (fun sc p =>
      let hi := fl ftz p.2
      let (s, c) := promote ftz sc.1 sc.2 hi
      if hi.special then (s, c)
      else (s, fl ftz (c.add (fl ftz (p.2.add hi.neg))))) sc
  else
    (List.range (((prods.map (·.1)).foldl max 0) / 16 + 1)).foldl (fun sc g =>
      match groupVal ((prods.filter (fun p => p.1 / 16 = g)).map (·.2)) with
      | none => sc
      | some v => promote ftz sc.1 sc.2 (fl ftz v)) sc

/-- The MMA's new content of entry (r, j) (R208, R282, R287, R289). -/
def Tile.mmaEntry (x : Tile) (o : EngOp) (arow : List FVal) (w : List (List (List FVal))) (r j : Nat) : Nat × Nat :=
  let a := o.x % 8
  let fmt := dFmt o.vA
  let keep := o.x.testBit 3
  let (s0, c0) := if keep then x.accWord a r j else (0, 0)
  let prods := (arow.zip w).zipIdx.flatMap (fun e => ((e.1.2.getD j []).map (fun b => (e.2, e.1.1.mul b))))
  if fmt = 0 then
    let z := prods.foldl (fun acc p => match p.2 with | .fin _ m e => acc + m * 2 ^ e.toNat | _ => acc) s0
    (z % 2 ^ 32, 0)
  else
    let (s, c) := foldEntry fmt o.ftz (fp32.decode false s0, fp32.decode false c0) prods
    (fp32.round false s, fp32.round false c)

/-- The group counter after an MMA (R292). -/
def Mach.accCount (m : Mach) (t a k : Nat) (keep : Bool) : Mach :=
  let r := A.ACC_STS t a
  let old := m.fld r 21 0 + 2 ^ 22 * m.fld r 23 23
  let n := if keep then old + k else k
  let sat := (keep && m.bit r 22) || 2 ^ 22 < n
  let n := min n (2 ^ 22)
  m.wr r (BitVec.ofNat 32 (n % 2 ^ 22 + 2 ^ 22 * b2n sat + 2 ^ 23 * (n / 2 ^ 22)))

/-- A poisoned line met by an engine: TS_POISON, and nothing written (R242, R243). -/
def Mach.engPoison (m : Mach) (t : Nat) (o : EngOp) (line : Nat) : Mach :=
  let x := m.tile t
  let m := m.setTile t { x with fault := if x.fault.isSome then x.fault else some (0x0B, 64 * line, o.pc) }
  m.setTileState t 3

/-- The MMA's effect on the accumulator tile. -/
def Mach.mmaEffect (m : Mach) (t : Nat) (o : EngOp) : Mach :=
  let x := m.tile t
  let a := o.x % 8
  let accPoison := if o.x.testBit 3 then
      (List.range (dRows o.vA)).findSome? (fun r => x.poisonIn (accAddr a r 0) (8 * dCols o.vB))
    else none
  match ((x.poisonDesc o.vA).or (x.poisonDesc o.vB)).or accPoison with
  | some l => m.engPoison t o l
  | none =>
    let w := (List.range (dCols o.vA)).map (x.weightRow o.vB o.ftz)
    let y := (List.range (dRows o.vA)).foldl (fun y r =>
      let arow := x.operandRow o.vA o.ftz r
      y.store (accAddr a r 0) ((List.range (dCols o.vB)).flatMap (fun j =>
        let (s, c) := x.mmaEntry o arow w r j
        leBytes 4 s ++ leBytes 4 c))) x
    (m.setTile t y).accCount t a (dRows o.vB) (o.x.testBit 3)

/-- ACCCLR's effect (R213). -/
def Mach.accClear (m : Mach) (t a : Nat) : Mach :=
  let x := m.tile t
  let (lo, hi) := accRange a
  (m.setTile t { x with mem := memZero x.mem lo 0x20000,
                        poison := x.poison.filter (fun l => !(lo ≤ 64 * l && 64 * l < hi)) }).wr (A.ACC_STS t a) 0

/-- The FP32 value x that ACCOUT forms (R293). -/
def accValue (ftz : Bool) (s c : Nat) : FVal :=
  let vs := fp32.decode ftz s
  if vs.special then vs else fl false (vs.add (fp32.decode ftz c))

/-- ACCOUT's effect: converted outputs, row by row (R213, R274 to R278, R293). -/
def Mach.accOut (m : Mach) (t : Nat) (o : EngOp) : Mach :=
  let x := m.tile t
  let a := o.x % 8
  let f := dFmt o.vD
  let rows := dRows o.vD
  let cols := dCols o.vD
  let bad := (List.range rows).findSome? (fun r => x.poisonIn (accAddr a r 0) (8 * cols))
  match bad with
  | some l => m.engPoison t o l
  | none =>
    (List.range rows).foldl (fun (m : Mach) r =>
      let (outs, m) := (List.range cols).foldl (fun (acc : List Nat × Mach) j =>
        let (s, c) := x.accWord a r j
        if f = 0 then (acc.1 ++ [s], acc.2)
        else
          let v := accValue o.ftz s c
          match fmtOf f with
          | none => acc
          | some F =>
            if o.sr && f ≠ 0xA && v.takesBits then
              let (d, m) := acc.2.draw
              (acc.1 ++ [F.roundSr o.ftz (d.toNat % 2 ^ 16) v], m)
            else (acc.1 ++ [F.round o.ftz v], acc.2)) ([], m)
      let y := m.tile t
      m.setTile t (y.store (dBase o.vD + r * dStride o.vD) (packRow ((fmtWidth f).getD 8) outs))) m

/-- The effect of an array operation other than an MMA. -/
def Mach.arrEffect (m : Mach) (t : Nat) (o : EngOp) : Mach :=
  if o.code = 322 then m.accClear t (o.x % 8) else m.accOut t o

/-- The array operations that follow a completed MMA, up to the next one, complete in order (R210). -/
def Mach.arrDrain (m : Mach) (t : Nat) : (fuel : Nat) → Mach
  | 0 => m
  | n + 1 =>
    let x := m.tile t
    match x.arr with
    | [] => m
    | o :: r => if o.code = 320 then m else ((m.setTile t { x with arr := r }).arrEffect t o).arrDrain t n

/-- The oldest MMA's last accumulator write lands (R210). -/
def Mach.mmaDone (m : Mach) (t : Nat) : Mach :=
  let x := m.tile t
  match x.arr with
  | [] => m
  | o :: r => if o.code = 320 then ((m.setTile t { x with arr := r }).mmaEffect t o).arrDrain t 4 else m

def execMmaDone (t : Fin 80) (s : State) : Host.Outcome State Fault Refusal := s.onMach (fun m => m.mmaDone t)

/-- Issue of an array operation that is no MMA: at once where the array is empty, else in its turn. -/
def Mach.arrIssue (m : Mach) (t : Nat) (x : Tile) (o : EngOp) : TRes :=
  if x.arr.isEmpty && !x.barred 0 o.rds o.wrs then .seq (m.arrEffect t o) else m.engine t x 0 o

/-- ACCCLR (R213). -/
def Mach.accclr (m : Mach) (t : Nat) : Mach :=
  m.issue t [322] (fun m x i => m.arrIssue t x (engOp x i [] [accRange (i.x % 8)]))
def execAccclr (t : Fin 80) (s : State) : Host.Outcome State Fault Refusal := s.onMach (fun m => m.accclr t)

/-- ACCSTAT: LIMIT, SAT and CNT (R239); it waits for incomplete operations on the accumulator tile. -/
def Mach.accstat (m : Mach) (t : Nat) : Mach :=
  m.issue t [323] (fun m x i =>
    let a := i.x % 8
    if bars x.arr [accRange a] [] then .wait m else m.seqS t x i.d (m.fld (A.ACC_STS t a) 23 0))
def execAccstat (t : Fin 80) (s : State) : Host.Outcome State Fault Refusal := s.onMach (fun m => m.accstat t)

/-- ACCOUT (R213, R239): the whole tile, or the rows and columns of vD. -/
def Mach.accout (m : Mach) (t : Nat) : Mach :=
  m.issue t [324] (fun m x i =>
    let vd := x.vreg i.d
    let limited := i.x.testBit 3
    let okFmt := [0x0, 0x6, 0x7, 0x8, 0x9, 0xA].contains (dFmt vd)
    checked [checkDesc i.d vd true, needLocal i.d vd, if okFmt then none else some (8, dFmt vd),
        noSp vd, if dBs vd then descBad i.d 7 else none,
        if 128 < dRows vd || (!limited && dRows vd ≠ 128) then descBad i.d 3 else none,
        if 128 < dCols vd || (!limited && dCols vd ≠ 128) then descBad i.d 2 else none]
      (m.arrIssue t x (engOp x i [accRange (i.x % 8)] (foot vd))))
def execAccout (t : Fin 80) (s : State) : Host.Outcome State Fault Refusal := s.onMach (fun m => m.accout t)

/-- SETMODE: FTZ and SR for array instructions issued after it (R239). -/
def Mach.setmode (m : Mach) (t : Nat) : Mach :=
  m.issue t [325] (fun m x i => .seq (m.setTile t { x with ftz := i.imm.testBit 0, sr := i.imm.testBit 1 }))
def execSetmode (t : Fin 80) (s : State) : Host.Outcome State Fault Refusal := s.onMach (fun m => m.setmode t)

end Sys2Proof.Machine
end

