-- ==== Sys2Proof/Machine/Dma.lean ====
section
/-! DEFINITION. The DMA engine, the seed expander and the noise sampler of a tile (R230 to R238). -/
namespace Sys2Proof.Machine

/-! ### Transfers at issue (R233, R281) -/

/-- A side of a COPY reads or writes local memory in these ranges. -/
def Mach.dmaIssue (m : Mach) (t : Nat) (x : Tile) (i : TIns) (rds wrs : List (Nat × Nat)) : TRes :=
  if x.dma.any (fun o => o.tag = i.x % 16) then .wait m else m.engine t x 1 (engOp x i rds wrs)

/-- COPY (R233): equal row bytes and rows; both sides SP or neither. -/
def Mach.copy (m : Mach) (t : Nat) : Mach :=
  m.issue t [256] (fun m x i =>
    let va := x.vreg i.a
    let vb := x.vreg i.b
    checked [checkDesc i.a va false, checkDesc i.b vb true,
        if dSp va != dSp vb then descBad i.b 6 else none,
        if rowBytes va ≠ rowBytes vb then descBad i.b 2 else none,
        if dRows va ≠ dRows vb then descBad i.b 3 else none]
      (m.dmaIssue t x i (foot va) (foot vb)))
def execCopy (t : Fin 80) (s : State) : Host.Outcome State Fault Refusal := s.onMach (fun m => m.copy t)

/-- The shape rules of a row transfer (R233, R281): table vA, index list vD, local side vB. -/
def rowChecks (i : TIns) (va vb vd : Nat) (dstLocal : Bool) : List (Option KF) :=
  [checkDesc i.a va (!dstLocal), checkDesc i.d vd false, checkDesc i.b vb dstLocal,
   if dSpace va ≠ 1 then descBad i.a 5 else none, needLocal i.d vd, needLocal i.b vb,
   if dSp va then descBad i.a 6 else none, if dSp vd then descBad i.d 6 else none, if dSp vb then descBad i.b 6 else none,
   if dRows vd ≠ 1 then descBad i.d 3 else none,
   if 1 < dFmt vd then descBad i.d 4 else none,
   if rowBytes va ≠ rowBytes vb then descBad i.b 2 else none,
   if dRows vb < dCols vd then descBad i.b 3 else none]

def Mach.gather (m : Mach) (t : Nat) : Mach :=
  m.issue t [257] (fun m x i =>
    let va := x.vreg i.a
    let vb := x.vreg i.b
    let vd := x.vreg i.d
    checked (rowChecks i va vb vd true) (m.dmaIssue t x i (foot vd) (foot vb)))
def execGather (t : Fin 80) (s : State) : Host.Outcome State Fault Refusal := s.onMach (fun m => m.gather t)

def Mach.scatter (m : Mach) (t : Nat) (add : Bool) : Mach :=
  m.issue t [if add then 259 else 258] (fun m x i =>
    let va := x.vreg i.a
    let vb := x.vreg i.b
    let vd := x.vreg i.d
    checked (rowChecks i va vb vd false ++
        [if add && 1 < dFmt va then some (8, dFmt va) else none, if add && 1 < dFmt vb then some (8, dFmt vb) else none])
      (m.dmaIssue t x i (foot vd ++ foot vb) []))
def execScatter (t : Fin 80) (s : State) : Host.Outcome State Fault Refusal := s.onMach (fun m => m.scatter t false)
def execScatterAdd (t : Fin 80) (s : State) : Host.Outcome State Fault Refusal := s.onMach (fun m => m.scatter t true)

/-! ### Transfers as they execute (R231, R234, R235) -/

/-- How a transfer ends: done, stopped with a DMA failure (kind and value), or a poisoned local line. -/
inductive DmaEnd where
  | done
  | fail (kind v : Nat)
  | poison (line : Nat)
  deriving DecidableEq, Repr

/-- The DMA kind of a failed access (R242, R494). -/
def XFail.dmaEnd (e : XFail) : DmaEnd :=
  match e.kind with
  | .xlate _ => .fail 1 e.va
  | .boundary => .fail 2 e.va
  | .memErr => .fail 4 e.va
  | .key _ => .fail 4 e.va

/-- CNT_DMA counts the 64-byte lines that `n` bytes from `a` touch (R251). -/
def Mach.countLines (m : Mach) (t a n : Nat) : Mach :=
  m.bumpF (A.CNT_DMA t) 31 0 ((a + n + 63) / 64 - a / 64)

/-- A row read from either side. -/
def Mach.rowRead (m : Mach) (t p d r : Nat) : Mach × Except DmaEnd (List Byte) :=
  let a := dBase d + r * dStride d
  let n := rowBytes d
  if dSpace d = 0 then
    let x := m.tile t
    match x.poisonIn a n with
    | some l => (m, .error (.poison l))
    | none => (m, .ok (memRead x.mem a n))
  else
    match m.vread 1 p (a % 2 ^ 48) n with
    | (m, .error e) => (m, .error e.dmaEnd)
    | (m, .ok b) => (m.countLines t a n, .ok b)

/-- A row written to either side; `lanes` 4 or 8 adds it lane-wise into memory in place of storing it. -/
def Mach.rowWrite (m : Mach) (t p d r lanes : Nat) (b : List Byte) : Mach × DmaEnd :=
  let a := dBase d + r * dStride d
  if dSpace d = 0 then (m.setTile t ((m.tile t).store a b), .done)
  else
    let res :=
      if lanes = 0 then m.vwrite 1 p (a % 2 ^ 48) b
      else m.vupdate 1 p (a % 2 ^ 48) b.length false (fun off old =>
        -- lanes are added as they fall in this line; a line holds whole lanes when rows are lane-aligned
        let base := off / lanes * lanes
        let sum := (List.range ((off + old.length + lanes - 1 - base) / lanes)).flatMap (fun k =>
          let pos := base + k * lanes
          let lo := max pos off
          let hi := min (pos + lanes) (off + old.length)
          let cur := fieldAt old (lo - off) (hi - lo) * 2 ^ (8 * (lo - pos))
          slice (leBytes lanes (cur + fieldAt b pos lanes)) (lo - pos) (hi - lo))
        sum)
    match res with
    | (m, none) => (m.countLines t a b.length, .done)
    | (m, some e) => (m, e.dmaEnd)

/-- A read error in a row stops the transfer at the failing line: the lines of the row before it have moved (R234). -/
def Mach.rowStopped (m : Mach) (t p vs rs vd rd : Nat) (e : DmaEnd) : Mach :=
  let a := dBase vs + rs * dStride vs
  match e with
  | .fail 4 v =>
    let n := (v + 2 ^ 48 - a % 2 ^ 48) % 2 ^ 48
    if dSpace vs = 0 || n = 0 || rowBytes vs ≤ n then m
    else
      match m.vread 1 p (a % 2 ^ 48) n with
      | (m, .error _) => m
      | (m, .ok b) =>
        let m := m.countLines t a n
        let d := dBase vd + rd * dStride vd
        if dSpace vd = 0 then m.setTile t ((m.tile t).store d b)
        else
          match m.vwrite 1 p (d % 2 ^ 48) b with
          | (m, some _) => m
          | (m, none) => m.countLines t d n
  | _ => m

/-- Rows of a COPY from row r on. -/
def Mach.copyRows (m : Mach) (t p va vb r : Nat) : (n : Nat) → Mach × DmaEnd
  | 0 => (m, .done)
  | n + 1 =>
    match m.rowRead t p va r with
    | (m, .error e) => (m.rowStopped t p va r vb r e, e)
    | (m, .ok b) =>
      match m.rowWrite t p vb r 0 b with
      | (m, .done) => m.copyRows t p va vb (r + 1) n
      | (m, e) => (m, e)

/-- Entries of a row transfer from entry j on (R234). -/
def Mach.rowEntries (m : Mach) (t p code va vb vd j : Nat) : (n : Nat) → Mach × DmaEnd
  | 0 => (m, .done)
  | n + 1 =>
    let x := m.tile t
    let w := if dFmt vd = 0 then 4 else 8
    let idx := leNat (memRead x.mem (dBase vd + j * w) w)
    match x.poisonIn (dBase vd + j * w) w with
    | some l => (m, .poison l)
    | none =>
      if dRows va ≤ idx then (m, .fail 3 idx)
      else
        let res := if code = 257 then m.rowRead t p va idx else m.rowRead t p vb j
        match res with
        | (m, .error e) => (m.rowStopped t p va idx vb j e, e)
        | (m, .ok b) =>
          let lanes := if code = 259 then (if dFmt va = 0 then 4 else 8) else 0
          match (if code = 257 then m.rowWrite t p vb j 0 b else m.rowWrite t p va idx lanes b) with
          | (m, .done) => m.rowEntries t p code va vb vd (j + 1) n
          | (m, e) => (m, e)

/-- A transfer executes. -/
def Mach.dmaRun (m : Mach) (t : Nat) (o : EngOp) : Mach × DmaEnd :=
  let p := m.tilePart t
  if o.code = 256 then m.copyRows t p o.vA o.vB 0 (storedRows o.vA)
  else m.rowEntries t p o.code o.vA o.vB o.vD 0 (dCols o.vD)

/-- A failed transfer keeps its DETAIL for the wait that meets it (R242). -/
def Mach.dmaEnded (m : Mach) (t : Nat) (o : EngOp) (tag : Nat) (e : DmaEnd) : Mach :=
  match e with
  | .done => m
  | .poison l => m.engPoison t o l
  | .fail kind v =>
    let x := m.tile t
    m.setTile t { x with dmaFail := x.dmaFail ++ [(tag, kind * 2 ^ 60 + tag * 2 ^ 56 + v % 2 ^ 48)] }

/-- The oldest transfer completes or stops, and frees its tag (R231, R234). -/
def Mach.dmaTransferDone (m : Mach) (t : Nat) : Mach :=
  let x := m.tile t
  match x.dma with
  | [] => m
  | o :: r =>
    let (m, e) := (m.setTile t { x with dma := r }).dmaRun t o
    m.dmaEnded t o o.tag e

def execDmaTransferDone (t : Fin 80) (s : State) : Host.Outcome State Fault Refusal := s.onMach (fun m => m.dmaTransferDone t)

/-! ### Seed expander and noise sampler (R236, R238) -/

/-- A local address for `n` bytes, aligned to `n`, in the tile store (R206, R227, R236). -/
def readCheck (a n : Nat) : Option KF := if a % n ≠ 0 then some (4, a) else if 0x800000 ≤ a then some (3, a) else none

/-- SEXP issues (R236). -/
def Mach.sexp (m : Mach) (t : Nat) : Mach :=
  m.issue t [384 + 0x10] (fun m x i =>
    let vd := x.vreg i.d
    let slot := i.imm % 512
    let fromSlot := i.x.testBit 0
    let key := if fromSlot then m.slotKey (m.tilePart t) slot 4 else some []
    let ka := x.sreg i.a
    let ca := x.sreg i.b
    checked [checkDesc i.d vd true, needLocal i.d vd, noSp vd, if fromSlot then none else readCheck ka 32, readCheck ca 16,
        if key.isNone then some (0x0A, slot) else none]
      (m.engine t x 3 { engOp x i ((if fromSlot then [] else [(ka, ka + 32)]) ++ [(ca, ca + 16)]) (foot vd) with
        key := key.getD [] }))
def execSexp (t : Fin 80) (s : State) : Host.Outcome State Fault Refusal := s.onMach (fun m => m.sexp t)

/-- Block i of the key stream (R236). -/
def sexpBlock (w : Array Bytes) (c0 : List Byte) (i : Nat) : List Byte :=
  toBytes (aesBlockW w (toNats (c0.take 8 ++ leBytes 8 (leNat (c0.drop 8) + i))))

/-- `n` bytes of the key stream; each 8-byte word mod q where `fq` (R236). -/
def sexpStream (key c0 : List Byte) (fq : Bool) (n : Nat) : List Byte :=
  let w := aesSchedule (toNats key)
  let raw := (List.range (cdiv n 16)).flatMap (sexpBlock w c0)
  let raw := if fq then (List.range (raw.length / 8)).flatMap (fun k => leBytes 8 (fieldAt raw (8 * k) 8 % qF)) else raw
  raw.take n

/-- Bytes laid into the rows of a local descriptor, in order. -/
def Tile.fill (x : Tile) (d : Nat) (b : List Byte) : Tile :=
  (List.range (storedRows d)).foldl (fun y r => y.store (dBase d + r * dStride d) (slice b (r * rowBytes d) (rowBytes d))) x

/-- SEXP executes. -/
def Mach.sexpRun (m : Mach) (t : Nat) (o : EngOp) : Mach :=
  let x := m.tile t
  let fromSlot := o.x.testBit 0
  match (if fromSlot then none else x.poisonIn o.sA 32).or (x.poisonIn o.sB 16) with
  | some l => m.engPoison t o l
  | none =>
    let key := if fromSlot then o.key else memRead x.mem o.sA 32
    m.setTile t (x.fill o.vD (sexpStream key (memRead x.mem o.sB 16) (dFmt o.vD = 2) (storedRows o.vD * rowBytes o.vD)))

/-- NOISE issues (R238). -/
def Mach.noiseIssue (m : Mach) (t : Nat) : Mach :=
  m.issue t [384 + 0x11] (fun m x i =>
    let vd := x.vreg i.d
    let okFmt := if i.x.testBit 0 then dFmt vd ≤ 1 else dFmt vd = 0xA
    checked [checkDesc i.d vd true, needLocal i.d vd, noSp vd, if okFmt then none else some (8, dFmt vd)]
      (m.engine t x 4 (engOp x i [] (foot vd))))
def execNoise (t : Fin 80) (s : State) : Host.Outcome State Fault Refusal := s.onMach (fun m => m.noiseIssue t)

/-- σ × z rounded once to FP32, with the special values of σ (R238). -/
def noiseReal (imm z : Nat) : Nat :=
  let vz := fp32.decode false z
  match fp32.decode false imm, vz with
  | .inf s, .fin n _ _ => fp32.sign (s != n) + fp32.infEnc
  | v, z => fp32.round false (v.mul z)

/-- One sample of a NOISE operation. -/
def Mach.noiseSample (m : Mach) (o : EngOp) : Nat × Mach :=
  if o.x.testBit 0 then
    if o.imm = 0 then (0, m)
    else
      let (a, m) := m.draw
      let (b, m) := m.draw
      ((BitVec.ofInt (if dFmt o.vD = 0 then 32 else 64) (Config.noiseInt o.imm a b)).toNat, m)
  else
    let (k, m) := m.draw
    (noiseReal o.imm (Config.noiseZ k).toNat, m)

/-- NOISE executes. -/
def Mach.noiseRun (m : Mach) (t : Nat) (o : EngOp) : Mach :=
  let n := dRows o.vD * dCols o.vD
  let (l, m) := (List.range n).foldl (fun (acc : List Nat × Mach) _ =>
    let (v, m) := acc.2.noiseSample o
    (acc.1 ++ [v], m)) ([], m)
  let w := (fmtWidth (dFmt o.vD)).getD 32
  let c := dCols o.vD
  m.setTile t ((List.range (dRows o.vD)).foldl (fun y r =>
    y.store (dBase o.vD + r * dStride o.vD) (packRow w ((l.drop (r * c)).take c))) (m.tile t))

end Sys2Proof.Machine
end

