-- ==== Sys2Proof/Machine/Agg.lean ====
section
/-! DEFINITION. Masked aggregation: contexts, descriptors, segments and slots, commits, transitions and
aborts (R131 to R163, R167 to R171). -/
namespace Sys2Proof.Machine

/-! ### Contexts -/

def Mach.ctx (m : Mach) (c : Nat) : AggCtx := tget m.agg c {}
def Mach.setCtx (m : Mach) (c : Nat) (x : AggCtx) : Mach := { m with agg := tset m.agg c x }

/-- The partition that owns context `c` (R131). -/
def Mach.ctxOwner (m : Mach) (c : Nat) : Option Nat :=
  let b := m.lane (A.AGG_OWN (c / 64)) (c / 16 % 4)
  if bitOf b 7 then some (b % 16) else none

def Mach.ctxState (m : Mach) (c : Nat) : Nat := m.fld (A.CTX_STS c) 3 0
def Mach.ctxArming (m : Mach) (c : Nat) : Bool := m.bit (A.CTX_STS c) 30

/-- Counted in AGG_STS.ACTIVE (R168). -/
def Mach.ctxActive (m : Mach) (c : Nat) : Bool := (1 ≤ m.ctxState c && m.ctxState c ≤ 5) || m.ctxArming c

/-- MSK status registers of context `c` (R203): one set a context, shown in the window that selects it. -/
def mskReg (a c : Nat) : Nat := a + 2 ^ 24 * (c + 1)

/-! ### The descriptor (R134 to R136, R176) -/

def AggCtx.f (x : AggCtx) (off n : Nat) : Nat := fieldAt x.desc off n
def AggCtx.w (x : AggCtx) : Nat := if x.f 0 1 = 1 then 8 else 4
def AggCtx.direct (x : AggCtx) : Bool := x.f 1 1 = 1
def AggCtx.lwr (x : AggCtx) : Bool := x.f 2 1 = 2
def AggCtx.flags (x : AggCtx) : Nat := x.f 4 1
def AggCtx.vlen (x : AggCtx) : Nat := x.f 8 8 % 2 ^ 35
def AggCtx.n (x : AggCtx) : Nat := x.f 0x10 4 % 2 ^ 23
def AggCtx.k (x : AggCtx) : Nat := x.f 0x14 2 % 1024
def AggCtx.t (x : AggCtx) : Nat := x.f 0x16 2 % 1024
def AggCtx.segLog (x : AggCtx) : Nat := x.f 0x18 1
def AggCtx.nslots (x : AggCtx) : Nat := x.f 0x19 1 % 128
def AggCtx.idle (x : AggCtx) : Nat := x.f 0x1A 2
/-- PH_OPEN, PH_CLOSE, PH_DEADLINE as number 0, 1, 2. -/
def AggCtx.ph (x : AggCtx) (i : Nat) : Nat := x.f (0x20 + 8 * i) 8
/-- SUM, BITMAP, SEGTAB, POOL as number 0 to 3. -/
def AggCtx.buf (x : AggCtx) (i : Nat) : Nat := x.f (0x38 + 8 * i) 8 % 2 ^ 48
def AggCtx.segs (x : AggCtx) : Nat := cdiv x.vlen (2 ^ x.segLog)
/-- Bytes of a staging buffer (R136). -/
def AggCtx.stageLen (x : AggCtx) : Nat := cdiv (x.vlen * x.w) 4096 * 4096
/-- Bytes of buffer `i` (R136). -/
def AggCtx.bufLen (x : AggCtx) (i : Nat) : Nat :=
  match i with
  | 0 => x.vlen * x.w
  | 1 => cdiv x.n 512 * 64
  | 2 => 4 * x.n
  | _ => x.nslots * 4096 + (if x.direct then 0 else x.nslots * x.stageLen)
/-- NBR, PK, SHARE as number 0 to 2 (R176). -/
def AggCtx.tab (x : AggCtx) (i : Nat) : Nat := x.f (0x88 + 8 * i) 8 % 2 ^ 48
def AggCtx.tabLen (x : AggCtx) (i : Nat) : Nat :=
  match i with | 0 => x.n * x.k * 4 | 1 => x.n * 32 | _ => x.n * (x.t + 1) * 128
def AggCtx.recWay (x : AggCtx) : Nat := x.f 0xA0 1 % 16

/-- Ranges [a, a + n) and [b, b + k) overlap. -/
def overlap (a n b k : Nat) : Bool := a < b + k && b < a + n

/-- Offset of the first buffer that overlaps the image or an earlier one (R135, R177): `l` holds offset, base
and length. -/
def firstOverlap : (done l : List (Nat × Nat × Nat)) → Option Nat
  | _, [] => none
  | done, (o, a, n) :: r =>
    if done.any (fun e => overlap e.2.1 e.2.2 a n) then some o else firstOverlap (done ++ [(o, a, n)]) r

/-- Each non-zero phase is above every earlier non-zero one: the offset of the first that is not (R135). -/
def phaseOrder (x : AggCtx) : Option Nat :=
  let (a, b, c) := (x.ph 0, x.ph 1, x.ph 2)
  if b ≠ 0 && a ≠ 0 && b ≤ a then some 0x28
  else if c ≠ 0 && ((a ≠ 0 && c ≤ a) || (b ≠ 0 && c ≤ b)) then some 0x30
  else none

/-- The buffers of R136 and tables of R176 with their descriptor offsets. -/
def AggCtx.bufs (x : AggCtx) : List (Nat × Nat × Nat) := (List.range 4).map (fun i => (0x38 + 8 * i, x.buf i, x.bufLen i))
def AggCtx.tabs (x : AggCtx) : List (Nat × Nat × Nat) := (List.range 3).map (fun i => (0x88 + 8 * i, x.tab i, x.tabLen i))

/-- The reserved fields of R134: offset, size and the bits that must be 0. -/
def aggReserved : List (Nat × Nat × Nat) :=
  [(0x05, 1, 0), (0x06, 2, 12), (0x08, 8, 35), (0x10, 4, 23), (0x14, 2, 10), (0x16, 2, 10), (0x19, 1, 7), (0x1C, 4, 0),
   (0x38, 8, 48), (0x40, 8, 48), (0x48, 8, 48), (0x50, 8, 48), (0x5C, 4, 0)]

/-- The first reserved field of `l` that is not 0. -/
def AggCtx.resBad (x : AggCtx) (l : List (Nat × Nat × Nat)) : Option Nat :=
  (l.find? (fun e => x.f e.1 e.2.1 / 2 ^ e.2.2 ≠ 0)).map (·.1)

/-- The checks of R135 in order, but for MASK_PARAMS: the offset of the first failing field. -/
def descCheck (x : AggCtx) (owner image : Nat) : Option Nat :=
  let c (b : Bool) (o : Nat) : Option Nat := if b then none else some o
  [ c (x.f 0 1 ≤ 1) 0x00,
    c (x.f 1 1 ≤ 1) 0x01,
    c ((x.f 2 1 = 1 || x.f 2 1 = 2) && (x.f 2 1 ≠ 2 || x.f 0 1 = 1)) 0x02,
    c (x.f 3 1 = owner) 0x03,
    c (x.flags < 8) 0x04,
    c (1 ≤ x.vlen && x.vlen ≤ 2 ^ 34) 0x08,
    c (2 ≤ x.n && x.n ≤ 2 ^ 22) 0x10,
    c (1 ≤ x.k && x.k ≤ 512 && x.k ≤ x.n - 1) 0x14,
    c (1 ≤ x.t && x.t ≤ x.k) 0x16,
    c (6 ≤ x.segLog && x.segLog ≤ 24 && x.segs ≤ 1024) 0x18,
    c (1 ≤ x.nslots && x.nslots ≤ 64) 0x19,
    c (!x.direct || x.idle = 0) 0x1A,
    phaseOrder x,
    c (x.buf 0 % 64 = 0) 0x38, c (x.buf 1 % 64 = 0) 0x40, c (x.buf 2 % 64 = 0) 0x48, c (x.buf 3 % 4096 = 0) 0x50,
    firstOverlap [(0, image, 256)] x.bufs,
    c (if bitOf x.flags 1 then
         x.f 0x58 1 ≤ 26 && 1 ≤ x.f 0x59 1 && x.f 0x59 1 ≤ 8 && 1 ≤ x.f 0x5A 2 &&
           x.vlen = 2 ^ x.f 0x58 1 * x.f 0x59 1 * x.f 0x5A 2
       else x.f 0x58 40 = 0) 0x58,
    x.resBad aggReserved ].findSome? id

/-- The receive way of a partition (R471). -/
def Mach.rxWay (m : Mach) (p : Nat) : Option Nat :=
  if m.bit (A.HRMP_RXWAY p) 7 then some (m.fld (A.HRMP_RXWAY p) 3 0) else none

/-- The checks of R177 in order: the offset of the first failing field. -/
def Mach.maskCheck (m : Mach) (x : AggCtx) (p image : Nat) : Option Nat :=
  let c (b : Bool) (o : Nat) : Option Nat := if b then none else some o
  let t0 := x.f 0xA4 1 % 128
  [ c ((List.range 16).any (fun u => m.lane (A.MSK_OWN (u / 4)) (u % 4) % 2 ^ 8 = 0x80 + p)) 0x02,
    c (x.tab 0 % 64 = 0) 0x88, c (x.tab 1 % 64 = 0) 0x90, c (x.tab 2 % 4096 = 0) 0x98,
    firstOverlap ((0, image, 256) :: x.bufs) x.tabs,
    c (m.wayOwner x.recWay = some p && m.rxWay p ≠ some x.recWay) 0xA0,
    c (if x.lwr then x.f 0xA1 1 = 9 || x.f 0xA1 1 = 10 else x.f 0xA1 1 = 0) 0xA1,
    c (if x.lwr then 1 ≤ x.f 0xA2 1 && x.f 0xA2 1 + Nat.log2 (2 * x.n - 1) ≤ 63 else x.f 0xA2 1 = 0) 0xA2,
    c (if x.lwr then 1 ≤ x.f 0xA3 1 && x.f 0xA3 1 ≤ 16 &&
         (List.range (x.f 0xA3 1)).all (fun i => m.tileOwner (t0 + i) = some p)
       else x.f 0xA3 1 = 0 && x.f 0xA4 1 = 0) 0xA3,
    c (x.lwr || x.f 0xA8 16 = 0) 0xA8,
    x.resBad [(0x88, 8, 48), (0x90, 8, 48), (0x98, 8, 48), (0xA0, 1, 4), (0xA4, 1, 7), (0xA5, 3, 0), (0xB8, 8, 0)] ].findSome? id

/-! ### Transitions (R138 to R142, R161, R162) -/

/-- The write-back area after a transition (R134): zeros on reaching ARMED. -/
def Mach.writeBackBytes (m : Mach) (c : Nat) (x : AggCtx) : List Byte :=
  if m.ctxState c = 1 then List.replicate 64 0
  else
    leBytes 1 (m.ctxState c) ++ leBytes 1 (m.fld (A.CTX_STS c) 23 16) ++ leBytes 2 0 ++
    leBytes 4 (m.fld (A.CTX_COMMITTED c) 22 0) ++ leBytes 4 (m.fld (A.CTX_DISCARDED c) 22 0) ++ leBytes 4 0 ++
    x.ats.flatMap (leBytes 8) ++ leBytes 8 0

/-- The AT_ field that a state sets (R134). -/
def atIndex (st : Nat) : Option Nat :=
  match st with | 2 => some 0 | 3 => some 1 | 4 => some 2 | 5 => some 3 | 7 => some 3 | 6 => some 4 | _ => none

/-- Recovery state goes when a context leaves RECOVERY: keys, secrets, sums and way (R197); its MSK unit is free,
and expansion tiles are wiped (R193). -/
def Mach.recoveryEnd (m : Mach) (c : Nat) : Mach :=
  let x := m.ctx c
  match x.recov with
  | none => m
  | some r =>
    let m := match r.pass with | some (u, _) => m.putBit A.MSK_STS u false | none => m
    let m := if r.expanding then
        (List.range (x.f 0xA3 1)).foldl (fun (a : Mach) i =>
          let t := x.f 0xA4 1 % 128 + i
          (a.wipeTile t).expandedTile t) m
      else m
    let m := m.put (mskReg (A.MSK_REC_STS 0) c) 29 28 0
    m.setCtx c { x with recov := none }

/-- A context enters state `st` with cause `cause` (R140, R142): status, AT_ field, write-back, NOTIFY, trace. -/
def Mach.enterCtx (m : Mach) (c st cause : Nat) (byCmd : Bool) : Mach :=
  let x := m.ctx c
  let old := m.ctxState c
  let x := { x with
    ats := match atIndex st with | some i => x.ats.set i m.phase | none => x.ats,
    entered := if m.running then some m.phase else none,
    cmdEdge := if byCmd then some m.phs.edges else none }
  let m := ((m.setCtx c x).put (A.CTX_STS c) 3 0 st).put (A.CTX_STS c) 23 16 cause
  let (m, _) := m.vwrite 2 x.part ((x.descVa + 0xC0) % 2 ^ 48) (m.writeBackBytes c x)
  let m := if bitOf x.flags 2 && 2 ≤ st then m.ctrAdd x.part (x.f 6 2 % 4096) 1 else m
  let m := m.trace x.part 4 (leBytes 2 c ++ leBytes 1 old ++ leBytes 1 st ++ leBytes 1 cause) []
  if st = 5 || st = 7 then m.recoveryEnd c else m

/-! ### The mask generators (R179 to R185) -/

/-- Power and inverse in FQ (R263). -/
def qPow (a n : Nat) : Nat := powModN qF a n 64
def qInv (a : Nat) : Nat := qPow a (qF - 2)
def qSub (a b : Nat) : Nat := (a + qF - b % qF) % qF

/-- Expand (R181). -/
def lwrExpand (key : List Byte) (round n tail : Nat) : List Nat :=
  let w := aesSchedule (toNats key)
  (List.range n).map (fun i =>
    let y := toBytes (aesBlockW w (toNats (leBytes 8 round ++ leBytes 4 (i / 2) ++ leBytes 4 tail)))
    fieldAt y (8 * (i % 2)) 8 % qF)

def AggCtx.round (x : AggCtx) : Nat := x.f 0x80 8
def AggCtx.lwrN (x : AggCtx) : Nat := 2 ^ x.f 0xA1 1

/-- Element e of the XOF mask of a seed, for lanes of w bytes (R179). -/
def xofMask (sched : Array Bytes) (round w e : Nat) : Nat :=
  let per := 16 / w
  let y := toBytes (aesBlockW sched (toNats (leBytes 8 round ++ leBytes 8 (e / per))))
  fieldAt y (e % per * w) w

/-- The signed sum of the masks of a pass at element e, mod 2^64. -/
def passSum (es : List (Bool × Array Bytes)) (round w e : Nat) : Nat :=
  es.foldl (fun a s => let v := xofMask s.2 round w e; if s.1 then (a + v) % 2 ^ 64 else (a + 2 ^ 64 - v) % 2 ^ 64) 0

/-- The public polynomial a_k (R182). -/
def lwrPoly (x : AggCtx) (k : Nat) : List Nat :=
  let tag : List Byte := [0x48, 0x46, 0x41, 0x39, 0x2D, 0x4C, 0x57, 0x52, 0x2D, 0x41]
  let key := toBytes (sha256 (toNats (tag ++ leBytes 8 x.round ++ slice x.desc 0xA8 16)))
  lwrExpand key x.round x.lwrN k

/-- Coefficient j of a × v mod X^n + 1 (R182). -/
def negCoef (n : Nat) (a v : List Nat) (j : Nat) : Nat :=
  (List.zip a v.zipIdx).zipIdx.foldl (fun acc e =>
    -- a[i] v[(j − i) mod n], negated where the index wraps
    let i := e.2
    let p := e.1.1 * v.getD ((j + n - i) % n) 0 % qF
    if i ≤ j then (acc + p) % qF else qSub acc p) 0

/-- PRG(v) at element e (R182). -/
def lwrPrg (x : AggCtx) (v : List Nat) (e : Nat) : Nat :=
  let n := x.lwrN
  negCoef n (lwrPoly x (e / n)) v (e % n) * 2 ^ 64 / qF

/-- V of R185 from the lane Y at element e. -/
def lwrLane (x : AggCtx) (vP vQ : List Nat) (mp y e : Nat) : Nat :=
  let l := x.f 0xA2 1
  let z := (y + 2 ^ 64 - lwrPrg x vP e + lwrPrg x vQ e + (mp - 1)) % 2 ^ 64
  z / 2 ^ l * 2 ^ l

/-- The passes of recovery that an abort stops (R197, R162): of an XOF pass some first lines of the sum have been
written, of an LWR expansion some first elements of each tile's blocks; how many the spec leaves open. -/
def Mach.partialRemoval (m : Mach) (c : Nat) : Mach :=
  let x := m.ctx c
  match x.recov with
  | none => m
  | some r =>
    match r.pass with
    | some (_, es) =>
      let (d, m) := m.draw
      let total := x.vlen * x.w
      let n := min total (64 * (d.toNat % (cdiv total 64 + 1)))
      let scheds := es.map (fun s => (s.plus, aesSchedule (toNats s.seed)))
      (m.vupdate 3 x.part (x.buf 0) n false (fun off old =>
        (List.range (old.length / x.w)).flatMap (fun i =>
          leBytes x.w (fieldAt old (i * x.w) x.w + 2 ^ 64 - passSum scheds x.round x.w (off / x.w + i))))).1
    | none =>
      if r.expanding && !r.expanded then
        let g := x.f 0xA3 1
        let (d, m) := m.drawBytes (8 * g)
        let mp := (m.rd (mskReg (A.MSK_MP 0) c)).toNat
        let written (e : Nat) : Bool := e / x.lwrN / g * x.lwrN + e % x.lwrN < fieldAt d (8 * (e / x.lwrN % g)) 8 % (x.vlen + 1)
        (m.vupdate 3 x.part (x.buf 0) (x.vlen * 8) false (fun off old =>
          (List.range (old.length / 8)).flatMap (fun i =>
            let y := fieldAt old (8 * i) 8
            leBytes 8 (if written (off / 8 + i) then lwrLane x r.vP r.vQ mp y (off / 8 + i) else y)))).1
      else m

/-- A pass or an expansion of the context is under way. -/
def Mach.removing (m : Mach) (c : Nat) : Bool :=
  match (m.ctx c).recov with
  | none => false
  | some r => r.pass.isSome || (r.expanding && !r.expanded)

/-- A STAGED commit stopped by an abort: of each, the adds of some first lines have been issued, how many the
spec leaves open (R162). -/
def Mach.partialCommit (m : Mach) (x : AggCtx) (slot : Nat) : Mach :=
  let (d, m) := m.draw
  let total := x.vlen * x.w
  let n := min total (64 * (d.toNat % (cdiv total 64 + 1)))
  match m.vread 2 x.part (x.buf 3 + 4096 * x.nslots + slot * x.stageLen) n with
  | (m, .error _) => m
  | (m, .ok b) =>
    (m.vupdate 2 x.part (x.buf 0) n false (fun off old =>
      (List.range (old.length / x.w)).flatMap (fun i =>
        leBytes x.w (fieldAt old (i * x.w) x.w + fieldAt b (off + i * x.w) x.w)))).1

/-- ABORTED with a cause (R161, R162): slots freed, adds stopped, DRAIN while commits or passes were in progress. -/
def Mach.abortCtx (m : Mach) (c cause : Nat) (byCmd : Bool) : Mach :=
  let x := m.ctx c
  let com := x.slots.filter (fun s => s.2.committing)
  let busy := !com.isEmpty || m.removing c
  let m := (com.foldl (fun a s => a.partialCommit x s.1) m).partialRemoval c
  let m := m.setCtx c { x with slots := [] }
  let m := (m.put (A.CTX_SLOTS c) 6 0 0).putBit (A.CTX_STS c) 31 busy
  m.enterCtx c 7 cause byCmd

/-- The abort cause of a failed access (R161, R500). -/
def XFail.cause (e : XFail) : Nat :=
  match e.kind with
  | .xlate _ => 6
  | .boundary => 6
  | .memErr => 5
  | .key _ => 5

/-- A failure on a line of the context's memory aborts it (R161). -/
def Mach.ctxMemFail (m : Mach) (c : Nat) (e : XFail) : Mach := m.abortCtx c e.cause false

/-- END_RECOVERY, ABORT and fault reactions apply in ARMED to RECOVERY (R140). -/
def Mach.ctxInUse (m : Mach) (c : Nat) : Bool := 1 ≤ m.ctxState c && m.ctxState c ≤ 4

/-- OPEN (R140). -/
def Mach.openCtx (m : Mach) (c : Nat) (byCmd : Bool) : Mach := m.enterCtx c 2 0 byCmd

/-- The segment-count entry of contributor i is at SEGTAB_VA + 4i (R148). -/
def AggCtx.segEntry (x : AggCtx) (i : Nat) : Nat := (x.buf 2 + 4 * i) % 2 ^ 48
/-- Progress entry s of slot j (R148). -/
def AggCtx.progress (x : AggCtx) (j s : Nat) : Nat := (x.buf 3 + 4096 * j + 4 * s) % 2 ^ 48

/-- An in-progress contributor is dropped: its slot, segment-count entry and progress entries (R151, R153). -/
def Mach.dropContributor (m : Mach) (c j : Nat) (s : AggSlot) : Mach × Option XFail :=
  let x := m.ctx c
  let m := m.setCtx c { x with slots := terase x.slots j }
  let m := m.put (A.CTX_SLOTS c) 6 0 (m.fld (A.CTX_SLOTS c) 6 0 - 1)
  match m.vwrite 2 x.part (x.segEntry s.who) (leBytes 4 0) with
  | (m, some e) => (m, some e)
  | (m, none) => m.vwrite 2 x.part (x.progress j 0) (List.replicate (4 * x.segs) 0)

/-- Drops the contributors of `l`, counting each in field `hi`:0 of `reg`; a failure aborts the context. -/
def Mach.dropAll (m : Mach) (c reg hi : Nat) : List (Nat × AggSlot) → Mach × Bool
  | [] => (m, true)
  | (j, s) :: r =>
    match (m.bumpF reg hi 0 1).dropContributor c j s with
    | (m, some e) => (m.ctxMemFail c e, false)
    | (m, none) => m.dropAll c reg hi r

/-- CLOSE (R140, R151, R152). -/
def Mach.closeCtx (m : Mach) (c : Nat) (byCmd : Bool) : Mach :=
  let x := m.ctx c
  let prog := x.slots.filter (fun s => !s.2.committing)
  if x.direct && !prog.isEmpty then m.abortCtx c 2 byCmd
  else
    match m.dropAll c (A.CTX_DISCARDED c) 22 prog with
    | (m, true) => m.enterCtx c 3 0 byCmd
    | (m, false) => m

/-- RELEASE (R140): AGG drops its state; the buffers stay as they are. -/
def Mach.releaseCtx (m : Mach) (c : Nat) (byCmd : Bool) : Mach :=
  let m := m.enterCtx c 6 0 byCmd
  m.setCtx c {}

/-! ### ARM (R133 to R137, R177, R178) -/

/-- Reads the image: result code and DETAIL on refusal (R133, R170). -/
def Mach.armRead (m : Mach) (p va : Nat) : Mach × Except (Nat × Nat) (List Byte) :=
  match m.vread 2 p va 0xC0 with
  | (m, .ok b) => (m, .ok b)
  | (m, .error e) => (m, .error (match e.kind with | .xlate _ => (5, 0) | .boundary => (5, 0) | _ => (7, 0)))

/-- Translates every page of the buffers and tables in order: DETAIL of the first failure (R136, R178). -/
def Mach.armXlate (m : Mach) (p : Nat) : List (Nat × Nat × Nat) → Mach × Option Nat
  | [] => (m, none)
  | (d, va, n) :: r =>
    match m.xlate 2 p va n with
    | (m, .error _) => (m, some d)
    | (m, .ok _) => m.armXlate p r

/-- The ranges that ARM translates, with their DETAIL (R169, R178). -/
def AggCtx.armRanges (x : AggCtx) : List (Nat × Nat × Nat) :=
  (List.range 4).map (fun i => (i + 1, x.buf i, x.bufLen i)) ++ (List.range 3).map (fun i => (i + 5, x.tab i, x.tabLen i))

/-- The counters of a status entry, and the MSK status of the context, clear (R171, R203). -/
def Mach.clearCtxRegs (m : Mach) (c : Nat) : Mach :=
  let m := ((List.range 8).map (fun i => A.CTX_STS c + 4 * i)).foldl (fun a r => a.wr r 0) m
  ((List.range 9).map (fun i => mskReg (A.MSK_REC_STS 0 + 4 * i) c)).foldl (fun a r => a.wr r 0) m

/-- ARM from partition `p` with the image at `va`: none once zeroing has begun, else CODE and DETAIL. -/
def Mach.arm (m : Mach) (p c va : Nat) (node : Option (Nat × Nat × Nat)) : Mach × Option (Nat × Nat) :=
  if va % 256 ≠ 0 then (m, some (4, 0xFF))
  else
    match m.armRead p va with
    | (m, .error e) => (m, some e)
    | (m, .ok b) =>
      let x : AggCtx := { desc := b, descVa := va, part := p, armNode := node }
      match (descCheck x p va).or (m.maskCheck x p va) with
      | some o => (m, some (4, o))
      | none =>
        match m.armXlate p x.armRanges with
        | (m, some d) => (m, some (5, d))
        | (m, none) =>
          let m := ((m.setCtx c x).clearCtxRegs c).putBit (A.CTX_STS c) 30 true
          (m.putBit (A.CTX_STS c) 4 x.direct, none)

/-- The result of a window command (R169). -/
def Mach.aggResult (m : Mach) (p c code detail : Nat) : Mach :=
  m.wr (A.AGG_WIN_RES p) (BitVec.ofNat 32 (2 ^ 31 + c * 2 ^ 16 + detail * 2 ^ 8 + code))

/-- Takes a range of translated memory to zero, whole lines and without reading (R137). -/
def Mach.vzero (m : Mach) (p va n : Nat) : Mach × Option XFail :=
  match m.xlate 2 p va n with
  | (m, .error e) => (m, some e)
  | (m, .ok segs) =>
    (segs.foldl (fun a s => { a with mem := { a.mem with
      cells := memZero a.mem.cells s.pa s.len,
      poison := a.mem.poison.filter (fun l => !(s.pa ≤ 64 * l && 64 * l + 64 ≤ s.pa + s.len)) } }) m, none)

/-- What ARM zeroes: bitmap, segment table, slot records, and the sum where ZERO_SUM, with the DETAIL (R137). -/
def AggCtx.zeroRanges (x : AggCtx) : List (Nat × Nat × Nat) :=
  [(2, x.buf 1, x.bufLen 1), (3, x.buf 2, x.bufLen 2), (4, x.buf 3, x.nslots * 4096)] ++
    (if bitOf x.flags 0 then [(1, x.buf 0, x.bufLen 0)] else [])

def Mach.zeroAll (m : Mach) (p : Nat) : List (Nat × Nat × Nat) → Mach × Option Nat
  | [] => (m, none)
  | (d, va, n) :: r =>
    match m.vzero p va n with
    | (m, some _) => (m, some d)
    | (m, none) => m.zeroAll p r

/-- The result of an ARM reaches the window, or the node that gave it (R170, R386). -/
def Mach.armResult (m : Mach) (c : Nat) (x : AggCtx) (code detail : Nat) : Mach :=
  match x.armNode with
  | none => m.aggResult x.part c code detail
  | some n => m.nodeResult n (if code = 0 then 0 else 0x26) (if code = 0 then 0 else code)

/-- The last zero line is written: ARMED, or the ARM refused (R137). -/
def Mach.armingDone (m : Mach) (c : Nat) : Mach :=
  let x := m.ctx c
  let m := m.putBit (A.CTX_STS c) 30 false
  match m.zeroAll x.part x.zeroRanges with
  | (m, some d) => m.armResult c x 5 d
  | (m, none) => (m.enterCtx c 1 0 false).armResult c x 0 0

def execArmingDone (c : Fin 4096) (s : State) : Host.Outcome State Fault Refusal :=
  s.onMach (fun m => if m.ctxArming c then m.armingDone c else m)

/-! ### Commands (R140, R170) -/

/-- A command of partition `p` on context `c`: none for an ARM under way, else CODE and DETAIL. -/
def Mach.aggCommand (m : Mach) (p c op va : Nat) (node : Option (Nat × Nat × Nat)) : Mach × Option (Nat × Nat) :=
  let st := m.ctxState c
  let bad : Mach × Option (Nat × Nat) := (m, some (1, 0))
  if op = 0 || 7 ≤ op then (m, some (6, 0))
  else if m.ctxOwner c ≠ some p then (m, some (2, 0))
  else
    match op with
    | 1 =>
      if m.ctxArming c || m.bit (A.CTX_STS c) 31 then (m, some (3, 0))
      else if st = 0 || st = 6 || st = 7 then m.arm p c va node
      else bad
    | 2 => if st = 1 then (m.openCtx c true, some (0, 0)) else bad
    | 3 => if st = 2 then (m.closeCtx c true, some (0, 0)) else bad
    | 4 => if m.ctxInUse c then (m.abortCtx c 3 true, some (0, 0)) else bad
    | 5 => if st = 5 then (m.releaseCtx c true, some (0, 0)) else bad
    | _ => if m.ctxInUse c then (m.abortCtx c 1 true, some (0, 0)) else bad

/-- A write of AGG_WIN_CMD in the window of `p` (R170). -/
def Mach.writeAggCmd (m : Mach) (p v : Nat) : Mach :=
  if !m.bit (A.AGG_WIN_RES p) 31 then m
  else
    let c := m.fld (A.AGG_WIN_SEL p) 11 0
    match m.aggCommand p c (bitsOf v 3 0) (m.rd64 (A.AGG_WIN_DESC_LO p)) none with
    | (m, some (code, d)) => m.aggResult p c code d
    | (m, none) => m.wr (A.AGG_WIN_RES p) (BitVec.ofNat 32 (c * 2 ^ 16))

/-- The owner byte of block b in a value of AGG_OWN, reserved bits off. -/
def ownByte (v k : Nat) : Nat := bitsOf v (8 * k + 7) (8 * k) &&& 0x8F

/-- A write of AGG_OWNn (R132). -/
def Mach.writeAggOwn (m : Mach) (n v : Nat) : Mach :=
  let old := (m.rd (A.AGG_OWN n)).toNat
  let changed := (List.range 4).filter (fun k => ownByte old k ≠ ownByte v k)
  let ctxs := changed.flatMap (fun k => (List.range 16).map (fun i => 16 * (4 * n + k) + i))
  if ctxs.any m.ctxActive then m.putBit A.AGG_STS 31 true
  else
    let m := ctxs.foldl (fun (a : Mach) c => (a.clearCtxRegs c).setCtx c {}) m
    m.wr (A.AGG_OWN n) (BitVec.ofNat 32 ((List.range 4).foldl (fun s k => s + ownByte v k * 2 ^ (8 * k)) 0))

/-! ### Descriptor phases (R141) -/

/-- A descriptor phase of a context in its source state is reached in a running state, at an edge that R141 admits. -/
def Mach.ctxPhaseDue (m : Mach) (c i : Nat) : Bool :=
  let x := m.ctx c
  m.running && x.ph i ≠ 0 && x.ph i ≤ m.phase && x.cmdEdge ≠ some m.phs.edges

/-- LATE: strictly below the phase at which the source state was entered (R141). -/
def Mach.ctxLate (m : Mach) (c i : Nat) : Mach :=
  let x := m.ctx c
  if x.ph i < x.entered.getD m.phs.runFrom then m.putBit (A.CTX_STS c) 29 true else m

def execCtxPhOpen (c : Fin 4096) (s : State) : Host.Outcome State Fault Refusal :=
  s.onMach (fun m => if m.ctxState c = 1 && m.ctxPhaseDue c 0 then (m.ctxLate c 0).openCtx c false else m)

def execCtxPhClose (c : Fin 4096) (s : State) : Host.Outcome State Fault Refusal :=
  s.onMach (fun m => if m.ctxState c = 2 && m.ctxPhaseDue c 1 then (m.ctxLate c 1).closeCtx c false else m)

def execCtxPhDeadline (c : Fin 4096) (s : State) : Host.Outcome State Fault Refusal :=
  s.onMach (fun m => if m.ctxInUse c && m.ctxPhaseDue c 2 then (m.ctxLate c 2).abortCtx c 3 false else m)

/-! ### Commit, reclaim, drain (R149 to R154) -/

/-- The arrival bitmap bit of contributor i is set (R148). -/
def Mach.setArrived (m : Mach) (c i : Nat) : Mach × Option XFail :=
  let x := m.ctx c
  m.vupdate 2 x.part ((x.buf 1 + i / 8) % 2 ^ 48) 1 false
    (fun _ old => old.map (fun b => b ||| BitVec.ofNat 8 (2 ^ (i % 8))))

/-- The contribution of contributor i is committed: bitmap bit, INFLIGHT cleared, slot freed, counted (R149). -/
def Mach.committed (m : Mach) (c i j : Nat) : Mach :=
  match m.setArrived c i with
  | (m, some e) => m.ctxMemFail c e
  | (m, none) =>
    let x := m.ctx c
    match m.vupdate 2 x.part (x.segEntry i) 4 false (fun _ old => leBytes 4 (withBits (leNat old) 30 24 0)) with
    | (m, some e) => m.ctxMemFail c e
    | (m, none) =>
      let m := m.setCtx c { x with slots := terase x.slots j }
      (m.put (A.CTX_SLOTS c) 6 0 (m.fld (A.CTX_SLOTS c) 6 0 - 1)).bumpF (A.CTX_COMMITTED c) 22 0 1

/-- A STAGED commit ends: the staging buffer has been added into the sum, lane by lane (R149, R157). -/
def Mach.commitDone (m : Mach) (c j : Nat) : Mach :=
  let x := m.ctx c
  match tfind x.slots j with
  | none => m
  | some s =>
    if !s.committing then m
    else
      match m.vread 2 x.part ((x.buf 3 + 4096 * x.nslots + j * x.stageLen) % 2 ^ 48) (x.vlen * x.w) with
      | (m, .error e) => m.ctxMemFail c e
      | (m, .ok b) =>
        match m.vupdate 2 x.part (x.buf 0) (x.vlen * x.w) false (fun off old =>
            (List.range (old.length / x.w)).flatMap (fun i =>
              leBytes x.w (fieldAt old (i * x.w) x.w + fieldAt b (off + i * x.w) x.w))) with
        | (m, some e) => m.ctxMemFail c e
        | (m, none) => m.committed c s.who j

def execCommitDone (c : Fin 4096) (j : Fin 64) (s : State) : Host.Outcome State Fault Refusal :=
  s.onMach (fun m => m.commitDone c j)

/-- The slots of a context that have gone IDLE_SLOTS slot boundaries without an accepted packet (R153). -/
def Mach.reclaimDue (m : Mach) (c : Nat) : List (Nat × AggSlot) :=
  let x := m.ctx c
  if m.ctxState c = 2 && !x.direct && x.idle ≠ 0 then
    x.slots.filter (fun s => !s.2.committing && s.2.last + x.idle ≤ m.sys.slots)
  else []

def execSlotReclaim (c : Fin 4096) (s : State) : Host.Outcome State Fault Refusal :=
  s.onMach (fun m => (m.dropAll c (A.CTX_RECLAIMED c) 31 (m.reclaimDue c)).1)

/-- Another context of the machine holds hub way `w` as its recovery way (R190). -/
def Mach.wayHeld (m : Mach) (w c : Nat) : Bool :=
  m.agg.any (fun e => e.1 ≠ c && e.2.recWay = w && (match e.2.recov with | some r => !r.wait | none => false))

/-- MSK unit `u` belongs to partition `p` and is in service. -/
def Mach.mskServes (m : Mach) (p u : Nat) : Bool := m.lane (A.MSK_OWN (u / 4)) (u % 4) = 0x80 + p && m.fld (A.FLT_USTS (0xF0 + u)) 31 29 < 3

/-- The unit that holds a way taken for partition `p`: the lowest in service (DESIGN CHOICE, log 20). -/
def Mach.wayHolder (m : Mach) (p : Nat) : Option Nat := (List.range 16).find? (m.mskServes p)

/-- Recovery begins: the way is taken or waited for (R190). -/
def Mach.beginRecovery (m : Mach) (c : Nat) : Mach :=
  let x := m.ctx c
  let wait := m.wayHeld x.recWay c
  (m.setCtx c { x with recov := some { wait := wait, holder := if wait then none else m.wayHolder x.part } }).putBit (mskReg (A.MSK_REC_STS 0) c) 29 wait

/-- The last commit of a CLOSING context has landed (R140, R154). -/
def Mach.drainDone (m : Mach) (c : Nat) : Mach :=
  let x := m.ctx c
  if m.fld (A.CTX_COMMITTED c) 22 0 < x.t then
    (m.put (mskReg (A.MSK_REC_STS 0) c) 23 16 1).abortCtx c 4 false
  else (m.enterCtx c 4 0 false).beginRecovery c

def execDrainDone (c : Fin 4096) (s : State) : Host.Outcome State Fault Refusal :=
  s.onMach (fun m => if m.ctxState c = 3 && (m.ctx c).slots.isEmpty then m.drainDone c else m)

/-- The adds issued before an abort have completed (R162). -/
def execAbortDrainDone (c : Fin 4096) (s : State) : Host.Outcome State Fault Refusal :=
  s.onMach (fun m => if m.ctxState c = 7 then m.putBit (A.CTX_STS c) 31 false else m)

/-! ### VADD packets at step 12 (R143 to R149) -/

/-- The answer of an engine to a packet: accepted with a VALUE, or refused with a reason and DETAIL. -/
inductive PRes where
  | ok (value : Nat)
  | no (reason detail : Nat)
  deriving DecidableEq, Repr

/-- The fields of a VADD payload (R114). -/
structure Vadd where
  who : Nat
  seg : Nat
  elem : Nat
  count : Nat
  isFirst : Bool
  isLast : Bool
  data : List Byte
  deriving DecidableEq, Repr

def vaddOf (k : Pkt) : Vadd :=
  { who := k.operand.toNat % 2 ^ 22, seg := k.operand.toNat / 2 ^ 22, elem := fieldAt k.payload 0 8 % 2 ^ 34,
    count := fieldAt k.payload 10 2, isFirst := k.isFirst, isLast := k.isLast, data := k.payload.drop 16 }

/-- A refusal counted in the context (R171), or for DENIED in the window of the packet's partition (R169). -/
def Mach.vaddNak (m : Mach) (c reason detail : Nat) : Mach × PRes := (m.bump (A.CTX_NAKS c), .no reason detail)

/-- A failed access of the context's memory in the handling of a packet: the context aborts, and the packet
meets an aborted context. -/
def Mach.vaddFail (m : Mach) (c : Nat) (e : XFail) : Mach × PRes := (m.ctxMemFail c e, .no 0x0E 7)

/-- Elements `from`… of the packet are staged, or added into the sum (R145). -/
def Mach.vaddStore (m : Mach) (x : AggCtx) (j skip : Nat) (v : Vadd) : Mach × Option XFail :=
  let n := (v.count - skip) * x.w
  let b := slice v.data (skip * x.w) n
  let e0 := v.elem + skip
  if x.direct then
    m.vupdate 2 x.part ((x.buf 0 + e0 * x.w) % 2 ^ 48) n false (fun off old =>
      (List.range (old.length / x.w)).flatMap (fun i => leBytes x.w (fieldAt old (i * x.w) x.w + fieldAt b (off + i * x.w) x.w)))
  else m.vwrite 2 x.part ((x.buf 3 + 4096 * x.nslots + j * x.stageLen + e0 * x.w) % 2 ^ 48) b

/-- The progress entry and the segment-count entry after an accepted packet, and the commit where it completes
the contribution (R145, R148, R149). `segs0` is SEGS before. -/
def Mach.vaddRecord (m : Mach) (c j segs0 hw' : Nat) (v : Vadd) (reached : Bool) : Mach × PRes :=
  let x := m.ctx c
  match m.vwrite 2 x.part (x.progress j v.seg) (leBytes 4 hw') with
  | (m, some e) => m.vaddFail c e
  | (m, none) =>
    let segs := segs0 + b2n reached
    let complete := segs = x.segs
    match m.vwrite 2 x.part (x.segEntry v.who) (leBytes 4 (b2n complete * 2 ^ 31 + 2 ^ 30 + j * 2 ^ 24 + segs)) with
    | (m, some e) => m.vaddFail c e
    | (m, none) =>
      let x := m.ctx c
      let m := m.setCtx c { x with slots := tset x.slots j { who := v.who, last := m.sys.slots, committing := complete } }
      if complete && x.direct then (m.committed c v.who j, .ok 0) else (m, .ok 0)

/-- An accepted packet of a contributor that holds slot j (R145). -/
def Mach.vaddAccept (m : Mach) (c j hw segs0 : Nat) (v : Vadd) : Mach × PRes :=
  let x := m.ctx c
  let s0 := v.seg * 2 ^ x.segLog
  let off := v.elem - s0
  let segEnd := min (s0 + 2 ^ x.segLog) x.vlen
  match m.vaddStore x j (hw - off) v with
  | (m, some e) => m.vaddFail c e
  | (m, none) => m.vaddRecord c j segs0 (off + v.count) v (v.elem + v.count = segEnd)

/-- A free slot is given to a contributor; which one the spec leaves open, so a free value picks it (R144). -/
def Mach.takeSlot (m : Mach) (c who : Nat) : Mach × Nat × Option XFail :=
  let x := m.ctx c
  let free := (List.range x.nslots).filter (fun j => (tfind x.slots j).isNone)
  let (d, m) := m.draw
  let j := free.getD (d.toNat % max 1 free.length) 0
  let m := m.setCtx c { x with slots := tset x.slots j { who := who, last := m.sys.slots, committing := false } }
  let m := m.bumpF (A.CTX_SLOTS c) 6 0 1
  let (m, e) := m.vwrite 2 x.part (x.progress j 0) (List.replicate (4 * x.segs) 0)
  (m, j, e)

/-- Steps 6 to 9 of R145, once contributor and segment are in range. -/
def Mach.vaddSlot (m : Mach) (c : Nat) (v : Vadd) (bm entry : Nat) : Mach × PRes :=
  let x := m.ctx c
  let s0 := v.seg * 2 ^ x.segLog
  let segEnd := min (s0 + 2 ^ x.segLog) x.vlen
  let inflight := bitOf entry 30
  let j0 := bitsOf entry 29 24
  let hwRes : Mach × Except XFail Nat :=
    if inflight then
      match m.vread 2 x.part (x.progress j0 v.seg) 4 with
      | (m, .ok b) => (m, .ok (leNat b % 2 ^ 25))
      | (m, .error e) => (m, .error e)
    else (m, .ok 0)
  if bm.testBit (v.who % 8) || bitOf entry 31 then m.vaddNak c 0x11 v.who
  else
    match hwRes with
    | (m, .error e) => m.vaddFail c e
    | (m, .ok hw) =>
      let off := v.elem - s0
      if !(s0 ≤ v.elem && v.elem < segEnd && v.elem + v.count ≤ segEnd && (!v.isFirst || v.elem = s0) && off ≤ hw &&
           (!v.isLast || v.elem + v.count = segEnd)) then m.vaddNak c 0x10 v.elem
      else if !inflight && x.nslots ≤ x.slots.length then m.vaddNak c 7 x.slots.length
      else if off + v.count ≤ hw then (m.bump (A.CTX_DUPACK c), .ok 0)
      else if inflight then m.vaddAccept c j0 hw (bitsOf entry 10 0) v
      else
        match m.takeSlot c v.who with
        | (m, _, some e) => m.vaddFail c e
        | (m, j, none) => m.vaddAccept c j 0 0 v

/-- A VADD packet at step 12 (R145). -/
def Mach.vadd (m : Mach) (z64 : Bool) (k : Pkt) : Mach × PRes :=
  let c := fieldAt k.payload 8 2 % 4096
  let x := m.ctx c
  let v := vaddOf k
  if m.ctxOwner c ≠ some k.part.val then (m.bump (A.AGG_WIN_DENIED k.part.val), .no 0x0C 0)
  else if m.ctxState c ≠ 2 then m.vaddNak c 0x0E (m.ctxState c)
  else if (x.w = 8) != z64 then m.vaddNak c 0x0F (x.f 0 1)
  else if x.n ≤ v.who then m.vaddNak c 0x10 v.who
  else if x.segs ≤ v.seg then m.vaddNak c 0x10 v.seg
  else
    match m.vread 2 x.part ((x.buf 1 + v.who / 8) % 2 ^ 48) 1 with
    | (m, .error e) => m.vaddFail c e
    | (m, .ok bm) =>
      match m.vread 2 x.part (x.segEntry v.who) 4 with
      | (m, .error e) => m.vaddFail c e
      | (m, .ok e) => m.vaddSlot c v (leNat bm) (leNat e)

/-- Quiesce of a partition aborts its contexts in use with cause QUIESCE (R161); an ARM under way
ends (R635), and its command is done with a result the spec does not state. -/
def Mach.quiesceAgg (m : Mach) (p : Nat) : Mach :=
  (m.agg.filter (fun e => e.2.part = p)).foldl (fun (a : Mach) e =>
    if a.ctxInUse e.1 then a.abortCtx e.1 7 false
    else if a.ctxArming e.1 then
      let (d, a) := (a.putBit (A.CTX_STS e.1) 30 false).draw
      if e.2.armNode.isNone then a.aggResult e.2.part e.1 (bitsOf d.toNat 7 0) (bitsOf d.toNat 15 8) else a
    else a) m

end Sys2Proof.Machine
end

