-- ==== Sys2Proof/Machine/Msk.lean ====
section
/-! DEFINITION. Mask recovery: shares, the census, reconstruction, agreements, mask removal in XOF and LWR
mode, FINISH and the end of recovery (R172 to R204). -/
namespace Sys2Proof.Machine

/-- The recovery record of a context, empty where it has none. -/
def Mach.recov (m : Mach) (c : Nat) : Recovery := (m.ctx c).recov.getD {}
def Mach.setRec (m : Mach) (c : Nat) (r : Recovery) : Mach := m.setCtx c { m.ctx c with recov := some r }

/-- Aborts with cause SHARES and a reason (R195, R196). -/
def Mach.shareAbort (m : Mach) (c reason : Nat) : Mach :=
  (m.put (mskReg (A.MSK_REC_STS 0) c) 23 16 reason).abortCtx c 4 false

/-- Context `c` is in RECOVERY and holds its way. -/
def Mach.inRecovery (m : Mach) (c : Nat) : Bool := m.ctxState c = 4 && (m.ctx c).recov.isSome && !(m.recov c).wait

/-! ### Tables in the partition's memory (R175, R148) -/

/-- Is a neighbour list well-formed for contributor j of N: valid entries below N, not j, ascending and first (R175)? -/
def nbrOk (n j : Nat) (l : List Nat) : Bool :=
  let valid := l.takeWhile (· ≠ 0xFFFFFFFF)
  (l.drop valid.length).all (· = 0xFFFFFFFF) && valid.all (fun i => i < n && i ≠ j) &&
    (List.zip valid (valid.drop 1)).all (fun e => e.1 < e.2)

/-- What reading a table of MSK comes to: a value, a memory failure, or a reason of R196. -/
inductive MskErr where
  | mem (e : XFail)
  | reason (r : Nat)
  deriving DecidableEq, Repr

/-- The failure ends the recovery (R178, R195). -/
def Mach.mskFail (m : Mach) (c : Nat) (e : MskErr) : Mach :=
  match e with
  | .mem e => m.abortCtx c e.cause false
  | .reason r => m.shareAbort c r

/-- The neighbour list of contributor j (R175). -/
def Mach.nbrList (m : Mach) (c j : Nat) : Mach × Except MskErr (List Nat) :=
  let x := m.ctx c
  match m.vread 3 x.part ((x.tab 0 + 4 * j * x.k) % 2 ^ 48) (4 * x.k) with
  | (m, .error e) => (m, .error (.mem e))
  | (m, .ok b) =>
    let l := (List.range x.k).map (fun i => fieldAt b (4 * i) 4)
    if nbrOk x.n j l then (m, .ok (l.filter (· ≠ 0xFFFFFFFF))) else (m, .error (.reason 6))

/-- The arrival bitmap, as committed indices (R173). -/
def Mach.survivors (m : Mach) (c : Nat) : Mach × Except MskErr (List Nat) :=
  let x := m.ctx c
  match m.vread 3 x.part (x.buf 1) (x.bufLen 1) with
  | (m, .error e) => (m, .error (.mem e))
  | (m, .ok b) => (m, .ok ((List.range x.n).filter (fun i => (b.getD (i / 8) 0).getLsbD (i % 8))))

/-! ### Share delivery (R186 to R189) -/

/-- A share record of a SHARE_DELIVER payload (R186). -/
structure ShareRec where
  owner : Nat
  isKey : Bool
  resOk : Bool
  vals : List Nat
  deriving DecidableEq, Repr

def shareRec (b : List Byte) : ShareRec :=
  let o := fieldAt b 0 4
  { owner := o % 2 ^ 22, isKey := bitOf o 31, resOk := bitsOf o 30 22 = 0 && fieldAt b 4 4 = 0 && fieldAt b 72 8 = 0,
    vals := (List.range 8).map (fun i => fieldAt b (8 + 8 * i) 8) }

def shareRecs (k : Pkt) : List ShareRec :=
  (List.range (fieldAt k.payload 2 2)).map (fun i => shareRec (k.payload.drop (16 + 80 * i)))

/-- Checks 5 of R187 on records in order: the first that fails names its OWNER. -/
def Mach.shareCheck (m : Mach) (c h : Nat) (seen : List Nat) : List ShareRec → Mach × Except MskErr (Option Nat)
  | [] => (m, .ok none)
  | r :: rest =>
    let x := m.ctx c
    if x.n ≤ r.owner || !r.resOk || seen.contains r.owner then (m, .ok (some r.owner))
    else
      match m.vread 3 x.part ((x.buf 1 + r.owner / 8) % 2 ^ 48) 1 with
      | (m, .error e) => (m, .error (.mem e))
      | (m, .ok b) =>
        if (leNat b).testBit (r.owner % 8) = r.isKey then (m, .ok (some r.owner))
        else
          match m.nbrList c r.owner with
          | (m, .error e) => (m, .error e)
          | (m, .ok l) =>
            if l.contains h && r.vals.all (· < qF) then m.shareCheck c h (r.owner :: seen) rest
            else (m, .ok (some r.owner))

/-- The address of spill record r of owner j (R189). -/
def AggCtx.spill (x : AggCtx) (j r : Nat) : Nat := (x.tab 2 + (j * (x.t + 1) + r) * 128) % 2 ^ 48

/-- A spill record as memory holds it: ciphertext under a key that never leaves Kaolin, so its bytes are free
(R189, R198). -/
def Mach.writeSpill (m : Mach) (c j r : Nat) : Mach × Except MskErr (List Byte) :=
  let x := m.ctx c
  let (ct, m) := m.drawBytes 128
  match m.vwrite 3 x.part (x.spill j r) ct with
  | (m, some e) => (m, .error (.mem e))
  | (m, none) => (m, .ok ct)

/-- A spill record reads back as written, or its tag fails (R189). -/
def Mach.checkSpill (m : Mach) (c j r : Nat) (ct : List Byte) : Mach × Option MskErr :=
  let x := m.ctx c
  match m.vread 3 x.part (x.spill j r) 128 with
  | (m, .error e) => (m, some (.mem e))
  | (m, .ok b) => if b = ct then (m, none) else (m, some (.reason 7))

/-- One record is stored, or skipped and counted in EXTRA (R188). -/
def Mach.storeShare (m : Mach) (c h : Nat) (s : ShareRec) : Mach × Option MskErr :=
  let x := m.ctx c
  let r := m.recov c
  let have' := tget r.shares s.owner []
  let hdrRes := match tfind r.hdr s.owner with | some ct => m.checkSpill c s.owner 0 ct | none => (m, none)
  match hdrRes with
  | (m, some e) => (m, some e)
  | (m, none) =>
    if x.t ≤ have'.length || have'.any (fun y => y.holder = h) then
      (m.bump (mskReg (A.MSK_EXTRA 0) c), none)
    else
      match m.writeSpill c s.owner (have'.length + 1) with
      | (m, .error e) => (m, some e)
      | (m, .ok ct) =>
        match m.writeSpill c s.owner 0 with
        | (m, .error e) => (m, some e)
        | (m, .ok hct) =>
          let r := m.recov c
          let r := { r with shares := tset r.shares s.owner (have' ++ [{ holder := h, vals := s.vals, ct := ct }]),
                            hdr := tset r.hdr s.owner hct }
          ((m.setRec c r).bump (mskReg (A.MSK_SHARES 0) c), none)

def Mach.storeShares (m : Mach) (c h : Nat) : List ShareRec → Mach × Option MskErr
  | [] => (m, none)
  | s :: rest =>
    match m.storeShare c h s with
    | (m, some e) => (m, some e)
    | (m, none) => m.storeShares c h rest

/-- A SHARE_DELIVER at step 12 (R187, R188). -/
def Mach.shareDeliver (m : Mach) (k : Pkt) : Mach × PRes :=
  let c := fieldAt k.payload 0 2 % 4096
  let h := k.operand.toNat % 2 ^ 22
  let x := m.ctx c
  let r := m.recov c
  let st := m.ctxState c
  if m.ctxOwner c ≠ some k.part.val then (m, .no 0x0C 0)
  else if st = 7 && m.fld (A.CTX_STS c) 23 16 = 3 then (m, .no 0x12 (bitsOf (x.ats.getD 3 0) 47 0))
  else if st ≠ 4 then (m, .no 0x0E st)
  else if r.finished then (m, .no 0x12 r.finishTick)
  else if r.wait then (m, .no 7 0)
  else if x.n ≤ h then (m, .no 0x10 h)
  else
    match m.shareCheck c h [] (shareRecs k) with
    | (m, .error e) => (m.mskFail c e, .no 0x0E 7)
    | (m, .ok (some o)) => (m, .no 0x10 o)
    | (m, .ok none) =>
      match m.storeShares c h (shareRecs k) with
      | (m, some e) => (m.mskFail c e, .no 0x0E 7)
      | (m, none) => (m, .ok 0)

/-! ### The way and the census (R190) -/

/-- A waiting context takes its way once no other holds it. -/
def execRecWayAcquired (c : Fin 4096) (s : State) : Host.Outcome State Fault Refusal :=
  s.onMach (fun m =>
    if m.ctxState c = 4 && (m.recov c).wait && !m.wayHeld (m.ctx c).recWay c then
      (m.setRec c { m.recov c with wait := false, holder := m.wayHolder (m.ctx c).part }).putBit (mskReg (A.MSK_REC_STS 0) c) 29 false
    else m)

/-- Edges of dropouts in `ds` with survivors `surv`: dropout and survivor (R173). -/
def Mach.edges (m : Mach) (c : Nat) (surv : List Nat) : (ds : List Nat) → Mach × Except MskErr (List (Nat × Nat))
  | [] => (m, .ok [])
  | j :: rest =>
    match m.nbrList c j with
    | (m, .error e) => (m, .error e)
    | (m, .ok l) =>
      match m.edges c surv rest with
      | (m, .error e) => (m, .error e)
      | (m, .ok es) => (m, .ok ((l.filter surv.contains).map (fun i => (j, i)) ++ es))

/-- The needed secrets: every survivor, and each dropout with an edge (R174). -/
def neededOf (surv : List Nat) (es : List (Nat × Nat)) : List Nat := surv ++ (es.map (·.1)).eraseDups

/-- A needed secret has fewer than T shares (R195). -/
def Mach.short (m : Mach) (c : Nat) (need : List Nat) : Bool :=
  need.any (fun o => (tget (m.recov c).shares o []).length < (m.ctx c).t)

/-- The census reads bitmap and lists: survivors and edges. -/
def Mach.censusRead (m : Mach) (c : Nat) : Mach × Except MskErr (List Nat × List (Nat × Nat)) :=
  match m.survivors c with
  | (m, .error e) => (m, .error e)
  | (m, .ok surv) =>
    match m.edges c surv ((List.range (m.ctx c).n).filter (fun i => !surv.contains i)) with
    | (m, .error e) => (m, .error e)
    | (m, .ok es) => (m, .ok (surv, es))

/-- The census ends (R190, R195). -/
def Mach.censusDone (m : Mach) (c : Nat) : Mach :=
  match m.censusRead c with
  | (m, .error e) => m.mskFail c e
  | (m, .ok (surv, es)) =>
    let x := m.ctx c
    let need := neededOf surv es
    let mp := surv.length + (es.filter (fun e => e.2 < e.1)).length
    let mq := (es.filter (fun e => e.1 < e.2)).length
    let w (m : Mach) (a v : Nat) : Mach := m.wr (mskReg a c) (BitVec.ofNat 32 v)
    let m := w (w (w (w m (A.MSK_NEED 0) need.length) (A.MSK_EDGES 0) es.length) (A.MSK_MP 0) mp) (A.MSK_MQ 0) mq
    let m := (m.setRec c { m.recov c with census := true }).putBit (mskReg (A.MSK_REC_STS 0) c) 31 true
    if x.lwr && 2 ^ x.f 0xA2 1 < mp + mq then m.shareAbort c 5
    else if (m.recov c).finished && m.short c need then m.shareAbort c 2
    else m

def execCensusDone (c : Fin 4096) (s : State) : Host.Outcome State Fault Refusal :=
  s.onMach (fun m => if m.inRecovery c && !(m.recov c).census then m.censusDone c else m)

/-! ### Reconstruction and agreements (R191, R192) -/

/-- The Lagrange coefficients at 0 over points xs (R191). -/
def lagrange (xs : List Nat) : List Nat :=
  xs.zipIdx.map (fun e =>
    let others := (xs.zipIdx.filter (fun f => f.2 ≠ e.2)).map (·.1)
    let num := others.foldl (fun a v => a * v % qF) 1
    let den := others.foldl (fun a v => a * qSub v e.1 % qF) 1
    num * qInv den % qF)

/-- The chunks from T shares: none where one is 2^32 or more (R191). -/
def reconstruct (shs : List Share) : Option (List Byte) :=
  let lam := lagrange (shs.map (fun s => s.holder + 1))
  let chunks := (List.range 8).map (fun c =>
    (List.zip lam shs).foldl (fun a e => (a + e.1 * e.2.vals.getD c 0) % qF) 0)
  if chunks.all (· < 2 ^ 32) then some (chunks.flatMap (leBytes 4)) else none

/-- Elementwise sum in FQ. -/
def qAddL (a b : List Nat) : List Nat := if a.isEmpty then b else (List.zip a b).map (fun e => (e.1 + e.2) % qF)

/-- A mask entry joins the queue, or in LWR mode its expansion the sums (R192, R193). -/
def Mach.addEntry (m : Mach) (c : Nat) (plus : Bool) (seed : List Byte) : Mach :=
  let x := m.ctx c
  let r := m.recov c
  if x.lwr then
    let v := lwrExpand seed x.round x.lwrN 0xFFFFFFFF
    m.setRec c (if plus then { r with vP := qAddL r.vP v } else { r with vQ := qAddL r.vQ v })
  else m.setRec c { r with entries := r.entries ++ [{ plus := plus, seed := seed }] }

/-- The public key of contributor i (R175). -/
def Mach.pubKey (m : Mach) (c i : Nat) : Mach × Except MskErr (List Byte) :=
  let x := m.ctx c
  match m.vread 3 x.part ((x.tab 1 + 32 * i) % 2 ^ 48) 32 with
  | (m, .error e) => (m, .error (.mem e))
  | (m, .ok b) => (m, .ok b)

/-- The shares of owner `o` read back as stored (R189). -/
def Mach.checkShares (m : Mach) (c o : Nat) : List (Share × Nat) → Mach × Option MskErr
  | [] => (m, none)
  | (s, i) :: rest =>
    match m.checkSpill c o (i + 1) s.ct with
    | (m, some e) => (m, some e)
    | (m, none) => m.checkShares c o rest

/-- A key secret: verified against the public key, its edges queued in ascending survivor (R191, R192). -/
def Mach.keySecret (m : Mach) (c o : Nat) (sk : List Byte) (surv : List Nat) : Mach :=
  match m.pubKey c o with
  | (m, .error e) => m.mskFail c e
  | (m, .ok pk) =>
    if toBytes (x25519 (toNats sk) (toNats (leBytes 32 9))) ≠ pk then m.shareAbort c 4
    else
      match m.nbrList c o with
      | (m, .error e) => m.mskFail c e
      | (m, .ok l) =>
        let r := m.recov c
        m.setRec c { r with agree := r.agree ++ (l.filter surv.contains).map (fun i => (o, sk, i)) }

/-- A secret is reconstructed from its T shares (R191, R192). -/
def Mach.secretReconstructed (m : Mach) (c o : Nat) : Mach :=
  let r := m.recov c
  let shs := tget r.shares o []
  match m.checkShares c o shs.zipIdx with
  | (m, some e) => m.mskFail c e
  | (m, none) =>
    match reconstruct shs with
    | none => m.shareAbort c 3
    | some secret =>
      match m.survivors c with
      | (m, .error e) => m.mskFail c e
      | (m, .ok surv) =>
        let r := m.recov c
        let m := (m.setRec c { r with secrets := r.secrets ++ [o] }).bumpF (mskReg (A.MSK_RECON 0) c) 22 0 1
        if surv.contains o then m.addEntry c true secret else m.keySecret c o secret surv

/-- The lowest MSK unit of partition p that is idle (R199). -/
def Mach.freeUnit (m : Mach) (p : Nat) : Option Nat :=
  (List.range 16).find? (fun u => m.mskServes p u && !m.bit A.MSK_STS u)

/-- Owner `o` has its T shares, is not reconstructed yet, and a unit can take it (R191, R199, R634). -/
def Mach.reconDue (m : Mach) (c o : Nat) : Bool :=
  m.inRecovery c && (m.freeUnit (m.ctx c).part).isSome && (tget (m.recov c).shares o []).length = (m.ctx c).t && (m.ctx c).t ≠ 0 && !(m.recov c).secrets.contains o

def execSecretReconstructed (c : Fin 4096) (o : BitVec 22) (s : State) : Host.Outcome State Fault Refusal :=
  s.onMach (fun m => if m.reconDue c o.toNat then m.secretReconstructed c o.toNat else m)

/-- The pairwise seed of R180. -/
def pairSeed (round i j : Nat) (shared : List Byte) : List Byte :=
  let info := toNats ([0x48, 0x46, 0x41, 0x39, 0x2D, 0x50, 0x41, 0x49, 0x52] ++ leBytes 4 (min i j) ++ leBytes 4 (max i j))
  toBytes (hkdf256 (toNats (leBytes 8 round)) (toNats shared) info 32)

/-- The next agreement yields its seed and mask entry (R180, R192). -/
def Mach.agreementDone (m : Mach) (c : Nat) : Mach :=
  match (m.recov c).agree with
  | [] => m
  | (j, sk, i) :: rest =>
    let m := m.setRec c { m.recov c with agree := rest }
    match m.pubKey c i with
    | (m, .error e) => m.mskFail c e
    | (m, .ok pk) =>
      let z := toBytes (x25519 (toNats sk) (toNats pk))
      if z.all (· = 0) then m.shareAbort c 4
      else
        (m.bump (mskReg (A.MSK_AGREE 0) c)).addEntry c (i < j) (pairSeed (m.ctx c).round i j z)

def execAgreementDone (c : Fin 4096) (s : State) : Host.Outcome State Fault Refusal :=
  s.onMach (fun m => if m.inRecovery c && (m.freeUnit (m.ctx c).part).isSome then m.agreementDone c else m)

/-! ### Removal in XOF mode (R179, R192) -/

/-- A pass takes every queued entry, up to 65,536 (R192). -/
def Mach.xofPassStart (m : Mach) (c : Nat) : Mach :=
  let r := m.recov c
  match m.freeUnit (m.ctx c).part with
  | none => m
  | some u => (m.setRec c { r with pass := some (u, r.entries.take 65536), entries := r.entries.drop 65536 }).putBit A.MSK_STS u true

def execXofPassStart (c : Fin 4096) (s : State) : Host.Outcome State Fault Refusal :=
  s.onMach (fun m =>
    if m.inRecovery c && !(m.ctx c).lwr && (m.recov c).pass.isNone && (m.recov c).entries ≠ [] then m.xofPassStart c else m)

/-- The pass ends: sum := sum − accumulator, once an element (R192). -/
def Mach.xofPassDone (m : Mach) (c : Nat) : Mach :=
  let x := m.ctx c
  let r := m.recov c
  match r.pass with
  | none => m
  | some (u, es) =>
    let m := (m.setRec c { r with pass := none }).putBit A.MSK_STS u false
    let scheds := es.map (fun s => (s.plus, aesSchedule (toNats s.seed)))
    match m.vupdate 3 x.part (x.buf 0) (x.vlen * x.w) false (fun off old =>
        (List.range (old.length / x.w)).flatMap (fun i =>
          leBytes x.w (fieldAt old (i * x.w) x.w + 2 ^ 64 - passSum scheds x.round x.w (off / x.w + i)))) with
    | (m, some e) => m.mskFail c (.mem e)
    | (m, none) => m

def execXofPassDone (c : Fin 4096) (s : State) : Host.Outcome State Fault Refusal :=
  s.onMach (fun m => if m.inRecovery c then m.xofPassDone c else m)

/-! ### Expansion in LWR mode (R182, R185, R193) -/

/-- Every needed secret is reconstructed and every edge computed, the census ended. -/
def Mach.seedsDone (m : Mach) (c : Nat) : Bool :=
  let r := m.recov c
  r.census && r.agree.isEmpty &&
    (match m.censusRead c with
     | (_, .ok (surv, es)) => (neededOf surv es).all r.secrets.contains
     | (_, .error _) => false)

/-- The expansion tiles of a context. -/
def AggCtx.expTiles (x : AggCtx) : List Nat := rangeFrom (x.f 0xA4 1 % 128) (x.f 0xA3 1)

/-- Kaolin claims the tiles once none is at work (R193). -/
def Mach.expansionStart (m : Mach) (c : Nat) : Mach :=
  let r := m.recov c
  let m := (m.setRec c { r with expanding := true }).putBit (mskReg (A.MSK_REC_STS 0) c) 28 true
  (m.ctx c).expTiles.foldl (fun a t => a.setTileState t 6) m

def execExpansionStart (c : Fin 4096) (s : State) : Host.Outcome State Fault Refusal :=
  s.onMach (fun m =>
    if m.inRecovery c && (m.ctx c).lwr && !(m.recov c).expanding && !(m.recov c).expanded && m.seedsDone c &&
        (m.ctx c).expTiles.all m.tileClaimable then m.expansionStart c
    else m)

/-- Expansion ends: the sum buffer is corrected and the tiles are zeroized (R185, R193). -/
def Mach.expansionDone (m : Mach) (c : Nat) : Mach :=
  let x := m.ctx c
  let r := m.recov c
  let mp := (m.rd (mskReg (A.MSK_MP 0) c)).toNat
  match m.vupdate 3 x.part (x.buf 0) (x.vlen * 8) false (fun off old =>
      (List.range (old.length / 8)).flatMap (fun i =>
        leBytes 8 (lwrLane x r.vP r.vQ mp (fieldAt old (8 * i) 8) (off / 8 + i)))) with
  | (m, some e) => (m.setRec c { m.recov c with expanded := true }).mskFail c (.mem e)
  | (m, none) =>
    let m := x.expTiles.foldl (fun a t => (a.wipeTile t).expandedTile t) m
    (m.setRec c { m.recov c with expanding := false, expanded := true }).putBit (mskReg (A.MSK_REC_STS 0) c) 28 false

def execExpansionDone (c : Fin 4096) (s : State) : Host.Outcome State Fault Refusal :=
  s.onMach (fun m => if m.inRecovery c && (m.recov c).expanding then m.expansionDone c else m)

/-! ### The end of recovery (R194, R195, R202, R204) -/

/-- Recovery done (R194). -/
def Mach.recoveryDone (m : Mach) (c : Nat) : Bool :=
  let r := m.recov c
  m.inRecovery c && m.seedsDone c && (if (m.ctx c).lwr then r.expanded else r.entries.isEmpty && r.pass.isNone)

def execRecoveryDone (c : Fin 4096) (s : State) : Host.Outcome State Fault Refusal :=
  s.onMach (fun m => if m.recoveryDone c then m.enterCtx c 5 0 false else m)

/-- FINISH takes effect; after the census it is evaluated at once (R195). -/
def Mach.finish (m : Mach) (c : Nat) : Mach :=
  let r := m.recov c
  let m := (m.setRec c { r with finished := true, finishTick := m.ticks }).putBit (mskReg (A.MSK_REC_STS 0) c) 30 true
  if r.census then
    match m.censusRead c with
    | (m, .error e) => m.mskFail c e
    | (m, .ok (surv, es)) => if m.short c (neededOf surv es) then m.shareAbort c 2 else m
  else m

/-- A command of partition `p` on context `c` (R204): its CODE. -/
def Mach.mskCommand (m : Mach) (p c op : Nat) : Mach × Nat :=
  if op ≠ 1 then (m, 6)
  else if m.ctxOwner c ≠ some p then (m, 2)
  else if m.ctxState c ≠ 4 || (m.recov c).finished then (m, 1)
  else (m.finish c, 0)

/-- A write of MSK_WIN_CMD (R204). -/
def Mach.writeMskCmd (m : Mach) (p v : Nat) : Mach :=
  if !m.bit (A.MSK_WIN_RES p) 31 then m
  else
    let c := m.fld (A.MSK_WIN_SEL p) 11 0
    let (m, code) := m.mskCommand p c (bitsOf v 3 0)
    m.wr (A.MSK_WIN_RES p) (BitVec.ofNat 32 (2 ^ 31 + c * 2 ^ 16 + code))

/-- A write of MSK_OWNn: ignored, with OWNREJ, where it would change the owner of a working unit (R202). -/
def Mach.writeMskOwn (m : Mach) (n v : Nat) : Mach :=
  let old := (m.rd (A.MSK_OWN n)).toNat
  if (List.range 4).any (fun k => ownByte old k ≠ ownByte v k && m.bit A.MSK_STS (4 * n + k)) then m.putBit A.MSK_STS 31 true
  else m.wr (A.MSK_OWN n) (BitVec.ofNat 32 ((List.range 4).foldl (fun s k => s + ownByte v k * 2 ^ (8 * k)) 0))

end Sys2Proof.Machine
end

