-- ==== Sys2Proof/Machine/Bronze.lean ====
section
/-! DEFINITION. Bronze: transforms, gadget digits, the bootstrap and the key switch, and the instructions of
class 6 with their completion (R308 to R328). -/
namespace Sys2Proof.Machine

/-! ### Lane arithmetic (R308 to R310) -/

/-- j with its m low bits reversed. -/
def brv (n j : Nat) : Nat := (List.range n).foldl (fun a i => a + (j / 2 ^ i % 2) * 2 ^ (n - 1 - i)) 0

/-- ψ_L (R309). -/
def psi (len : Nat) : Nat := qPow 7 ((qF - 1) / (2 * len))

/-- Σ a[k] x^k. -/
def qHorner (a : List Nat) (x : Nat) : Nat := a.foldr (fun c acc => (c + acc * x) % qF) 0

/-- NTT_L (R309). -/
def ntt (a : List Nat) : List Nat :=
  let len := a.length
  let p := psi len
  (List.range len).map (fun j => qHorner a (qPow p (2 * brv len.log2 j + 1)))

/-- INTT*_L (R309). -/
def inttU (a : List Nat) : List Nat :=
  let len := a.length
  let pi := qInv (psi len)
  (List.range len).map (fun k =>
    a.zipIdx.foldl (fun acc e => (acc + e.1 * qPow pi ((2 * brv len.log2 e.2 + 1) * k % (2 * len))) % qF) 0)

/-- INTT_L (R309). -/
def intt (a : List Nat) : List Nat :=
  let s := qInv a.length
  (inttU a).map (fun v => v * s % qF)

/-- Signed digits of t, level n − 1 down to 0, listed from level 0 (R310). -/
def digitsGo (beta t : Nat) : (n : Nat) → List Int
  | 0 => []
  | n + 1 =>
    let d := t % 2 ^ beta
    let r := t / 2 ^ beta
    let (d, r) : Int × Nat := if 2 ^ (beta - 1) ≤ d then ((d : Int) - 2 ^ beta, r + 1) else (d, r)
    digitsGo beta r n ++ [d]

/-- The gadget digits of an element over modulus M (2^64 or q) (R310). -/
def digits (M beta n v : Nat) : List Int :=
  digitsGo beta ((2 * v * 2 ^ (n * beta) + M) / (2 * M) % 2 ^ (n * beta)) n

/-- A signed digit as a word of a format: FQ, or two's complement (R324). -/
def digitWord (fq : Bool) (d : Int) : Nat := if fq then (if d < 0 then qF - d.natAbs else d.natAbs) else unsig d

/-- X^k × a over modulus M, negacyclic of length L (R319, R324). -/
def rotPoly (M : Nat) (a : List Nat) (k : Nat) : List Nat :=
  let len := a.length
  (List.range len).map (fun i =>
    let s := (i + 2 * len - k % (2 * len)) % (2 * len)
    if s < len then a.getD s 0 else (M - a.getD (s - len) 0 % M) % M)

/-- Lane-wise operations mod M. -/
def addL (M : Nat) (a b : List Nat) : List Nat := List.zipWith (fun x y => (x + y) % M) a b
def subL (M : Nat) (a b : List Nat) : List Nat := List.zipWith (fun x y => (x + M - y % M) % M) a b
def mulL (M : Nat) (a b : List Nat) : List Nat := List.zipWith (fun x y => x * y % M) a b

/-- T: an FQ word moved to the torus (R313). -/
def torus (v : Nat) : Nat := v * 2 ^ 64 / qF

/-- R16 on a coefficient (R319). -/
def r16 (v : Nat) : Nat :=
  let u := (2 * v * 2 ^ 16 + qF) / (2 * qF) % 2 ^ 16
  (2 * u * qF + 2 ^ 16) / 2 ^ 17 % qF

/-- The modulus switch to 2^n (R319, R324). -/
def modSwitch (n v : Nat) : Nat := (v + 2 ^ (63 - n)) / 2 ^ (64 - n) % 2 ^ n

/-! ### Bootstrap and key switch (R319 to R321) -/

/-- ext: the external product; `key r h` is K[i][r][h] (R319). -/
def extProd (key : Nat → Nat → List Nat) (da db : List Nat) : List Nat × List Nat :=
  let lev (p : List Nat) (l : Nat) : List Nat := ntt (p.map (fun v => digitWord true ((digits qF 10 2 v).getD l 0)))
  let f := [lev da 0, lev da 1, lev db 0, lev db 1]
  let one (h : Nat) : List Nat :=
    inttU (f.zipIdx.foldl (fun acc e => addL qF acc (mulL qF e.1 (key e.2 h))) (List.replicate da.length 0))
  (one 0, one 1)

/-- One iteration of the blind rotation (R319). -/
def blindStep (key : Nat → Nat → List Nat) (t : Nat) (ab : List Nat × List Nat) : List Nat × List Nat :=
  let d (p : List Nat) : List Nat := subL qF (rotPoly qF p t) p
  let (ra, rb) := extProd key (d ab.1) (d ab.2)
  (addL qF ab.1 ra, addL qF ab.2 rb)

/-- extract at coefficient c (R320, R324). -/
def extractAt (c : Nat) (a b : List Nat) : List Nat :=
  let len := a.length
  (List.range len).map (fun j =>
    if j ≤ c then torus (a.getD (c - j) 0) else torus ((qF - a.getD (len + c - j) 0) % qF)) ++ [torus (b.getD c 0)]

/-- The bootstrap of R319; `key i r h` is K[i][r][h]. -/
def bootstrap (key : Nat → Nat → Nat → List Nat) (c : List Nat) : List Nat :=
  let t := c.map (modSwitch 12)
  let tv := List.replicate 2048 0x1FFFFFFFE0000000
  let ab := (List.range 768).foldl (fun ab i =>
    let ab := blindStep (key i) (t.getD i 0) ab
    if i % 48 = 47 && i < 767 then (ab.1.map r16, ab.2.map r16) else ab)
    (List.replicate 2048 0, rotPoly qF tv (4096 - t.getD 768 0))
  extractAt 0 ab.1 ab.2

/-- A word of a key-switching record (R316). -/
def ksWord (w : Nat) : Nat := w / 256 * 256 * 2 ^ 32

/-- z − d × record, word-wise mod 2^64. -/
def ksSub (z : List Nat) (d : Int) (rec' : List Nat) : List Nat :=
  List.zipWith (fun (x k : Nat) => unsig ((x : Int) - d * (ksWord k : Int))) z rec'

/-- The key switch of R321; `ks j l` is the 769 words of record (j, l). -/
def keyswitch (ks : Nat → Nat → List Nat) (y : List Nat) : List Nat :=
  (List.range 2048).foldl (fun z j =>
    (digits (2 ^ 64) 4 5 (y.getD j 0)).zipIdx.foldl (fun z e => ksSub z e.1 (ks j e.2)) z)
    (List.replicate 768 0 ++ [y.getD 2048 0])

/-! ### Checks (R324, R325, R328) -/

/-- BRONZE with code and register (R328). -/
def brzBad (code reg : Nat) : Option KF := some (0x10, code + 256 * reg)

/-- The general checks of a Bronze descriptor: R227, R281, then SPACE 0 and a format of `fmts` (R324). -/
def brzDesc (reg d : Nat) (dst : Bool) (fmts : List Nat) : List (Option KF) :=
  [checkDesc reg d dst, noSp d, if dSpace d ≠ 0 then brzBad 4 reg else none, if fmts.contains (dFmt d) then none else brzBad 1 reg]

/-- A length that transforms, rotations and extractions take (R325). -/
def lenOk (n : Nat) : Bool := 64 ≤ n && n ≤ 4096 && 2 ^ n.log2 = n

def brzLen (reg d : Nat) : Option KF := if lenOk (dCols d) then none else brzBad 2 reg

/-- ROWS and COLS of register `reg` equal those of vA. -/
def sameShape (reg d va : Nat) : Option KF := if dRows d = dRows va && dCols d = dCols va then none else brzBad 3 reg

/-- vD overlaps source `d`; an exact coincidence passes where `exact` (R325). -/
def brzOver (rd vd d : Nat) (exact : Bool) : Option KF :=
  if (foot vd).any (fun w => (foot d).any (meets w)) &&
      !(exact && dBase vd = dBase d && dStride vd = dStride d && dRows vd = dRows d && dCols vd = dCols d) then brzBad 5 rd
  else none

/-- The key of BBOOT and BKS lies in the general store, line-aligned (R325). -/
def keyPath (reg d : Nat) : Option KF :=
  if footEnd d ≤ 0x700000 && dBase d % 64 = 0 && dStride d % 64 = 0 then none else brzBad 7 reg

/-- Formats FQ and Z64. -/
def brzFmts : List Nat := [2, 1]

/-- A Bronze instruction `code` with its own checks; `rdD` where vD is also read. -/
def Mach.bronze (m : Mach) (t op : Nat) (useB rdD : Bool) (chk : TIns → (va vb vd : Nat) → List (Option KF)) : Mach :=
  m.issue t [384 + op] (fun m x i =>
    let va := x.vreg i.a
    let vb := x.vreg i.b
    let vd := x.vreg i.d
    checked (chk i va vb vd)
      (m.engine t x 2 (engOp x i (foot va ++ (if useB then foot vb else []) ++ (if rdD then foot vd else [])) (foot vd))))

/-- Checks of the transforms. -/
def chkNtt (i : TIns) (va _vb vd : Nat) : List (Option KF) :=
  brzDesc i.a va false [2] ++ brzDesc i.d vd true [2] ++ [brzLen i.a va, sameShape i.d vd va, brzOver i.d vd va true]

/-- Checks of the element-wise operations; BMAC allows no coincidence. -/
def chkElem (exact : Bool) (i : TIns) (va vb vd : Nat) : List (Option KF) :=
  brzDesc i.a va false brzFmts ++ brzDesc i.b vb false [dFmt va] ++ brzDesc i.d vd true [dFmt va] ++
    [sameShape i.b vb va, sameShape i.d vd va, brzOver i.d vd va exact, brzOver i.d vd vb false]

def chkDec (i : TIns) (va _vb vd : Nat) : List (Option KF) :=
  let l := i.x % 8
  let b := i.imm % 32
  brzDesc i.a va false brzFmts ++ brzDesc i.d vd true brzFmts ++
    [if 1 ≤ l && l ≤ 7 && 1 ≤ b && b ≤ 16 && l * b ≤ 32 then none else brzBad 6 i.a,
     if dRows vd = l * dRows va && dCols vd = dCols va then none else brzBad 3 i.d, brzOver i.d vd va false]

def chkRot (i : TIns) (va _vb vd : Nat) : List (Option KF) :=
  brzDesc i.a va false brzFmts ++ brzDesc i.d vd true [dFmt va] ++
    [brzLen i.a va, sameShape i.d vd va, brzOver i.d vd va true]

def chkModsw (i : TIns) (va _vb vd : Nat) : List (Option KF) :=
  brzDesc i.a va false [1] ++ brzDesc i.d vd true [1] ++ [sameShape i.d vd va, brzOver i.d vd va true]

def chkExt (i : TIns) (va _vb vd : Nat) : List (Option KF) :=
  brzDesc i.a va false [2] ++ brzDesc i.d vd true [1] ++
    [brzLen i.a va, if dRows va = 2 then none else brzBad 3 i.a,
     if dRows vd = 1 && dCols vd = dCols va + 1 then none else brzBad 3 i.d,
     if i.imm % 4096 < dCols va then none else brzBad 6 i.a, brzOver i.d vd va false]

def chkKs (i : TIns) (va vb vd : Nat) : List (Option KF) :=
  let l := i.x % 8
  let b := i.imm % 32
  brzDesc i.a va false [1] ++ brzDesc i.b vb false [1] ++ brzDesc i.d vd true [1] ++
    [if 1 ≤ l && l ≤ 7 && 1 ≤ b && b ≤ 16 && l * b ≤ 32 then none else brzBad 6 i.a,
     if dRows va = 1 && dCols va ≤ 2048 then none else brzBad 3 i.a,
     if dRows vb = l * dCols va && dCols vb = 385 then none else brzBad 3 i.b,
     if dRows vd = 1 && dCols vd = 769 then none else brzBad 3 i.d,
     brzOver i.d vd va false, brzOver i.d vd vb false, keyPath i.b vb]

def chkBoot (i : TIns) (va vb vd : Nat) : List (Option KF) :=
  let cnt := i.imm % 2 ^ 16
  let i0 := i.imm / 2 ^ 16
  let n := dRows vd / 2
  brzDesc i.a va false [1] ++ brzDesc i.b vb false [2] ++ brzDesc i.d vd true [2] ++
    [if 1 ≤ n && n ≤ 32 && 1 ≤ cnt && cnt ≤ 768 && i0 + cnt ≤ 768 then none else brzBad 6 i.d,
     if dRows vd = 2 * n && dCols vd = 2048 then none else brzBad 3 i.d,
     if i0 + cnt ≤ dCols va && dRows va = n then none else brzBad 3 i.a,
     if dRows vb = 8 * cnt && dCols vb = 2048 then none else brzBad 3 i.b,
     brzOver i.d vd va false, brzOver i.d vd vb false, keyPath i.b vb]

def execBntt (t : Fin 80) (s : State) : Host.Outcome State Fault Refusal := s.onMach (fun m => m.bronze t 0x00 false false chkNtt)
def execBintt (t : Fin 80) (s : State) : Host.Outcome State Fault Refusal := s.onMach (fun m => m.bronze t 0x01 false false chkNtt)
def execBmul (t : Fin 80) (s : State) : Host.Outcome State Fault Refusal := s.onMach (fun m => m.bronze t 0x02 true false (chkElem true))
def execBmac (t : Fin 80) (s : State) : Host.Outcome State Fault Refusal := s.onMach (fun m => m.bronze t 0x03 true true (chkElem false))
def execBadd (t : Fin 80) (s : State) : Host.Outcome State Fault Refusal := s.onMach (fun m => m.bronze t 0x04 true false (chkElem true))
def execBsub (t : Fin 80) (s : State) : Host.Outcome State Fault Refusal := s.onMach (fun m => m.bronze t 0x05 true false (chkElem true))
def execBdec (t : Fin 80) (s : State) : Host.Outcome State Fault Refusal := s.onMach (fun m => m.bronze t 0x06 false false chkDec)
def execBrot (t : Fin 80) (s : State) : Host.Outcome State Fault Refusal := s.onMach (fun m => m.bronze t 0x07 false false chkRot)
def execBext (t : Fin 80) (s : State) : Host.Outcome State Fault Refusal := s.onMach (fun m => m.bronze t 0x08 false false chkExt)
def execBks (t : Fin 80) (s : State) : Host.Outcome State Fault Refusal := s.onMach (fun m => m.bronze t 0x09 true true chkKs)
def execBboot (t : Fin 80) (s : State) : Host.Outcome State Fault Refusal := s.onMach (fun m => m.bronze t 0x0A true true chkBoot)
def execBmodsw (t : Fin 80) (s : State) : Host.Outcome State Fault Refusal := s.onMach (fun m => m.bronze t 0x0B false false chkModsw)

/-! ### Execution (R324, R326) -/

/-- Row r of a descriptor as words; FQ words are reduced (R261). -/
def Tile.words (x : Tile) (d r : Nat) : List Nat :=
  let b := x.row d r
  (List.range (dCols d)).map (fun c => let v := elemAt 64 b c; if dFmt d = 2 then v % qF else v)

/-- Rows written to a descriptor. -/
def Tile.putRows (x : Tile) (d : Nat) (rows : List (List Nat)) : Tile :=
  rows.zipIdx.foldl (fun y e => y.store (dBase d + e.2 * dStride d) (packRow 64 e.1)) x

def modOf (d : Nat) : Nat := if dFmt d = 2 then qF else 2 ^ 64

/-- BBOOT on every accumulator (R326). -/
def Tile.bboot (x : Tile) (o : EngOp) : List (List Nat) :=
  let cnt := o.imm % 2 ^ 16
  let i0 := o.imm / 2 ^ 16
  (List.range (dRows o.vD / 2)).flatMap (fun b =>
    let t := x.words o.vA b
    let ab := (List.range cnt).foldl (fun ab k =>
      blindStep (fun r h => x.words o.vB (8 * k + 2 * r + h)) (t.getD (i0 + k) 0 % 4096) ab)
      (x.words o.vD (2 * b), x.words o.vD (2 * b + 1))
    if o.x.testBit 0 then [ab.1.map r16, ab.2.map r16] else [ab.1, ab.2])

/-- BKS (R324): records as 32-bit words, low word first. -/
def Tile.bks (x : Tile) (o : EngOp) : List Nat :=
  let l := o.x % 8
  let beta := o.imm % 32
  let va := x.words o.vA 0
  va.zipIdx.foldl (fun z e =>
    (digits (2 ^ 64) beta l e.1).zipIdx.foldl (fun z d =>
      let row := x.row o.vB (e.2 * l + d.2)
      ksSub z d.1 ((List.range 769).map (fun i => fieldAt row (4 * i) 4))) z) (x.words o.vD 0)

/-- BDECOMP of row `r`: a row of digits for each level. -/
def Tile.digitRows (x : Tile) (o : EngOp) (r : Nat) : List (List Nat) :=
  let l := o.x % 8
  let ds := (x.words o.vA r).map (digits (modOf o.vA) (o.imm % 32) l)
  (List.range l).map (fun k => ds.map (fun d => digitWord (dFmt o.vD = 2) (d.getD k 0)))

/-- BROT of row `r`. -/
def Tile.rotRow (x : Tile) (o : EngOp) (r : Nat) : List Nat :=
  let a := x.words o.vA r
  let y := rotPoly (modOf o.vA) a (o.sB % (2 * dCols o.vA))
  if o.x.testBit 0 then subL (modOf o.vA) y a else y

/-- The rows that a Bronze operation writes. -/
def Tile.bronzeRows (x : Tile) (o : EngOp) : List (List Nat) :=
  let rows := List.range (dRows o.vA)
  let M := modOf o.vA
  let op := o.code - 384
  if op = 0x00 then rows.map (fun r => ntt (x.words o.vA r))
  else if op = 0x01 then rows.map (fun r => if o.x.testBit 0 then inttU (x.words o.vA r) else intt (x.words o.vA r))
  else if op = 0x02 then rows.map (fun r => mulL M (x.words o.vA r) (x.words o.vB r))
  else if op = 0x03 then rows.map (fun r => addL M (x.words o.vD r) (mulL M (x.words o.vA r) (x.words o.vB r)))
  else if op = 0x04 then rows.map (fun r => addL M (x.words o.vA r) (x.words o.vB r))
  else if op = 0x05 then rows.map (fun r => subL M (x.words o.vA r) (x.words o.vB r))
  else if op = 0x06 then rows.flatMap (fun r => x.digitRows o r)
  else if op = 0x07 then rows.map (fun r => x.rotRow o r)
  else if op = 0x08 then [extractAt (o.imm % 4096) (x.words o.vA 0) (x.words o.vA 1)]
  else if op = 0x09 then [x.bks o]
  else if op = 0x0A then x.bboot o
  else rows.map (fun r => (x.words o.vA r).map (modSwitch (o.imm % 16)))

/-- A Bronze operation completes: TS_POISON where it consumes a poisoned line. -/
def Mach.bronzeRun (m : Mach) (t : Nat) (o : EngOp) : Mach :=
  let x := m.tile t
  match o.rds.findSome? (fun r => x.poisonIn r.1 (r.2 - r.1)) with
  | some l => m.engPoison t o l
  | none => m.setTile t (x.putRows o.vD (x.bronzeRows o))

/-- Queue 0 Bronze, 1 seed expander, 2 noise sampler: its oldest operation completes (R229, R327). -/
def Mach.bronzeDone (m : Mach) (t : Nat) (q : Fin 3) : Mach :=
  let x := m.tile t
  match q with
  | 0 => match x.brz with | [] => m | o :: r => (m.setTile t { x with brz := r }).bronzeRun t o
  | 1 => match x.gen with | [] => m | o :: r => (m.setTile t { x with gen := r }).sexpRun t o
  | 2 => match x.noise with | [] => m | o :: r => (m.setTile t { x with noise := r }).noiseRun t o

def execBronzeDone (t : Fin 80) (q : Fin 3) (s : State) : Host.Outcome State Fault Refusal := s.onMach (fun m => m.bronzeDone t q)

end Sys2Proof.Machine
end

