-- ==== Sys2Proof/Machine/Gates.lean ====
section
/-! DEFINITION. The gate engine: key sets, groups, gate programs, levels (R312 to R341). -/
namespace Sys2Proof.Machine

/-! ### Key material (R314 to R316) -/

def halfBytes : Nat := 50331648
def kskBytes : Nat := 31539200

/-- The a halves regenerated from the row seeds (R315). -/
def seedHalves (seeds : List Byte) : List Byte :=
  (List.range 3072).flatMap (fun k => sexpStream (slice seeds (32 * k) 32) (leBytes 8 k ++ List.replicate 8 0) true 16384)

/-- K[i][r][h] of the transformed bootstrapping key (R314). -/
def KeyMat.row (k : KeyMat) (i r h : Nat) : List Nat :=
  let b := if h = 0 then k.a else k.b
  (List.range 2048).map (fun j => fieldAt b (((4 * i + r) * 2048 + j) * 8) 8 % qF)

/-- The 769 words of record (j, l) of the key-switching key (R316). -/
def KeyMat.record (k : KeyMat) (j l : Nat) : List Nat :=
  (List.range 769).map (fun i => fieldAt k.ks ((5 * j + l) * 3080 + 4 * i) 4)

/-- Fields of a key set (R317). -/
def ksMode (k : List Byte) : Nat := fieldAt k 6 1
def ksGen (k : List Byte) : Nat := fieldAt k 8 8
def ksB (k : List Byte) : Nat := fieldAt k 0x10 6
def ksA (k : List Byte) : Nat := fieldAt k 0x18 6
def ksSeed (k : List Byte) : Nat := fieldAt k 0x20 6
def ksKsk (k : List Byte) : Nat := fieldAt k 0x28 6

/-- The checks of R318 on a key set: the offset of the first that fails. -/
def keysetCheck (k : List Byte) : Option Nat :=
  let va := [0x10, 0x18, 0x20, 0x28]
  if fieldAt k 0 4 ≠ 0x42394648 then some 0
  else if fieldAt k 4 2 ≠ 1 then some 4
  else if 2 < ksMode k then some 6
  else
    match va.find? (fun o => fieldAt k o 8 % 64 ≠ 0) with
    | some o => some o
    | none =>
      if fieldAt k 0x18 8 = 0 && fieldAt k 0x20 8 = 0 then some 0x18
      else if ksMode k = 2 && fieldAt k 0x20 8 = 0 then some 0x20
      else if fieldAt k 7 1 ≠ 0 then some 7
      else
        match va.find? (fun o => fieldAt k (o + 6) 2 ≠ 0) with
        | some o => some o
        | none => ((List.range 80).find? (fun i => k.getD (0x30 + i) 0 ≠ 0)).map (0x30 + ·)

/-- Reads the key material of a key set: b halves, a halves from seeds where there are seeds, and the
key-switching key (R331, R332). -/
def Mach.readKeys (m : Mach) (p : Nat) (k : List Byte) : Mach × Except XFail KeyMat :=
  match m.vread 1 p (ksB k) halfBytes with
  | (m, .error e) => (m, .error e)
  | (m, .ok b) =>
    match (if ksSeed k = 0 then m.vread 1 p (ksA k) halfBytes else m.vread 1 p (ksSeed k) 98304) with
    | (m, .error e) => (m, .error e)
    | (m, .ok a) =>
      match m.vread 1 p (ksKsk k) kskBytes with
      | (m, .error e) => (m, .error e)
      | (m, .ok ks) => (m, .ok { b := b, a := if ksSeed k = 0 then a else seedHalves a, ks := ks })

/-- The kind of a failed access, as R242 numbers it. -/
def XFail.dmaKind (e : XFail) : Nat := match e.dmaEnd with | .fail k _ => k | _ => 0

/-! ### Gates (R312, R322, R323) -/

/-- α1, α2 and β0 of a two-input gate (R322). -/
def gateCoeffs (c : Nat) : Option (Int × Int × Nat) :=
  let p8 := 0x2000000000000000
  let m8 := 0xE000000000000000
  match c with
  | 0x1 => some (-1, -1, p8) | 0x2 => some (1, 1, m8) | 0x3 => some (1, 1, p8) | 0x4 => some (-1, -1, m8)
  | 0x5 => some (2, 2, 0x4000000000000000) | 0x6 => some (-2, -2, 0xC000000000000000)
  | 0x7 => some (-1, 1, m8) | 0x8 => some (1, -1, m8) | 0x9 => some (-1, 1, p8) | 0xA => some (1, -1, p8)
  | _ => none

/-- x := β0 + α1 c1 + α2 c2; β0 is added to the last word only (R322). -/
def gateLin (co : Int × Int × Nat) (c1 c2 : List Nat) : List Nat :=
  (List.range 769).map (fun i =>
    unsig (co.1 * (c1.getD i 0 : Int) + co.2.1 * (c2.getD i 0 : Int) + (if i = 768 then (co.2.2 : Int) else 0)))

/-- The output of a gate on its inputs; `cst` is the bit of CONST. -/
def gateOut (k : KeyMat) (code : Nat) (a b s : List Nat) (cst : Bool) : List Nat :=
  let boot (c : Nat) (x y : List Nat) : List Nat := bootstrap k.row (gateLin ((gateCoeffs c).getD (0, 0, 0)) x y)
  if code = 0xB then a.map (fun v => (2 ^ 64 - v) % 2 ^ 64)
  else if code = 0xC then a
  else if code = 0xD then
    keyswitch k.record (addL (2 ^ 64) (addL (2 ^ 64) (boot 0x2 s a) (boot 0x7 s b)) (List.replicate 2048 0 ++ [0x2000000000000000]))
  else if code = 0xE then List.replicate 768 0 ++ [if cst then 0x2000000000000000 else 0xE000000000000000]
  else keyswitch k.record (boot code a b)

/-- The gate runs a bootstrap. -/
def needsKey (code : Nat) : Bool := code ≠ 0xB && code ≠ 0xC && code ≠ 0xE

/-! ### Programs (R336, R337) -/

/-- Fields of the program header (R336). -/
def gpGates (h : List Byte) : Nat := fieldAt h 8 4
def gpWires (h : List Byte) : Nat := fieldAt h 0xC 4
def gpLevels (h : List Byte) : Nat := fieldAt h 0x10 4
def gpMax (h : List Byte) : Nat := fieldAt h 0x14 4
def gpWireVa (h : List Byte) : Nat := fieldAt h 0x18 8
def gpGateVa (h : List Byte) : Nat := fieldAt h 0x20 8
def gpLevelVa (h : List Byte) : Nat := fieldAt h 0x28 8
def gpStageVa (h : List Byte) : Nat := fieldAt h 0x30 8
def gpKeyset (h : List Byte) : Nat := fieldAt h 0x38 8

/-- The checks of R336 on a header: the offset of the first field that fails. -/
def headerCheck (h : List Byte) : Option Nat :=
  if fieldAt h 0 4 ≠ 0x47394648 then some 0
  else if fieldAt h 4 2 ≠ 1 then some 4
  else if fieldAt h 6 2 ≠ 0 then some 6
  else if gpGates h = 0 || 2 ^ 24 < gpGates h then some 8
  else if gpWires h = 0 || 2 ^ 24 < gpWires h then some 0xC
  else if gpLevels h = 0 || gpGates h < gpLevels h then some 0x10
  else [0x18, 0x20, 0x28, 0x30, 0x38].find? (fun o => fieldAt h o 8 % 64 ≠ 0 || fieldAt h (o + 6) 2 ≠ 0)

/-- The level counts against GATES and MAX_LEVEL: the offset of what fails (R336). -/
def levelCheck (h : List Byte) (ls : List Nat) : Option Nat :=
  match ls.findIdx? (fun n => gpMax h < n) with
  | some k => some (4 * k)
  | none => if ls.sum = gpGates h then none else some 8

/-- A gate record's fields (R337). -/
def grCode (r : List Byte) : Nat := (r.getD 0 0).toNat % 16
def grOut (r : List Byte) : Nat := fieldAt r 1 3
def grA (r : List Byte) : Nat := fieldAt r 4 3
def grB (r : List Byte) : Nat := fieldAt r 7 3
def grS (r : List Byte) : Nat := fieldAt r 10 3

/-- The gate reads A, B, S as wires (R337). -/
def grUses (c : Nat) : Bool × Bool × Bool :=
  if c = 0xB || c = 0xC then (true, false, false)
  else if c = 0xD then (true, true, true)
  else if c = 0xE then (false, false, false)
  else (true, true, false)

/-- The record passes R337 and its wires exist (R339). -/
def recordOk (wires : Nat) (r : List Byte) : Bool :=
  let c := grCode r
  let (ua, ub, us) := grUses c
  let w (used : Bool) (v : Nat) : Bool := if used then v < wires else v = 0
  c ≠ 0 && c ≠ 0xF && (r.getD 0 0).toNat < 16 && fieldAt r 13 3 = 0 && grOut r < wires && w ua (grA r) && w ub (grB r) &&
    (if c = 0xE then grS r ≤ 1 else w us (grS r))

/-! ### Groups (R329) -/

/-- Groups of at most n tiles, in order. -/
def chunk (n : Nat) (l : List Nat) : (fuel : Nat) → List (List Nat)
  | 0 => []
  | fuel + 1 => if l.isEmpty then [] else l.take n :: chunk n (l.drop n) fuel

/-- The groups that MODE forms of the tiles; a list that is empty where it can form none. -/
def formGroups (mode : Nat) (seeds : Bool) (tiles : List Nat) : List GateGroup :=
  let full := if mode = 2 then 0 else tiles.length / 16
  let res := (chunk 16 (tiles.take (16 * full)) 5).map (fun l => (GateGroup.mk true l {}))
  let rest := if mode = 2 || (mode = 0 && seeds) then chunk 8 (tiles.drop (16 * full)) 10 else []
  res ++ rest.map (fun l => (GateGroup.mk false l {}))

/-- A group's rate in gates per second (R334). -/
def GateGroup.rate (g : GateGroup) : Nat := if g.resident then 320000 else 16000 * g.tiles.length

/-- Shares of n gates, rounded down, the remainder to the first group (R340). -/
def shares (gs : List GateGroup) (n : Nat) : List Nat :=
  let tot := (gs.map GateGroup.rate).sum
  let f := gs.map (fun g => n * g.rate / tot)
  match f with
  | [] => []
  | x :: r => (x + (n - f.sum)) :: r

/-- The resident groups hold their shards: those that match stay, the others are read (R331). -/
def Mach.loadGroups (m : Mach) (p va : Nat) (ks : List Byte) :
    (gs : List GateGroup) → (acc : List GateGroup) → Mach × Except XFail (List GateGroup)
  | [], acc => (m, .ok acc)
  | g :: r, acc =>
    if !g.resident then
      let m := g.tiles.foldl (fun a t => a.dropShards t) m
      m.loadGroups p va ks r (acc ++ [g])
    else
      match m.shards.find? (fun s => s.tiles = g.tiles && s.va = va && s.gen = ksGen ks) with
      | some s => m.loadGroups p va ks r (acc ++ [{ g with mat := s.mat }])
      | none =>
        let m := g.tiles.foldl (fun a t => a.dropShards t) m
        match m.readKeys p ks with
        | (m, .error e) => (m, .error e)
        | (m, .ok k) =>
          let m := { m with shards := m.shards ++ [Shard.mk g.tiles va (ksGen ks) k] }
          m.loadGroups p va ks r (acc ++ [{ g with mat := k }])

/-! ### Start and end of a node (R318, R329, R336) -/

/-- Codes of R397: BRONZE_PROG and BRONZE_MODE. -/
def bronzeProg : Nat := 0x22
def bronzeMode : Nat := 0x23

/-- The gate engine leaves the node's tiles, and the node's result waits. -/
def Mach.gateEnd (m : Mach) (g : GateRun) (code detail : Nat) : Mach :=
  let m := { m with gates := m.gates.filter (fun h => h.node ≠ g.node) }
  (g.tiles.foldl (fun a t => if a.tileState t = 2 then a.setTileState t 0 else a) m).nodeResult g.node code detail

/-- A BRONZE_KERNEL node starts on its tiles, with the gate program at `va`. -/
def Mach.gateStart (m : Mach) (node : Nat × Nat × Nat) (tiles : List Nat) (va : Nat) : Mach :=
  let p := node.1
  let refuse (m : Mach) (d : Nat) : Mach := m.nodeResult node bronzeProg d
  if va % 64 ≠ 0 then refuse m 0
  else
    match m.vread 1 p va 64 with
    | (m, .error e) => refuse m e.dmaKind
    | (m, .ok h) =>
      match headerCheck h with
      | some o => refuse m o
      | none =>
        match m.vread 1 p (gpLevelVa h) (4 * gpLevels h) with
        | (m, .error e) => refuse m e.dmaKind
        | (m, .ok lt) =>
          let ls := (List.range (gpLevels h)).map (fun k => fieldAt lt (4 * k) 4)
          match levelCheck h ls with
          | some o => refuse m o
          | none =>
            match m.vread 1 p (gpKeyset h) 128 with
            | (m, .error e) => refuse m e.dmaKind
            | (m, .ok ks) =>
              match keysetCheck ks with
              | some o => refuse m o
              | none =>
                let gs := formGroups (ksMode ks) (ksSeed ks ≠ 0) tiles
                if gs.isEmpty then m.nodeResult node bronzeMode tiles.length
                else
                  match m.loadGroups p (gpKeyset h) ks gs [] with
                  | (m, .error e) => refuse m e.dmaKind
                  | (m, .ok gs) =>
                    let m := tiles.foldl (fun a t =>
                      (a.wr (A.TILE_RUN t) (BitVec.ofNat 32 (node.2.1 * 2 ^ 16 + node.2.2))).setTileState t 2) m
                    { m with gates := m.gates ++ [{ node := node, header := h, keyset := ks, tiles := tiles, groups := gs, levels := ls }] }

/-! ### Levels (R338 to R341) -/

/-- The records of a level from gate `g` on; a failing one is named by its index. -/
def Mach.readRecords (m : Mach) (p va wires g : Nat) : (n : Nat) → (acc : List (List Byte)) → Mach × Except Nat (List (List Byte))
  | 0, acc => (m, .ok acc)
  | n + 1, acc =>
    match m.vread 1 p (va + 16 * g) 16 with
    | (m, .error _) => (m, .error g)
    | (m, .ok r) => if recordOk wires r then m.readRecords p va wires (g + 1) n (acc ++ [r]) else (m, .error g)

/-- A wire slot's 769 words. -/
def wireWords (b : List Byte) : List Nat := (List.range 769).map (fun i => fieldAt b (8 * i) 8)

/-- Reads wire `w` where the gate uses it. -/
def Mach.readWire (m : Mach) (p base : Nat) (used : Bool) (w : Nat) : Mach × Option (List Nat) :=
  if !used then (m, some [])
  else
    match m.vread 1 p (base + 6208 * w) 6208 with
    | (m, .error _) => (m, none)
    | (m, .ok b) => (m, some (wireWords b))

/-- The inputs of the records, read before any output is written (R338). -/
def Mach.readInputs (m : Mach) (p base g : Nat) : (rs : List (List Byte)) → (acc : List (List (List Nat))) →
    Mach × Except Nat (List (List (List Nat)))
  | [], acc => (m, .ok acc)
  | r :: rs, acc =>
    let (ua, ub, us) := grUses (grCode r)
    match m.readWire p base ua (grA r) with
    | (m, none) => (m, .error g)
    | (m, some a) =>
      match m.readWire p base ub (grB r) with
      | (m, none) => (m, .error g)
      | (m, some b) =>
        match m.readWire p base us (grS r) with
        | (m, none) => (m, .error g)
        | (m, some s) => m.readInputs p base (g + 1) rs (acc ++ [[a, b, s]])

/-- The bytes of a wire slot (R312). -/
def slotBytes (c : List Nat) : List Byte := c.flatMap (leBytes 8) ++ List.replicate 56 0

/-- Staged outputs are written in order. -/
def Mach.writeStage (m : Mach) (p base g j : Nat) : (outs : List (List Nat)) → Mach × Option Nat
  | [] => (m, none)
  | c :: r =>
    match m.vwrite 1 p (base + 6208 * j) (slotBytes c) with
    | (m, some _) => (m, some (g + j))
    | (m, none) => m.writeStage p base g (j + 1) r

/-- Staged slots go to their OUT wires in ascending order (R338). -/
def Mach.copyStage (m : Mach) (p stage wires g j : Nat) : (outs : List Nat) → Mach × Option Nat
  | [] => (m, none)
  | w :: r =>
    match m.vread 1 p (stage + 6208 * j) 6208 with
    | (m, .error _) => (m, some (g + j))
    | (m, .ok b) =>
      match m.vwrite 1 p (wires + 6208 * w) b with
      | (m, some _) => (m, some (g + j))
      | (m, none) => m.copyStage p stage wires g (j + 1) r

/-- The outputs of the gates, group by group; a seeded group reads the keys at this pass (R332, R340). -/
def Mach.evalGroups (m : Mach) (p : Nat) (ks : List Byte) : (gs : List GateGroup) → (ns : List Nat) →
    (work : List (List Byte × List (List Nat))) → (acc : List (List Nat)) → Mach × Except XFail (List (List Nat))
  | [], _, _, acc => (m, .ok acc)
  | g :: gs, ns, work, acc =>
    let n := ns.headD 0
    let mine := work.take n
    let run (k : KeyMat) : List (List Nat) := mine.map (fun e =>
      gateOut k (grCode e.1) (e.2.getD 0 []) (e.2.getD 1 []) (e.2.getD 2 []) (grS e.1 = 1))
    if !g.resident && mine.any (fun e => needsKey (grCode e.1)) then
      match m.readKeys p ks with
      | (m, .error e) => (m, .error e)
      | (m, .ok k) => m.evalGroups p ks gs ns.tail (work.drop n) (acc ++ run k)
    else m.evalGroups p ks gs ns.tail (work.drop n) (acc ++ run g.mat)

/-- The run with a changed entry in the list. -/
def Mach.setGate (m : Mach) (g : GateRun) : Mach :=
  { m with gates := m.gates.map (fun h => if h.node = g.node then g else h) }

/-- A tile that no physical tile serves (R247). -/
def Mach.tileLost (m : Mach) (t : Nat) : Bool := m.bit (A.TILE_STS t) 31

/-- What a level begins with: the groups on the tiles that are left (R341), or the end of the node. -/
def Mach.regroup (m : Mach) (g : GateRun) : Except (Nat × Nat) (List Nat × List GateGroup) :=
  let left := g.tiles.filter (fun t => !m.tileLost t)
  if left = g.tiles then .ok (g.tiles, g.groups)
  else if left.isEmpty then .error (0x25, g.tiles.headD 0)
  else
    let mode := ksMode g.keyset
    if mode = 1 && g.groups.any (fun x => x.tiles.any m.tileLost) then .error (bronzeMode, left.length)
    else
      let gs := if mode = 1 then g.groups else formGroups mode (ksSeed g.keyset ≠ 0) left
      if gs.isEmpty then .error (bronzeMode, left.length) else .ok (left, gs)

/-- The next level of a gate program starts: groups, records, inputs, gates and staging (R338 to R341). -/
def Mach.levelStart (m : Mach) (g : GateRun) : Mach :=
  let p := g.node.1
  let h := g.header
  match m.regroup g with
  | .error (c, d) => m.gateEnd g c d
  | .ok (tiles, gs) =>
    let g := { g with tiles := tiles }
    match m.loadGroups p (gpKeyset h) g.keyset gs [] with
    | (m, .error e) => m.gateEnd g bronzeProg e.dmaKind
    | (m, .ok gs) =>
      let n := g.levels.getD g.level 0
      match m.readRecords p (gpGateVa h) (gpWires h) g.first n [] with
      | (m, .error i) => m.gateEnd g bronzeProg i
      | (m, .ok rs) =>
        match m.readInputs p (gpWireVa h) g.first rs [] with
        | (m, .error i) => m.gateEnd g bronzeProg i
        | (m, .ok ins) =>
          match m.evalGroups p g.keyset gs (shares gs n) (List.zip rs ins) [] with
          | (m, .error e) => m.gateEnd g bronzeProg e.dmaKind
          | (m, .ok outs) =>
            match m.writeStage p (gpStageVa h) g.first 0 outs with
            | (m, some i) => m.gateEnd g bronzeProg i
            | (m, none) => m.setGate { g with groups := gs, busy := true, outs := rs.map grOut }

/-- The tiles of a node are its own to use: none migrates or is claimed by an expansion (R341). -/
def Mach.gateReady (m : Mach) (g : GateRun) : Bool := g.tiles.all (fun t => m.tileLost t || m.tileState t = 2)

def execBronzeLevelStart (t : Fin 80) (s : State) : Host.Outcome State Fault Refusal :=
  s.onMach (fun m => match m.gateOn t with
    | some g => if !g.busy && m.gateReady g then m.levelStart g else m
    | none => m)

/-- The level's gates have finished: its staged outputs land in their wires, and the next level may start. -/
def Mach.levelCopied (m : Mach) (g : GateRun) : Mach :=
  let p := g.node.1
  match m.copyStage p (gpStageVa g.header) (gpWireVa g.header) g.first 0 g.outs with
  | (m, some i) => m.gateEnd g bronzeProg i
  | (m, none) =>
    if g.level + 1 < g.levels.length then
      m.setGate { g with busy := false, outs := [], level := g.level + 1, first := g.first + g.levels.getD g.level 0 }
    else m.gateEnd g 0 0

def execBronzeLevelCopyDone (t : Fin 80) (s : State) : Host.Outcome State Fault Refusal :=
  s.onMach (fun m => match m.gateOn t with
    | some g => if g.busy && m.gateReady g then m.levelCopied g else m
    | none => m)

end Sys2Proof.Machine
end

