-- ==== Sys2Proof/Machine/Graphs.lean ====
section
/-! DEFINITION. Graph images: layout, the checks of a submission, the snapshot area (R373 to R383, R404). -/
namespace Sys2Proof.Machine

/-! ### Owners used by the checks -/

/-- An owner byte of a register that packs four: VALID and PART (R490, R621). -/
def Mach.ownLane (m : Mach) (a k : Nat) : Option Nat :=
  if m.bit a (8 * k + 7) then some (m.fld a (8 * k + 3) (8 * k)) else none

/-- The owner of HRMP queue `q` (R482). -/
def Mach.queueOwner (m : Mach) (q : Nat) : Option Nat := m.ownLane (A.HRMP_QOWN (q / 256)) (q / 64 % 4)

/-- The owner of host vector `v` (R610). -/
def Mach.vecOwner (m : Mach) (v : Nat) : Option Nat := m.ownLane (A.INT_HV_OWN (v / 4)) (v % 4)

/-- The binding of queue `q` of partition `p` to a counter (R391), where it is VALID. -/
def qbKey (p q : Nat) : Nat := A.LOAM_QB p + 2 ^ 24 * q
def Mach.queueCtr (m : Mach) (p q : Nat) : Option Nat :=
  if m.bit (qbKey p q) 15 then some (m.fld (qbKey p q) 11 0) else none

/-! ### Image fields (R373 to R378) -/

def gNodes (b : List Byte) : Nat := fieldAt b 8 4
def gLen (b : List Byte) : Nat := fieldAt b 0xC 4
def gSuccOff (b : List Byte) : Nat := fieldAt b 0x10 4
def gSuccCount (b : List Byte) : Nat := fieldAt b 0x14 4
def gArgOff (b : List Byte) : Nat := fieldAt b 0x18 4
def gArgCount (b : List Byte) : Nat := fieldAt b 0x1C 4
def gChainOff (b : List Byte) : Nat := fieldAt b 0x20 4
def gChainCount (b : List Byte) : Nat := fieldAt b 0x24 4
def gFlags (b : List Byte) : Nat := fieldAt b 6 2
def gStart (b : List Byte) : Nat := gFlags b % 4
def gStartPhase (b : List Byte) : Nat := fieldAt b 0x28 8
def gAutoRel (b : List Byte) : Bool := (gFlags b).testBit 2

/-- Field of `n` bytes at offset `o` of node `i`. -/
def nf (b : List Byte) (i o n : Nat) : Nat := fieldAt b (64 + 64 * i + o) n
def nKind (b : List Byte) (i : Nat) : Nat := nf b i 0 1
def nFlags (b : List Byte) (i : Nat) : Nat := nf b i 1 1
def nRank (b : List Byte) (i : Nat) : Nat := nf b i 2 2
def nDeps (b : List Byte) (i : Nat) : Nat := nf b i 4 4 % 2 ^ 17
def nTarget (b : List Byte) (i : Nat) : List Nat := (List.range 80).filter (fun t => (nf b i 0x10 10).testBit t)
def nArmQ (b : List Byte) (i : Nat) : Nat := nf b i 0x1A 2 % 2 ^ 14
def nArmed (b : List Byte) (i : Nat) : Bool := !(nFlags b i).testBit 0
/-- The successors of node `i`. -/
def nSucc (b : List Byte) (i : Nat) : List Nat :=
  (List.range (nf b i 0xC 2)).map (fun k => fieldAt b (gSuccOff b + 4 * (nf b i 8 4 + k)) 4)

/-- Bytes lo to 63 of node `i` are 0, but for those that `used` names as (offset, length). -/
def restZero (b : List Byte) (i : Nat) (used : List (Nat × Nat)) : Bool :=
  (rangeFrom 0x1C 36).all (fun o => used.any (fun u => u.1 ≤ o && o < u.1 + u.2) || nf b i o 1 = 0)

/-! ### Header checks (R382, checks 1 to 3) -/

/-- End of the sections of an image, or none where they are not aligned and in order (R373). -/
def sectionsEnd (b : List Byte) : Except Nat Nat :=
  let e0 := 64 + 64 * gNodes b
  let one (e off count size o : Nat) : Except Nat Nat :=
    if count = 0 then (if off = 0 then .ok e else .error o)
    else if off % 64 ≠ 0 || off < e then .error o
    else .ok (off + size * count)
  match one e0 (gSuccOff b) (gSuccCount b) 4 0x10 with
  | .error o => .error o
  | .ok e1 =>
    match one e1 (gArgOff b) (gArgCount b) 192 0x18 with
    | .error o => .error o
    | .ok e2 => one e2 (gChainOff b) (gChainCount b) 128 0x20

/-- Checks 1 and 2: code and offset of the first that fails. -/
def headCheck (b : List Byte) : Option (Nat × Nat) :=
  if fieldAt b 0 4 ≠ 0x4C394648 then some (1, 0)
  else if fieldAt b 4 2 ≠ 1 then some (2, 4)
  else if 65536 < gNodes b then some (4, 8)
  else if 2 ^ 26 < gLen b then some (4, 0xC)
  else none

/-- Check 3 on an image of `n` bytes. -/
def lenCheck (b : List Byte) (n : Nat) : Option (Nat × Nat) :=
  if gLen b ≠ n || n % 64 ≠ 0 then some (3, 0xC)
  else if gNodes b = 0 then some (3, 8)
  else
    match sectionsEnd b with
    | .error o => some (3, o)
    | .ok e =>
      if cdiv e 64 * 64 ≠ n then some (3, 0xC)
      else if gStart b = 3 || 8 ≤ gFlags b then some (3, 6)
      else if gStart b ≠ 2 && gStartPhase b ≠ 0 then some (3, 0x28)
      else if bitsOf (fieldAt b 0x30 2) 14 12 ≠ 0 then some (3, 0x30)
      else if (fieldAt b 0x32 1).testBit 6 then some (3, 0x32)
      else match (rangeFrom 0x33 13).find? (fun o => fieldAt b o 1 ≠ 0) with
        | some o => some (3, o)
        | none => none

/-! ### Node checks (R382, checks 6 to 9) -/

def vaOk (v : Nat) : Bool := v < 2 ^ 48

/-- The fields that depend on KIND (R378 to R380). -/
def Mach.kindOk (m : Mach) (p : Nat) (b : List Byte) (i : Nat) : Bool :=
  let f := nf b i
  let tg := nTarget b i
  let none' := 0xFFFFFFFF
  let own (q : Nat) : Bool := q < 2 ^ 14 && m.queueOwner q = some p
  let xfer (o n lim : Nat) : Bool :=
    tg.isEmpty && own (f 0x1C 2) && own (f 0x1E 2) && (m.queueCtr p (f 0x1E 2)).isNone && vaOk (f 0x20 8) && vaOk (f 0x28 8) &&
      f o n < lim && restZero b i [(0x1C, 4), (0x20, 16), (0x30, 8)]
  match nKind b i with
  | 0x01 =>
    let img := f 0x1C 1
    !tg.isEmpty && (img < 0x40 || img = 0x80) &&
      ((f 0x20 4 = none' && img ≠ 0x80) || f 0x20 4 < gArgCount b) &&
      (f 0x24 4 = none' || f 0x24 4 + tg.length ≤ gChainCount b) && restZero b i [(0x1C, 1), (0x20, 8)]
  | 0x02 => !tg.isEmpty && vaOk (f 0x20 8) && restZero b i [(0x20, 8)]
  | 0x03 =>
    let dir := f 0x1C 1
    let len := f 0x30 4
    let mem (v : Nat) : Bool := vaOk v && v % 64 = 0
    let loc (v : Nat) : Bool := v % 64 = 0 && v + len ≤ 0x700000 && v < 0x700000
    (match dir with
     | 0 => tg.isEmpty && mem (f 0x20 8) && mem (f 0x28 8)
     | 1 => !tg.isEmpty && mem (f 0x20 8) && loc (f 0x28 8)
     | 2 => tg.length = 1 && loc (f 0x20 8) && mem (f 0x28 8)
     | _ => false) && len % 64 = 0 && restZero b i [(0x1C, 1), (0x20, 20)]
  | 0x04 => tg.isEmpty && f 0x1C 1 < 16 && f 0x1E 2 < 4096 && (f 0x1C 1 = 1 || f 0x20 8 = 0) && vaOk (f 0x20 8) &&
      restZero b i [(0x1C, 1), (0x1E, 2), (0x20, 8)]
  | 0x05 => tg.isEmpty && f 0x1C 1 < 16 && f 0x1E 2 < 4096 && restZero b i [(0x1C, 1), (0x1E, 2)]
  | 0x06 => xfer 0x34 4 (2 ^ 20)
  | 0x07 => xfer 0x34 4 256
  | 0x08 => tg.isEmpty && restZero b i [(0x20, 8)]
  | 0x09 => tg.isEmpty && f 0x1E 2 < 4096 && restZero b i [(0x1E, 2), (0x20, 4)]
  | 0x0A => tg.isEmpty && restZero b i []
  | 0x0B => tg.isEmpty && f 0x1C 1 < 64 && restZero b i [(0x1C, 1)]
  | 0x0C => !tg.isEmpty && f 0x1C 1 < 64 && vaOk (f 0x20 8) && restZero b i [(0x1C, 1), (0x20, 8)]
  | _ => false

/-- The common fields (R377) and those of the kind. -/
def Mach.nodeFieldsOk (m : Mach) (p : Nat) (b : List Byte) (i : Nat) : Bool :=
  let arm := (nFlags b i).testBit 0
  let q := nf b i 0x1A 2
  nFlags b i < 4 &&
    (!(nFlags b i).testBit 1 || (nKind b i = 1 && nf b i 0x24 4 = 0xFFFFFFFF && nf b i 0x1C 1 ≠ 0x80)) &&
    nf b i 4 4 < 2 ^ 17 && bitsOf (nf b i 0xE 2) 14 12 = 0 && nf b i 8 4 + nf b i 0xC 2 ≤ gSuccCount b &&
    (if arm then q < 2 ^ 14 && m.queueOwner q = some p else q = 0) && m.kindOk p b i

/-- Checks 6 to 9 on one node. -/
def Mach.nodeCheck (m : Mach) (p : Nat) (b : List Byte) (i : Nat) : Option Nat :=
  let k := nKind b i
  if k = 0 || 0x0C < k then some 7
  else if !m.nodeFieldsOk p b i then some 8
  else if !(nTarget b i).all (fun t => m.tileOwner t = some p) then some 0x0A
  else if (nFlags b i).testBit 0 && m.fld (A.LOAM_MODE p) 1 0 = 0 then some 0x0C
  else none

/-! ### Dependences (check 10) and chains (check 11) -/

/-- How often `i` stands in the lists of the nodes. -/
def depCount (b : List Byte) (i : Nat) : Nat := ((List.range (gNodes b)).map (fun j => (nSucc b j).count i)).sum

/-- A node whose list breaks check 10. -/
def succBad (b : List Byte) (i : Nat) : Bool :=
  let l := nSucc b i
  !l.all (fun j => j < gNodes b && j ≠ i) || l.eraseDups.length ≠ l.length

/-- One round of taking away the nodes all of whose predecessors are gone. -/
def peel (b : List Byte) (left : List Nat) : List Nat :=
  left.filter (fun i => left.any (fun j => (nSucc b j).contains i))

/-- The nodes that stand on or behind a cycle. -/
def cyclic (b : List Byte) : Nat → List Nat → List Nat
  | 0, l => l
  | n + 1, l => cyclic b n (peel b l)

/-- Check 10: the node index that fails. -/
def depsCheck (b : List Byte) : Option Nat :=
  let ns := List.range (gNodes b)
  match ns.find? (fun i => succBad b i) with
  | some i => some i
  | none =>
    if !(List.range (gSuccCount b)).all (fun k => fieldAt b (gSuccOff b + 4 * k) 4 < gNodes b) then some 0
    else
      match ns.find? (fun i => nDeps b i ≠ depCount b i) with
      | some i => some i
      | none => (cyclic b ns.length ns).head?

/-- Endpoint `e` (0 predecessor, 1 successor) of channel `ch` in chain record `r` (R376). -/
def chainField (b : List Byte) (r ch e o n : Nat) : Nat := fieldAt b (gChainOff b + 128 * r + 32 * ch + 16 * e + o) n

def chainEnd (b : List Byte) (r ch e : Nat) : ChainEnd :=
  match chainField b r ch e 0 1 with
  | 1 => .tile (chainField b r ch e 1 1)
  | 2 => .mem (chainField b r ch e 8 8) (chainField b r ch e 2 2) (chainField b r ch e 4 4)
  | _ => .none

/-- The fields of an endpoint keep R376. -/
def endFieldsOk (b : List Byte) (tg : List Nat) (r ch e : Nat) : Bool :=
  let f := chainField b r ch e
  match f 0 1 with
  | 0 => f 1 1 = 0 && f 2 2 = 0 && f 4 4 = 0 && f 8 8 = 0
  | 1 => tg.contains (f 1 1) && f 2 2 = 0 && f 4 4 = 0 && f 8 8 = 0
  | 2 => f 1 1 = 0 && f 2 2 < 4096 && (e = 0 || f 4 4 = 0) && vaOk (f 8 8)
  | _ => false

/-- The record of target tile `t` of a node whose records start at `c`. -/
def recOf (c : Nat) (tg : List Nat) (t : Nat) : Nat := c + tg.idxOf t

/-- The successor tile of `t` on a channel. -/
def nextTile (b : List Byte) (c : Nat) (tg : List Nat) (ch t : Nat) : Option Nat :=
  match chainEnd b (recOf c tg t) ch 1 with | .tile u => some u | _ => none

/-- Following successors from `t` comes back to `t`. -/
def loops (b : List Byte) (c : Nat) (tg : List Nat) (ch t : Nat) : (fuel : Nat) → (u : Nat) → Bool
  | 0, _ => false
  | n + 1, u => match nextTile b c tg ch u with
    | none => false
    | some v => v = t || loops b c tg ch t n v

/-- Check 11 for a node: endpoints well formed, links that agree, simple paths (R298). -/
def chainOk (b : List Byte) (i : Nat) : Bool :=
  let tg := nTarget b i
  let c := nf b i 0x24 4
  if nKind b i ≠ 1 || c = 0xFFFFFFFF then true
  else
    tg.all (fun t => (List.range 4).all (fun ch =>
      let r := recOf c tg t
      endFieldsOk b tg r ch 0 && endFieldsOk b tg r ch 1 &&
        (match chainEnd b r ch 1 with | .tile u => chainEnd b (recOf c tg u) ch 0 = .tile t | _ => true) &&
        (match chainEnd b r ch 0 with | .tile u => chainEnd b (recOf c tg u) ch 1 = .tile t | _ => true) &&
        !loops b c tg ch t tg.length t))

/-- Checks 6 to 11 on a snapshot: code and node index. -/
def Mach.imageCheck (m : Mach) (p : Nat) (b : List Byte) : Option (Nat × Nat) :=
  match (List.range (gNodes b)).findSome? (fun i => (m.nodeCheck p b i).map (fun c => (c, i))) with
  | some e => some e
  | none =>
    match depsCheck b with
    | some i => some (9, i)
    | none => ((List.range (gNodes b)).find? (fun i => !chainOk b i)).map (fun i => (0x0B, i))

/-! ### Handles and the snapshot area (R384, R404) -/

def Mach.graph (m : Mach) (p g : Nat) : Option Graph := tfind m.loam.graphs (64 * p + g)
def Mach.setGraph (m : Mach) (p g : Nat) (x : Graph) : Mach :=
  { m with loam := { m.loam with graphs := tset m.loam.graphs (64 * p + g) x } }

/-- GR_STS.STATE (R384, R405). -/
def Mach.grState (m : Mach) (p g : Nat) : Nat := m.fld (A.GR_STS p g) 2 0
def Mach.setGrState (m : Mach) (p g st : Nat) : Mach := m.put (A.GR_STS p g) 2 0 st

/-- Handles that hold a graph, and the lowest free one. -/
def Mach.handles (m : Mach) (p : Nat) : List Nat := (List.range 64).filter (fun g => (m.graph p g).isSome)
def Mach.freeHandle (m : Mach) (p : Nat) : Option Nat := (List.range 64).find? (fun g => (m.graph p g).isNone)

/-- Units of 64 KiB of the snapshot area that no graph holds. -/
def Mach.freeUnits (m : Mach) (p : Nat) : List Nat :=
  let used := (m.handles p).flatMap (fun g => match m.graph p g with | some x => x.units | none => [])
  (List.range (m.fld (A.LOAM_SNAP_SIZE p) 15 0 * 32)).filter (fun u => !used.contains u)

/-- The image is laid into its units (R404). -/
def Mach.writeSnap (m : Mach) (p : Nat) (units : List Nat) (b : List Byte) : Mach :=
  units.zipIdx.foldl (fun a e => a.pwrite (a.snapBase p + 65536 * e.1) ((b.drop (65536 * e.2)).take 65536)) m

/-- RELEASE and refusal clear a graph's entry and free what it held (R384, R405). -/
def Mach.freeGraph (m : Mach) (p g : Nat) : Mach :=
  let m := { m with loam := { m.loam with graphs := terase m.loam.graphs (64 * p + g) } }
  (((m.wr (A.GR_STS p g) 0).wr (A.GR_ERR_NODE p g) 0).wr (A.GR_ERR_DET p g) 0).wr (A.GR_DONE p g) 0

/-! ### Submission (R381 to R383) -/

/-- A refusal is counted, and kept as the last (R382); its NAK carries code and index (R381). -/
def Mach.refuseGraph (m : Mach) (p code idx : Nat) : Mach × PRes :=
  let d := code + 256 * idx
  ((m.bump (A.LOAM_ERRCNT p)).wr (A.LOAM_LAST_ERR p) (BitVec.ofNat 32 d), .no 0x13 (d % 2 ^ 40))

/-- Checks 4 and 5 for an image of `n` bytes: the handle and units, or the code and DETAIL. -/
def Mach.takeSpace (m : Mach) (p n : Nat) : Except (Nat × Nat) (Nat × List Nat) :=
  match m.freeHandle p with
  | none => .error (5, 0)
  | some g =>
    let free := m.freeUnits p
    let need := cdiv n 65536
    if free.length < need then .error (6, free.length) else .ok (g, free.take need)

/-- A submission takes its handle and space; the graph is in SNAPSHOT (R383, R384). -/
def Mach.openGraph (m : Mach) (p g : Nat) (x : Graph) : Mach :=
  let m := { m with loam := { m.loam with submitted := m.loam.submitted + 1 } }
  (m.setGraph p g { x with order := m.loam.submitted, lastSlot := m.phs.edges }).setGrState p g 1

/-- The graph of partition `p` whose by-value message is open on a key, if there is one. -/
def Mach.openSub (m : Mach) (p : Nat) (k : Pkt) : Option Nat :=
  (List.range 64).find? (fun g => match m.graph p g with
    | some x => !x.whole && (match x.sub with | some h => h.pkt.src = k.src && h.pkt.queue = k.queue | none => false)
    | none => false)

/-- A GRAPH_SUBMIT packet by value (R383): none where the answer waits for SNAPSHOT_DONE. -/
def Mach.submitValue (m : Mach) (p : Nat) (ing : Ingress) (k : Pkt) : Mach × Option PRes :=
  let h : HeldPkt := { opc := 0x30, pkt := k, ing := ing }
  if k.isFirst then
    if k.payload.length < 64 then let (m, r) := m.refuseGraph p 3 0xC; (m, some r)
    else
      match headCheck k.payload with
      | some (c, d) => let (m, r) := m.refuseGraph p c d; (m, some r)
      | none =>
        match m.takeSpace p (gLen k.payload) with
        | .error (c, d) => let (m, r) := m.refuseGraph p c d; (m, some r)
        | .ok (g, u) =>
          let m := m.openGraph p g { img := k.payload, units := u, sub := some h, whole := k.isLast }
          (m, if k.isLast then none else some (.ok g))
  else
    match m.openSub p k with
    | none => (m, some (.no 0x03 2))
    | some g =>
      match m.graph p g with
      | none => (m, some (.no 0x03 2))
      | some x =>
        let m := m.setGraph p g { x with img := x.img ++ k.payload, sub := some h, whole := k.isLast, lastSlot := m.phs.edges }
        (m, if k.isLast then none else some (.ok g))

/-- A GRAPH_SUBMIT packet by reference (R381): the image is read once, and checks 1 to 5 are made. -/
def Mach.submitRef (m : Mach) (p : Nat) (ing : Ingress) (k : Pkt) : Mach × Option PRes :=
  let va := fieldAt k.payload 0 8
  let n := fieldAt k.payload 8 4
  match (if n < 64 then (m, .ok []) else m.vread 4 p va (min n (2 ^ 26))) with
  | (m, .error e) =>
    let code := match e.kind with | .xlate _ => 0x0D | .boundary => 0x0D | _ => 0x0E
    let (m, r) := m.refuseGraph p code 0
    (m, some r)
  | (m, .ok b) =>
    match (headCheck b).or ((if n = gLen b then none else some (3, 0xC)).or (lenCheck b n)) with
    | some (c, d) => let (m, r) := m.refuseGraph p c d; (m, some r)
    | none =>
      match m.takeSpace p n with
      | .error (c, d) => let (m, r) := m.refuseGraph p c d; (m, some r)
      | .ok (g, u) =>
        (m.openGraph p g { img := b, units := u, sub := some { opc := 0x30, pkt := k, ing := ing }, whole := true }, none)

/-- A GRAPH_SUBMIT packet at step 12 (R116, R381). -/
def Mach.graphSubmit (m : Mach) (ing : Ingress) (k : Pkt) : Mach × Option PRes :=
  let p := k.part.val
  if k.operand.toNat.testBit 0 then m.submitRef p ing k else m.submitValue p ing k

/-- A by-value submission ends without a graph (R383). -/
def Mach.submitEnd (m : Mach) (p g : Nat) (x : Graph) : Mach :=
  ((m.refuseGraph p 0x0F (x.img.length / 64)).1).freeGraph p g

def execGraphSubmitTimeout (p : Fin 16) (g : Fin 64) (s : State) : Host.Outcome State Fault Refusal :=
  s.onMach (fun m => match m.graph p g with
    | some x => if !x.whole && m.grState p g = 1 && 64 * 1024 < m.phs.edges - x.lastSlot then m.submitEnd p g x else m
    | none => m)

end Sys2Proof.Machine
end

