-- ==== Sys2Proof/Machine/Loam.lean ====
section
/-! DEFINITION. Loam: graph states, readiness, dispatch, completion, failure and abort, modes (R384 to R401). -/
namespace Sys2Proof.Machine

/-! ### Host event queue (R406, R612, R614) -/

/-- The queue block of the host event queue of `p` (R625). -/
def hostBlock (p : Nat) : Nat := A.INT_HDEST p + 0x20

/-- An item enters the host event queue: the INT_MSG payload of R118, and the vector it is for. -/
def Mach.hostItem (m : Mach) (p vec src count phase : Nat) : Mach :=
  m.lossyPush (hostBlock p) (leBytes 2 src ++ leBytes 1 count ++ leBytes 5 0 ++ leBytes 8 phase ++ leBytes 1 vec)
    (fun m item => m.qStore (hostBlock p) item)

/-! ### Nodes and their states -/

/-- Changes a node of a graph. -/
def Mach.setNode (m : Mach) (p g n : Nat) (y : GNode) : Mach :=
  match m.graph p g with
  | some x => m.setGraph p g { x with nodes := tset x.nodes n y }
  | none => m

def Mach.gnode (m : Mach) (p g n : Nat) : Option GNode := (m.graph p g).bind (fun x => tfind x.nodes n)

/-- The image of a graph. -/
def Mach.gimg (m : Mach) (p g : Nat) : List Byte := match m.graph p g with | some x => x.img | none => []

/-- The edge that a node made ready now has as its ready tick: this one, or the next within class 9 (R386). -/
def Mach.readyEdge (m : Mach) (p : Nat) : Nat :=
  if tfind m.loam.lastPass p = some m.phs.edges then m.phs.edges + 1 else m.phs.edges

/-- Nodes of a RUNNING graph that have become ready take their ready tick (R385). -/
def Mach.stampReady (m : Mach) (p g : Nat) : Mach :=
  if m.grState p g ≠ 3 then m
  else
    match m.graph p g with
    | none => m
    | some x =>
      let e := m.readyEdge p
      m.setGraph p g { x with nodes := x.nodes.map (fun y =>
        if y.2.st = 0 && y.2.deps = 0 && y.2.armed && y.2.ready.isNone then (y.1, { y.2 with ready := some e }) else y) }

/-- A node's DONE_CTR or the header's: the counter where VALID. -/
def doneCtr (v : Nat) : Option Nat := if v.testBit 15 then some (v % 4096) else none

def Mach.addDone (m : Mach) (p v : Nat) : Mach := match doneCtr v with | some c => m.ctrAdd p c 1 | none => m

/-- The graph reaches a final state: DONE_CTR or ERR_VEC, and AUTOREL (R384). -/
def Mach.endGraph (m : Mach) (p g st : Nat) : Mach :=
  let b := m.gimg p g
  let m := m.setGrState p g st
  let vec := fieldAt b 0x32 1
  let m := if st = 4 then m.addDone p (fieldAt b 0x30 2)
    else if vec.testBit 7 && m.vecOwner (vec % 64) = some p then m.hostItem p (vec % 64) 0xFFFD 0 m.phase
    else m
  if gAutoRel b then m.freeGraph p g else m

/-- The first bytes of a node's trace items (R403). -/
def traceNode (g n : Nat) : List Byte := leBytes 1 g ++ leBytes 1 0 ++ leBytes 2 n

/-- The graph enters DRAINING with code and DETAIL, of node `n` (R395, R396). -/
def Mach.drainGraph (m : Mach) (p g n code detail : Nat) (ab : Bool) : Mach :=
  match m.graph p g with
  | none => m
  | some x =>
    let st := m.grState p g
    if st = 7 || st = 4 || st = 5 || st = 6 || st = 0 then m
    else
      let m := (m.setGraph p g { x with aborted := ab }).setGrState p g 7
      let m := m.put (A.GR_STS p g) 15 8 code
      let m := (m.wr (A.GR_ERR_NODE p g) (BitVec.ofNat 32 n)).wr (A.GR_ERR_DET p g) (BitVec.ofNat 32 detail)
      m.trace p 3 (traceNode g n) (leBytes 8 code ++ leBytes 8 detail)

/-- A node fails (R395). -/
def Mach.failNode (m : Mach) (p g n code detail : Nat) : Mach :=
  match m.gnode p g n with
  | none => m
  | some y => (m.setNode p g n { y with st := 4 }).drainGraph p g n code detail false

/-- A node completes at its completion edge (R386): successors, DONE_CTR, trace, and the graph where it is the last. -/
def Mach.completeNode (m : Mach) (p g n : Nat) : Mach :=
  match m.graph p g, m.gnode p g n with
  | some x, some y =>
    let succ := nSucc x.img n
    let nodes := tset x.nodes n { y with st := 3, data := [] }
    let nodes := succ.foldl (fun l j => match tfind l j with | some z => tset l j { z with deps := z.deps - 1 } | none => l) nodes
    let m := m.setGraph p g { x with nodes := nodes }
    let m := m.wr (A.GR_DONE p g) (m.rd (A.GR_DONE p g) + 1)
    let m := m.addDone p (nf x.img n 0xE 2)
    let m := m.trace p 2 (traceNode g n) []
    let m := m.stampReady p g
    if m.grState p g = 3 && nodes.all (fun z => z.2.st = 3) then m.endGraph p g 4 else m
  | _, _ => m

/-! ### Snapshot done (R381, R382, R384) -/

/-- A graph starts: RUNNING, and its first nodes are ready. -/
def Mach.startGraph (m : Mach) (p g : Nat) : Mach := (m.setGrState p g 3).stampReady p g

/-- The nodes of an image as they stand at submission; a node armed already needs no message (R393). -/
def initNodes (b : List Byte) : Tab GNode :=
  (List.range (gNodes b)).map (fun i => (i, { deps := nDeps b i, armed := nArmed b i }))

/-- The copy is done and checked (R382): the answer to the submission, with the machine. -/
def Mach.snapCheck (m : Mach) (p g : Nat) (x : Graph) : Mach × PRes :=
  match (headCheck x.img).or ((lenCheck x.img x.img.length).or (m.imageCheck p x.img)) with
  | some (c, i) => ((m.refuseGraph p c i).1.freeGraph p g, (m.refuseGraph p c i).2)
  | none =>
    let m := m.writeSnap p x.units x.img
    -- doorbells that came since SNAPSHOT began have armed their nodes (R393)
    let nodes := (initNodes x.img).map (fun y =>
      if m.loam.armSeen.contains (p, g, nArmQ x.img y.1) then (y.1, { y.2 with armed := true }) else y)
    let m := { m with loam := { m.loam with armSeen := m.loam.armSeen.filter (fun a => !(a.1 = p && a.2.1 = g)) } }
    let m := m.setGraph p g { x with nodes := nodes, sub := none }
    (if gStart x.img = 0 then m.startGraph p g else m.setGrState p g 2, .ok g)

/-! ### Arming (R117, R393) -/

/-- A DOORBELL on queue `q` arms every disarmed node of the partition that names it. -/
def Mach.armQueue (m : Mach) (p q : Nat) : Mach :=
  (m.handles p).foldl (fun a g =>
    match a.graph p g with
    | none => a
    | some x =>
      if a.grState p g = 1 then { a with loam := { a.loam with armSeen := (p, g, q) :: a.loam.armSeen } }
      else
        (a.setGraph p g { x with nodes := x.nodes.map (fun y =>
          if !y.2.armed && nArmQ x.img y.1 = q then (y.1, { y.2 with armed := true }) else y) }).stampReady p g) m

/-- A DOORBELL packet's effect (R117): the counter, and the arming. -/
def Mach.doorbell (m : Mach) (p ctr inc q : Nat) : Mach := (m.ctrAdd p ctr (if inc = 0 then 1 else inc)).armQueue p q

/-! ### Dispatch (R385, R387, R388) -/

/-- Is `page` enabled (R79)? -/
def Mach.pageOn (m : Mach) (page : Nat) : Bool := m.bit (0x1000 * page + 4) 0

/-- A dispatched node that has not ended. -/
def GNode.live (y : GNode) : Bool := y.st = 1 || y.st = 2

/-- Tile `t` is held by a dispatched node of its partition; `load` leaves out kernels, which a load may run beside (R216). -/
def Mach.tileHeld (m : Mach) (p t : Nat) (load : Bool) : Bool :=
  (m.handles p).any (fun g => match m.graph p g with
    | some x => x.nodes.any (fun y => y.2.live && y.2.tiles.contains t &&
        !(load && nKind x.img y.1 = 1 && nf x.img y.1 0x1C 1 ≠ 0x80))
    | none => false)

/-- A tile is free for a node: nothing holds it, no expansion or migration has it, it is not isolated, its page is on
(R79, R388, R634). -/
def Mach.tileFree (m : Mach) (p t : Nat) (load : Bool) : Bool :=
  let st := m.tileState t
  !m.tileHeld p t load && (st = 0 || st = 4 || (load && (st = 2 || st = 3))) && m.pageOn (0x800 + 8 * t) &&
    m.fld (A.FLT_USTS t) 31 29 < 3

/-- A dispatched transfer of the partition holds SQUEUE `q` (R387). -/
def Mach.queueHeld (m : Mach) (p q : Nat) : Bool :=
  (m.handles p).any (fun g => match m.graph p g with
    | some x => x.nodes.any (fun y => y.2.live && (nKind x.img y.1 = 6 || nKind x.img y.1 = 7) && nf x.img y.1 0x1E 2 = q)
    | none => false)

/-- What a node needs: tiles by number, and its SQUEUE as 1000 + q. -/
def needs (b : List Byte) (n : Nat) (tiles : List Nat) : List Nat :=
  if nKind b n = 6 || nKind b n = 7 then [1000 + nf b n 0x1E 2] else tiles

def Mach.resFree (m : Mach) (p : Nat) (b : List Byte) (n r : Nat) : Bool :=
  if r < 1000 then m.tileFree p r (nKind b n = 0x0C) else !m.queueHeld p (r - 1000)

/-- TILE0 and TILES of the session descriptor that a session node names (R350, R388). -/
def Mach.sessionTiles (m : Mach) (p : Nat) (b : List Byte) (n : Nat) : Mach × Option (Nat × List Nat) :=
  let va := fieldAt b (gArgOff b + 192 * nf b n 0x20 4) 8
  match m.vread 4 p va 128 with
  | (m, .error _) => (m, none)
  | (m, .ok d) => (m, some (fieldAt d 0x7E 1 % 128, rangeFrom (fieldAt d 0x7E 1 % 128) (fieldAt d 0x7F 1)))

/-- The effective target set of a node, or the code and DETAIL with which it fails at dispatch (R388). -/
def Mach.targetOf (m : Mach) (p : Nat) (b : List Byte) (n : Nat) : Mach × Except (Nat × Nat) (List Nat) :=
  let tg := nTarget b n
  let left := tg.filter (fun t => !m.tileLost t)
  let k := nKind b n
  let lost := (tg.find? (fun t => m.tileLost t)).getD 0
  if tg.isEmpty then (m, .ok [])
  else if left.isEmpty then (m, .error (0x25, lost))
  else if left ≠ tg && !(k = 2 || (nFlags b n).testBit 1) then (m, .error (0x25, lost))
  else if k = 1 && nf b n 0x1C 1 = 0x80 then
    match m.sessionTiles p b n with
    | (m, some (t0, l)) => if l = tg then (m, .ok tg) else (m, .error (0x2B, t0))
    | (m, none) => (m, .ok tg)
  else if k = 1 then
    match left.find? (fun t => (tfind (m.tile t).images (nf b n 0x1C 1)).isNone) with
    | some t => (m, .error (0x24, t))
    | none => (m, .ok left)
  else (m, .ok left)

/-- The ready nodes of a partition: graph, node, ready tick, RANK, order of submission. -/
def Mach.readyNodes (m : Mach) (p : Nat) : List (Nat × Nat × Nat × Nat × Nat) :=
  (m.handles p).flatMap (fun g => match m.graph p g with
    | some x =>
      if m.grState p g ≠ 3 then []
      else x.nodes.filterMap (fun y => match y.2.ready with
        | some e => if y.2.st = 0 && e ≤ m.phs.edges then some (g, y.1, e, nRank x.img y.1, x.order) else none
        | none => none)
    | none => [])

/-- The order of R385. -/
def before (a b : Nat × Nat × Nat × Nat × Nat) : Bool :=
  let (_, n, e, r, o) := a
  let (_, n', e', r', o') := b
  e < e' || (e = e' && (r' < r || (r = r' && (o < o' || (o = o' && n ≤ n')))))

/-- One pass of dispatch over the ordered ready nodes: `blocked` are the resources that earlier waiting nodes need,
`quota` the nodes that may still be dispatched (R387). -/
def Mach.dispatchWalk (m : Mach) (p : Nat) : (l : List (Nat × Nat × Nat × Nat × Nat)) → (blocked : List Nat) → (quota : Nat) → Mach
  | [], _, _ => m
  | (g, n, _, _, _) :: r, blocked, quota =>
    if quota = 0 || m.grState p g ≠ 3 then m.dispatchWalk p r blocked quota
    else
      let b := m.gimg p g
      let res := needs b n ((nTarget b n).filter (fun t => !m.tileLost t))
      if res.any (fun q => blocked.contains q || !m.resFree p b n q) then m.dispatchWalk p r (blocked ++ res) quota
      else
        match m.targetOf p b n, m.gnode p g n with
        | (m, .error (c, d)), _ => (m.failNode p g n c d).dispatchWalk p r blocked (quota - 1)
        | (m, .ok tiles), some y =>
          let m := m.setNode p g n { y with st := 1, at_ := m.phs.edges, tiles := tiles }
          let m := m.trace p 1 (traceNode g n) (leBytes 10 (nf b n 0x10 10))
          m.dispatchWalk p r blocked (quota - 1)
        | (m, .ok _), none => m.dispatchWalk p r blocked quota

/-- Class 9 of a pass for partition `p` (R387, R394). -/
def Mach.loamDispatch (m : Mach) (p : Nat) : Mach :=
  let test := m.fld (A.LOAM_MODE p) 1 0 = 2
  let step := m.loam.step.contains p
  let m := { m with loam := { m.loam with lastPass := tset m.loam.lastPass p m.phs.edges } }
  if test && !step then m
  else
    let m := { m with loam := { m.loam with step := m.loam.step.filter (· ≠ p) } }
    m.dispatchWalk p ((m.readyNodes p).mergeSort before) [] (if test then 1 else 32)

def execLoamDispatch (p : Fin 16) (s : State) : Host.Outcome State Fault Refusal :=
  s.onMach (fun m => if m.running && m.pageOn (0x100 + p) && tfind m.loam.lastPass p ≠ some m.phs.edges then m.loamDispatch p else m)

/-! ### The work of nodes (R379) -/

/-- A dispatched node of kind `k` begins its work. -/
def Mach.begin (m : Mach) (p g n k : Nat) (f : Mach → List Byte → GNode → Mach) : Mach :=
  match m.gnode p g n with
  | some y => if y.st = 1 && nKind (m.gimg p g) n = k then f (m.setNode p g n { y with st := 2 }) (m.gimg p g) { y with st := 2 } else m
  | none => m

/-- The identity of a node in the tables of engines. -/
def nodeId (p g n : Nat) : Nat × Nat × Nat := (p, g, n)

/-- The entry state of a kernel (R219): registers, mode, stacks; counters and the fault record clear (R249, R251). -/
def Mach.kernelEntry (m : Mach) (t : Nat) : Mach :=
  let x := m.tile t
  let part := m.tilePart t
  let put (l : Tab DWord) (i v : Nat) : Tab DWord := tset l i (BitVec.ofNat 64 v)
  let s := (List.range 8).foldl (fun l i => put l (i + 1) (x.args.getD i 0)) []
  let s := [(9, t), (10, x.target.idxOf t), (11, x.target.length), (12, part), (13, x.disp)].foldl (fun l e => put l e.1 e.2) s
  let v := (List.range 8).foldl (fun l i => tset l i (x.vargs.getD i nullDesc)) []
  let m := m.setTile t { x with s := s, v := v, link := [], loops := [], ftz := false, sr := false, ended := false,
                                fault := none, report := none, dmaFail := [], chSent := [], chGot := [], tbars := [], tbarNow := false,
                                arr := [], dma := [], brz := [], gen := [], noise := [], chain := [] }
  let m := (m.wr (A.TILE_SFLAGS t) 0).putBit (A.TILE_KFAULT t) 31 false
  let m := [0, 4, 8, 12, 16, 20, 24, 28].foldl (fun a o => a.wr (A.CNT_CYC_LO t + o) 0) m
  (m.setTilePc t (x.cbase + x.entry)).setTileState t 2

/-- A kernel is dispatched on tile `t`, position `k` of the set (R219, R379, R389). -/
def Mach.kernelStart (m : Mach) (p g n : Nat) (b : List Byte) (tiles : List Nat) (t : Nat) : Mach :=
  let x := m.tile t
  let r := nf b n 0x1C 1
  let (clen, entry, fl, args) := tget x.images r (0, 0, 0, 0)
  let ai := nf b n 0x20 4
  let ci := nf b n 0x24 4
  let arg (o w : Nat) : Nat := if ai = 0xFFFFFFFF then 0 else fieldAt b (gArgOff b + 192 * ai + o) w
  let sc := (List.range 8).map (fun i => if i < args % 16 then arg (8 * i) 8 else 0)
  let vc := (List.range 8).map (fun i => if i < args / 16 && ai ≠ 0xFFFFFFFF then arg (64 + 16 * i) 16 else nullDesc)
  let ch : Tab (ChainEnd × ChainEnd) := if ci = 0xFFFFFFFF then [] else
    (List.range 4).map (fun c => let rc := recOf ci (nTarget b n) t; (c, (chainEnd b rc c 0, chainEnd b rc c 1)))
  let m := (m.dropShards t).setTile t { x with
    cbase := 0x800000 + r * 0x1000, clen := clen, entry := entry, restart := fl.testBit 0, node := some (nodeId p g n),
    target := tiles, args := sc, vargs := vc, disp := m.phase, chTab := ch, inbox := [] }
  (m.wr (A.TILE_RUN t) (BitVec.ofNat 32 (g * 2 ^ 16 + n))).kernelEntry t

/-- A tile's result is taken: it no longer belongs to the node. -/
def Mach.tileDone (m : Mach) (t : Nat) : Mach :=
  m.setTile t { m.tile t with node := none, report := none }

/-- BRONZE_KERNEL (R379). -/
def execBronzeKernel (p : Fin 16) (g : Fin 64) (n : BitVec 16) (s : State) : Host.Outcome State Fault Refusal :=
  s.onMach (fun m => m.begin p g n.toNat 2 (fun m b y => m.gateStart (nodeId p g n.toNat) y.tiles (nf b n.toNat 0x20 8)))

/-- The bytes of tile `t` at a local address, or none where a line of them is poisoned (R243). -/
def Mach.tileBytes (m : Mach) (t a n : Nat) : Option (List Byte) :=
  let x := m.tile t
  if (x.poisonIn a n).isSome then none else some (memRead x.mem a n)

/-- A DMA node copies (R378, R379). -/
def Mach.dmaNode (m : Mach) (p g n : Nat) (b : List Byte) (y : GNode) : Mach :=
  let f := nf b n
  let len := f 0x30 4
  let id := nodeId p g n
  let done (r : Mach × Option XFail) : Mach := match r with
    | (m, none) => m.nodeResult id 0 0
    | (m, some e) => m.nodeResult id 0x29 e.dmaKind
  let src : Mach × Except Nat (List Byte) :=
    if f 0x1C 1 = 2 then (m, match m.tileBytes (y.tiles.headD 0) (f 0x20 8) len with | some l => .ok l | none => .error 4)
    else match m.vread 4 p (f 0x20 8) len with
      | (m, .ok l) => (m, .ok l)
      | (m, .error e) => (m, .error e.dmaKind)
  match src with
  | (m, .error k) => m.nodeResult id 0x29 k
  | (m, .ok l) =>
    if f 0x1C 1 = 1 then (y.tiles.foldl (fun a t => a.setTile t ((a.tile t).store (f 0x28 8) l)) m).nodeResult id 0 0
    else done (m.vwrite 4 p (f 0x28 8) l)

def execDma (p : Fin 16) (g : Fin 64) (n : BitVec 16) (s : State) : Host.Outcome State Fault Refusal :=
  s.onMach (fun m => m.begin p g n.toNat 3 (fun m b y => m.dmaNode p g n.toNat b y))

/-- AGG_OP (R379): the result of every command but ARM is known in the same pass, which completes the node (R386). -/
def Mach.aggNode (m : Mach) (p g n : Nat) (b : List Byte) : Mach :=
  match m.aggCommand p (nf b n 0x1E 2) (nf b n 0x1C 1) (nf b n 0x20 8) (some (nodeId p g n)) with
  | (m, none) => m
  | (m, some (0, _)) => m.completeNode p g n
  | (m, some (c, _)) => m.failNode p g n 0x26 c

def execAggOp (p : Fin 16) (g : Fin 64) (n : BitVec 16) (s : State) : Host.Outcome State Fault Refusal :=
  s.onMach (fun m => m.begin p g n.toNat 4 (fun m b _ => m.aggNode p g n.toNat b))

/-- MSK_OP (R379). -/
def Mach.mskNode (m : Mach) (p g n : Nat) (b : List Byte) : Mach :=
  match m.mskCommand p (nf b n 0x1E 2) (nf b n 0x1C 1) with
  | (m, 0) => m.completeNode p g n
  | (m, c) => m.failNode p g n 0x27 c

def execMskOp (p : Fin 16) (g : Fin 64) (n : BitVec 16) (s : State) : Host.Outcome State Fault Refusal :=
  s.onMach (fun m => m.begin p g n.toNat 5 (fun m b _ => m.mskNode p g n.toNat b))

/-- Waits begin; a BARRIER completes at its dispatch edge (R386). -/
def execWaitPhase (p : Fin 16) (g : Fin 64) (n : BitVec 16) (s : State) : Host.Outcome State Fault Refusal :=
  s.onMach (fun m => m.begin p g n.toNat 8 (fun m _ _ => m))
def execWaitCount (p : Fin 16) (g : Fin 64) (n : BitVec 16) (s : State) : Host.Outcome State Fault Refusal :=
  s.onMach (fun m => m.begin p g n.toNat 9 (fun m _ _ => m))
def execBarrier (p : Fin 16) (g : Fin 64) (n : BitVec 16) (s : State) : Host.Outcome State Fault Refusal :=
  s.onMach (fun m => m.begin p g n.toNat 0x0A (fun m _ _ => m.completeNode p g n.toNat))

/-- HOST_NOTIFY: the notice is queued or dropped; a vector of another partition fails the node (R379, R397). -/
def Mach.hostNotify (m : Mach) (p g n : Nat) (b : List Byte) : Mach :=
  let v := nf b n 0x1C 1
  if m.vecOwner v = some p then (m.hostItem p v 0xFFFE 0 m.phase).nodeResult (nodeId p g n) 0 0
  else m.failNode p g n 0x2A v

def execHostNotify (p : Fin 16) (g : Fin 64) (n : BitVec 16) (s : State) : Host.Outcome State Fault Refusal :=
  s.onMach (fun m => m.begin p g n.toNat 0x0B (fun m b _ => m.hostNotify p g n.toNat b))

/-! ### LOAD_IMAGE (R215, R216) -/

/-- The header checks of R215 and R216 for region `r`: offset of the first that fails. -/
def imageHead (h : List Byte) (r : Nat) : Option Nat :=
  let cl := fieldAt h 8 4
  let dl := fieldAt h 0x10 4
  let dd := fieldAt h 0x14 4
  if fieldAt h 0 4 ≠ 0x4B394648 then some 0
  else if fieldAt h 4 2 ≠ 1 then some 4
  else if 2 ≤ fieldAt h 6 2 then some 6
  else if cl % 8 ≠ 0 || cl < 8 || 262144 < cl then some 8
  else if fieldAt h 0xC 4 % 8 ≠ 0 || cl ≤ fieldAt h 0xC 4 then some 0xC
  else if dl % 64 ≠ 0 || 7340032 < dl then some 0x10
  else if dd % 64 ≠ 0 || 0x700000 < dd + dl then some 0x14
  else if 8 < fieldAt h 0x18 4 % 16 || 8 < fieldAt h 0x18 4 / 16 % 16 || 256 ≤ fieldAt h 0x18 4 then some 0x18
  else if fieldAt h 0x1C 4 ≠ 0 then some 0x1C
  else if 0x840000 < 0x800000 + r * 0x1000 + cl then some 8
  else none

/-- The image is read once and checked; the tiles are LOADING (R216). -/
def Mach.loadImage (m : Mach) (p g n : Nat) (b : List Byte) (y : GNode) : Mach :=
  let va := nf b n 0x20 8
  let bad (m : Mach) (d : Nat) : Mach := m.nodeResult (nodeId p g n) 0x21 d
  if va % 64 ≠ 0 then bad m 0
  else
    match m.vread 4 p va 64 with
    | (m, .error _) => bad m 0
    | (m, .ok h) =>
      match imageHead h (nf b n 0x1C 1) with
      | some o => bad m o
      | none =>
        match m.vread 4 p (va + 64) (fieldAt h 8 4 + fieldAt h 0x10 4) with
        | (m, .error _) => bad m 0
        | (m, .ok body) =>
          if toBytes (sha256 (toNats body)) ≠ slice h 0x20 32 then bad m 0x20
          else
            let m := y.tiles.foldl (fun a t => if a.tileState t = 0 || a.tileState t = 4 then a.setTileState t 1 else a) m
            m.setNode p g n { y with data := h ++ body }

def execLoadImage (p : Fin 16) (g : Fin 64) (n : BitVec 16) (s : State) : Host.Outcome State Fault Refusal :=
  s.onMach (fun m => m.begin p g n.toNat 0x0C (fun m b y => m.loadImage p g n.toNat b y))

/-- The load into tile `t` has to wait for the kernel that runs there (R216). -/
def Mach.loadWaits (m : Mach) (t r : Nat) (h : List Byte) : Bool :=
  let x := m.tile t
  let cb := 0x800000 + r * 0x1000
  (m.tileState t = 2 || m.tileState t = 3) &&
    (fieldAt h 0x10 4 ≠ 0 || (cb < x.cbase + x.clen && x.cbase < cb + cdiv (fieldAt h 8 4) 4096 * 4096))

/-- Code and data land in a tile; images whose regions are overwritten are gone (R214, R216, R249). -/
def Mach.placeImage (m : Mach) (r : Nat) (d : List Byte) (t : Nat) : Mach :=
  let cl := fieldAt d 8 4
  let nr := cdiv cl 4096
  let x := m.tile t
  let x := { x with mem := memWrite (memZero x.mem (0x800000 + r * 0x1000) (nr * 4096)) (0x800000 + r * 0x1000) ((d.drop 64).take cl) }
  let x := x.store (fieldAt d 0x14 4) ((d.drop (64 + cl)).take (fieldAt d 0x10 4))
  let keep (k : Nat) (i : Nat × Nat × Nat × Nat) : Bool := k + cdiv i.1 4096 ≤ r || r + nr ≤ k
  let imgs := x.images.filter (fun e => keep e.1 e.2)
  let m := (m.dropShards t).setTile t { x with images := tset imgs r (cl, fieldAt d 0xC 4, fieldAt d 6 2, fieldAt d 0x18 4) }
  let map := m.rd64 (A.TILE_CODE_MAP_LO t)
  let m := m.wr64 (A.TILE_CODE_MAP_LO t) ((rangeFrom r nr).foldl (fun a k => a ||| 2 ^ k) map)
  if m.tileState t = 1 then m.setTileState t 0 else m

def Mach.loadDone (m : Mach) (p g n : Nat) (b : List Byte) (y : GNode) : Mach :=
  let r := nf b n 0x1C 1
  ((y.tiles.foldl (fun a t => a.placeImage r y.data t) m).setNode p g n { y with data := [] }).nodeResult (nodeId p g n) 0 0

def execLoadImageDone (p : Fin 16) (g : Fin 64) (n : BitVec 16) (s : State) : Host.Outcome State Fault Refusal :=
  s.onMach (fun m => match m.gnode p g n.toNat with
    | some y =>
      if y.st = 2 && nKind (m.gimg p g) n.toNat = 0x0C && y.data ≠ [] &&
          y.tiles.all (fun t => !m.loadWaits t (nf (m.gimg p g) n.toNat 0x1C 1) y.data)
      then m.loadDone p g n.toNat (m.gimg p g) y else m
    | none => m)

/-! ### Completion (R386, R395) -/

def execWaitPhaseReached (p : Fin 16) (g : Fin 64) (n : BitVec 16) (s : State) : Host.Outcome State Fault Refusal :=
  s.onMach (fun m => match m.gnode p g n.toNat with
    | some y =>
      if y.st = 2 && nKind (m.gimg p g) n.toNat = 8 && y.at_ < m.phs.edges && m.running &&
          nf (m.gimg p g) n.toNat 0x20 8 ≤ m.phase then m.completeNode p g n.toNat else m
    | none => m)

def execWaitCountMet (p : Fin 16) (g : Fin 64) (n : BitVec 16) (s : State) : Host.Outcome State Fault Refusal :=
  s.onMach (fun m => match m.gnode p g n.toNat with
    | some y =>
      let b := m.gimg p g
      if y.st = 2 && nKind b n.toNat = 9 && y.at_ < m.phs.edges && m.running &&
          nf b n.toNat 0x20 4 ≤ m.ctr p (nf b n.toNat 0x1E 2) then m.completeNode p g n.toNat else m
    | none => m)

/-- The reports of a kernel's tiles: a fault fails the node at once, and the node ends when every tile has reported. -/
def Mach.kernelNodeDone (m : Mach) (p g n : Nat) (y : GNode) : Mach :=
  let mine := y.tiles.filter (fun t => (m.tile t).node = some (nodeId p g n))
  let rep (t : Nat) : Option Bool := (m.tile t).report
  let m' := match mine.find? (fun t => rep t = some false) with
    | some t => if y.bad then m else (m.drainGraph p g n 0x20 t false).setNode p g n { y with bad := true }
    | none => m
  if mine.all (fun t => (rep t).isSome) then
    let m' := mine.foldl (fun a t => a.tileDone t) m'
    if y.bad || mine.any (fun t => rep t = some false) then
      (match m'.gnode p g n with | some z => m'.setNode p g n { z with st := 4 } | none => m')
    else m'.completeNode p g n
  else m'

/-- The first result that waits for a node is taken up. -/
def Mach.takeResult (m : Mach) (p g n : Nat) : Mach :=
  match m.nodeRes.find? (fun r => r.1 = nodeId p g n) with
  | none => m
  | some r =>
    let m := { m with nodeRes := m.nodeRes.erase r }
    if r.2.1 = 0 then m.completeNode p g n else m.failNode p g n r.2.1 r.2.2

/-- The first edge after a node's work ends (R386). -/
def Mach.nodeComplete (m : Mach) (p g n : Nat) : Mach :=
  match m.gnode p g n with
  | some y =>
    if y.st ≠ 2 then m
    else if nKind (m.gimg p g) n = 1 && nf (m.gimg p g) n 0x1C 1 ≠ 0x80 then m.kernelNodeDone p g n y
    else m.takeResult p g n
  | none => m

def execNodeComplete (p : Fin 16) (g : Fin 64) (n : BitVec 16) (s : State) : Host.Outcome State Fault Refusal :=
  s.onMach (fun m => m.nodeComplete p g n.toNat)

def execGraphDrained (p : Fin 16) (g : Fin 64) (s : State) : Host.Outcome State Fault Refusal :=
  s.onMach (fun m => match m.graph p g with
    | some x => if m.grState p g = 7 && !x.nodes.any (fun y => y.2.live) then m.endGraph p g (if x.aborted then 6 else 5) else m
    | none => m)

/-! ### Abort (R396) -/

/-- A kernel stops at an instruction boundary and drains its engines, without a fault (R396). -/
def Mach.stopKernel (m : Mach) (t : Nat) : Mach :=
  if m.tileState t = 2 || m.tileState t = 3 then (m.setTile t { m.tile t with ended := true, dmaFail := [] }).setTileState t 3 else m

/-- A dispatched node of an aborted graph: kernels stop, waits end, transfers send no more; the rest completes. -/
def Mach.stopNode (m : Mach) (p g n : Nat) (y : GNode) : Mach :=
  let b := m.gimg p g
  let k := nKind b n
  if !y.live then m
  else if y.st = 1 then m.setNode p g n { y with st := 4 }
  else if k = 1 && nf b n 0x1C 1 ≠ 0x80 then y.tiles.foldl (fun a t => a.stopKernel t) m
  else if k = 2 then
    let m := { m with gates := m.gates.filter (fun h => h.node ≠ nodeId p g n) }
    (y.tiles.foldl (fun a t => if a.tileState t = 2 then a.setTileState t 0 else a) m).setNode p g n { y with st := 4 }
  else if k = 8 || k = 9 then m.setNode p g n { y with st := 4 }
  else if k = 6 || k = 7 then m.setNode p g n { y with data := [] }
  else m

/-- A graph that holds a handle and has not ended is aborted (R396). -/
def Mach.abortGraph (m : Mach) (p g node code detail : Nat) : Mach :=
  match m.graph p g with
  | none => m
  | some x =>
    let st := m.grState p g
    if st = 4 || st = 5 || st = 6 || st = 7 then m
    else if st = 1 then m.freeGraph p g
    else x.nodes.foldl (fun a y => a.stopNode p g y.1 y.2) (m.drainGraph p g node code detail true)

/-- Every graph of a partition is aborted with code QUIESCED (R396). -/
def Mach.quiesceLoam (m : Mach) (p : Nat) : Mach := (m.handles p).foldl (fun a g => a.abortGraph p g 0 0x31 0) m

/-! ### Commands (R384, R394, R401) -/

/-- LOAM_RES with the result of a command. -/
def Mach.loamRes (m : Mach) (p h code : Nat) : Mach := m.wr (A.LOAM_RES p) (BitVec.ofNat 32 (2 ^ 31 + h * 256 + code))

/-- START, from a command or a comparator (R384): whether it took effect. -/
def Mach.loamStart (m : Mach) (p g : Nat) : Mach × Bool := if m.grState p g = 2 then (m.startGraph p g, true) else (m, false)

/-- A command of LOAM_CMD on handle `g`; STEP ignores it, and LOAM_RES then shows 0 (log entry 17). -/
def Mach.loamCommand (m : Mach) (p op g : Nat) : Mach :=
  let st := m.grState p g
  match op with
  | 1 =>
    if st = 0 then m.loamRes p g 2
    else let (m, ok) := m.loamStart p g; m.loamRes p g (if ok then 0 else 1)
  | 2 =>
    if st = 0 then m.loamRes p g 2
    else if st = 2 || st = 3 then (m.abortGraph p g 0 0x30 0).loamRes p g 0
    else m.loamRes p g 1
  | 3 =>
    if st = 0 then m.loamRes p g 2
    else if st = 4 || st = 5 || st = 6 then (m.freeGraph p g).loamRes p g 0
    else m.loamRes p g 1
  | 4 =>
    if m.fld (A.LOAM_MODE p) 1 0 = 2 then ({ m with loam := { m.loam with step := p :: m.loam.step } }).loamRes p 0 0
    else m.loamRes p 0 6
  | _ => m.loamRes p g 6

/-- A write of LOAM_CMD (R401). -/
def Mach.writeLoamCmd (m : Mach) (p v : Nat) : Mach :=
  if m.bit (A.LOAM_RES p) 31 then m.loamCommand p (bitsOf v 3 0) (bitsOf v 13 8) else m

/-- The phase reaches START_PHASE of a graph in HELD (R384). -/
def execStartPhaseReached (p : Fin 16) (g : Fin 64) (s : State) : Host.Outcome State Fault Refusal :=
  s.onMach (fun m =>
    let b := m.gimg p g
    if m.grState p g = 2 && gStart b = 2 && gStartPhase b ≤ m.phase && m.running then m.startGraph p g else m)

/-! ### Modes (R392, R393) -/

/-- The mode becomes NORMAL: graphs with a disarmed node are aborted with BAD_MODE (R393). -/
def Mach.abortDisarmed (m : Mach) (p : Nat) : Mach :=
  (m.handles p).foldl (fun a g => match a.graph p g with
    | some x => match x.nodes.find? (fun y => !y.2.armed) with
      | some y => a.abortGraph p g y.1 0x32 y.1
      | none => a
    | none => a) m

def Mach.setMode (m : Mach) (p v : Nat) : Mach :=
  let m := m.put (A.LOAM_MODE p) 1 0 v
  if v = 0 then m.abortDisarmed p else m

/-- A write of LOAM_MODE by `who` (R392). -/
def Mach.writeLoamMode (m : Mach) (who : Ident) (p v : Nat) : Mach :=
  let cur := m.fld (A.LOAM_MODE p) 1 0
  let op := who = .part 0
  let own := match who with | .part q => q.val = p | .kaolin => false
  let new := v % 4
  let rej := m.putBit (A.LOAM_STS p) 31 true
  if new = cur then m
  else if new = 0 && cur = 1 && (op || own) then m.setMode p 0
  else if new = 0 && cur = 2 && op then m.setMode p 0
  else if new = 0 && cur = 3 && (op || who = .kaolin) && !m.retiring p then m.setMode p (tget m.loam.modeFrom p 0)
  else if new = 2 && cur = 0 && op && (m.handles p).isEmpty then m.setMode p 2
  else if new = 3 && (cur = 0 || cur = 1) && (op || who = .kaolin) then
    ({ m with loam := { m.loam with modeFrom := tset m.loam.modeFrom p cur } }).setMode p 3
  else rej

/-- The retirement of a channel ends, and Loam returns to its former mode (R392, R517). -/
def Mach.retireEnd (m : Mach) (ch : Nat) : Mach :=
  let owner := m.chOwner ch
  let m := m.retireDone ch
  match owner with
  | some p => if m.fld (A.LOAM_MODE p) 1 0 = 0 then m.abortDisarmed p else m
  | none => m

def execRetireDone (ch : Fin 64) (s : State) : Host.Outcome State Fault Refusal :=
  s.onMach (fun m => if m.chState ch = 4 && (tget m.mem.mig ch (0, [])).2 = [] then m.retireEnd ch else m)

/-! ### Other registers of the window (R390, R391, R401) -/

/-- LOAM_CTR_VAL sets the selected counter. -/
def Mach.writeCtrVal (m : Mach) (p v : Nat) : Mach :=
  { m with ctrs := tset m.ctrs (4096 * p + m.fld (A.LOAM_CTR_SEL p) 11 0) (v % 2 ^ 32) }

/-- LOAM_QB binds the selected queue, where `p` owns it. -/
def Mach.writeQb (m : Mach) (p v : Nat) : Mach :=
  let q := m.fld (A.LOAM_QB_SEL p) 13 0
  if m.queueOwner q = some p then m.wr (qbKey p q) (BitVec.ofNat 32 (bitsOf v 15 15 * 2 ^ 15 + bitsOf v 11 0)) else m

/-- LOAM_SNAP_BASE and LOAM_SNAP_SIZE: partition 0 only, and only while no graph holds a handle (R401). -/
def Mach.snapWritable (m : Mach) (who : Ident) (p : Nat) : Bool := who = .part 0 && (m.handles p).isEmpty

def Mach.writeSnapBase (m : Mach) (who : Ident) (p lo hi : Nat) : Mach :=
  if m.snapWritable who p then
    m.wr64 (A.LOAM_SNAP_BASE_LO p) (lo % 2 ^ 32 / 2 ^ 21 * 2 ^ 21 + hi % 256 * 2 ^ 32)
  else m.putBit (A.LOAM_STS p) 31 true

def Mach.writeSnapSize (m : Mach) (who : Ident) (p v : Nat) : Mach :=
  if m.snapWritable who p then m.wr (A.LOAM_SNAP_SIZE p) (BitVec.ofNat 32 (v % 2 ^ 16)) else m.putBit (A.LOAM_STS p) 31 true

/-- The computed views of LOAM_STS.HANDLES and LOAM_SNAP_FREE. -/
def Mach.loamHandles (m : Mach) (p : Nat) : Nat := (m.handles p).length
def Mach.loamFree (m : Mach) (p : Nat) : Nat := (m.freeUnits p).length

end Sys2Proof.Machine
end

