-- ==== Sys2Proof/Machine/Migrate.lean ====
section
/-! DEFINITION. Spares: the failure of a tile, its migration, and the remap command (R245 to R247, R252, R253). -/
namespace Sys2Proof.Machine

/-- The physical slot that serves logical tile `t`, in its cluster's map (R253). -/
def Mach.tileSlot (m : Mach) (t : Nat) : Nat := m.fld (A.CLU_MAP (t / 20) (t % 20 / 4)) (8 * (t % 4) + 4) (8 * (t % 4))

/-- The cluster's spare is in use, or being filled. -/
def Mach.spareUsed (m : Mach) (c : Nat) : Bool := m.bit (A.CLU_STS c) 8

/-- What the failed tile was doing is stopped: its engines lose their operations. -/
def Mach.haltTile (m : Mach) (t : Nat) : Mach :=
  let x := m.tile t
  m.setTile t { x with arr := [], dma := [], brz := [], gen := [], noise := [], chain := [], dmaFail := [],
                       migFrom := some (m.tileState t) }

/-- The copy to the spare begins (R245): the tile reads MIGRATING. -/
def Mach.migrate (m : Mach) (t : Nat) : Mach := ((m.haltTile t).putBit (A.CLU_STS (t / 20)) 8 true).setTileState t 5

/-- The kernel that the failure interrupted ends with TILE_LOST (R246). -/
def Mach.loseKernel (m : Mach) (t : Nat) : Mach :=
  match (m.tile t).node with
  | some (p, g, n) =>
    let m := (m.setTile t { m.tile t with node := none, report := none, ended := false, fault := none }).drainGraph p g n 0x25 t false
    match m.gnode p g n with
    | some y => m.setNode p g n { y with bad := true }
    | none => m
  | none => m

/-- The level that a gate node on this tile had in progress runs again from its start (R341). -/
def Mach.gateAgain (m : Mach) (t : Nat) : Mach :=
  match m.gateOn t with
  | some g => (m.dropShards t).setGate { g with busy := false, outs := [] }
  | none => m

/-- A tile fails with no spare left (R247), and its partition counts a change (R532). -/
def Mach.loseTile (m : Mach) (t : Nat) : Mach :=
  let m := match m.tileOwner t with | some p => m.cfgGen p | none => m
  let m := (m.haltTile t).putBit (A.TILE_STS t) 31 true
  let m := m.put (A.CLU_MAP (t / 20) (t % 20 / 4)) (8 * (t % 4) + 7) (8 * (t % 4) + 7) 1
  ((m.gateAgain t).loseKernel t).setTileState t 0

/-- A tile's UNIT_FATAL (R245, R247). -/
def Mach.failTile (m : Mach) (t : Nat) : Mach :=
  let m := m.putBit (A.CLU_FAILED (t / 20)) (m.tileSlot t) true
  if m.spareUsed (t / 20) then m.loseTile t else m.migrate t

/-- The spare takes over (R245), and Loam handles what was interrupted (R246, R341). `bad` are the lines that
could not be read. -/
def Mach.migrationDone (m : Mach) (t : Nat) (bad : List Nat) : Mach :=
  let c := t / 20
  let spare := m.fld (A.CLU_STS c) 4 0
  let m := m.putBit (A.CLU_FAILED c) (m.tileSlot t) true
  let m := m.put (A.CLU_MAP c (t % 20 / 4)) (8 * (t % 4) + 7) (8 * (t % 4)) spare
  let m := (m.put (A.CLU_STS c) 4 0 0x1F).putBit (A.TILE_STS t) 30 true
  let m := if m.bit (A.CLU_REMAP c) 31 && m.fld (A.CLU_REMAP c) 4 0 = t % 20 then m.putBit (A.CLU_REMAP c) 31 false else m
  let x := m.tile t
  let st := x.migFrom.getD 0
  let m := if m.fld (A.FLT_USTS t) 31 29 = 4 then m.put (A.FLT_USTS t) 31 29 1 else m
  let m := m.setTile t { x with migFrom := none, poison := (x.poison ++ bad.filter (fun l => l < 0x20000)).eraseDups }
  if st = 2 || st = 3 then
    if (m.gateOn t).isSome then (m.gateAgain t).setTileState t 2
    else if x.restart then m.kernelEntry t
    else (m.loseKernel t).setTileState t 0
  else m.setTileState t st

def execMigrationDone (t : Fin 80) (bad : List Nat) (s : State) : Host.Outcome State Fault Refusal :=
  s.onMach (fun m => if m.tileState t = 5 then m.migrationDone t bad else m)

/-- A write of CLU_REMAP (R253). -/
def Mach.writeRemap (m : Mach) (c v : Nat) : Mach :=
  let a := A.CLU_REMAP c
  let m := if bitOf v 30 then m.putBit a 30 false else m
  let lt := bitsOf v 4 0
  if m.bit a 31 then m
  else
    let m := m.put a 4 0 lt
    if !bitOf v 31 then m
    else if m.spareUsed c || 19 < lt || m.tileLost (20 * c + lt) then m.putBit a 30 true
    else (m.putBit a 31 true).migrate (20 * c + lt)

end Sys2Proof.Machine
end

