-- ==== Sys2Proof/Machine/Hrmp.lean ====
section
/-! DEFINITION. HRMP: the receive checks, sequence windows, replay, link keys, and the H9's own requests
(R96 to R130, R465, R468 to R482). What a packet does at step 12 is a parameter here; Receive fixes it. -/
namespace Sys2Proof

def Ingress.isRing : Ingress → Bool
  | .ring _ => true
  | .eth _ _ _ _ _ => false

def Pkt.size (k : Pkt) : Nat := 32 + 16 * k.plen.toNat + (if k.enc then 16 else 0)

/-- The lengths of the packet agree with PLEN and ENC (R126, R127). -/
def Pkt.whole (k : Pkt) : Bool := k.payload.length = 16 * k.plen.toNat && k.tag.length = (if k.enc then 16 else 0)

end Sys2Proof

namespace Sys2Proof.Machine

/-! ### Keys (R480, R481) -/

/-- A partition has a link key installed. -/
def Mach.hasKey (m : Mach) (p : Nat) : Bool := (m.linkKey p).isSome

/-- SWAP (R481). -/
def Mach.swapKeys (m : Mach) (p : Nat) : Mach :=
  let alt := A.HRMP_LKEY_ALT p
  let cur := A.HRMP_LKEY_CUR p
  if m.bit alt 31 && !m.bit alt 30 then
    let oldV := m.bit cur 31
    let old := m.fld cur 8 0
    let m := m.wr cur (BitVec.ofNat 32 (2 ^ 31 + m.fld alt 8 0))
    if oldV then
      { (m.wr alt (BitVec.ofNat 32 (2 ^ 31 + 2 ^ 30 + old))) with
        net := { m.net with grace := tset m.net.grace p (m.phase + 1024 * m.fld A.HRMP_TMR2 31 16) } }
    else m.putBit alt 31 false
  else m

/-- The end of a grace period at a slot boundary: ALT.VALID clears while ALT still holds the old key (R481, log entry 22). -/
def Mach.graceEnd (m : Mach) (p : Nat) : Mach :=
  let m := { m with net := { m.net with grace := terase m.net.grace p } }
  if m.bit (A.HRMP_LKEY_ALT p) 30 then m.putBit (A.HRMP_LKEY_ALT p) 31 false else m

def execLkeyGraceEnd (p : Fin 16) (s : State) : Host.Outcome State Fault Refusal :=
  s.onMach (fun m => match tfind m.net.grace p.val with
    | some t => if m.phs.slotEdge && t ≤ m.phase then m.graceEnd p.val else m
    | none => m)

/-! ### Paths and lengths (R100) -/

/-- The largest PLEN on the path of `ing` (R100). -/
def Mach.maxPlen (m : Mach) (ing : Ingress) (enc : Bool) : Nat :=
  match ing with
  | .ring _ => 4096
  | .eth _ v6 _ _ _ => (m.fld A.HRMP_CFG 13 0 - (if v6 then 40 else 20) - 8 - 32 - 16 * b2n enc) / 16

/-- The first header byte offset that breaks R98, R99, R101, R102 or R104, or an operand rule; `always` when the
NAK goes out although the packet is POSTED (R102). -/
def hdrCheck (opc : Nat) (k : Pkt) : Option (Nat × Bool) :=
  let multi := [0x20, 0x21, 0x30, 0x40, 0x50].contains opc
  let both := k.isFirst && k.isLast
  let uns := isResponse opc || [0x70, 0x71, 0x7F].contains opc
  let flagBad := k.cls = 3 || 256 ≤ k.flags.toNat ||
    (if uns then k.cls ≠ 2 else if multi && !both then k.cls ≠ 0 else k.cls = 2) || (!multi && !both)
  let posted := k.posted && (k.ackReq || alwaysAnswered opc)
  let opBad := (opc = 0x31 && k.operand.toNat &&& 0xF000F000 ≠ 0) || (opc = 0x30 && 2 ≤ k.operand.toNat)
  if k.rsv0 ≠ 0 then some (0, false)
  else if flagBad then some (2, false)
  else if posted then some (2, true)
  else if k.rsv4 ≠ 0 then some (4, false)
  else if k.rsv8 ≠ 0 then some (8, false)
  else if k.rsv12 ≠ 0 then some (12, false)
  else if opBad then some (28, false)
  else none

/-- The length rule of an opcode (R110 to R118, R186, R546, R549); `lim` is the largest PLEN of the path. -/
def lenOkFor (opc lim : Nat) (k : Pkt) : Bool :=
  let n := k.plen.toNat
  let len := fieldAt k.payload 8 4
  match opc with
  | 0x01 | 0x02 => 1 ≤ k.operand.toNat && k.operand.toNat ≤ 64 && n = cdiv k.operand.toNat 2
  | 0x10 => 2 ≤ n && 16 * (n - 2) < len && len ≤ 16 * (n - 1)
  | 0x11 => n = 1 && 1 ≤ len && len ≤ 16 * lim - 16
  | 0x20 => 1 ≤ fieldAt k.payload 10 2 && n = 1 + cdiv (4 * fieldAt k.payload 10 2) 16
  | 0x21 => 1 ≤ fieldAt k.payload 10 2 && n = 1 + cdiv (8 * fieldAt k.payload 10 2) 16
  | 0x22 => n = 1
  | 0x23 => n = 2
  | 0x30 => !k.operand.toNat.testBit 0 || n = 1
  | 0x31 | 0x32 => n = 0
  | 0x40 => 1 ≤ fieldAt k.payload 2 2 && n = 1 + 5 * fieldAt k.payload 2 2
  | 0x51 => n = 4 && 360 ≤ lim
  | 0x53 => n = 107 && 410 ≤ lim
  | 0x60 | 0x61 => n = 1
  | _ => true

/-! ### Step 4: the envelope (R122, R125) -/

/-- What step 4 lets through: the packet with its payload opened, or nothing. -/
def Mach.openPkt (m : Mach) (opc : BitVec 8) (k : Pkt) : Option Pkt :=
  let p := k.part.val
  let o := opc.toNat
  let clear := (0x50 ≤ o && o ≤ 0x54) || o = 0x70 || o = 0x71 || (o = 0x61 && !k.enc && (k.payload.getD 0 0).toNat = 1)
  let want := if clear then false else if p = 0 then m.hasKey 0 else true
  let try' (key : List Byte) : Option Pkt :=
    (gcmOpen (toNats key) (nonceOf opc k) (toNats (hdrBytes opc k)) (toNats k.payload) (toNats k.tag)).map
      (fun b => { k with payload := toBytes b })
  if k.enc ≠ want then none
  else if !k.enc then some k
  else
    match m.linkKey p with
    | none => none
    | some cur => (try' cur).or ((m.altKey p).bind try')

/-! ### Windows (R473 to R475) -/

def WinEntry.is (e : WinEntry) (p src q : Nat) : Bool := e.part = p && e.src = src && e.queue = q
def WinEntry.pinned (e : WinEntry) : Bool := e.isOpen || !e.held.isEmpty

/-- Cache banks that `p` holds (R474). -/
def Mach.banks (m : Mach) (p : Nat) : List Nat :=
  (List.range 256).filter (fun b => m.ownLane (A.HRMP_CBANK (b / 4)) (b % 4) = some p)

def Mach.winOf (m : Mach) (p src q : Nat) : Option WinEntry := m.net.wins.find? (fun e => e.is p src q)

def Mach.setWin (m : Mach) (e : WinEntry) : Mach :=
  { m with net := { m.net with
      wins := { e with used := m.net.useClock } :: m.net.wins.filter (fun x => !x.is e.part e.src e.queue),
      useClock := m.net.useClock + 1 } }

/-- A new entry for a cold packet (R474, R475): none where all four ways are pinned. -/
def Mach.newWin (m : Mach) (p src q seq : Nat) : Mach × Option WinEntry :=
  let set := Config.windowHash m.net.hashSeed p src q % (64 * (m.banks p).length)
  let inSet := m.net.wins.filter (fun e => e.part = p && e.set = set)
  let e : WinEntry := { part := p, src := src, queue := q, set := set, e := seq, cold := some seq }
  if inSet.length < 4 then (m.setWin e, some e)
  else
    match (inSet.filter (fun x => !x.pinned)).mergeSort (fun a b => a.used ≤ b.used) with
    | [] => (m, none)
    | v :: _ =>
      let m := ({ m with net := { m.net with wins := m.net.wins.filter (fun x => !x.is v.part v.src v.queue) } }).bump (A.HRMP_EVICT p)
      (m.setWin e, some e)

/-- What step 10 makes of a packet. -/
inductive WinRes where
  | go (cold : Bool)
  | hold
  | dup
  | heldDup
  | rnr
  | drop
  deriving DecidableEq, Repr

/-- A value lies in the cold span of an entry (R475). -/
def WinEntry.inSpan (e : WinEntry) (seq : Nat) : Bool :=
  match e.cold with | some c => 1 ≤ sub32 c seq && sub32 c seq ≤ 63 | none => false

/-- Step 10 of R128 (R473 to R475). -/
def Mach.window (m : Mach) (k : Pkt) : Mach × WinRes :=
  let p := k.part.val
  let src := k.src.toNat
  let q := k.queue.toNat
  let seq := k.seq.toNat
  if (m.banks p).isEmpty then (m.bump (A.HRMP_NOBANK p), .drop)
  else
    match m.winOf p src q with
    | none =>
      match m.newWin p src q seq with
      | (m, none) => (m, .rnr)
      | (m, some _) => (m.bump (A.HRMP_COLD p), .go true)
    | some e =>
      let m := m.setWin e
      let d := sub32 seq e.e
      if d < 64 then
        if e.done.contains seq then (m, .dup)
        else if e.held.any (fun h => h.1 = seq) then (m, .heldDup)
        else if d = 0 || k.cls = 1 then (m, .go (e.cold = some seq))
        else (m, .hold)
      else if 2 ^ 31 ≤ d then
        (m, if e.inSpan seq && !e.seen.contains seq then .go true else .dup)
      else (m, .rnr)

/-- The packet of SEQ `seq` completes: E passes every value done, and the cold span ends in time (R473, R475). -/
def advanceE (e : WinEntry) : (fuel : Nat) → WinEntry
  | 0 => e
  | n + 1 => if e.done.contains e.e then advanceE { e with done := e.done.filter (· ≠ e.e), e := (e.e + 1) % 2 ^ 32 } n else e

def WinEntry.complete (e : WinEntry) (seq : Nat) : WinEntry :=
  if sub32 seq e.e < 64 then
    let e := advanceE { e with done := seq :: e.done } 65
    match e.cold with
    | some c => if 64 ≤ sub32 e.e c then { e with cold := none, seen := [] } else e
    | none => e
  else { e with seen := seq :: e.seen }

/-! ### Room (R470, R482) -/

/-- The storage key of the queue block of queue `q`, which every window that owns the queue shows (R491). -/
def qBlock (q : Nat) : Nat := 0x390040 + 2 ^ 24 * q

def linesOf (k : Pkt) : Nat := cdiv (32 + 16 * k.plen.toNat) 64

/-- QLIM of a queue, at most 32,768 (R482). -/
def Mach.qlim (m : Mach) (q : Nat) : Nat := min 32768 (m.fld (A.HRMP_Q_CFG 0 + 2 ^ 24 * q) 15 0)

/-- Packets held for a queue, and lines held for a partition. -/
def Mach.heldPkts (m : Mach) (p : Nat) : List HeldPkt :=
  (m.net.wins.filter (fun e => e.part = p)).flatMap (fun e => e.held.map (·.2))

def Mach.queueItems (m : Mach) (p q : Nat) : Nat := ((m.heldPkts p).filter (fun h => h.pkt.queue.toNat = q)).length
def Mach.wayLines (m : Mach) (p : Nat) : Nat := ((m.heldPkts p).map (fun h => linesOf h.pkt)).sum

/-- Step 11 (R470, R471). -/
def Mach.hasRoom (m : Mach) (k : Pkt) : Bool :=
  let p := k.part.val
  let q := k.queue.toNat
  m.bit (A.HRMP_RXWAY p) 7 && !m.bit (A.Q_CTL (qBlock q)) 1 &&
    m.qOcc (qBlock q) + linesOf k ≤ m.qlim q && m.wayLines p + linesOf k ≤ 98304

/-- The packet is committed to its queue (R410, R470). -/
def Mach.commitPkt (m : Mach) (k : Pkt) : Mach := m.qCommit (qBlock k.queue.toNat) (linesOf k)
/-- The engine takes the packet: its lines are free. -/
def Mach.takePkt (m : Mach) (k : Pkt) : Mach := m.qConsume (qBlock k.queue.toNat) (linesOf k)

/-! ### Step 12 -/

/-- What a request comes to: an ACK, a response of its own, a NAK, an answer that comes later, or, for a REG_WR,
REG_RSP with whether every status is OK (R102). -/
inductive Ans where
  | ack (value : Nat)
  | rsp (opc : BitVec 8) (payload : List Byte)
  | regWr (allOk : Bool) (payload : List Byte)
  | nak (reason detail : Nat)
  | later
  deriving DecidableEq, Repr

/-- What a packet does at step 12, and what a copy found by its window does (R476). -/
structure Handler where
  run : Mach → Ingress → BitVec 8 → Pkt → Mach × Ans
  again : Mach → Ingress → BitVec 8 → Pkt → Option (List Byte) → Mach × Ans

/-- The answer of a request whose response travels in the clear (R125, R556). -/
def clearAns (opc : BitVec 8) : Bool := opc = 0x50 || opc = 0x51 || opc = 0x53

/-- Sends an answer (R102, R107). -/
def Mach.answer (m : Mach) (ing : Ingress) (opc : BitVec 8) (k : Pkt) (a : Ans) : Mach :=
  let clear := clearAns opc
  match a with
  | .ack v => if k.ackReq then m.respondWith clear ing k 0x60 (ackPayload v) else m
  | .rsp o b => m.respondWith clear ing k o b
  | .regWr ok b => if k.ackReq || (!k.posted && !ok) then m.respond ing k 0x03 b else m
  | .nak r d => m.nakWith clear ing opc k r d
  | .later => m

/-- The answer as the entry's response record keeps it (R473). -/
def Ans.record : Ans → List Byte
  | .ack v => ackPayload v
  | .rsp _ b => b
  | .regWr _ b => b
  | _ => []

/-- A NAK that the sender retransmits on leaves the SEQ open (R130, R473). -/
def Ans.retry : Ans → Bool
  | .nak r _ => r = 7 || r = 0x0D
  | _ => false

def Ans.code : Ans → Nat
  | .nak r _ => r
  | _ => 0

/-- MARK counts on the counter bound to the queue, once for a message (R103, R391). -/
def Mach.mark (m : Mach) (k : Pkt) : Mach :=
  if k.mark && k.isLast then
    match m.queueCtr k.part.val k.queue.toNat with
    | some c => m.ctrAdd k.part.val c 1
    | none => m
  else m

/-- The trace item of a packet that completed or was refused at step 12 (R403). -/
def Mach.tracePkt (m : Mach) (opc : BitVec 8) (k : Pkt) (code : Nat) : Mach :=
  let p := k.part.val
  let q := k.queue.toNat
  if m.fld (A.TRACE_QRANGE p) 29 16 ≤ q && q ≤ m.fld (A.TRACE_QRANGE p) 13 0 then
    m.trace p 5 (leBytes 2 q ++ leBytes 1 code) (hdrBytes opc k)
  else m

/-- Message bookkeeping of R104: false where a packet without FIRST finds no message open. -/
def Mach.message (m : Mach) (opc : BitVec 8) (k : Pkt) : Mach × Bool :=
  let p := k.part.val
  let mine (o : OpenMsg) : Bool := o.part = p && o.src = k.src.toNat && o.queue = k.queue.toNat
  let cur := m.net.msgs.find? mine
  let rest := m.net.msgs.filter (fun o => !mine o)
  let ctx := if opc = 0x20 || opc = 0x21 then fieldAt k.payload 8 2 % 4096 else 0
  let next := (k.seq.toNat + 1) % 2 ^ 32
  let pin (m : Mach) (b : Bool) : Mach := match m.winOf p k.src.toNat k.queue.toNat with
    | some e => m.setWin { e with isOpen := b }
    | none => m
  let set (m : Mach) (l : List OpenMsg) : Mach := { m with net := { m.net with msgs := l } }
  if k.isFirst then
    let m := match cur with
      | none => m
      | some o =>
        let m := { m with net := { m.net with abandonedMsgs := m.net.abandonedMsgs + 1 } }
        if o.opc = 0x20 || o.opc = 0x21 then (if m.ctxOwner o.ctx = some p then m.bump (A.CTX_ABANDONED o.ctx) else m)
        else if o.opc = 0x30 then
          (match m.openSub p k with
           | some g => (match m.graph p g with | some x => m.submitEnd p g x | none => m)
           | none => m)
        else m
    if k.isLast then (pin (set m rest) false, true)
    else
      let o : OpenMsg := { part := p, src := k.src.toNat, queue := k.queue.toNat, opc := opc, bytes := k.payload, next := next, ctx := ctx }
      (pin (set m (o :: rest)) true, true)
  else
    match cur with
    | none => (m, false)
    | some o =>
      if o.next ≠ k.seq.toNat || o.opc ≠ opc then (m, false)
      else if k.isLast then (pin (set m ({ o with bytes := o.bytes ++ k.payload, next := next } :: rest)) false, true)
      else (set m ({ o with bytes := o.bytes ++ k.payload, next := next } :: rest), true)

/-- The message that a LAST packet closes is forgotten once it has been handled. -/
def Mach.closeMsg (m : Mach) (k : Pkt) : Mach :=
  if k.isLast then
    { m with net := { m.net with msgs := m.net.msgs.filter (fun o =>
        !(o.part = k.part.val && o.src = k.src.toNat && o.queue = k.queue.toNat)) } }
  else m

/-- The whole payload of the message that packet `k` ends. -/
def Mach.messageBytes (m : Mach) (k : Pkt) : List Byte :=
  if k.isFirst then k.payload
  else match m.net.msgs.find? (fun o => o.part = k.part.val && o.src = k.src.toNat && o.queue = k.queue.toNat) with
    | some o => o.bytes
    | none => k.payload

/-- A partition that is quiesced takes no packet at step 12 (R635). -/
def Mach.partQuiesced (m : Mach) (p : Nat) : Bool := m.bit A.FLT_QUIESCE p || m.isGone (0x1000 + p)

/-- A request that is an event input (REG_WR, DOORBELL, INT_MSG) meets a target gone in this tick (R52, R129). -/
def Mach.discards (m : Mach) (opc : BitVec 8) (p : Nat) : Bool :=
  (opc = 0x02 || opc = 0x31 || opc = 0x32) && (m.isGone everyTarget || m.isGone (0x1000 + p))

/-- Step 12: executes, answers, records (R129, R473). -/
def Mach.step12 (h : Handler) (m : Mach) (ing : Ingress) (opc : BitVec 8) (k : Pkt) : Mach :=
  let m := m.takePkt k
  let (m, a) :=
    if m.discards opc k.part.val then (m.countDiscard, Ans.nak 0x0D 0)
    else if m.partQuiesced k.part.val then (m, Ans.nak 0x0D 0)
    else match m.message opc k with
      | (m, false) => (m, Ans.nak 3 2)
      | (m, true) =>
        let (m, a) := h.run m ing opc k
        (m.closeMsg k, a)
  let m := m.answer ing opc k a
  let m := m.tracePkt opc k a.code
  let m := if a.code = 0 && a ≠ .later then m.mark k else m
  if a.retry then m
  else
    match m.winOf k.part.val k.src.toNat k.queue.toNat with
    | some e => m.setWin { e.complete k.seq.toNat with last := some (k.seq.toNat, a.record) }
    | none => m

/-- HELD packets that E has reached proceed in SEQ order (R473). -/
def Mach.release (h : Handler) (m : Mach) (p src q : Nat) : (fuel : Nat) → Mach
  | 0 => m
  | n + 1 =>
    match m.winOf p src q with
    | none => m
    | some e =>
      match e.held.find? (fun x => x.1 = e.e) with
      | none => m
      | some x =>
        let m := m.setWin { e with held := e.held.filter (fun y => y.1 ≠ x.1) }
        let m := m.step12 h x.2.ing x.2.opc x.2.pkt
        m.release h p src q n

/-- A duplicate draws a new response (R476). -/
def Mach.duplicate (h : Handler) (m : Mach) (ing : Ingress) (opc : BitVec 8) (k : Pkt) : Mach :=
  let m := m.bump (A.HRMP_DUPS k.part.val)
  let rec' := match m.winOf k.part.val k.src.toNat k.queue.toNat with
    | some e => (match e.last with | some (s, b) => if s = k.seq.toNat then some b else none | none => none)
    | none => none
  let (m, a) := h.again m ing opc k rec'
  m.answer ing opc k a

/-- Steps 10 to 12 for a request. -/
def Mach.request (h : Handler) (m : Mach) (ing : Ingress) (opc : BitVec 8) (k : Pkt) : Mach :=
  let p := k.part.val
  let q := k.queue.toNat
  let rnr (m : Mach) : Mach := m.answer ing opc k (.nak 7 (m.queueItems p q))
  match m.window k with
  | (m, .drop) => m
  | (m, .rnr) => rnr m
  | (m, .dup) => m.duplicate h ing opc k
  | (m, .heldDup) => m.bump (A.HRMP_DUPS p)
  | (m, .hold) =>
    if !m.hasRoom k then rnr m
    else
      let m := m.commitPkt k
      match m.winOf p k.src.toNat q with
      | some e => m.setWin { e with held := e.held ++ [(k.seq.toNat, { opc := opc, pkt := k, ing := ing })] }
      | none => m
  | (m, .go _) =>
    if !m.hasRoom k then rnr m
    else ((m.commitPkt k).step12 h ing opc k).release h p k.src.toNat q 64

/-! ### The receive checks (R128) -/

/-- Steps 2 to 9, and on: `resp` takes a response that passes them. -/
def Mach.recv (h : Handler) (resp : Mach → BitVec 8 → Pkt → Mach) (m : Mach) (ing : Ingress) (opc : BitVec 8) (k0 : Pkt) : Mach :=
  let o := opc.toNat
  let p := k0.part.val
  let dropped (m : Mach) : Mach := { m with net := { m.net with dropped := m.net.dropped + 1 } }
  let ctl := o = 0x70 || o = 0x71
  if k0.ver ≠ 1 then m.nakWith true ing opc k0 1 k0.ver.toNat
  else if m.queueOwner k0.queue.toNat ≠ some p && !(p = 0 && ctl && ing.isRing) then dropped m
  else
    match m.openPkt opc k0 with
    | none => m.bump (A.HRMP_TAGFAIL p)
    | some k =>
      let clear := clearAns opc
      let no (m : Mach) (r d : Nat) : Mach := if isResponse o then dropped m else m.nakWith clear ing opc k r d
      if (vcOf o).isNone || (ctl && !ing.isRing) then no m 2 0
      else
        match hdrCheck o k with
        | some (off, force) =>
          if force then m.respondWith clear ing k 0x61 (nakPayload 3 opc off) else no m 3 off
        | none =>
          if vcOf o ≠ some k.vc.toNat then no m 4 ((vcOf o).getD 0)
          else if k.dst.toNat ≠ m.node && !(ctl && k.dst.toNat = 0xFFFFF) then no m 5 m.node
          else if m.maxPlen ing k.enc < k.plen.toNat || !lenOkFor o (m.maxPlen ing k.enc) k then no m 6 (m.maxPlen ing k.enc)
          else if isResponse o then resp m opc k
          else if o = 0x7F || ctl then dropped m
          else m.request h ing opc k

/-! ### Arrival on a port (R126, R465) -/

/-- Bytes that wait in a partition's share of ingest port `n`. -/
def Mach.shareUsed (m : Mach) (n p : Nat) : Nat :=
  ((m.net.wait.filter (fun w => w.1 = n && w.2.pkt.part.val = p)).map (fun w => w.2.pkt.size)).sum

/-- A packet arrives whole (R126, R127, R465). -/
def Mach.arrive (h : Handler) (resp : Mach → BitVec 8 → Pkt → Mach) (m : Mach) (ing : Ingress) (opc : BitVec 8) (k : Pkt) : Mach :=
  match ing with
  | .ring n => if m.ringUp n.val && k.whole then m.recv h resp ing opc k else m
  | .eth n _ _ _ _ =>
    let p := k.part.val
    if !m.ethUp n.val then m
    else if !k.whole then m.bump (A.ETH_RX_IP n.val)
    else
      let m := m.bump (A.ETH_RX_FRAMES n.val)
      let waits := m.net.wait.any (fun w => w.1 = n.val && w.2.pkt.part.val = p)
      if m.fld (A.ETH_RXSHARE n.val p) 8 0 * 4096 < m.shareUsed n.val p + k.size then m.bump (A.ETH_SLOTDROP n.val)
      else if 2 ≤ k.vc.toNat then m.recv h resp ing opc k
      else
        let open' := match m.slotOwner (8 + n.val) with | none => true | some q => q = p
        if open' && !waits then m.recv h resp ing opc k
        else { m with net := { m.net with wait := m.net.wait ++ [(n.val, { opc := opc, pkt := k, ing := ing })] } }

/-- The packet that a waiting share gives next: of the slot's owner, or of the rotated partition (R465). -/
def Mach.nextWaiting (m : Mach) (n : Nat) : Option (Nat × HeldPkt) :=
  let first (p : Nat) : Option (Nat × HeldPkt) := m.net.wait.find? (fun w => w.1 = n && w.2.pkt.part.val = p)
  match m.slotOwner (8 + n) with
  | some p => first p
  | none => (m.rotated 16 (fun p => (first p).isSome)).bind first

/-- A waiting packet enters the receive checks. -/
def Mach.shareRelease (h : Handler) (resp : Mach → BitVec 8 → Pkt → Mach) (m : Mach) (n : Nat) : Mach :=
  match m.nextWaiting n with
  | none => m
  | some w => ({ m with net := { m.net with wait := m.net.wait.erase w } }).recv h resp w.2.ing w.2.opc w.2.pkt

/-! ### The H9's own requests (R468, R469) -/

/-- A MEM_WR request of the H9 to `dst`, on queue `q`. -/
def Mach.mkMemWr (m : Mach) (p dst q va : Nat) (data : List Byte) (mark : Bool) : Pkt :=
  m.mkPkt (0x07 + 0x20 * b2n mark) 0 p dst q (tget m.net.seqCtr q 0) 0 (leBytes 8 va ++ leBytes 4 data.length ++ leBytes 4 0 ++ data)

/-- A request leaves over the ring or to its Ethernet peer; a tenant's that could not be sealed does not leave (R125). -/
def Mach.transmit (m : Mach) (dest : Option Ingress) (opc : BitVec 8) (k : Pkt) : Mach :=
  if k.part ≠ 0 && !k.enc then m
  else match dest with
    | some ing => m.sendTo ing opc k
    | none => m.sendRing opc k false

/-- Sends a request and keeps it until it is answered; `dest` is the Ethernet peer, if it goes that way. -/
def Mach.sendReq (m : Mach) (k : Pkt) (dest : Option Ingress) (node : Option (Nat × Nat × Nat)) : Mach :=
  let q := k.queue.toNat
  let k := m.sealPkt 0x10 k
  let m := { m with net := { m.net with seqCtr := tset m.net.seqCtr q (tget m.net.seqCtr q 0 + 1) } }
  let m := { m with net := { m.net with reqs := m.net.reqs ++
    [Req.mk 0x10 k 0 dest node 0 0 false] } }
  m.transmit dest 0x10 k

/-- Requests of the H9 on queue `q` that wait for an answer. -/
def Mach.outstanding (m : Mach) (q : Nat) : Nat := (m.net.reqs.filter (fun r => r.pkt.queue.toNat = q)).length

def Req.is (r : Req) (q seq : Nat) : Bool := r.pkt.queue.toNat = q && r.pkt.seq.toNat = seq

def Mach.dropReq (m : Mach) (q seq : Nat) : Mach :=
  { m with net := { m.net with reqs := m.net.reqs.filter (fun r => !r.is q seq) } }

def Mach.putReq (m : Mach) (r : Req) : Mach :=
  { m with net := { m.net with reqs := m.net.reqs.map (fun x => if x.is r.pkt.queue.toNat r.pkt.seq.toNat then r else x) } }

/-- The packet goes out again, bit-identical (R468). -/
def Mach.resend (m : Mach) (r : Req) : Mach :=
  (m.bump (A.HRMP_RETX r.pkt.part.val)).transmit r.dest r.opc r.pkt

/-! ### Transfer nodes (R379, R380) -/

/-- The peer-table entry of an HRMP_SEND (R472): where it sends, and the node id it writes. -/
def Mach.peer (m : Mach) (p e : Nat) : Option (Ingress × Nat) :=
  let s := 2 ^ 24 * e
  let cfg := A.HRMP_PEER_CFG p + s
  let port := m.fld cfg 27 24
  let v6 := m.bit cfg 30
  let w (i : Nat) : List Byte := leBytes 4 (m.rd (A.HRMP_PEER_IP p i + s)).toNat
  let ip := beNat (toNats (if v6 then w 0 ++ w 1 ++ w 2 ++ w 3 else w 0))
  let mac := beNat (toNats (leBytes 4 (m.rd (A.HRMP_PEER_MAC_LO p + s)).toNat ++ leBytes 2 (m.fld (A.HRMP_PEER_MAC_HI p + s) 15 0)))
  if m.bit cfg 31 && m.ethUp port then
    some (.eth (Fin.ofNat 16 port) v6 (BitVec.ofNat 128 ip) (BitVec.ofNat 16 (m.fld (A.HRMP_PEER_MAC_HI p + s) 31 16)) (BitVec.ofNat 48 mac),
      m.fld cfg 19 0)
  else none

/-- Where a transfer node sends: the Ethernet peer, if any, and DST; none where it cannot start (R472). -/
def Mach.xferDest (m : Mach) (p : Nat) (b : List Byte) (n : Nat) : Option (Option Ingress × Nat) :=
  if nKind b n = 7 then (m.peer p (nf b n 0x34 4)).map (fun e => (some e.1, e.2)) else some (none, nf b n 0x34 4)

/-- Sends packets of a transfer while fewer than 64 requests of its queue wait (R380, R468). -/
def Mach.xferPump (m : Mach) (p g n : Nat) : (fuel : Nat) → Mach
  | 0 => m
  | fuel + 1 =>
    match m.gnode p g n with
    | none => m
    | some y =>
      let b := m.gimg p g
      let q := nf b n 0x1C 2
      if y.data.isEmpty || 64 ≤ m.outstanding q then m
      else
        match m.xferDest p b n with
        | none => m
        | some (dest, dst) =>
          let lim := match dest with | some ing => m.maxPlen ing true | none => 4096
          let chunk := y.data.take (16 * lim - 16)
          let rest := y.data.drop (16 * lim - 16)
          let k := m.mkMemWr p dst q ((nf b n 0x28 8 + y.sent) % 2 ^ 48) chunk rest.isEmpty
          let m := m.setNode p g n { y with data := rest, sent := y.sent + chunk.length }
          (m.sendReq k dest (some (nodeId p g n))).xferPump p g n fuel

/-- XFER: the node fails with DETAIL (R380, R397). -/
def Mach.xferFail (m : Mach) (p g n d : Nat) : Mach :=
  let m := match m.gnode p g n with | some y => m.setNode p g n { y with data := [] } | none => m
  let m := { m with net := { m.net with reqs := m.net.reqs.map (fun (r : Req) => if r.node = some (nodeId p g n) then { r with node := none } else r) } }
  m.nodeResult (nodeId p g n) 0x28 d

/-- RING_XFER and HRMP_SEND begin: the region is read and its packets start to leave (R379, R380). -/
def Mach.xferStart (m : Mach) (p g n : Nat) (b : List Byte) : Mach :=
  match m.xferDest p b n with
  | none => m.xferFail p g n 0xFF
  | some _ =>
    if p ≠ 0 && !m.hasKey p then m.xferFail p g n 0xFF
    else if nf b n 0x30 4 = 0 then m.nodeResult (nodeId p g n) 0 0
    else
      match m.vread 4 p (nf b n 0x20 8) (nf b n 0x30 4) with
      | (m, .error e) => m.xferFail p g n (match e.kind with | .xlate _ => 9 | .boundary => 0x0A | _ => 0x0B)
      | (m, .ok data) =>
        match m.gnode p g n with
        | some y => (m.setNode p g n { y with data := data }).xferPump p g n 64
        | none => m

def execRingXfer (p : Fin 16) (g : Fin 64) (n : BitVec 16) (s : State) : Host.Outcome State Fault Refusal :=
  s.onMach (fun m => m.begin p g n.toNat 6 (fun m b _ => m.xferStart p g n.toNat b))
def execHrmpSend (p : Fin 16) (g : Fin 64) (n : BitVec 16) (s : State) : Host.Outcome State Fault Refusal :=
  s.onMach (fun m => m.begin p g n.toNat 7 (fun m b _ => m.xferStart p g n.toNat b))

/-- A request of a transfer node has been acknowledged: more go out, or the node's work ends. -/
def Mach.xferAcked (m : Mach) (p g n : Nat) : Mach :=
  let m := m.xferPump p g n 64
  if m.net.reqs.any (fun r => r.node = some (nodeId p g n)) then m else m.nodeResult (nodeId p g n) 0 0

/-! ### Ownership and configuration writes -/

/-- The lines of the packets that entries `l` hold are free. -/
def Mach.freeLines (m : Mach) (l : List WinEntry) : Mach := (l.flatMap (fun e => e.held)).foldl (fun a h => a.takePkt h.2.pkt) m

/-- Entries that go with banks or queues are dropped; their held packets are lost (R474, R482). -/
def Mach.dropWins (m : Mach) (f : WinEntry → Bool) : Mach :=
  { (m.freeLines (m.net.wins.filter f)) with net := { m.net with wins := m.net.wins.filter (fun e => !f e) } }

/-- HRMP_QOWNn (R482): the write takes effect only where the queues of the blocks that change are empty. -/
def Mach.writeQown (m : Mach) (n v : Nat) : Mach :=
  let a := A.HRMP_QOWN n
  let old := (m.rd a).toNat
  let byte (x k : Nat) : Nat := x / 2 ^ (8 * k) % 256 % 16 + (x / 2 ^ (8 * k) % 256 / 128) * 128
  let changed := (List.range 4).filter (fun k => byte old k ≠ byte v k)
  let inBlk (q : Nat) : Bool := changed.any (fun k => q / 64 = 4 * n + k)
  let empty := !m.net.wins.any (fun e => inBlk e.queue && !e.held.isEmpty)
  if !empty then m.putBit A.HRMP_STS 31 true
  else (m.dropWins (fun e => inBlk e.queue)).wr a (BitVec.ofNat 32 (((List.range 4).map (fun k => byte v k * 2 ^ (8 * k))).sum))

/-- HRMP_CBANKn (R474). -/
def Mach.writeCbank (m : Mach) (n v : Nat) : Mach :=
  let a := A.HRMP_CBANK n
  let old := (m.rd a).toNat
  let byte (x k : Nat) : Nat := x / 2 ^ (8 * k) % 256 % 16 + (x / 2 ^ (8 * k) % 256 / 128) * 128
  let changed := (List.range 4).filter (fun k => byte old k ≠ byte v k)
  let owner (b : Nat) : Option Nat := if 128 ≤ b then some (b % 16) else none
  let parts := (changed.flatMap (fun k => [owner (byte old k), owner (byte v k)])).filterMap id
  let bankOf (e : WinEntry) : Nat := (m.banks e.part).getD (e.set / 64) 256
  if m.net.wins.any (fun e => e.pinned && changed.any (fun k => bankOf e = 4 * n + k)) then m.putBit A.HRMP_STS 31 true
  else
    let m := (m.net.wins.filter (fun e => parts.contains e.part)).foldl (fun a e => a.bump (A.HRMP_EVICT e.part)) m
    (m.dropWins (fun e => parts.contains e.part)).wr a (BitVec.ofNat 32 (((List.range 4).map (fun k => byte v k * 2 ^ (8 * k))).sum))

/-- A way held as REC_WAY by a context of `p` in states 1 to 5 (R471). -/
def Mach.wayIsRec (m : Mach) (p w : Nat) : Bool :=
  m.agg.any (fun e => e.2.part = p && 1 ≤ m.ctxState e.1 && m.ctxState e.1 ≤ 5 && (m.ctx e.1).recWay = w)

/-- HRMP_RXWAY (R471), written by partition 0. -/
def Mach.writeRxway (m : Mach) (p v : Nat) : Mach :=
  let w := v % 16
  if bitOf v 7 && (m.wayOwner w ≠ some p || 3 ≤ m.fld (A.FLT_USTS (0x110 + w)) 31 29 || m.wayIsRec p w) then m.putBit A.HRMP_STS 30 true
  else m.wr (A.HRMP_RXWAY p) (BitVec.ofNat 32 (bitsOf v 7 7 * 128 + w))

/-- HRMP_CFG (R463): an MTU out of range is refused. -/
def Mach.writeHrmpCfg (m : Mach) (v : Nat) : Mach :=
  let mtu := bitsOf v 13 0
  let lim := if (List.range 16).any (fun n => m.bit (A.ETH_CFG n) 31) then 9194 else 9198
  if mtu < 1280 || lim < mtu then m.putBit A.HRMP_STS 30 true else m.wr A.HRMP_CFG (BitVec.ofNat 32 (v &&& 0xFFFF3FFF))

/-- HRMP_LKEY_CTL (R481). -/
def Mach.writeLkeyCtl (m : Mach) (p v : Nat) : Mach := if bitOf v 0 then m.swapKeys p else m

end Sys2Proof.Machine
end

