-- ==== Sys2Proof/Machine/ShareOps.lean ====
section
/-! DEFINITION. What the ops of a protocol session compute, as steps between rounds (R357 to R366). All of it is
arithmetic on one party's shares; Session runs it. -/
namespace Sys2Proof.Machine

/-- What an op wants next: a round that sends `mine` and brings `expect` words, a round of products, a round of
ANDs, or nothing more. -/
inductive Want where
  | vals (mine : List Nat) (expect : Nat)
  | prod (xs ys : List Nat)
  | ands (xs ys : List Nat)
  | done (out : List Nat)
  deriving DecidableEq, Repr

def m64 (n : Nat) : Nat := n % 2 ^ 64
def sub64 (a b : Nat) : Nat := (a + 2 ^ 64 - b % 2 ^ 64) % 2 ^ 64
def addV (a b : List Nat) : List Nat := List.zipWith (fun x y => m64 (x + y)) a b
def subV (a b : List Nat) : List Nat := List.zipWith sub64 a b
def sumV (a : List Nat) : Nat := m64 a.sum
/-- A public constant as a share: party 0 holds it. -/
def pub (role c : Nat) : Nat := if role = 0 then m64 c else 0

/-! ### Rounds (R357) -/

/-- One element's product share from its triple and the opened d and e (R357). -/
def mulShare (role a b c d e : Nat) : Nat := m64 (c + d * b + e * a + (if role = 0 then d * e else 0))

/-- One bit's AND share (R357). -/
def andShare (role a b c d e : Nat) : Nat :=
  (c + d * b + e * a + (if role = 0 then d * e else 0)) % 2

/-- 64 bits a word, first in bit 0. -/
def packBits (l : List Nat) : List Nat :=
  (List.range (cdiv l.length 64)).map (fun i => leNatBits ((l.drop (64 * i)).take 64))
where
  leNatBits (b : List Nat) : Nat := b.foldr (fun x acc => x % 2 + 2 * acc) 0

/-- Two lists of words, alternating. -/
def interleave (a b : List Nat) : List Nat := (List.zip a b).flatMap (fun e => [e.1, e.2])
def evens (l : List Nat) : List Nat := (List.range (l.length / 2)).map (fun i => l.getD (2 * i) 0)
def odds (l : List Nat) : List Nat := (List.range (l.length / 2)).map (fun i => l.getD (2 * i + 1) 0)

/-! ### SIGN (R358) -/

/-- Nodes of one element at level k of the tree. -/
def signNodes (k : Nat) : Nat := match k with | 0 => 63 | 1 => 32 | 2 => 16 | 3 => 8 | 4 => 4 | 5 => 2 | _ => 1

/-- A party's own operand of a bit that only party `owner` holds. -/
def ownBit (role owner b : Nat) : Nat := if role = owner then b else 0

def lowBits (x : Nat) : List Nat := (List.range 63).map (fun i => b2n (x.testBit i))

/-- The AND operands of the tree level that takes nodes of level k: of each pair, P_hi with G_lo, then P_hi with P_lo. -/
def levelAnds (k : Nat) (g p : List Nat) : List Nat × List Nat :=
  let n := signNodes k
  let idx := (List.range (g.length / n)).flatMap (fun e => (List.range (n / 2)).map (fun j => e * n + 2 * j))
  (idx.flatMap (fun i => [p.getD (i + 1) 0, p.getD (i + 1) 0]), idx.flatMap (fun i => [g.getD i 0, p.getD i 0]))

/-- The nodes of level k + 1 from those of level k and the ANDs between them; an unpaired top node passes up. -/
def levelUp (k : Nat) (g p res : List Nat) : List Nat × List Nat :=
  let n := signNodes k
  let h := n / 2
  let el := List.range (g.length / n)
  let top (l : List Nat) (e : Nat) : List Nat := if n % 2 = 1 then [l.getD (e * n + n - 1) 0] else []
  (el.flatMap (fun e => (List.range h).map (fun j =>
      (g.getD (e * n + 2 * j + 1) 0 + res.getD (2 * (e * h + j)) 0) % 2) ++ top g e),
   el.flatMap (fun e => (List.range h).map (fun j => res.getD (2 * (e * h + j) + 1) 0) ++ top p e))

/-- Step `ph` of SIGN with B2A, from the shares `x` (R357, R358): rounds at steps 0 to 7, the result at step 8. -/
def signStep (role ph : Nat) (x : List Nat) (saved : List (List Nat)) (res : List Nat) : Want × List (List Nat) :=
  let g := saved.getD 0 []
  let p := saved.getD 1 []
  match ph with
  | 0 =>
    let own := x.flatMap lowBits
    (.ands (own.map (ownBit role 0)) (own.map (ownBit role 1)), [])
  | 1 =>
    let p := x.flatMap lowBits
    let (a, b) := levelAnds 0 res p
    (.ands a b, [res, p])
  | 2 | 3 | 4 | 5 | 6 =>
    let (g, p) := levelUp (ph - 2) g p res
    let (a, b) := levelAnds (ph - 1) g p
    (.ands a b, [g, p])
  | 7 =>
    let (g, _) := levelUp 5 g p res
    let s := List.zipWith (fun v r => (b2n (v.testBit 63) + r) % 2) x g
    (.prod (s.map (ownBit role 0)) (s.map (ownBit role 1)), [s])
  | _ => (.done (List.zipWith (fun b z => sub64 b (2 * z)) g res), [])

/-! ### The library (R364 to R366) -/

/-- An op that is a SIGN of `x` followed by a product: `mulOps` gives its operands, `fin` the result. -/
def signThen (role ph : Nat) (x : List Nat) (saved : List (List Nat)) (res : List Nat)
    (mulOps : List Nat → List Nat × List Nat) (fin : List Nat → List Nat) : Want × List (List Nat) :=
  if ph < 9 then
    match signStep role ph x saved res with
    | (.done l, _) => (.prod (mulOps l).1 (mulOps l).2, [])
    | r => r
  else (.done (fin res), [])

/-- T_k := round(C² × 2^(k/2)), ties away from zero (R365). -/
def clipT (c2 k : Nat) : Nat :=
  let v := c2 * 2 ^ (k / 2)
  if k % 2 = 0 then v else (Nat.sqrt (8 * v * v) + 1) / 2

/-- f_k := round(2^F × 2^(−k/4)), ties away from zero (R365). -/
def clipF (f k : Nat) : Nat := if 4 * f + 4 < k then 0 else (Nat.sqrt (Nat.sqrt (2 ^ (4 * f + 4 - k))) + 1) / 2

/-- CLIP (R365): one round for the squares, eight for the thresholds, one to scale. -/
def clipStep (role ph c2 k f : Nat) (x : List Nat) (saved : List (List Nat)) (res : List Nat) : Want × List (List Nat) :=
  let diffs (n2 : Nat) : List Nat := (List.range k).map (fun i => sub64 (pub role (clipT c2 i)) n2)
  if ph = 0 then (.prod x x, [])
  else
    let n2 := if ph = 1 then sumV res else (saved.getLastD []).headD 0
    if ph ≤ 9 then
      match signStep role (ph - 1) (diffs n2) saved.dropLast res with
      | (.done g, _) =>
        let fs := (List.range k).map (fun i => m64 (g.getD i 0 * sub64 (clipF f (i + 1)) (clipF f i)))
        let fac := m64 (pub role (clipF f 0) + fs.sum)
        (.prod x (List.replicate x.length fac), [])
      | (w, s) => (w, s ++ [[n2]])
    else (.done res, [])

/-- A layer of comparators: pairs that keep (max, min) at the two places, and whether only the maxima go on. -/
structure Layer where
  pairs : List (Nat × Nat)
  merge : Bool
  deriving DecidableEq, Repr

/-- Comparators at distance 2^t within each block of 2^l elements, out of `n`; ascending where bit `s` of the place in
the block is set. -/
def bitonic (n l s t : Nat) : Layer :=
  { merge := false
    pairs := ((List.range n).filter (fun i => !i.testBit t)).map (fun i =>
      if (i % 2 ^ l).testBit s then (i + 2 ^ t, i) else (i, i + 2 ^ t)) }

/-- The layers of TOPK on 2^v elements with k = 2^l (R366). -/
def topkLayers (v l : Nat) : List Layer :=
  let sort := (List.range l).flatMap (fun s => (List.range (s + 1)).map (fun j => bitonic (2 ^ v) l (s + 1) (s - j)))
  let mergeStep (i : Nat) : List Layer :=
    let n := 2 ^ (v - i)
    let k := 2 ^ l
    Layer.mk ((List.range (n / (2 * k))).flatMap (fun b => (List.range k).map (fun j => (2 * b * k + j, 2 * b * k + 2 * k - 1 - j)))) true ::
      (List.range l).map (fun j => bitonic (n / 2) l l (l - 1 - j))
  sort ++ (List.range (v - l)).flatMap mergeStep

/-- The vector after a layer whose products d are `res` (R366). -/
def applyLayer (y : Layer) (v res : List Nat) : List Nat :=
  let at' (i : Nat) : Nat := v.getD i 0
  if y.merge then List.zipWith (fun e d => m64 (at' e.1 + d)) y.pairs res
  else
    (List.range v.length).map (fun i =>
      match y.pairs.findIdx? (fun e => e.1 = i || e.2 = i) with
      | none => at' i
      | some j =>
        let e := y.pairs.getD j (0, 0)
        let d := res.getD j 0
        if e.1 = i then m64 (at' i + d) else sub64 (at' i) d)

/-- TOPK (R366): nine rounds a layer; the vector stands last in `saved`. -/
def topkStep (role ph v l : Nat) (x : List Nat) (saved : List (List Nat)) (res : List Nat) : Want × List (List Nat) :=
  let ys := topkLayers v l
  let i := ph / 9
  let vec := if ph = 0 then x
    else if ph % 9 = 0 then applyLayer (ys.getD (i - 1) { pairs := [], merge := false }) (saved.getLastD []) res
    else saved.getLastD []
  if ys.length ≤ i then (.done (vec.take (2 ^ l)), [])
  else
    let y := ys.getD i { pairs := [], merge := false }
    let a := y.pairs.map (fun e => vec.getD e.1 0)
    let b := y.pairs.map (fun e => vec.getD e.2 0)
    match signStep role (ph % 9) (subV a b) saved.dropLast res with
    | (.done lt, _) => (.prod lt (subV b a), [vec])
    | (w, s) => (w, s ++ [vec])

/-- Step `ph` of an op that runs on shares alone: its code, flags, parameters, and the vectors it read. -/
def shareStep (role code flags p0 p1 ph : Nat) (a b : List Nat) (saved : List (List Nat)) (res : List Nat) :
    Want × List (List Nat) :=
  match code with
  | 0x10 => (.done (if Config.shareSub flags then subV a b else addV a b), [])
  | 0x11 => (.done (a.map (fun x => m64 (p0 * x))), [])
  | 0x12 => (.done (a.map (fun x => m64 (x + pub role p0))), [])
  | 0x20 => if ph = 0 then (.prod a b, []) else (.done res, [])
  | 0x21 => if ph = 0 then (.prod a a, []) else (.done [sumV res], [])
  | 0x30 => signStep role ph a saved res
  | 0x31 => signStep role ph (subV a b) saved res
  | 0x32 => signThen role ph (subV a b) saved res (fun l => (l, subV b a)) (addV a)
  | 0x33 => signThen role ph a saved res (fun s => (a, s.map (fun v => sub64 (pub role 1) v))) id
  | 0x34 => signStep role ph (a.map (fun x => sub64 (pub role p0) x)) saved res
  | 0x35 => clipStep role ph p0 (bitsOf p1 4 0) (bitsOf p1 13 8) a saved res
  | 0x36 => topkStep role ph a.length.log2 p0.log2 a saved res
  | _ => (.done [], [])

/-! ### Conversions (R360, R362) -/

/-- One lane of A2S: (lane − OFFSET) >> SHIFT, rounded toward −∞, modulo 2^64. -/
def a2sLane (signed w64 : Bool) (off shift lane : Nat) : Nat :=
  let w := if w64 then 64 else 32
  let v : Int := if signed && lane.testBit (w - 1) then (lane : Int) - 2 ^ w else lane
  let o : Int := if off.testBit 63 then (off : Int) - 2 ^ 64 else off
  -- the difference is taken as a signed 64-bit value
  let d := ((v - o) % 2 ^ 64).toNat
  let s : Int := if d.testBit 63 then (d : Int) - 2 ^ 64 else d
  ((s / 2 ^ shift) % 2 ^ 64).toNat

/-- An encryption-free gate result: the trivial ciphertext of a bit. -/
def trivialCt (b : Bool) : List Nat := gateOut {} 0xE [] [] [] b

/-- A ripple adder of the `n` ciphertext bits `x` and the bits of `r`, to `w` sum bits (R362): XOR for the sum bits, AND
or OR for the carries as the bits of r select; above the inputs, and at bit 0, no gate runs a bootstrap. -/
def adder (k : KeyMat) (x : List (List Nat)) (r w : Nat) : List (List Nat) :=
  let inv (b : Bool) (c : List Nat) : List Nat := if b then gateOut k 0xB c [] [] false else c
  let step (st : List (List Nat) × List Nat) (i : Nat) : List (List Nat) × List Nat :=
    let (outs, c) := st
    let rb := r.testBit i
    if i = 0 then (outs ++ [inv rb (x.getD 0 [])], if rb then x.getD 0 [] else trivialCt false)
    else if i < x.length then
      let xi := x.getD i []
      (outs ++ [inv rb (gateOut k 0x5 xi c [] false)],
       if i + 1 < w then gateOut k (if rb then 0x3 else 0x2) xi c [] false else c)
    else (outs ++ [inv rb c], if rb then c else trivialCt false)
  ((List.range w).foldl step ([], [])).1

/-- W2S of one word: its 32 ciphertexts, bit 31 inverted, plus r, on 64 wires. -/
def w2sWord (k : KeyMat) (x : List (List Nat)) (r : Nat) : List (List Nat) :=
  adder k (x.take 31 ++ [gateOut k 0xB (x.getD 31 []) [] [] false]) r 64

/-- S2W of one word: the peer's 32 ciphertexts plus the low 32 bits of the own share. -/
def s2wWord (k : KeyMat) (x : List (List Nat)) (r : Nat) : List (List Nat) := adder k (x.take 32) r 32

end Sys2Proof.Machine
end

