-- ==== Sys2Proof/Machine/Session.lean ====
section
/-! DEFINITION. Protocol sessions: descriptor, triples, rounds, ops, records, end (R347 to R372). -/
namespace Sys2Proof.Machine

/-! ### The descriptor (R350) -/

def Session.d (s : Session) (o n : Nat) : Nat := fieldAt s.desc o n
def Session.role (s : Session) : Nat := s.d 6 1
def Session.vlog (s : Session) : Nat := s.d 7 1
def Session.part (s : Session) : Nat := s.node.1
def Session.exchCtr (s : Session) : Nat := s.d 0x78 2
def Session.tripleCtr (s : Session) : Nat := s.d 0x7A 2
def Session.slot (s : Session) : Nat := s.d 0x7C 2 % 512
def Session.ops (s : Session) : Nat := fieldAt s.prog 0 4

/-- The record of op `i` (R359). -/
def Session.opRec (s : Session) (i : Nat) : List Byte := slice s.prog (16 + 32 * i) 32
def Session.cur (s : Session) (o n : Nat) : Nat := fieldAt (s.opRec s.op) o n
def Session.opc (s : Session) : Nat := s.cur 0 1
def Session.flags (s : Session) : Nat := s.cur 1 1
def Session.p0 (s : Session) : Nat := s.cur 8 8
def Session.p1 (s : Session) : Nat := s.cur 16 8
def Session.p2 (s : Session) : Nat := s.cur 24 8

/-- The session on tile `t`. -/
def Mach.sessionOn (m : Mach) (t : Nat) : Option Session := m.loam.sessions.find? (fun s => s.tiles.contains t)

def Mach.setSession (m : Mach) (s : Session) : Mach :=
  { m with loam := { m.loam with sessions := m.loam.sessions.map (fun x => if x.node = s.node then s else x) } }

/-- The MSK units of a partition (R199). -/
def Mach.mskUnits (m : Mach) (p : Nat) : List Nat := (List.range 16).filter (fun u => m.ownLane (A.MSK_OWN (u / 4)) (u % 4) = some p)

/-- DRBG instance `i` delivers (R587, R590). -/
def Mach.drbgOn (m : Mach) (i : Nat) : Bool := m.bit (A.DRBG_STS i) 31

/-- The checks of R351, in field order: the offset of the first that fails. -/
def Mach.sessionCheck (m : Mach) (s : Session) : Option Nat :=
  let p := s.part
  let dealer := s.role = 2
  let align (o a : Nat) : Bool := s.d o 8 % a ≠ 0
  let slotOk := m.keyOwner s.slot = some p && (match tfind m.keys s.slot with | some k => k.attr.testBit 3 | none => false)
  let bad : List (Nat × Bool) := [
    (0x00, s.d 0 4 ≠ 0x50394648), (0x04, s.d 4 2 ≠ 1), (0x06, 2 < s.role), (0x07, 24 < s.vlog),
    (0x10, 2 ^ 20 ≤ s.d 0x10 4), (0x18, 2 ^ 20 ≤ s.d 0x18 4 || (!dealer && s.d 0x18 4 ≠ 0)), (0x1C, !dealer && s.d 0x1C 2 ≠ 0),
    (0x1E, s.d 0x1E 2 ≠ 0), (0x20, align 0x20 64), (0x28, align 0x28 64 || (!dealer && s.d 0x28 8 ≠ 0)), (0x30, align 0x30 64),
    (0x38, align 0x38 64), (0x40, align 0x40 64), (0x48, align 0x48 4096), (0x50, align 0x50 4096), (0x58, align 0x58 64),
    (0x60, align 0x60 64), (0x70, s.d 0x70 4 % 4096 ≠ 0), (0x78, 4096 ≤ s.d 0x78 2), (0x7A, 4096 ≤ s.d 0x7A 2),
    (0x7C, 512 ≤ s.d 0x7C 2 || (!dealer && !slotOk) || (m.mskUnits p).isEmpty),
    (0x7E, 128 ≤ s.d 0x7E 1 || !s.tiles.all (fun t => m.tileOwner t = some p)), (0x7F, s.d 0x7F 1 = 0 || 16 < s.d 0x7F 1)]
  (bad.find? (fun e => e.2)).map (·.1)

/-! ### End of a session (R370, R371) -/

/-- The status record (R371). -/
def Session.status (s : Session) (phase : Nat) : List Byte :=
  leBytes 1 s.state ++ leBytes 1 s.reason ++ leBytes 2 0 ++ leBytes 4 s.op ++ leBytes 4 s.round ++ leBytes 4 0 ++
    leBytes 8 s.arithUsed ++ leBytes 8 s.bitUsed ++ leBytes 8 s.detail ++
    leBytes 8 (if s.state = 1 then 0 else phase) ++ leBytes 16 0

def Mach.writeStatus (m : Mach) (s : Session) : Mach × Option XFail :=
  if s.desc.isEmpty then (m, none) else m.vwrite 5 s.part (s.d 0x60 8 % 2 ^ 48) (s.status m.phase)

/-- The session stops; SESSION_END does what R370 gives. -/
def Session.stop (s : Session) (reason detail : Nat) : Session :=
  if s.state = 3 then s else { s with state := 3, reason := reason, detail := detail }

/-- The end (R370, R371): secrets are zeroized, the tiles are free, the record is written and the node completes. -/
def Mach.endSession (m : Mach) (s : Session) : Mach :=
  let (m, _) := m.writeStatus s
  let m := { m with loam := { m.loam with sessions := m.loam.sessions.filter (fun x => x.node ≠ s.node) },
                    net := { m.net with reqs := m.net.reqs.map (fun (r : Req) => if r.node = some s.node then { r with node := none } else r) } }
  let m := s.tiles.foldl (fun a t => let a := a.wipeTile t; if a.tileState t = 2 then a.setTileState t 0 else a) m
  m.nodeResult s.node 0 0

/-- A session ends ABORTED from outside; R371 names no reason for it, so REASON is a free value. -/
def Mach.killSession (m : Mach) (s : Session) : Mach :=
  let (r, m) := m.draw
  m.endSession (s.stop (r.toNat % 256) 0)

/-- Every session of a partition ends ABORTED (R531, R635). -/
def Mach.killSessions (m : Mach) (p : Nat) : Mach := (m.loam.sessions.filter (fun s => s.part = p)).foldl (fun a s => a.killSession s) m

/-- A sealed tile fails (R372): the session's tiles are zeroized before a spare is filled. -/
def Mach.sessionTileFailed (m : Mach) (t : Nat) : Mach :=
  match m.sessionOn t with
  | some s => m.endSession (s.stop 6 t)
  | none => m

/-! ### Sealed vectors (R359, R369) -/

def Session.vecVa (s : Session) (h : Nat) : Nat := (s.d 0x48 8 + h * 2 ^ s.vlog * 8) % 2 ^ 48
def Session.tagVa (s : Session) (h : Nat) : Nat := (s.d 0x50 8 + h * max 1 (2 ^ (s.vlog - 9)) * 16) % 2 ^ 48

/-- The nonce of a block (R369). -/
def vecNonce (h blk gen : Nat) : Bytes := toNats (leBytes 2 h ++ leBytes 4 blk ++ leBytes 4 gen ++ leBytes 2 0)

/-- One block of a vector is sealed and written, and its tag after it. -/
def Mach.sealBlock (m : Mach) (s : Session) (h gen i : Nat) (b : List Byte) : Mach × Option XFail :=
  let (c, t) := gcmSeal (toNats s.key) (vecNonce h i gen) [] (toNats b)
  match m.vwrite 5 s.part ((s.vecVa h + 4096 * i) % 2 ^ 48) (toBytes c) with
  | (m, some e) => (m, some e)
  | (m, none) => m.vwrite 5 s.part ((s.tagVa h + 16 * i) % 2 ^ 48) (toBytes t)

/-- Writes the blocks of a vector from block `i` on. -/
def Mach.sealBlocks (m : Mach) (s : Session) (h gen i : Nat) : (n : Nat) → List Byte → Mach × Option XFail
  | 0, _ => (m, none)
  | n + 1, b =>
    match m.sealBlock s h gen i (b.take 4096) with
    | (m, some e) => (m, some e)
    | (m, none) => m.sealBlocks s h gen (i + 1) n (b.drop 4096)

/-- Stores a vector under handle `h`. -/
def Mach.putVec (m : Mach) (s : Session) (h : Nat) (v : List Nat) : Mach × Except XFail Session :=
  let gen := tget s.gens h 0
  match m.sealBlocks s h gen 0 (cdiv (8 * v.length) 4096) (v.flatMap (leBytes 8)) with
  | (m, some e) => (m, .error e)
  | (m, none) => (m, .ok { s with gens := tset s.gens h (gen + 1), lens := tset s.lens h v.length })

/-- One block of a vector: read, its tag read, and opened; none where a read or the tag fails. -/
def Mach.openBlock (m : Mach) (s : Session) (h gen i l : Nat) : Mach × Option (List Byte) :=
  match m.vread 5 s.part ((s.vecVa h + 4096 * i) % 2 ^ 48) l with
  | (m, .error _) => (m, none)
  | (m, .ok c) =>
    match m.vread 5 s.part ((s.tagVa h + 16 * i) % 2 ^ 48) 16 with
    | (m, .error _) => (m, none)
    | (m, .ok t) => (m, (gcmOpen (toNats s.key) (vecNonce h i gen) [] (toNats c) (toNats t)).map toBytes)

/-- Reads and opens the blocks of a vector of `n` bytes from block `i` on; none on any failure. -/
def Mach.openBlocks (m : Mach) (s : Session) (h gen i n : Nat) (acc : List Byte) : (fuel : Nat) → Mach × Option (List Byte)
  | 0 => (m, some acc)
  | fuel + 1 =>
    match m.openBlock s h gen i (min 4096 (n - 4096 * i)) with
    | (m, none) => (m, none)
    | (m, some b) => m.openBlocks s h gen (i + 1) n (acc ++ b) fuel

def words (b : List Byte) : List Nat := (List.range (b.length / 8)).map (fun i => fieldAt b (8 * i) 8)

/-- The vector of handle `h`, empty for none. -/
def Mach.getVec (m : Mach) (s : Session) (h : Nat) : Mach × Option (List Nat) :=
  if h = 0xFFFF then (m, some [])
  else
    let n := 8 * tget s.lens h 0
    match m.openBlocks s h (tget s.gens h 0 - 1) 0 n [] (cdiv n 4096) with
    | (m, some b) => (m, some (words b))
    | (m, none) => (m, none)

/-! ### Sending -/

/-- Sends what waits to be sent, while fewer than 64 requests of the queue wait (R468). -/
def Mach.sessionPump (m : Mach) (s : Session) : (fuel : Nat) → Mach × Session
  | 0 => (m, s)
  | fuel + 1 =>
    match s.outq with
    | [] => (m, s)
    | j :: r =>
      if 64 ≤ m.outstanding j.queue then (m, s)
      else
        let rest := j.data.drop 65520
        let k := m.mkMemWr s.part j.dst j.queue (j.va % 2 ^ 48) (j.data.take 65520) (j.mark && rest.isEmpty)
        let m := m.sendReq k none (some s.node)
        let q := if rest.isEmpty then r else { j with data := rest, va := j.va + 65520 } :: r
        m.sessionPump { s with outq := q, sentRec := s.sentRec || (q.isEmpty && s.rnd ≠ 0) } fuel

/-- The session's writes leave, or the session ends where the partition has no key to seal them under (R480). -/
def Mach.sessionSend (m : Mach) (s : Session) (jobs : List SendJob) : Mach × Session :=
  if s.part ≠ 0 && !m.hasKey s.part then (m, s.stop 3 0)
  else m.sessionPump { s with outq := jobs } 64

/-- The header of a record (R356). -/
def Session.header (s : Session) (n : Nat) : List Byte :=
  leBytes 8 (s.d 8 8) ++ leBytes 4 s.round ++ leBytes 1 s.role ++ leBytes 3 0 ++ leBytes 4 n ++ leBytes 44 0

/-- The own record of the present round goes out: payload first, header last with MARK (R356). -/
def Mach.sendRecord (m : Mach) (s : Session) (mine : List Nat) : Mach × Session :=
  let va := s.d 0x20 8 + s.round % 2 * s.d 0x70 4
  let job (a : Nat) (b : List Byte) (mark : Bool) : SendJob :=
    { dst := s.d 0x10 4, queue := s.d 0x14 2 % 2 ^ 14, va := a, data := b, mark := mark }
  let head := [job va (s.header mine.length) true]
  m.sessionSend s (if mine.isEmpty then head else job (va + 64) (mine.flatMap (leBytes 8)) false :: head)

/-! ### Triples (R353, R354) -/

/-- A round of products or ANDs starts once its triples are there (R354). -/
def Mach.tryRound (m : Mach) (s : Session) : Mach × Session :=
  let n := s.xs.length
  if s.state ≠ 1 || s.sentRec || !s.outq.isEmpty then (m, s)
  else if s.rnd = 2 && n ≤ s.arith.length then
    let t := s.arith.take n
    let s := { s with arith := s.arith.drop n, arithUsed := s.arithUsed + n,
                      ta := t.map (·.1), tb := t.map (·.2.1), tc := t.map (·.2.2), expect := 2 * n }
    m.sendRecord s (interleave (subV s.xs s.ta) (subV s.ys s.tb))
  else if s.rnd = 3 && n ≤ s.bits.length then
    let t := s.bits.take n
    let s := { s with bits := s.bits.drop n, bitUsed := s.bitUsed + n,
                      ta := t.map (fun b => b2n b.1), tb := t.map (fun b => b2n b.2.1), tc := t.map (fun b => b2n b.2.2),
                      expect := 2 * cdiv n 64 }
    let x (a b : List Nat) : List Nat := List.zipWith (fun u v => (u + v) % 2) a b
    m.sendRecord s (interleave (packBits (x s.xs s.ta)) (packBits (x s.ys s.tb)))
  else (m, s)

/-- The items of a batch's plaintext as bit triples, 64 to an item. -/
def bitItems (l : List (Nat × Nat × Nat)) : List (Bool × Bool × Bool) :=
  l.flatMap (fun w => (List.range 64).map (fun j => (w.1.testBit j, w.2.1.testBit j, w.2.2.testBit j)))

/-- The nonce of a batch (R353). -/
def batchNonce (h : List Byte) : Bytes := toNats ([h.getD 4 0, h.getD 5 0] ++ slice h 16 8 ++ [0, 0])

/-- The next batch is read, checked and unsealed (R354). -/
def Mach.readBatch (m : Mach) (s : Session) : Mach × Session :=
  let base := s.d 0x38 8
  let tot := s.d 0x74 4
  if tot < s.area + 32 then (m, s.stop 4 s.batches)
  else
    match m.vread 5 s.part ((base + s.area) % 2 ^ 48) 32 with
    | (m, .error e) => (m, s.stop 7 e.dmaKind)
    | (m, .ok h) =>
      let kind := fieldAt h 4 1
      let n := fieldAt h 24 4
      let bad := fieldAt h 8 8 ≠ s.d 8 8 || fieldAt h 5 1 ≠ s.role || 1 < kind ||
        fieldAt h 16 8 ≠ (if kind = 0 then s.nextA else s.nextB) || tot < s.area + 32 + 24 * n + 16
      if bad then (m, s.stop 4 s.batches)
      else
        match m.vread 5 s.part ((base + s.area + 32) % 2 ^ 48) (24 * n + 16) with
        | (m, .error e) => (m, s.stop 7 e.dmaKind)
        | (m, .ok b) =>
          match m.slotKey s.part s.slot 3 with
          | none => (m, s.stop 8 s.slot)
          | some key =>
            match gcmOpen (toNats key) (batchNonce h) (toNats h) (toNats (b.take (24 * n))) (toNats (b.drop (24 * n))) with
            | none => (m, s.stop 4 s.batches)
            | some pt =>
              let w := words (toBytes pt)
              let items := (List.range n).map (fun i => (w.getD (3 * i) 0, w.getD (3 * i + 1) 0, w.getD (3 * i + 2) 0))
              let s := { s with batches := s.batches + 1, area := s.area + cdiv (48 + 24 * n) 64 * 64 }
              if kind = 0 then (m, { s with arith := s.arith ++ items, nextA := s.nextA + n })
              else (m, { s with bits := s.bits ++ bitItems items, nextB := s.nextB + n })

/-! ### Ops (R359) -/

/-- The length an op reads from its handles, and whether the record passes R359; none where it breaks it. -/
def Session.recordOk (s : Session) : Bool :=
  let i0 := s.cur 2 2
  let i1 := s.cur 4 2
  let o := s.cur 6 2
  let len (h : Nat) : Nat := tget s.lens h 0
  let wr (h : Nat) : Bool := h < 64 && (tfind s.lens h).isSome
  let hs (u0 u1 uo : Bool) : Bool := (if u0 then wr i0 else i0 = 0xFFFF) && (if u1 then wr i1 else i1 = 0xFFFF) && (if uo then o < 64 else o = 0xFFFF)
  let lim := 2 ^ s.vlog
  let z (p0 p1 p2 : Bool) : Bool := (p0 || s.p0 = 0) && (p1 || s.p1 = 0) && (p2 || s.p2 = 0)
  let party := s.role ≠ 2
  let pow2 (n : Nat) : Bool := n ≠ 0 && 2 ^ n.log2 = n
  match s.opc with
  | 0x01 => party && hs false false true && s.flags < 8 && bitsOf s.p1 33 0 ≤ lim && bitsOf s.p1 39 34 = 0 && bitsOf s.p1 63 46 = 0
  | 0x02 => party && hs true false false && s.flags < 3 && z true false false
  | 0x03 => s.role = 0 && hs false false true && s.flags = 0 && s.p1 ≤ lim && z true true false
  | 0x04 => s.role = 0 && hs true false false && s.flags = 0 && z true false false
  | 0x10 => party && hs true true true && len i0 = len i1 && z false false false
  | 0x11 | 0x12 => party && hs true false true && s.flags = 0 && z true false false
  | 0x20 => party && hs true true true && len i0 = len i1 && s.flags = 0 && z false false false
  | 0x21 => party && hs true false true && s.flags = 0 && z false false false
  | 0x30 | 0x33 => party && hs true false true && s.flags = 0 && z false false false
  | 0x31 | 0x32 => party && hs true true true && len i0 = len i1 && s.flags = 0 && z false false false
  | 0x34 => party && hs true false true && s.flags = 0 && z true false false
  | 0x35 => party && hs true false true && s.flags = 0 && z true true false && 0 < s.p0 && s.p0 < 2 ^ 62 &&
      1 ≤ bitsOf s.p1 4 0 && bitsOf s.p1 4 0 ≤ 16 && bitsOf s.p1 13 8 ≤ 32 && bitsOf s.p1 7 5 = 0 && bitsOf s.p1 63 14 = 0
  | 0x36 => party && hs true false true && s.flags = 0 && z true false false && pow2 s.p0 && pow2 (len i0) && 2 ≤ s.p0 && s.p0 ≤ len i0
  | 0x40 | 0x41 => s.role = 2 && hs false false false && s.flags = 0 && z true false false
  | _ => false

/-- The next op is looked at before it begins (R359). -/
def Session.enterOp (s : Session) : Session :=
  let s := { s with began := false, phase := 0, saved := [], ins := [], rnd := 0, sentRec := false, xs := [], ys := [], ta := [], tb := [], tc := [] }
  if s.op < s.ops && !s.recordOk then s.stop 2 s.op else s

/-- An op has ended: OUT is stored, a status record written, and the next op comes (R371). -/
def Mach.opEnd (m : Mach) (s : Session) (out : Option (List Nat)) : Mach × Session :=
  let stored := match out with
    | some v => m.putVec s (s.cur 6 2) v
    | none => (m, .ok s)
  match stored with
  | (m, .error e) => (m, s.stop 7 e.dmaKind)
  | (m, .ok s) =>
    let s := { s with op := s.op + 1 }
    match m.writeStatus { s with op := s.op - 1 } with
    | (m, some e) => (m, s.stop 7 e.dmaKind)
    | (m, none) => (m, s.enterOp)

/-- A round of plain values. -/
def Mach.valRound (m : Mach) (s : Session) (mine : List Nat) (expect : Nat) : Mach × Session :=
  m.sendRecord { s with rnd := 1, expect := expect } mine

/-- `n` free words from the partition's MSK generators (R360, R362, R355). -/
def Mach.drawWords (m : Mach) (n : Nat) : List Nat × Mach :=
  ((List.range n).map (fun i => (Config.freeBits (m.free + i)).toNat), { m with free := m.free + n })

/-- A2S (R360) at step `phase`. -/
def Mach.a2sStep (m : Mach) (s : Session) (res : List Nat) : Mach × Session :=
  let n := bitsOf s.p1 33 0
  if s.role = 1 then (if s.phase = 0 then m.valRound s [] n else m.opEnd s (some res))
  else
    let w64 := s.flags.testBit 1
    let w := if w64 then 8 else 4
    if s.phase = 0 then
      match m.vread 5 s.part (s.p0 % 2 ^ 48) (n * w) with
      | (m, .error e) => (m, s.stop 7 e.dmaKind)
      | (m, .ok b) =>
        let v := (List.range n).map (fun i => a2sLane (s.flags.testBit 0) w64 s.p2 (bitsOf s.p1 45 40) (fieldAt b (w * i) w))
        let (r, m) := m.drawWords n
        m.valRound { s with saved := [subV v r] } r 0
    else
      let z := if s.flags.testBit 2 then m.vwrite 5 s.part (s.p0 % 2 ^ 48) (List.replicate (n * w) 0) else (m, none)
      match z with
      | (m, some e) => (m, s.stop 7 e.dmaKind)
      | (m, none) => m.opEnd s (some (s.saved.getD 0 []))

/-- S2C (R361). -/
def Mach.s2cStep (m : Mach) (s : Session) (res : List Nat) : Mach × Session :=
  let x := s.ins.getD 0 []
  let learns (p : Nat) : Bool := s.flags = 2 || s.flags = p
  if s.phase = 0 then m.valRound s (if learns (1 - s.role) then x else []) (if learns s.role then x.length else 0)
  else if learns s.role then
    match m.vwrite 5 s.part (s.p0 % 2 ^ 48) ((addV x res).flatMap (leBytes 8)) with
    | (m, some e) => (m, s.stop 7 e.dmaKind)
    | (m, none) => m.opEnd s none
  else m.opEnd s none

/-- The key set of conversions, with its material (R350, R362). -/
def Mach.sessionKeys (m : Mach) (s : Session) : Mach × Except (Nat × Nat) KeyMat :=
  let va := s.d 0x58 8 % 2 ^ 48
  if va = 0 then (m, .error (8, 0))
  else
    match m.vread 5 s.part va 128 with
    | (m, .error e) => (m, .error (7, e.dmaKind))
    | (m, .ok ks) =>
      match keysetCheck ks with
      | some o => (m, .error (8, o))
      | none =>
        if (formGroups (ksMode ks) (ksSeed ks ≠ 0) s.tiles).isEmpty then (m, .error (8, 6))
        else
          match m.readKeys s.part ks with
          | (m, .error e) => (m, .error (7, e.dmaKind))
          | (m, .ok k) => (m, .ok k)

/-- The ciphertexts of wire slots laid out in a byte list. -/
def ctsOf (b : List Byte) : List (List Nat) := (List.range (b.length / 6208)).map (fun i => wireWords (slice b (6208 * i) 6208))

/-- W2S at party 0 (R362). -/
def Mach.w2sStep (m : Mach) (s : Session) : Mach × Session :=
  if s.phase ≠ 0 then m.opEnd s (some (s.saved.getD 0 []))
  else
    let n := s.p1
    match m.sessionKeys s with
    | (m, .error e) => (m, s.stop e.1 e.2)
    | (m, .ok k) =>
      match m.vread 5 s.part (s.p0 % 2 ^ 48) (n * 32 * 6208) with
      | (m, .error e) => (m, s.stop 7 e.dmaKind)
      | (m, .ok b) =>
        let (r, m) := m.drawWords n
        let outs := (List.range n).flatMap (fun i => w2sWord k (ctsOf (slice b (32 * 6208 * i) (32 * 6208))) (r.getD i 0))
        m.valRound { s with saved := [r.map (fun v => sub64 0 (v + 2 ^ 31))] } (words (outs.flatMap slotBytes)) 0

/-- S2W at party 0 (R362). -/
def Mach.s2wStep (m : Mach) (s : Session) (res : List Nat) : Mach × Session :=
  let x := s.ins.getD 0 []
  if s.phase = 0 then m.valRound s [] (x.length * 32 * 776)
  else
    match m.sessionKeys s with
    | (m, .error e) => (m, s.stop e.1 e.2)
    | (m, .ok k) =>
      let b := res.flatMap (leBytes 8)
      let outs := (List.range x.length).flatMap (fun i => s2wWord k (ctsOf (slice b (32 * 6208 * i) (32 * 6208))) (x.getD i 0))
      match m.vwrite 5 s.part (s.p0 % 2 ^ 48) (outs.flatMap slotBytes) with
      | (m, some e) => (m, s.stop 7 e.dmaKind)
      | (m, none) => m.opEnd s none

/-- A batch of a dealer for one party: header, sealed items and tag (R353, R355). -/
def sealBatch (key : List Byte) (kind party sid first : Nat) (items : List (Nat × Nat × Nat)) : List Byte :=
  let h := leBytes 4 0x54394648 ++ leBytes 1 kind ++ leBytes 1 party ++ leBytes 2 0 ++ leBytes 8 sid ++ leBytes 8 first ++
    leBytes 4 items.length ++ leBytes 4 0
  let (c, t) := gcmSeal (toNats key) (batchNonce h) (toNats h)
    (toNats (items.flatMap (fun w => leBytes 8 w.1 ++ leBytes 8 w.2.1 ++ leBytes 8 w.2.2)))
  h ++ toBytes c ++ toBytes t

/-- The dealer's items from five drawn words (R355). -/
def dealItem (kind : Nat) (w : List Nat) : (Nat × Nat × Nat) × (Nat × Nat × Nat) :=
  let a0 := w.getD 0 0
  let a1 := w.getD 1 0
  let b0 := w.getD 2 0
  let b1 := w.getD 3 0
  let c1 := w.getD 4 0
  let c0 := if kind = 0 then sub64 (m64 ((a0 + a1) * (b0 + b1))) c1 else ((a0 ^^^ a1) &&& (b0 ^^^ b1)) ^^^ c1
  ((a0, b0, c0), (a1, b1, c1))

/-- GEN at step `phase`: batch `phase` is made and sent (R355). -/
def Mach.genStep (m : Mach) (s : Session) : Mach × Session :=
  let kind := s.opc - 0x40
  let done := 65536 * s.phase
  if s.p0 ≤ done then m.opEnd s none
  else
    match m.slotKey s.part s.slot 3, m.slotKey s.part (s.slot + 1) 3 with
    | some k0, some k1 =>
      let n := min 65536 (s.p0 - done)
      let (w, m) := m.drawWords (5 * n)
      let items := (List.range n).map (fun i => dealItem kind ((w.drop (5 * i)).take 5))
      let first := if kind = 0 then s.nextA else s.nextB
      let batch (k : List Byte) (party : Nat) (l : List (Nat × Nat × Nat)) : List Byte := sealBatch k kind party (s.d 8 8) first l
      let jobs : List SendJob := [
        { dst := s.d 0x10 4, queue := s.d 0x14 2 % 2 ^ 14, va := s.d 0x20 8 + s.area, data := batch k0 0 (items.map (·.1)), mark := true },
        { dst := s.d 0x18 4, queue := s.d 0x1C 2 % 2 ^ 14, va := s.d 0x28 8 + s.area, data := batch k1 1 (items.map (·.2)), mark := true }]
      let s := { s with area := s.area + cdiv (48 + 24 * n) 64 * 64,
                        nextA := if kind = 0 then s.nextA + n else s.nextA, nextB := if kind = 0 then s.nextB else s.nextB + n,
                        arithUsed := if kind = 0 then s.arithUsed + n else s.arithUsed,
                        bitUsed := if kind = 0 then s.bitUsed else s.bitUsed + 64 * n }
      m.sessionSend s jobs
    | _, _ => (m, s.stop 8 s.slot)

/-- The op goes on at step `phase`, with what the last round brought. -/
def Mach.opStep (m : Mach) (s : Session) (res : List Nat) : Mach × Session :=
  match s.opc with
  | 0x01 => m.a2sStep s res
  | 0x02 => m.s2cStep s res
  | 0x03 => m.w2sStep s
  | 0x04 => m.s2wStep s res
  | 0x40 | 0x41 => m.genStep s
  | c =>
    let (w, saved) := shareStep s.role c s.flags s.p0 s.p1 s.phase (s.ins.getD 0 []) (s.ins.getD 1 []) s.saved res
    let s := { s with saved := saved }
    match w with
    | .vals a n => m.valRound s a n
    | .prod xs ys => m.tryRound { s with rnd := 2, xs := xs, ys := ys }
    | .ands xs ys => m.tryRound { s with rnd := 3, xs := xs, ys := ys }
    | .done out => m.opEnd s (some out)

/-- An op begins: its vectors are read and opened. -/
def Mach.opBegin (m : Mach) (s : Session) : Mach × Session :=
  match m.getVec s (s.cur 2 2) with
  | (m, none) => (m, s.stop 7 2)
  | (m, some a) =>
    match m.getVec s (s.cur 4 2) with
    | (m, none) => (m, s.stop 7 4)
    | (m, some b) => m.opStep { s with began := true, ins := [a, b] } []

/-- Does the op draw from the MSK generators (R590)? -/
def Session.draws (s : Session) : Bool := (s.opc = 1 && s.role = 0) || s.opc = 3 || s.opc = 0x40 || s.opc = 0x41

/-- Op `c` of the session on tile `t` begins, where it is the next one. -/
def Mach.sessionOp (m : Mach) (t c : Nat) : Mach :=
  match m.sessionOn t with
  | some s =>
    let ready := s.state = 1 && s.op < s.ops && !s.began && s.opc = c && s.rnd = 0 && s.outq.isEmpty && (s.role = 2 || 0 < s.round) &&
      (!s.draws || (m.mskUnits s.part).any (fun u => m.drbgOn (2 + u)))
    if ready then (let (m, s) := m.opBegin s; m.setSession s) else m
  | none => m

/-! ### Rounds come to an end (R356, R357) -/

/-- What a round's record brings to the op: values, products or ANDs. -/
def Session.result (s : Session) (theirs : List Nat) : List Nat :=
  let n := s.xs.length
  let ix := List.range n
  let g (l : List Nat) (i : Nat) : Nat := l.getD i 0
  if s.rnd = 2 then
    let d := addV (subV s.xs s.ta) (evens theirs)
    let e := addV (subV s.ys s.tb) (odds theirs)
    ix.map (fun i => mulShare s.role (g s.ta i) (g s.tb i) (g s.tc i) (g d i) (g e i))
  else if s.rnd = 3 then
    let bit (l : List Nat) (i : Nat) : Nat := b2n ((g l (i / 64)).testBit (i % 64))
    ix.map (fun i =>
      let d := (g s.xs i + g s.ta i + bit (evens theirs) i) % 2
      let e := (g s.ys i + g s.tb i + bit (odds theirs) i) % 2
      andShare s.role (g s.ta i) (g s.tb i) (g s.tc i) d e)
  else theirs

/-- A round is complete. -/
def Mach.roundDone (m : Mach) (s : Session) (theirs : List Nat) : Mach × Session :=
  if s.round = 0 then
    let s := { s with round := 1, rnd := 0, sentRec := false }
    if theirs = words (toBytes (sha256 (toNats s.prog))) then (m, s.enterOp) else (m, s.stop 2 0)
  else
    let r := s.result theirs
    m.opStep { s with round := s.round + 1, rnd := 0, sentRec := false, phase := s.phase + 1, xs := [], ys := [], ta := [], tb := [], tc := [] } r

/-- The header of the peer's record is read and acted on (R356). -/
def Mach.readRecord (m : Mach) (s : Session) : Mach × Session :=
  let va := s.d 0x30 8 + s.round % 2 * s.d 0x70 4
  let s := { s with recs := s.recs + 1 }
  match m.vread 5 s.part (va % 2 ^ 48) 64 with
  | (m, .error e) => (m, s.stop 7 e.dmaKind)
  | (m, .ok h) =>
    let r := fieldAt h 8 4
    if r < s.round then (m, s)
    else if r ≠ s.round || fieldAt h 0 8 ≠ s.d 8 8 || fieldAt h 12 1 ≠ 1 - s.role || fieldAt h 16 4 ≠ s.expect ||
        fieldAt h 13 3 ≠ 0 || fieldAt h 20 44 ≠ 0 then (m, s.stop 3 r)
    else
      match m.vread 5 s.part ((va + 64) % 2 ^ 48) (8 * s.expect) with
      | (m, .error e) => (m, s.stop 7 e.dmaKind)
      | (m, .ok b) => m.roundDone s (words b)

def execExchRecordRead (t : Fin 80) (s : State) : Host.Outcome State Fault Refusal :=
  s.onMach (fun m => match m.sessionOn t with
    | some x =>
      if x.state = 1 && x.role ≠ 2 && x.rnd ≠ 0 && x.sentRec && x.recs < m.ctr x.part x.exchCtr then
        (let (m, x) := m.readRecord x; m.setSession x)
      else m
    | none => m)

def execTripleBatchRead (t : Fin 80) (s : State) : Host.Outcome State Fault Refusal :=
  s.onMach (fun m => match m.sessionOn t with
    | some x =>
      if x.state = 1 && x.role ≠ 2 && 2 ≤ x.rnd && !x.sentRec && x.outq.isEmpty && x.batches < m.ctr x.part x.tripleCtr then
        (let (m, x) := m.readBatch x
         let (m, x) := m.tryRound x
         m.setSession x)
      else m
    | none => m)

/-- A write of a session has been acknowledged: more of it leaves, or a dealer's next batch begins. -/
def Mach.sessionAcked (m : Mach) (node : Nat × Nat × Nat) : Mach :=
  match m.loam.sessions.find? (fun s => s.node = node) with
  | none => m
  | some s =>
    if s.state ≠ 1 then m
    else
      let (m, s) := m.sessionPump s 64
      let idle := s.outq.isEmpty && !m.net.reqs.any (fun r => r.node = some node)
      if s.role = 2 && s.began && idle then (let (m, s) := m.genStep { s with phase := s.phase + 1 }; m.setSession s)
      else m.setSession s

/-- A write of a session was abandoned (R469): the exchange cannot go on. -/
def Mach.sessionFailed (m : Mach) (node : Nat × Nat × Nat) : Mach :=
  match m.loam.sessions.find? (fun s => s.node = node) with
  | none => m
  | some s => m.setSession { s.stop 3 0 with outq := [] }

/-! ### Start (R349, R351, R352) -/

/-- A session starts on the tiles of its node. -/
def Mach.sessionStart (m : Mach) (p g n : Nat) (b : List Byte) (tiles : List Nat) : Mach :=
  let va := fieldAt b (gArgOff b + 192 * nf b n 0x20 4) 8
  let (key, m) := m.drawBytes 32
  let m := tiles.foldl (fun a t => ((a.dropShards t).wr (A.TILE_RUN t) (BitVec.ofNat 32 (g * 2 ^ 16 + n))).setTileState t 2) m
  let s0 : Session := { node := nodeId p g n, desc := [], tiles := tiles, key := key }
  let add (m : Mach) (s : Session) : Mach := { m with loam := { m.loam with sessions := m.loam.sessions ++ [s] } }
  match m.vread 5 p (va % 2 ^ 48) 128 with
  | (m, .error e) => add m (s0.stop 7 e.dmaKind)
  | (m, .ok d) =>
    let s := { s0 with desc := d }
    if va % 64 ≠ 0 then add m (s.stop 1 0)
    else
      match m.sessionCheck s with
      | some o => add m (s.stop 1 o)
      | none =>
        let pv := s.d 0x40 8
        match m.vread 5 p (pv % 2 ^ 48) 16 with
        | (m, .error e) => add m (s.stop 7 e.dmaKind)
        | (m, .ok h) =>
          let n := fieldAt h 0 4
          if n = 0 || 4096 < n then add m (s.stop 2 0)
          else
            match m.vread 5 p (pv % 2 ^ 48) (16 + 32 * n) with
            | (m, .error e) => add m (s.stop 7 e.dmaKind)
            | (m, .ok pr) =>
              let s := { s with prog := pr }
              if s.role = 2 then add m { s with round := 0 }.enterOp
              else
                let (m, s) := m.sendRecord { s with rnd := 1, expect := 4 } (words (toBytes (sha256 (toNats pr))))
                add m s

/-- TILE_KERNEL (R379): a kernel on each tile, or a protocol session, which waits for its generator (R590). -/
def execTileKernel (p : Fin 16) (g : Fin 64) (n : BitVec 16) (s : State) : Host.Outcome State Fault Refusal :=
  s.onMach (fun m => m.begin p g n.toNat 1 (fun m' b y =>
    if nf b n.toNat 0x1C 1 = 0x80 then
      if m.drbgOn 0 then m'.sessionStart p g n.toNat b y.tiles else m
    else y.tiles.foldl (fun a t => a.kernelStart p g n.toNat b y.tiles t) m'))

/-! ### The op rows -/

def execA2s (t : Fin 80) (s : State) : Host.Outcome State Fault Refusal := s.onMach (fun m => m.sessionOp t 0x01)
def execS2c (t : Fin 80) (s : State) : Host.Outcome State Fault Refusal := s.onMach (fun m => m.sessionOp t 0x02)
def execW2s (t : Fin 80) (s : State) : Host.Outcome State Fault Refusal := s.onMach (fun m => m.sessionOp t 0x03)
def execS2w (t : Fin 80) (s : State) : Host.Outcome State Fault Refusal := s.onMach (fun m => m.sessionOp t 0x04)
def execShareAddSub (t : Fin 80) (s : State) : Host.Outcome State Fault Refusal := s.onMach (fun m => m.sessionOp t 0x10)
def execCmul (t : Fin 80) (s : State) : Host.Outcome State Fault Refusal := s.onMach (fun m => m.sessionOp t 0x11)
def execCadd (t : Fin 80) (s : State) : Host.Outcome State Fault Refusal := s.onMach (fun m => m.sessionOp t 0x12)
def execShareMul (t : Fin 80) (s : State) : Host.Outcome State Fault Refusal := s.onMach (fun m => m.sessionOp t 0x20)
def execSqsum (t : Fin 80) (s : State) : Host.Outcome State Fault Refusal := s.onMach (fun m => m.sessionOp t 0x21)
def execSign (t : Fin 80) (s : State) : Host.Outcome State Fault Refusal := s.onMach (fun m => m.sessionOp t 0x30)
def execLt (t : Fin 80) (s : State) : Host.Outcome State Fault Refusal := s.onMach (fun m => m.sessionOp t 0x31)
def execShareMax (t : Fin 80) (s : State) : Host.Outcome State Fault Refusal := s.onMach (fun m => m.sessionOp t 0x32)
def execRelu (t : Fin 80) (s : State) : Host.Outcome State Fault Refusal := s.onMach (fun m => m.sessionOp t 0x33)
def execThresh (t : Fin 80) (s : State) : Host.Outcome State Fault Refusal := s.onMach (fun m => m.sessionOp t 0x34)
def execClip (t : Fin 80) (s : State) : Host.Outcome State Fault Refusal := s.onMach (fun m => m.sessionOp t 0x35)
def execTopk (t : Fin 80) (s : State) : Host.Outcome State Fault Refusal := s.onMach (fun m => m.sessionOp t 0x36)
def execGenA (t : Fin 80) (s : State) : Host.Outcome State Fault Refusal := s.onMach (fun m => m.sessionOp t 0x40)
def execGenB (t : Fin 80) (s : State) : Host.Outcome State Fault Refusal := s.onMach (fun m => m.sessionOp t 0x41)

/-- PH_DEADLINE is reached before the end has been recorded (R372). -/
def execSessionDeadline (t : Fin 80) (s : State) : Host.Outcome State Fault Refusal :=
  s.onMach (fun m => match m.sessionOn t with
    | some x =>
      if x.state = 1 && !x.desc.isEmpty && x.d 0x68 8 ≠ 0 && x.d 0x68 8 ≤ m.phase && m.running then m.setSession (x.stop 5 0) else m
    | none => m)

/-- The session has stopped, or has run its last op (R370). -/
def execSessionEnd (t : Fin 80) (s : State) : Host.Outcome State Fault Refusal :=
  s.onMach (fun m => match m.sessionOn t with
    | some x =>
      if x.state = 3 then m.endSession x
      else if x.op = x.ops && x.ops ≠ 0 && (x.role = 2 || 0 < x.round) then m.endSession { x with state := 2 }
      else m
    | none => m)

end Sys2Proof.Machine
end

