-- ==== Sys2Proof/Machine/Keys.lean ====
section
/-! DEFINITION. The key store and Silt (R566 to R599). -/
namespace Sys2Proof.Machine

/-! ### Slots (R566 to R572) -/

def Mach.slot (m : Mach) (s : Nat) : KeySlot := tget m.keys s {}
def Mach.setSlot (m : Mach) (s : Nat) (k : KeySlot) : Mach := { m with keys := tset m.keys s k }

/-- A slot is zeroized and EMPTY (R578). -/
def Mach.eraseSlot (m : Mach) (s : Nat) : Mach := { m with keys := terase m.keys s }

/-- A tag failure: the slot is BAD and its value zeroized, and KEY_SLOT_BAD is raised (R571). -/
def Mach.badSlot (m : Mach) (s : Nat) : Mach :=
  let m := m.setSlot s { m.slot s with state := 2, value := [], tagOk := false }
  ((m.bump A.KEY_BADCNT).wr A.KEY_LAST_BAD (BitVec.ofNat 32 s)).raiseFault 0x78 0x131 s

/-- The store's content of slot `s` was upset, so that its tag no longer matches. -/
def Mach.upsetSlot (m : Mach) (s : Nat) : Mach :=
  if (m.slot s).state = 1 then m.setSlot s { m.slot s with tagOk := false } else m

/-- A check of a slot's tag: true where it holds (R571, R572). -/
def Mach.checkTag (m : Mach) (s : Nat) : Mach × Bool :=
  if (m.slot s).state = 1 && !(m.slot s).tagOk then (m.badSlot s, false) else (m, true)

/-- An engine loads a slot for partition `p`, by attribute `a` (R571). -/
def Mach.loadKey (m : Mach) (p s a : Nat) : Mach × Option (List Byte) :=
  let k := m.slot s
  if m.keyOwner s = some p && k.state = 1 && k.attr.testBit a && !m.flt.dead then
    match m.checkTag s with
    | (m, true) => (m, some k.value)
    | (m, false) => (m, none)
  else (m, none)

/-- A slot may be written: EMPTY or BAD (R569). -/
def Mach.slotFree (m : Mach) (s : Nat) : Bool := (m.slot s).state ≠ 1

/-- ATTR and LEN512 agree (R568). -/
def attrOk (attr : Nat) (len512 : Bool) : Bool :=
  (!len512 || attr.testBit 1 || attr.testBit 6) && (!attr.testBit 1 || len512)

/-- A link installation, an import or a protocol session of `p` names slot `s` (R555). -/
def Mach.linkNames (m : Mach) (p s : Nat) : Bool :=
  (m.bit (A.HRMP_LKEY_CUR p) 31 && m.fld (A.HRMP_LKEY_CUR p) 8 0 = s) ||
  (m.bit (A.HRMP_LKEY_ALT p) 31 && m.fld (A.HRMP_LKEY_ALT p) 8 0 = s)
def Mach.importNames (m : Mach) (p s : Nat) : Bool :=
  match tfind m.att.imports p with | some i => i.slot = s | none => false
def Mach.sessionNames (m : Mach) (p s : Nat) : Bool := m.loam.sessions.any (fun x => x.part = p && x.slot = s)

/-- An installation, an import or a session names slot `s`, which ERASE then leaves (R555). -/
def Mach.slotInUse (m : Mach) (p s : Nat) : Bool :=
  (m.bit (A.MMU_KEY p) 31 && m.fld (A.MMU_KEY p) 8 0 = s) || m.linkNames p s || m.importNames p s || m.sessionNames p s

/-- A pinned child's value (R573). -/
def deriveChild (parent label ctx : List Byte) (gen : Nat) (len512 : Bool) : List Byte :=
  toBytes (kmac256 (toNats parent) (toNats (label ++ ctx ++ leBytes 4 gen)) (if len512 then 64 else 32) (asciiNats "HFA9-KDF"))
where
  asciiNats (s : String) : Bytes := s.toList.map Char.toNat

/-- A scan of every LOADED slot at a frame boundary; `upset` are slots that no longer match their tags (R572). -/
def Mach.scanSlots (m : Mach) (upset : List Nat) : Mach :=
  let m := upset.foldl (fun a s => a.upsetSlot s) m
  (List.range 512).foldl (fun a s => (a.checkTag s).1) m

def execSlotTagScan (upset : List Nat) (s : State) : Host.Outcome State Fault Refusal :=
  s.onMach (fun m => if m.phs.frameEdge then m.scanSlots upset else m)

/-! ### The command window (R576, R581) -/

def Mach.keyLabel (m : Mach) : List Byte := (List.range 4).flatMap (fun i => leBytes 4 (m.rd (A.KEY_LABEL i)).toNat)
def Mach.keyCtx (m : Mach) : List Byte := (List.range 3).flatMap (fun i => leBytes 4 (m.rd (A.KEY_CTX i)).toNat)

def Mach.keyRes (m : Mach) (s code : Nat) : Mach := m.wr A.KEY_RES (BitVec.ofNat 32 (2 ^ 31 + s * 256 + code))

/-- GENERATE (R569, R581). -/
def Mach.keyGenerate (m : Mach) (s : Nat) : Mach × Nat :=
  let attr := m.fld A.KEY_ATTR 7 0
  let l := m.bit A.KEY_ATTR 8
  if m.keyOwner s ≠ some 0 then (m, 1)
  else if !m.slotFree s then (m, 2)
  else if attr.testBit 7 || !attrOk attr l then (m, 4)
  else if m.fld A.SILT_STS 2 0 ≠ 2 then (m, 5)
  else
    let (v, m) := m.drawBytes (if l then 64 else 32)
    (m.setSlot s { state := 1, len512 := l, attr := attr, value := v }, 0)

/-- DERIVE (R576). -/
def Mach.keyDerive (m : Mach) (s : Nat) : Mach × Nat :=
  let attr := m.fld A.KEY_ATTR 7 0
  let l := m.bit A.KEY_ATTR 8
  let ps := m.fld A.KEY_SEL 24 16
  let par := m.slot ps
  if m.keyOwner s ≠ some 0 then (m, 1)
  else if !m.slotFree s then (m, 2)
  else if par.state ≠ 1 || !par.attr.testBit 6 || m.keyOwner ps ≠ some 0 then (m, 3)
  else if attr &&& par.attr ≠ attr || !attrOk attr l then (m, 4)
  else
    let m := (m.checkTag ps).1
    if (m.slot ps).state ≠ 1 then (m, 3)
    else
      (m.setSlot s { state := 1, len512 := l, attr := attr, pinned := true, parent := ps, label := m.keyLabel, ctx := m.keyCtx,
                     value := deriveChild par.value m.keyLabel m.keyCtx 0 l }, 0)

/-- ERASE (R581). -/
def Mach.keyErase (m : Mach) (s : Nat) : Mach × Nat :=
  if m.keyOwner s ≠ some 0 then (m, 1)
  else if m.slotInUse 0 s then (m, 2)
  else
    let m := m.eraseSlot s
    ({ m with att := { m.att with export_ := m.att.export_.filter (fun e => e.2 ≠ s) } }, 0)

/-- A write of KEY_CMD (R581): it completes at once. -/
def Mach.writeKeyCmd (m : Mach) (v : Nat) : Mach :=
  let s := m.fld A.KEY_SEL 8 0
  let (m, code) := match v % 16 with
    | 1 => m.keyGenerate s
    | 2 => m.keyDerive s
    | 3 => m.keyErase s
    | 4 =>
      if m.keyOwner s ≠ some 0 then (m, 1)
      else match m.checkTag s with
        | (m, true) => (m, 0)
        | (m, false) => (m, 6)
    | _ => (m, 7)
  m.keyRes s code

/-- KEY_ROTATE of a comparator of partition `p` on slot `s` (R577): false where it fires without effect. -/
def Mach.keyRotate (m : Mach) (p s : Nat) : Mach × Bool :=
  let k := m.slot s
  let par := m.slot k.parent
  if m.keyOwner s ≠ some p then (m, false)
  else if m.bit (A.HRMP_LKEY_ALT p) 31 && !m.bit (A.HRMP_LKEY_ALT p) 30 && m.fld (A.HRMP_LKEY_ALT p) 8 0 = s then (m.swapKeys p, true)
  else if k.pinned && k.state = 1 && par.state = 1 && par.attr.testBit 6 then
    match m.checkTag s with
    | (m, false) => (m, false)
    | (m, true) =>
      match m.checkTag k.parent with
      | (m, false) => (m, false)
      | (m, true) =>
        if k.gen = 0xFFFFFFFF then (m, false)
        else (m.setSlot s { k with gen := k.gen + 1, value := deriveChild par.value k.label k.ctx (k.gen + 1) k.len512 }, true)
  else (m, false)

/-- KEY_SLOT_STS of slot `s` (R594), and KEY_STS (R593). -/
def Mach.slotSts (m : Mach) (s : Nat) : Nat :=
  let k := m.slot s
  let (o, p) := match m.keyOwner s with | some p => (true, p) | none => (false, 0)
  k.state * 2 ^ 30 + b2n k.len512 * 2 ^ 29 + b2n k.pinned * 2 ^ 28 + b2n o * 2 ^ 27 + p * 2 ^ 23 + k.attr % 256 * 256
def Mach.slotsLoaded (m : Mach) : Nat := (m.keys.filter (fun e => e.2.state = 1)).length

/-! ### Silt (R582 to R590) -/

def Mach.siltState (m : Mach) : Nat := m.fld A.SILT_STS 2 0
def Mach.setSiltState (m : Mach) (st : Nat) : Mach := m.put A.SILT_STS 2 0 st

/-- Every generator stops delivering (R586). -/
def Mach.stopDrbgs (m : Mach) : Mach := (List.range 38).foldl (fun a i => a.putBit (A.DRBG_STS i) 31 false) m

/-- The start-up tests pass, or a generator's known-answer test fails (R584). -/
def Mach.siltStarted (m : Mach) (kat : Option (Fin 38)) : Mach :=
  let m := m.putBit A.SILT_CTL 0 false
  match kat with
  | none => ({ m with silt := { m.silt with held := 0, pool := 0, next := 0, lfsr := 0 } }).setSiltState 1
  | some i => ((m.putBit (A.DRBG_STS i) 30 true).setSiltState 4).raiseFault 0x21 0x132 i

def execSiltStartupDone (kat : Option (Fin 38)) (s : State) : Host.Outcome State Fault Refusal :=
  s.onMach (fun m => if m.siltState = 0 then m.siltStarted kat else m)

/-- A cell fails a health test (R586). -/
def Mach.siltFail (m : Mach) (c : Nat) (apt : Bool) : Mach :=
  let m := (m.putBit A.SILT_STS (24 + c) true).putBit (A.SILT_CELL c) (if apt then 30 else 31) true
  let m := m.bumpF A.SILT_DISCARD 31 0 m.silt.held
  let m := { m with silt := { m.silt with held := 0, lfsr := 0 } }
  let m := m.bumpF A.SILT_FAILS 1 0 1
  let m := (m.stopDrbgs.putBit A.SILT_CTL 0 false).setSiltState (if m.fld A.SILT_FAILS 1 0 = 3 then 4 else 3)
  m.raiseFault 0x20 0x132 (c + 256 * b2n apt)

def execSiltHealthFail (c : Fin 8) (apt : Bool) (s : State) : Host.Outcome State Fault Refusal :=
  s.onMach (fun m => if m.siltState ≠ 4 && m.bit A.SILT_CFG c && !m.bit A.SILT_STS (24 + c) then m.siltFail c apt else m)

/-- One shift of the compressor with a raw bit (R585). -/
def lfsrShift (s : Nat) (b : Bool) : Nat :=
  let fb := xor (xor (s.testBit 255) (s.testBit 253)) (xor (s.testBit 250) (s.testBit 245))
  (2 * s + b2n (xor fb b)) % 2 ^ 256

/-- 1,024 raw bits later (R585): free bits, compressed; each cell's largest counts since the last read are free too. -/
def Mach.siltBlock (m : Mach) : Mach :=
  let (b, m) := m.drawBytes 128
  let l := b.foldl (fun s x => (List.range 8).foldl (fun s i => lfsrShift s (x.toNat.testBit i)) s) m.silt.lfsr
  let m := (List.range 8).foldl (fun a c =>
    if a.bit A.SILT_CFG c then
      let (v, a) := a.draw
      let w := v.toNat
      (a.put (A.SILT_CELL c) 25 16 (max (a.fld (A.SILT_CELL c) 25 16) (w % 829))).put (A.SILT_CELL c) 6 0
        (max (a.fld (A.SILT_CELL c) 6 0) (w / 1024 % 81))
    else a) m
  { m with silt := { m.silt with lfsr := l, held := m.silt.held + 1 } }

def execSiltBlockComplete (s : State) : Host.Outcome State Fault Refusal :=
  s.onMach (fun m => if m.siltState = 1 || m.siltState = 2 then m.siltBlock else m)

/-- A reseed is counted, of a cluster's instance in its own register too (R587, R254). -/
def Mach.countReseed (m : Mach) (i : Nat) : Mach :=
  let m := m.bumpF (A.DRBG_STS i) 15 0 1
  if 18 ≤ i && i ≤ 21 then m.bumpF (A.CLU_DRBG (i - 18)) 15 0 1 else m

/-- The next instance is seeded from two released blocks (R587). -/
def Mach.seedNext (m : Mach) : Mach :=
  let i := m.silt.next
  if m.siltState = 1 && 2 ≤ m.silt.pool then
    let old := m.silt.ever.contains i
    let m := { m with silt := { m.silt with pool := m.silt.pool - 2, next := i + 1, ever := if old then m.silt.ever else i :: m.silt.ever } }
    let m := if old then m.countReseed i else m.put (A.DRBG_STS i) 15 0 0
    let m := if m.silt.again then m else m.putBit (A.DRBG_STS i) 31 true
    let m := if i = 0 && !old then (let (d, m) := m.draw; { m with net := { m.net with hashSeed := d.toNat } }) else m
    if i = 37 then
      let m := if m.silt.again then (List.range 38).foldl (fun a j => a.putBit (A.DRBG_STS j) 31 true) m else m
      m.setSiltState 2
    else m
  else m

/-- The oldest held block is released to the generators (R585). -/
def Mach.siltRelease (m : Mach) : Mach :=
  let m := { m with silt := { m.silt with held := m.silt.held - 1, pool := m.silt.pool + 1 } }
  (m.bump A.SILT_BLOCKS).seedNext

def execSiltBlockRelease (s : State) : Host.Outcome State Fault Refusal :=
  s.onMach (fun m => if 0 < m.silt.held && (m.siltState = 1 || m.siltState = 2) then m.siltRelease else m)

/-- An instance moves to its second state, seeded from two blocks (R587, R254). -/
def Mach.drbgReseed (m : Mach) (i : Nat) : Mach :=
  ({ m with silt := { m.silt with pool := m.silt.pool - 2 } }).countReseed i

def execDrbgReseed (i : Fin 38) (s : State) : Host.Outcome State Fault Refusal :=
  s.onMach (fun m => if m.siltState = 2 && m.drbgOn i && 2 ≤ m.silt.pool then m.drbgReseed i else m)

/-- SILT_CTL.RESTART (R586). -/
def Mach.siltRestart (m : Mach) : Mach :=
  if m.siltState = 3 then
    let m := (List.range 8).foldl (fun a c => (a.putBit (A.SILT_CELL c) 31 false).putBit (A.SILT_CELL c) 30 false) m
    (({ m with silt := { m.silt with again := true } }).put A.SILT_STS 31 24 0).putBit A.SILT_CTL 0 true |>.setSiltState 0
  else m.putBit A.SILT_STS 7 true

def Mach.writeSiltCtl (m : Mach) (v : Nat) : Mach := if bitOf v 0 then m.siltRestart else m

/-- SILT_CFG (R596). -/
def Mach.writeSiltCfg (m : Mach) (v : Nat) : Mach :=
  let en := v % 256
  if m.siltState = 3 && 4 ≤ ((List.range 8).filter (fun c => en.testBit c)).length then m.wr A.SILT_CFG (BitVec.ofNat 32 en)
  else m.putBit A.SILT_STS 7 true

/-- A read of SILT_DATA (R589). -/
def Mach.siltData (m : Mach) (p : Nat) : Mach × Word :=
  if m.drbgOn (22 + p) then
    let (d, m) := m.draw
    (m.bump (A.SILT_DCNT p), BitVec.ofNat 32 d.toNat)
  else (m.putBit (A.SILT_DSTS p) 31 true, 0)

/-- A read of SILT_RAW (R597). -/
def Mach.siltRaw (m : Mach) : Mach × Word :=
  if m.lcs = 1 then (let (d, m) := m.draw; (m, BitVec.ofNat 32 d.toNat)) else (m, 0)

end Sys2Proof.Machine
end

