-- ==== Sys2Proof/Machine/Int.lean ====
section
/-! DEFINITION. The interrupt controller (R600 to R625). -/
namespace Sys2Proof.Machine

/-! ### Sources (R600, R601) -/

def Mach.srcState (m : Mach) (s : Nat) : Nat := m.fld (A.INT_SRC_STS s) 31 30
def Mach.srcCount (m : Mach) (s : Nat) : Nat := m.fld (A.INT_SRC_STS s) 7 0
def Mach.srcPrio (m : Mach) (s : Nat) : Nat := m.fld (A.INT_CFG s) 3 0
def Mach.srcMasked (m : Mach) (s : Nat) : Bool := m.bit (A.INT_CFG s) 31
def Mach.srcVec (m : Mach) (s : Nat) : Nat := m.fld (A.INT_CFG s) 29 24
/-- A class T source, or a class O source with TGT HOST (R611). -/
def Mach.srcHost (m : Mach) (s : Nat) : Bool := 512 ≤ s || m.bit (A.INT_CFG s) 30
/-- CORE and HOST describe the delivery in service, and read 0 outside it (DEDUCED, log 19). -/
def Mach.setSrc (m : Mach) (s st count : Nat) : Mach :=
  let m := (m.put (A.INT_SRC_STS s) 31 30 st).put (A.INT_SRC_STS s) 7 0 count
  if st = 2 || 512 ≤ s then m else m.put (A.INT_SRC_STS s) 29 26 0

/-- The owner of a class T source (R600, R617). -/
def Mach.srcOwner (m : Mach) (s : Nat) : Option Nat :=
  if s < 512 then some 0 else m.ownLane (A.INT_T_OWN ((s - 512) / 32)) ((s - 512) / 8 % 4)

def Mach.noteFirst (m : Mach) (s : Nat) : Mach := { m with irq := { m.irq with first := tset m.irq.first s m.phs.phase } }

/-- A firing (R601). -/
def Mach.fire (m : Mach) (s : Nat) : Mach :=
  let c := m.srcCount s
  match m.srcState s with
  | 0 => (m.setSrc s 1 0).noteFirst s
  | 1 => m.setSrc s 1 (min (c + 1) 255)
  | _ => (if c = 0 then m.noteFirst s else m).setSrc s 2 (min (c + 1) 255)

/-- A pending clear (R601). -/
def Mach.pendClear (m : Mach) (s : Nat) : Mach := if m.srcState s = 1 then m.setSrc s 0 0 else m

/-- A completion that takes effect (R601). -/
def Mach.complete (m : Mach) (s : Nat) : Mach :=
  if m.srcCount s = 0 then m.setSrc s 0 0 else m.setSrc s 1 (m.srcCount s - 1)

/-! ### Doorbell and software pending (R600, R615, R616) -/

def Mach.writeDoorbell (m : Mach) (v : Nat) : Mach := m.fire (v % 1024)
def Mach.writeSwPend (m : Mach) (v : Nat) : Mach := if v % 1024 < 512 then m.fire (v % 1024) else m
def Mach.writeOPclr (m : Mach) (v : Nat) : Mach := if v % 1024 < 512 then m.pendClear (v % 1024) else m

/-- The bits of word `k` that a writer may act on (R616). -/
def Mach.tBits (m : Mach) (who : Ident) (k : Nat) : List Nat :=
  (rangeFrom (512 + 32 * k) 32).filter (fun s => match who with
    | .kaolin => true
    | .part p => p = 0 || m.srcOwner s = some p.val)

/-- A write of T_MSET, T_MCLR or T_PCLR: `f` acts on each source whose bit is set and which the writer owns. -/
def Mach.writeTBits (m : Mach) (who : Ident) (k v : Nat) (f : Mach → Nat → Mach) : Mach :=
  (m.tBits who k).foldl (fun a s => if v.testBit (s - 512 - 32 * k) then f a s else a) m

def Mach.writeTMset (m : Mach) (who : Ident) (k v : Nat) : Mach := m.writeTBits who k v (fun a s => a.putBit (A.INT_CFG s) 31 true)
def Mach.writeTMclr (m : Mach) (who : Ident) (k v : Nat) : Mach := m.writeTBits who k v (fun a s => a.putBit (A.INT_CFG s) 31 false)
def Mach.writeTPclr (m : Mach) (who : Ident) (k v : Nat) : Mach := m.writeTBits who k v (fun a s => a.pendClear s)

/-- Reads of T_MASK, T_PEND and T_SVC (R624). -/
def Mach.tWord (m : Mach) (who : Ident) (k : Nat) (p : Nat → Bool) : Nat :=
  ((m.tBits who k).map (fun s => if p s then 2 ^ (s - 512 - 32 * k) else 0)).sum

/-! ### Ownership and configuration (R611, R617) -/

/-- Masks every source that `p` picks. -/
def Mach.maskSrcs (m : Mach) (p : Nat → Bool) : Mach :=
  ((List.range 1024).filter p).foldl (fun a s => a.putBit (A.INT_CFG s) 31 true) m

def Mach.srcActive (m : Mach) (s : Nat) : Bool := m.srcState s ≠ 0
def Mach.srcNames (m : Mach) (s v : Nat) : Bool := m.srcHost s && m.srcVec s = v

/-- A write of INT_HV_OWNn (R617). -/
def Mach.writeHvOwn (m : Mach) (n v : Nat) : Mach :=
  let a := A.INT_HV_OWN n
  let old := (m.rd a).toNat
  let changed := ((List.range 4).filter (fun k => ownByte old k ≠ ownByte v k)).map (4 * n + ·)
  if (List.range 1024).any (fun s => m.srcActive s && m.srcHost s && changed.contains (m.srcVec s)) then m.putBit A.INT_STS 31 true
  else
    (m.wr a (BitVec.ofNat 32 (((List.range 4).map (fun k => ownByte v k * 2 ^ (8 * k))).sum))).maskSrcs
      (fun s => m.srcHost s && changed.contains (m.srcVec s))

/-- A write of INT_T_OWNn (R617). -/
def Mach.writeTOwn (m : Mach) (n v : Nat) : Mach :=
  let a := A.INT_T_OWN n
  let old := (m.rd a).toNat
  let changed := ((List.range 4).filter (fun k => ownByte old k ≠ ownByte v k)).map (4 * n + ·)
  let mine (s : Nat) : Bool := 512 ≤ s && changed.contains ((s - 512) / 8)
  if (List.range 1024).any (fun s => mine s && m.srcActive s) then m.putBit A.INT_STS 31 true
  else (m.wr a (BitVec.ofNat 32 (((List.range 4).map (fun k => ownByte v k * 2 ^ (8 * k))).sum))).maskSrcs mine

/-- A write of INT_O_CFG (R611). -/
def Mach.writeOCfg (m : Mach) (s v : Nat) : Mach :=
  if bitOf v 30 && m.vecOwner (bitsOf v 29 24) ≠ some 0 then m.putBit A.INT_STS 30 true
  else m.wr (A.INT_CFG s) (BitVec.ofNat 32 (v &&& 0xFFFF000F))

/-- A write of INT_T_CFG (R611, R623): VEC alone is written; REJ is in the writer's window. -/
def Mach.writeTCfg (m : Mach) (who : Ident) (s v : Nat) : Mach :=
  if (m.srcOwner s).isSome && m.vecOwner (bitsOf v 29 24) = m.srcOwner s then m.put (A.INT_CFG s) 29 24 (bitsOf v 29 24)
  else
    match who with
    | .part p => m.putBit (A.INT_HSTS p.val) 31 true
    | .kaolin => m

/-- A write of INT_HDEST (R625). -/
def Mach.writeHdest (m : Mach) (p v : Nat) : Mach :=
  if m.queueOwner (bitsOf v 21 8) = some p then m.wr (A.INT_HDEST p) (BitVec.ofNat 32 (v &&& 0x803FFFFF))
  else m.putBit (A.INT_HSTS p) 31 true

/-! ### Control cores (R602 to R609) -/

/-- The core runs: started by a verified image, clocks on, not halted by isolation, not reloading (R604, R618, R634, R657,
R662). -/
def Mach.coreOn (m : Mach) (c : Nat) : Bool :=
  m.bit (A.CC_CTL c) 0 && m.opticsOn && m.fld (A.FLT_USTS (0x100 + c)) 31 29 < 3 && !m.sys.reload.contains c

def Mach.inExit (m : Mach) (c : Nat) : Bool := m.bit (A.CC_STS c) 6
/-- RP + 1, and 0 with no handler. -/
def Mach.coreRp (m : Mach) (c : Nat) : Nat := match tget m.irq.stack c [] with | [] => 0 | h :: _ => h.1 + 1

/-- Core `c` accepts source `s` (R604). -/
def Mach.accepts (m : Mach) (c s : Nat) : Bool :=
  let pr := m.srcPrio s
  m.bit (A.INT_CFG s) (16 + c) && m.coreOn c && m.fld (A.CC_THRESH c) 3 0 ≤ pr &&
    (if m.inExit c then m.coreRp c ≤ pr + 1 else m.coreRp c < pr + 1)

/-- Sources to route, by priority and number (R605). -/
def Mach.routable (m : Mach) : List Nat :=
  ((List.range 512).filter (fun s => m.srcState s = 1 && !m.srcMasked s && !m.srcHost s && !m.irq.transit.any (fun e => e.2 = s))).mergeSort
    (fun a b => m.srcPrio a > m.srcPrio b || (m.srcPrio a = m.srcPrio b && a ≤ b))

/-- The core that takes `s`, out of those that have taken none in this cycle (R605). -/
def Mach.pickCore (m : Mach) (busy : List Nat) (s : Nat) : Option Nat :=
  let ok (c : Nat) : Bool := m.accepts c s && !busy.contains c
  let low := ((List.range 8).filter ok).foldl (fun a c => min a (m.coreRp c)) 32
  m.rotated 8 (fun c => ok c && m.coreRp c = low)

/-- One cycle of routing (R605). -/
def Mach.routeSources (m : Mach) : Mach :=
  let r := m.routable.foldl (fun (st : List Nat × List (Nat × Nat)) s =>
    match m.pickCore st.1 s with
    | some c => (c :: st.1, st.2 ++ [(c, s)])
    | none => st) ([], [])
  { m with irq := { m.irq with transit := m.irq.transit ++ r.2 } }

def execIrqRoute (s : State) : Host.Outcome State Fault Refusal := s.onMach Mach.routeSources

/-- CC_STS and CC_CUR as the innermost handler makes them (R606, R608). -/
def Mach.showCore (m : Mach) (c : Nat) : Mach :=
  let st := tget m.irq.stack c []
  let m := m.put (A.CC_STS c) 20 16 st.length
  match st with
  | [] => (m.put (A.CC_STS c) 4 0 0x1F).wr (A.CC_CUR c) 0
  | h :: _ => (m.put (A.CC_STS c) 4 0 h.1).wr (A.CC_CUR c) (BitVec.ofNat 32 (2 ^ 31 + h.2.2 * 2 ^ 16 + h.2.1))

/-- Entry into the handler of `s`; a tail-chain where the core is in exit (R606, R608). -/
def Mach.enterHandler (m : Mach) (c s : Nat) : Mach :=
  let below := if m.inExit c then (tget m.irq.stack c []).tail else tget m.irq.stack c []
  let m := { m with irq := { m.irq with stack := tset m.irq.stack c ((m.srcPrio s, s, m.srcCount s) :: below) } }
  let m := ((m.setSrc s 2 0).put (A.INT_SRC_STS s) 29 27 c).putBit (A.INT_SRC_STS s) 26 false
  ((m.putBit (A.CC_STS c) 6 false).bump (A.CC_ENTRIES c)).showCore c

/-- A routed source reaches core `c` (R606 to R608). -/
def Mach.coreEntry (m : Mach) (c : Nat) : Mach :=
  match m.irq.transit.find? (fun e => e.1 = c) with
  | none => m
  | some e =>
    let pr := m.srcPrio e.2
    let drop : Mach := { m with irq := { m.irq with transit := m.irq.transit.erase e } }
    if m.srcState e.2 ≠ 1 then drop
    else if m.inExit c then (if m.coreRp c ≤ pr + 1 then drop.enterHandler c e.2 else m)
    else if m.coreRp c < pr + 1 then drop.enterHandler c e.2
    else drop

def execEntry (c : Fin 8) (s : State) : Host.Outcome State Fault Refusal := s.onMach (fun m => m.coreEntry c)

/-- A handler's return begins the exit; the exit's end restores the level below (R608). -/
def Mach.coreExit (m : Mach) (c : Nat) : Mach :=
  if (tget m.irq.stack c []).isEmpty then m
  else if m.inExit c then
    ({ (m.putBit (A.CC_STS c) 6 false) with irq := { m.irq with stack := tset m.irq.stack c (tget m.irq.stack c []).tail } }).showCore c
  else m.putBit (A.CC_STS c) 6 true

def execExit (c : Fin 8) (s : State) : Host.Outcome State Fault Refusal := s.onMach (fun m => m.coreExit c)

/-- Core `c` completes source `s` (R602). -/
def Mach.coreComplete (m : Mach) (c s : Nat) : Mach :=
  if m.srcState s = 2 && !m.bit (A.INT_SRC_STS s) 26 && m.fld (A.INT_SRC_STS s) 29 27 = c then m.complete s else m.bump A.INT_SPURIOUS_CMPL

def execCcCmpl (c : Fin 8) (src : BitVec 10) (s : State) : Host.Outcome State Fault Refusal :=
  s.onMach (fun m => m.coreComplete c src.toNat)

/-- A core is halted: what it has in service returns to PENDING with its COUNT (R634). -/
def Mach.haltCore (m : Mach) (c : Nat) : Mach :=
  let m := ((List.range 512).filter (fun s => m.srcState s = 2 && !m.bit (A.INT_SRC_STS s) 26 && m.fld (A.INT_SRC_STS s) 29 27 = c)).foldl
    (fun a s => a.setSrc s 1 (a.srcCount s)) m
  let q := { m.irq with stack := terase m.irq.stack c, transit := m.irq.transit.filter (fun e => e.1 ≠ c) }
  ({ (m.putBit (A.CC_STS c) 6 false) with irq := q }).showCore c

/-! ### Hosts (R602, R610 to R614) -/

/-- A completion written in the host window of `p` (R602). -/
def Mach.writeHcmpl (m : Mach) (p v : Nat) : Mach :=
  let s := v % 1024
  if m.srcState s = 2 && m.bit (A.INT_SRC_STS s) 26 && tfind m.irq.host s = some p then m.complete s
  else (m.bump A.INT_SPURIOUS_CMPL).bump (A.INT_HSPUR p)

/-- A host-target source that can be delivered, and the partition it goes to (R612). -/
def Mach.deliverTo (m : Mach) (s : Nat) : Option Nat :=
  if m.srcState s = 1 && !m.srcMasked s && m.srcHost s && m.vecOwner (m.srcVec s) = m.srcOwner s then m.srcOwner s else none

/-- Delivery to a host (R612). -/
def Mach.hostDeliver (m : Mach) (s p : Nat) : Mach :=
  let m' := m.hostItem p (m.srcVec s) s (m.srcCount s) (tget m.irq.first s 0).toNat
  let m' := ((m'.setSrc s 2 0).put (A.INT_SRC_STS s) 29 27 0).putBit (A.INT_SRC_STS s) 26 true
  { m' with irq := { m'.irq with host := tset m'.irq.host s p } }

def execHostDelivery (src : BitVec 10) (s : State) : Host.Outcome State Fault Refusal :=
  s.onMach (fun m => match m.deliverTo src.toNat with | some p => m.hostDeliver src.toNat p | none => m)

/-- The head item of the host event queue leaves, or is discarded (R613, R414). -/
def Mach.hostSend (m : Mach) (p : Nat) : Mach :=
  let b := hostBlock p
  let item := tget m.qitems (2 ^ 16 * b + m.fld (A.Q_PTR b) 15 0 % 64) []
  let m := { (m.qConsume b 1) with qitems := terase m.qitems (2 ^ 16 * b + m.fld (A.Q_PTR b) 15 0 % 64) }
  let hd := A.INT_HDEST p
  let q := m.fld hd 21 8
  match (if m.bit hd 31 && (p = 0 || m.hasKey p) then m.peer p (m.fld hd 7 0) else none) with
  | none => m.bump (A.INT_HLOST p)
  | some (ing, dst) =>
    let seq := tget m.net.seqCtr q 0
    let m := { m with net := { m.net with seqCtr := tset m.net.seqCtr q (seq + 1) } }
    -- a MARKER takes a SEQ of its own, so that no nonce is used twice (DEDUCED from R124, log 18)
    if item.length = 16 then
      let k := m.mkPkt 0x93 1 p dst q seq q (item.drop 4 |>.take 4)
      m.sendTo ing 0x7F (m.sealPkt 0x7F k)
    else
      let k := m.mkPkt 0x53 1 p dst q seq (item.getD 16 0).toNat (item.take 16)
      m.sendTo ing 0x32 (m.sealPkt 0x32 k)

def execHostEventSend (p : Fin 16) (s : State) : Host.Outcome State Fault Refusal :=
  s.onMach (fun m => if m.qOcc (hostBlock p) ≠ 0 then m.hostSend p else m)

/-- DESTROY of `p` (R617). -/
def Mach.intDestroy (m : Mach) (p : Nat) : Mach :=
  let mine := (rangeFrom 512 512).filter (fun s => m.srcOwner s = some p)
  let m := mine.foldl (fun a s => (a.setSrc s 0 0).wr (A.INT_CFG s) 0xC0000000) m
  let b := hostBlock p
  let n := m.qOcc b
  let m := (m.bumpF (A.Q_FLUSHED b) 31 0 n).put (A.Q_PTR b) 15 0 (m.fld (A.Q_PTR b) 31 16)
  let m := { m with net := { m.net with gaps := terase m.net.gaps b }, qitems := tdrop m.qitems (fun k => k / 2 ^ 16 = b) }
  m.wr (A.INT_HDEST p) 0

/-! ### The tile's doorbell, and wake (R232, R618) -/

/-- DOORBELL of a tile: a class T source of its partition (R232). -/
def Mach.tileDoorbell (m : Mach) (t : Nat) : Mach :=
  m.issue t [454] (fun m _ i =>
    let s := i.imm % 1024
    if 512 ≤ s && m.srcOwner s = some (m.tilePart t) then .seq (m.fire s) else .fault 15 s)

def execTileDoorbell (t : Fin 80) (s : State) : Host.Outcome State Fault Refusal := s.onMach (fun m => m.tileDoorbell t)

/-- The clocks restart, and each set latch fires its source (R618). -/
def Mach.wake (m : Mach) (l : Nat) : Mach :=
  let m := m.put A.PWR_STS 1 0 0
  let m := m.put A.INT_WAKE 3 0 (m.fld A.INT_WAKE 3 0 ||| l)
  ((List.range 4).filter (fun i => l.testBit i)).foldl (fun a i => a.fire i) m

def execWake (latches : BitVec 4) (s : State) : Host.Outcome State Fault Refusal :=
  s.onMach (fun m => if m.fld A.PWR_STS 1 0 = 1 && latches ≠ 0 then m.wake latches.toNat else m)

end Sys2Proof.Machine
end

