-- ==== Sys2Proof/Machine/Parts.lean ====
section
/-! DEFINITION. Partitions: what they hold, CREATE, GROW, DESTROY, quiesce, service events (R524 to R538). -/
namespace Sys2Proof.Machine

/-! ### What a partition holds (R526) -/

/-- State of partition `p` (R527): 0 FREE, 1 ACTIVE, 2 DESTROYING. -/
def Mach.partState (m : Mach) (p : Nat) : Nat := m.fld (partReg A.PART_STS p) 1 0
def Mach.setPartState (m : Mach) (p st : Nat) : Mach := m.put (partReg A.PART_STS p) 1 0 st

/-- Tiles, channels and ways that the registers of `p` ask for (R530). -/
def Mach.reqTiles (m : Mach) (p : Nat) : List Nat :=
  (List.range 80).filter (fun t => m.bit (partReg (A.PART_TILES0 + 4 * (t / 32)) p) (t % 32))
def Mach.reqChans (m : Mach) (p : Nat) : List Nat :=
  (List.range 64).filter (fun c => m.bit (partReg (A.PART_CHAN_LO + 4 * (c / 32)) p) (c % 32))
def Mach.reqWays (m : Mach) (p : Nat) : List Nat := (List.range 16).filter (fun w => m.bit (partReg A.PART_WAYS p) w)
/-- Base and count of the slot range asked for. -/
def Mach.reqKeys (m : Mach) (p : Nat) : Nat × Nat := (m.fld (partReg A.PART_KEYS p) 8 0, m.fld (partReg A.PART_KEYS p) 25 16)

/-- Tiles and channels that `p` really holds: lost tiles and retired channels are none of them (R530). -/
def Mach.tilesOf (m : Mach) (p : Nat) : List Nat := (List.range 80).filter (fun t => m.tileOwner t = some p && !m.bit (A.TILE_STS t) 31)
def Mach.liveChans (m : Mach) (p : Nat) : List Nat := (m.channelsOf p).filter (fun c => m.chState c ≠ 5)
def Mach.waysOf (m : Mach) (p : Nat) : List Nat := (List.range 16).filter (fun w => m.wayOwner w = some p)
def Mach.keysOf (m : Mach) (p : Nat) : Nat × Nat := tget m.own.keys p (0, 0)

/-- The numbers below `n` whose owner byte names `p`, in a bank of owner registers. -/
def Mach.lanesOf (m : Mach) (a : Nat → Nat) (n p : Nat) : List Nat :=
  (List.range n).filter (fun i => m.ownLane (a (i / 4)) (i % 4) = some p)

def Mach.queuesOf (m : Mach) (p : Nat) : List Nat := m.lanesOf A.HRMP_QOWN 256 p
def Mach.cbanksOf (m : Mach) (p : Nat) : List Nat := m.lanesOf A.HRMP_CBANK 256 p
def Mach.aggBlocksOf (m : Mach) (p : Nat) : List Nat := m.lanesOf A.AGG_OWN 256 p
def Mach.cmpsOf (m : Mach) (p : Nat) : List Nat := (List.range 64).filter (fun c => m.cmpOwner c = p)
def Mach.vecsOf (m : Mach) (p : Nat) : List Nat := (List.range 64).filter (fun v => m.vecOwner v = some p)
def Mach.tSrcsOf (m : Mach) (p : Nat) : List Nat := (rangeFrom 512 512).filter (fun s => m.srcOwner s = some p)
/-- Slots of every port's active table that `p` owns. -/
def Mach.slotsOf (m : Mach) (p : Nat) : List Nat :=
  (List.range 24).flatMap (fun j => ((List.range 256).filter (fun s => m.lane (A.SLOT_TABLE j s) (s % 4) = p)).map (256 * j + ·))
/-- Receive-buffer shares of `p` at every port (R434, R465). -/
def Mach.sharesOf (m : Mach) (p : Nat) : List Nat :=
  (List.range 16).map (fun n => m.fld (A.ETH_RXSHARE n p) 8 0) ++
    (List.range 8).flatMap (fun n => [(m.rd (A.BRL_SHARE0 n p)).toNat, (m.rd (A.BRL_SHARE1 n p)).toNat])

/-- All that R526 assigns to `p`. -/
def Mach.assignment (m : Mach) (p : Nat) : List (List Nat) :=
  [m.tilesOf p, m.liveChans p, m.waysOf p, [(m.keysOf p).1, (m.keysOf p).2], m.queuesOf p, m.cbanksOf p, m.aggBlocksOf p,
   m.mskUnits p, m.cmpsOf p, m.vecsOf p, m.tSrcsOf p, m.slotsOf p, m.sharesOf p]

/-- `f`, after which CFG_GEN counts 1 for every partition whose assignment it changed (R532). -/
def Mach.tracked (m : Mach) (f : Mach → Mach) : Mach :=
  let m' := f m
  (List.range 16).foldl (fun a p =>
    if m.assignment p = m'.assignment p then a else a.cfgGen p) m'

/-! ### Zeroizing and assigning (R529, R530) -/

/-- A tile's code memory, store, accumulators, Bronze and sequencer state are zeroized. -/
def Mach.zeroTile (m : Mach) (t : Nat) : Mach := { m with tiles := terase m.tiles t }

def Mach.assignTiles (m : Mach) (p : Nat) (ts : List Nat) : Mach :=
  ts.foldl (fun a t => { (a.zeroTile t) with own := { a.own with tiles := tset a.own.tiles t p } }) m
def Mach.assignWays (m : Mach) (p : Nat) (ws : List Nat) : Mach :=
  ws.foldl (fun a w => { a with own := { a.own with ways := tset a.own.ways w p } }) m
/-- Channels take `p` as their owner, in state `st`. -/
def Mach.assignChans (m : Mach) (p st : Nat) (cs : List Nat) : Mach :=
  cs.foldl (fun a c => ((a.put (A.MEM_CH_STS c) 31 28 p).putBit (A.MEM_CH_STS c) 27 true).setChState c st) m
/-- The slot range of `p`; the slots that it adds are zeroized. -/
def Mach.assignKeys (m : Mach) (p : Nat) (r : Nat × Nat) : Mach :=
  let old := m.keysOf p
  let add := (rangeFrom r.1 r.2).filter (fun s => !(old.1 ≤ s && s < old.1 + old.2))
  let m := add.foldl (fun a s => a.eraseSlot s) m
  { m with own := { m.own with keys := tset m.own.keys p r } }

/-- The first of the tiles that some partition holds or that is LOST (R528, step 5). -/
def Mach.badTile (m : Mach) (ts : List Nat) : Option Nat := ts.find? (fun t => (m.tileOwner t).isSome || m.bit (A.TILE_STS t) 31)
def Mach.badChan (m : Mach) (cs : List Nat) : Option Nat := cs.find? (fun c => m.chState c ≠ 0)
def Mach.badWay (m : Mach) (ws : List Nat) : Option Nat := ws.find? (fun w => (m.wayOwner w).isSome)
/-- Step 8 of R528: the offending slot of a bad range. -/
def Mach.badKeys (m : Mach) (p : Nat) (r : Nat × Nat) : Option Nat :=
  if r.2 = 0 || 512 < r.1 + r.2 then some r.1
  else (rangeFrom r.1 r.2).find? (fun s => match m.keyOwner s with | some q => q ≠ p | none => false)

/-- Steps 5 to 8: CODE and DETAIL of the first failure. -/
def Mach.resCheck (m : Mach) (p : Nat) (ts cs ws : List Nat) (ks : Option (Nat × Nat)) : Option (Nat × Nat) :=
  match m.badTile ts, m.badChan cs, m.badWay ws, ks.bind (m.badKeys p) with
  | some t, _, _, _ => some (3, t)
  | _, some c, _, _ => some (4, c)
  | _, _, some w, _ => some (5, w)
  | _, _, _, some k => some (6, k)
  | _, _, _, _ => none

/-- ATT_RES after a command for `p` (R562). -/
def Mach.attRes (m : Mach) (p code detail : Nat) (done : Bool) : Mach :=
  m.wr A.ATT_RES (BitVec.ofNat 32 (b2n done * 2 ^ 31 + p * 2 ^ 24 + detail % 65536 * 256 + code))

/-- PART_OWNER of `p`, 48 bytes. -/
def Mach.ownerDigest (m : Mach) (p : Nat) : List Byte :=
  (List.range 12).flatMap (fun i => leBytes 4 (m.rd (partReg (A.PART_OWNER i) p)).toNat)

/-- The first failure of CREATE (R528). -/
def Mach.createCheck (m : Mach) (p : Nat) : Option (Nat × Nat) :=
  if p = 0 then some (9, 0)
  else if !m.bit A.GLB_STS 0 then some (2, 0)
  else if m.partState p ≠ 0 then some (1, 0)
  else if (m.reqTiles p).isEmpty || (m.reqChans p).isEmpty || (m.reqWays p).isEmpty then some (8, 0)
  else
    match m.resCheck p (m.reqTiles p) (m.reqChans p) (m.reqWays p) (some (m.reqKeys p)) with
    | some e => some e
    | none => if (m.ownerDigest p).all (· = 0) then some (7, 0) else none

/-- CREATE (R528, R529): the zeroizing begins, and PARTITION_ACTIVE ends it. -/
def Mach.create (m : Mach) (p : Nat) : Mach :=
  match m.createCheck p with
  | some (c, d) => m.attRes p c d true
  | none =>
    let m := m.tracked (fun a =>
      ((((a.assignTiles p (m.reqTiles p)).assignChans p 1 (m.reqChans p)).assignWays p (m.reqWays p)).assignKeys p (m.reqKeys p)))
    let m := m.put (A.LOAM_MODE p) 1 0 1
    let m := { m with ctrs := tdrop m.ctrs (fun k => k / 4096 = p) }
    let m := { m with regs := { m.regs with act := tdrop m.regs.act (fun k => k % 2 ^ 24 = A.LOAM_QB p) } }
    let m := m.wr (A.SESS_OPENS p) 0
    ({ m with att := { m.att with creating := p :: m.att.creating } }).attRes p 0 0 false

/-- The zeroizing of a created partition has ended (R529). -/
def Mach.partActive (m : Mach) (p : Nat) : Mach :=
  let m := { m with att := { m.att with creating := m.att.creating.filter (· ≠ p) } }
  (m.setPartState p 1).attRes p 0 0 true

def execPartitionActive (p : Fin 16) (s : State) : Host.Outcome State Fault Refusal :=
  s.onMach (fun m => if m.att.creating.contains p.val then m.partActive p else m)

/-- `small` lies within `big`. -/
def subset (small big : List Nat) : Bool := small.all (fun x => big.contains x)

/-- GROW (R530). -/
def Mach.grow (m : Mach) (p : Nat) : Mach :=
  let k := m.keysOf p
  let r := m.reqKeys p
  let ts := (m.reqTiles p).filter (fun t => !(m.tilesOf p).contains t)
  let cs := (m.reqChans p).filter (fun c => !(m.liveChans p).contains c)
  let ws := (m.reqWays p).filter (fun w => !(m.waysOf p).contains w)
  if m.partState p ≠ 1 then m.attRes p 1 0 true
  else if !subset (m.tilesOf p) (m.reqTiles p) || !subset (m.liveChans p) (m.reqChans p) || !subset (m.waysOf p) (m.reqWays p) ||
      (k.2 ≠ 0 && !(r.1 ≤ k.1 && k.1 + k.2 ≤ r.1 + r.2)) then m.attRes p 0x0B 0 true
  else
    match m.resCheck p ts cs ws (if r = k then none else if k.2 = 0 && r.2 = 0 then none else some r) with
    | some (c, d) => m.attRes p c d true
    | none =>
      let st := if m.bit (A.MMU_KEY p) 31 then 2 else 1
      let m := m.tracked (fun a =>
        let a := ((a.assignTiles p ts).assignChans p st cs).assignWays p ws
        if r.2 = 0 then a else a.assignKeys p r)
      m.attRes p 0 0 true

/-! ### Quiesce (R635) -/

/-- A running import stops with code MEM_ERR (R531, R635). -/
def Mach.stopImport (m : Mach) (p code : Nat) : Mach :=
  match tfind m.att.imports p with
  | none => m
  | some i =>
    let m := { m with att := { m.att with imports := terase m.att.imports p } }
    ((m.vwrite 3 p i.status (leBytes 1 3 ++ leBytes 1 code ++ leBytes 6 0 ++ leBytes 8 m.phase)).1).ctrAdd p i.ctr 1

/-- The work of `p` is aborted, as a quiesce does (R635). -/
def Mach.abortWork (m : Mach) (p : Nat) : Mach := (((m.quiesceLoam p).quiesceAgg p).killSessions p).stopImport p 4

/-- Partition `p` is quiesced (R635). -/
def Mach.quiesce (m : Mach) (p : Nat) : Mach := ((m.abortWork p).putBit A.FLT_QUIESCE p true).markGone (0x1000 + p)

/-! ### Sessions close (R551) -/

/-- The session of `p` ends with a cause; its keys are zeroized (R551). -/
def Mach.closeSess (m : Mach) (p cause : Nat) : Mach :=
  let m := { m with att := { m.att with sess := terase m.att.sess p } }
  if m.fld (A.SESS_STS p) 1 0 = 0 then m
  else ((m.put (A.SESS_STS p) 23 16 cause).put (A.SESS_STS p) 1 0 0).wr (A.SESS_CTR p) 0

/-- Pending attestation, session or authentication work of `p` is discarded. -/
def Mach.dropWork (m : Mach) (p : Nat) : Mach := { m with att := { m.att with work := terase m.att.work p } }

/-! ### DESTROY (R531) -/

/-- Steps 1 to 3 of R531. -/
def Mach.destroyStart (m : Mach) (p : Nat) : Mach :=
  let m := ((m.setPartState p 2).putBit (A.HRMP_LKEY_CUR p) 31 false).putBit (A.HRMP_LKEY_ALT p) 31 false
  let m := { m with net := { m.net with grace := terase m.net.grace p } }
  (((m.abortWork p).closeSess p 6).dropWork p).attRes p 0 0 false

def Mach.destroy (m : Mach) (p : Nat) : Mach :=
  if p = 0 then m.attRes p 9 0 true
  else if m.partState p ≠ 1 then m.attRes p 1 0 true
  else m.destroyStart p

/-- Steps 2 and 3 have ended: no graph still drains, no context still drains, no session or transfer is left. -/
def Mach.drained (m : Mach) (p : Nat) : Bool :=
  (m.handles p).all (fun g => 4 ≤ m.grState p g && m.grState p g ≤ 6) &&
  !m.agg.any (fun e => e.2.part = p && m.bit (A.CTX_STS e.1) 31) &&
  !m.loam.sessions.any (fun s => s.part = p) &&
  !m.net.reqs.any (fun r => match r.node with | some (q, _, _) => q = p | none => false)

/-- Owner bytes of a bank of `n` owner registers that name `p` become "no owner" (R531). -/
def Mach.clearLanes (m : Mach) (a : Nat → Nat) (n p : Nat) : Mach :=
  (List.range n).foldl (fun a' i =>
    if a'.ownLane (a (i / 4)) (i % 4) = some p then a'.put (a (i / 4)) (8 * (i % 4) + 7) (8 * (i % 4)) 0 else a') m

/-- Every slot of every port's table that `p` owns becomes shared, in its active and its shadow value (R531). -/
def Mach.shareSlots (m : Mach) (p : Nat) : Mach :=
  let fixWord (w : Word) : Word := BitVec.ofNat 32 (leNat ((leBytes 4 w.toNat).map (fun b => if b.toNat = p then 0x10 else b)))
  (List.range 24).foldl (fun a j => (List.range 64).foldl (fun a i =>
    let k := A.SLOT_TABLE j (4 * i)
    let a := if fixWord (a.rd k) = a.rd k then a else a.wr k (fixWord (a.rd k))
    match tfind a.regs.shadow k with
    | some w => if fixWord w = w then a else { a with regs := { a.regs with shadow := tset a.regs.shadow k (fixWord w) } }
    | none => a) a) m

/-- Step 4 of R531: what the partition held is zeroized and its channels leave it. -/
def Mach.releaseAll (m : Mach) (p : Nat) : Mach :=
  let m := (m.handles p).foldl (fun a g => a.freeGraph p g) m
  let m := ((List.range 80).filter (fun t => m.tileOwner t = some p)).foldl (fun a t => (a.zeroTile t).setTileState t 0) m
  let m := (rangeFrom (m.keysOf p).1 (m.keysOf p).2).foldl (fun a s => a.eraseSlot s) m
  let m := if m.snapLen p = 0 then m
    else { m with mem := { m.mem with cells := memZero m.mem.cells (m.snapBase p) (m.snapLen p) } }
  let m := (m.channelsOf p).foldl (fun a c =>
    let keep := a.chState c = 4 || a.chState c = 5
    let a := if a.chState c = 4 then { (a.putBit (A.MEM_CH_CTL c) 0 false) with mem := { a.mem with mig := terase a.mem.mig c } } else a
    ((a.put (A.MEM_CH_STS c) 31 27 0).setChState c (if keep then 5 else 0))) m
  let m := m.dropCache p
  let m := (m.wr (A.MMU_KEY p) 0).wr64 (A.LOAM_SNAP_BASE_LO p) 0 |>.wr (A.LOAM_SNAP_SIZE p) 0
  { m with own := { tiles := m.own.tiles.filter (fun e => e.2 ≠ p), ways := m.own.ways.filter (fun e => e.2 ≠ p), keys := terase m.own.keys p },
           att := { m.att with export_ := terase m.att.export_ p, dumpSeq := terase m.att.dumpSeq p } }

/-- Step 5 of R531: ownership entries, shares and bindings that name `p` go. -/
def Mach.clearOwner (m : Mach) (p : Nat) : Mach :=
  let blocks := m.queuesOf p
  let m := m.dropWins (fun e => e.part = p || blocks.contains (e.queue / 64))
  let m := (m.clearLanes A.HRMP_QOWN 256 p).clearLanes A.HRMP_CBANK 256 p
  let mine := (m.agg.filter (fun e => e.2.part = p)).map (·.1)
  let m := mine.foldl (fun a c => a.clearCtxRegs c) m
  let m := { m with agg := m.agg.filter (fun e => e.2.part ≠ p) }
  let m := ((m.clearLanes A.AGG_OWN 256 p).clearLanes A.MSK_OWN 16 p)
  let m := (m.cmpsOf p).foldl (fun a c => (a.put (A.PHS_CMP_OWN (c / 8)) (4 * (c % 8) + 3) (4 * (c % 8)) 0).putBit (A.CMP_CTL c) 31 false) m
  let m := (List.range 16).foldl (fun a n => a.wr (A.ETH_RXSHARE n p) 0) m
  let m := (List.range 8).foldl (fun a n => (a.wr (A.BRL_SHARE0 n p) 0).wr (A.BRL_SHARE1 n p) 0) m
  let m := m.shareSlots p
  let m := (m.intDestroy p).clearLanes A.INT_T_OWN 64 p |>.clearLanes A.INT_HV_OWN 64 p
  let m := { m with regs := { m.regs with act := tdrop m.regs.act (fun k => k % 2 ^ 24 = A.LOAM_QB p) },
                    net := { m.net with msgs := m.net.msgs.filter (fun o => o.part ≠ p), wait := m.net.wait.filter (fun w => w.2.pkt.part.val ≠ p) } }
  let m := m.wr (A.HRMP_RXWAY p) 0
  [A.PART_TILES0, A.PART_TILES1, A.PART_TILES2, A.PART_CHAN_LO, A.PART_CHAN_HI, A.PART_WAYS, A.PART_KEYS].foldl
    (fun a r => a.wr (partReg r p) 0) m

/-- Steps 4 to 6 of R531. -/
def Mach.destroyEnd (m : Mach) (p : Nat) : Mach :=
  ((m.tracked (fun a => (a.releaseAll p).clearOwner p)).setPartState p 0).attRes p 0 0 true

def execDestroyDrained (p : Fin 16) (s : State) : Host.Outcome State Fault Refusal :=
  s.onMach (fun m => if m.partState p = 2 && m.drained p then m.destroyEnd p else m)

/-- A write of ATT_CMD (R562): it has no effect while DONE is 0. -/
def Mach.writeAttCmd (m : Mach) (v : Nat) : Mach :=
  let p := m.fld A.ATT_SEL 3 0
  if !m.bit A.ATT_RES 31 then m
  else
    match v % 16 with
    | 1 => m.create p
    | 2 => m.grow p
    | 3 => m.destroy p
    | _ => m.attRes p 0x0A 0 true

/-! ### Service events (R538) -/

/-- Each ACTIVE tenant with PART_SVC.VALID takes one notice at the slot boundary. -/
def Mach.serviceEvent (m : Mach) : Mach :=
  let m := { m with att := { m.att with service := false } }
  ((rangeFrom 1 15).filter (fun p => m.partState p = 1 && m.bit (partReg A.PART_SVC p) 7)).foldl (fun a p =>
    (a.hostItem p (a.fld (partReg A.PART_SVC p) 5 0) 0xFFFF 0 a.phase).bump A.ATT_SVC_CNT) m

def execServiceEvent (s : State) : Host.Outcome State Fault Refusal :=
  s.onMach (fun m => if m.att.service && m.phs.slotEdge then m.serviceEvent else m)

end Sys2Proof.Machine
end

