-- ==== Sys2Proof/Machine/Att.lean ====
section
/-! DEFINITION. Attestation, sessions, key delivery and weight import (R545 to R559). -/
namespace Sys2Proof.Machine

/-! ### The report (R547) -/

/-- A set of numbers below 8n as n bytes, bit i for number i. -/
def bitSet (n : Nat) (l : List Nat) : List Byte := leBytes n (l.foldl (fun a i => a ||| 2 ^ i) 0)

def sha384' (b : List Byte) : List Byte := toBytes (sha384 (toNats b))
def ascii (s : String) : List Byte := s.toList.map (fun c => BitVec.ofNat 8 c.toNat)

/-- Report bytes 0x230 to 0x32F for partition `p`. -/
def Mach.configBytes (m : Mach) (p : Nat) : List Byte :=
  m.ownerDigest p ++ bitSet 10 (m.tilesOf p) ++ leBytes 6 0 ++ bitSet 8 (m.liveChans p) ++ bitSet 2 (m.waysOf p) ++
    leBytes 2 (m.keysOf p).1 ++ leBytes 2 (m.keysOf p).2 ++ bitSet 2 (m.mskUnits p) ++ bitSet 32 (m.queuesOf p) ++
    bitSet 32 (m.aggBlocksOf p) ++ bitSet 32 (m.cbanksOf p) ++ bitSet 8 (m.cmpsOf p) ++ bitSet 8 (m.vecsOf p) ++
    bitSet 64 ((m.tSrcsOf p).map (· - 512))

/-- TIME_DIGEST: the 24 active slot tables, then every ETH_RXSHARE and BRL_SHARE register. -/
def Mach.timeDigest (m : Mach) : List Byte :=
  sha384' ((List.range 24).flatMap (fun j => (List.range 64).flatMap (fun i => leBytes 4 (m.rd (A.SLOT_TABLE j (4 * i))).toNat)) ++
    (List.range 16).flatMap (fun n => (List.range 16).flatMap (fun p => leBytes 4 (m.rd (A.ETH_RXSHARE n p)).toNat)) ++
    (List.range 8).flatMap (fun n => (List.range 16).flatMap (fun p => leBytes 4 (m.rd (A.BRL_SHARE0 n p)).toNat) ++
      (List.range 16).flatMap (fun p => leBytes 4 (m.rd (A.BRL_SHARE1 n p)).toNat)))

/-- The attestation secret: the fused root where it is whole (R579, R580). -/
def Mach.rootBytes (m : Mach) : List Byte := m.sys.root.getD []

/-- The FLAGS of the report. -/
def Mach.reportFlags (m : Mach) (p : Nat) : Nat :=
  b2n (m.bit (A.MMU_KEY p) 31) + 2 * b2n (m.bit (A.MMU_KEY p) 30) + 4 * b2n (m.bit (A.HRMP_LKEY_CUR p) 31) +
    8 * b2n (tfind m.att.export_ p).isSome + 16 * b2n (m.bit A.PWR_CFG 31)

/-- The first part of a report: who is asked, and the identity of the device. -/
def Mach.reportHead (m : Mach) (p : Nat) (nonce : List Byte) : List Byte :=
  leBytes 4 0x41394648 ++ leBytes 2 1 ++ leBytes 1 m.lcs ++ leBytes 1 p ++ leBytes 8 m.phase ++ slice nonce 0 64 ++
    (List.range 3).flatMap (fun i => leBytes 4 (m.rd (A.GLB_SERIAL i)).toNat) ++
    leBytes 4 (m.fld (partReg A.PART_STS p) 31 16)

/-- The dies and stacks of a report, and its reserved word. -/
def Mach.reportParts (m : Mach) : List Byte :=
  (List.range 9).flatMap (fun d => leBytes 4 (m.rd (A.DIE_ID_LO d)).toNat ++ leBytes 4 (m.rd (A.DIE_ID_HI d)).toNat) ++
    leBytes 8 0 ++ (List.range 8).flatMap (fun s => (List.range 4).flatMap (fun i => leBytes 4 (m.rd (A.STACK_ID s i)).toNat))

/-- The measurements and firmware state of a report. -/
def Mach.reportMeas (m : Mach) : List Byte :=
  (List.range 5).flatMap (fun i => slice (m.sys.meas.getD i []) 0 48) ++
    leBytes 4 (m.fld A.LC_SVN 31 16) ++ leBytes 1 (m.fld A.LC_STS 8 8) ++ leBytes 11 0

/-- The configuration, time, flags and keys of a report. -/
def Mach.reportTail (m : Mach) (p : Nat) : List Byte :=
  m.configBytes p ++ m.timeDigest ++
    leBytes 8 (m.reportFlags p) ++ leBytes 4 (m.rd (A.SESS_OPENS p)).toNat ++ leBytes 4 0 ++
    sha384' ((List.range 16).flatMap m.configBytes) ++
    sha384' (Config.mldsaPub m.rootBytes) ++ sha384' (Config.ecdsaPub m.rootBytes)

/-- The attestation report of partition `p` (R547), 1,024 bytes. -/
def Mach.report (m : Mach) (p : Nat) (nonce : List Byte) : List Byte :=
  m.reportHead p nonce ++ m.reportParts ++ m.reportMeas ++ m.reportTail p

/-! ### Requests that wait for a release edge (R546) -/

/-- RAW, RMA, SCRAPPED, and a module without a usable root, answer NAK KEY (R545, R580). -/
def Mach.canAttest (m : Mach) : Bool := (1 ≤ m.lcs && m.lcs ≤ 3) && m.sys.root.isSome

/-- The request is accepted, or why not: NAK KEY, NAK DENIED or NAK RNR (R545, R546). -/
def Mach.attGate (m : Mach) (p : Nat) : Option Ans :=
  if !m.canAttest then some (.nak 0x14 0)
  else if m.partState p ≠ 1 then some (.nak 0xC 0)
  else if (tfind m.att.work p).isSome then some (.nak 7 1)
  else none

/-- Work is accepted for the fourth slot boundary after this edge (R546). -/
def Mach.addWork (m : Mach) (kind p : Nat) (req : HeldPkt) (data : List Byte) (ok : Bool) : Mach :=
  let w : KaolinWork := { kind := kind, req := req, slot := m.sys.slots + 4, data := data, phase := m.phase, ok := ok }
  { m with att := { m.att with work := tset m.att.work p w } }

/-- ATTEST_REQ at step 12 (R546). -/
def Mach.attestReq (m : Mach) (ing : Ingress) (k : Pkt) : Mach × Ans :=
  let p := k.part.val
  match m.attGate p with
  | some a => (m, a)
  | none => (m.addWork 0 p { opc := 0x51, pkt := k, ing := ing } (m.report p k.payload) true, .later)

/-- SESSION_INIT at step 12 (R549, R556). -/
def Mach.sessionInit (m : Mach) (ing : Ingress) (k : Pkt) : Mach × Ans :=
  let p := k.part.val
  let req : HeldPkt := { opc := 0x53, pkt := k, ing := ing }
  match m.attGate p with
  | some a => (m, a)
  | none =>
    match tfind m.att.sess p with
    | some x =>
      if x.init = k.payload then (m.addWork 3 p req [] true, .later)
      else if Config.p384Valid (slice k.payload 32 97) && Config.mlkemValid (slice k.payload 144 1568) then
        (m.addWork 1 p req (m.report p []) true, .later)
      else (m, .nak 0xC 0)
    | none =>
      if Config.p384Valid (slice k.payload 32 97) && Config.mlkemValid (slice k.payload 144 1568) then
        (m.addWork 1 p req (m.report p []) true, .later)
      else (m, .nak 0xC 0)

/-- The work of `p`, if it is of this kind and its release edge has come. -/
def Mach.dueWork (m : Mach) (p : Nat) (kinds : List Nat) : Option KaolinWork :=
  match tfind m.att.work p with
  | some w => if kinds.contains w.kind && m.phs.slotEdge && w.slot ≤ m.sys.slots then some w else none
  | none => none

/-- ATTEST_RSP (R548). -/
def Mach.attestRelease (m : Mach) (p : Nat) (w : KaolinWork) : Mach :=
  let (d, m) := m.draw
  let sigE := slice (Config.ecdsaSign m.rootBytes w.data d.toNat) 0 96
  let sigM := slice (Config.mldsaSign m.rootBytes w.data (ascii "HFA9-ATTEST") d.toNat) 0 4627
  let m := (m.dropWork p).bump A.ATT_SIGNED
  (m.mark w.req.pkt).respondWith true w.req.ing w.req.pkt 0x52 (slice (w.data ++ sigE ++ sigM) 0 5760)

def execAttestRelease (p : Fin 16) (s : State) : Host.Outcome State Fault Refusal :=
  s.onMach (fun m => match m.dueWork p [0] with | some w => m.attestRelease p w | none => m)

/-- SESSION_RSP and the session it opens (R550, R551): an ACTIVE one closes, a PENDING one is replaced. -/
def Mach.sessionOpen (m : Mach) (p : Nat) (w : KaolinWork) : Mach :=
  let (d, m) := m.draw
  let (id, m) := m.drawBytes 8
  let (e, m) := m.draw
  let init := w.req.pkt.payload
  let ek := slice init 144 1568
  let pre := id ++ leBytes 8 w.phase ++ sha384' (slice w.data 0x130 0x100) ++ sha384' (slice w.data 0x230 0x140) ++
    slice (Config.p384Pub d.toNat) 0 97 ++ leBytes 15 0 ++ slice (Config.mlkemCt ek d.toNat) 0 1568
  let th := sha384' (init ++ pre)
  let z := slice (Config.mlkemSecret ek d.toNat) 0 32 ++ slice (Config.p384Shared d.toNat (slice init 32 97)) 0 48
  let key := toBytes (kmac256 (toNats z) (toNats th) 64 (toNats (ascii "HFA9-SESSION")))
  let conf := toBytes (kmac256 (toNats (key.drop 32)) (toNats th) 32 (toNats (ascii "HFA9-CONFIRM")))
  let th2 := sha384' (init ++ pre ++ conf)
  let rsp := slice (pre ++ conf ++ slice (Config.ecdsaSign m.rootBytes th2 e.toNat) 0 96 ++
    slice (Config.mldsaSign m.rootBytes th2 (ascii "HFA9-SESSION") e.toNat) 0 4627) 0 6560
  let m := (if m.fld (A.SESS_STS p) 1 0 = 2 then m.closeSess p 2 else m).dropWork p
  let x : TenSess := { id := id, kT2d := key.take 32, kConf := key.drop 32, th2 := th2, init := init, rsp := rsp, since := m.sys.slots }
  let m := { m with att := { m.att with sess := tset m.att.sess p x } }
  let m := ((m.put (A.SESS_STS p) 1 0 1).put (A.SESS_STS p) 15 8 0).wr (A.SESS_CTR p) 0
  (((m.bump (A.SESS_OPENS p)).bump A.ATT_SIGNED).mark w.req.pkt).respondWith true w.req.ing w.req.pkt 0x54 rsp

/-- A session response sent again (R556). -/
def Mach.sessionAgain (m : Mach) (p : Nat) (w : KaolinWork) : Mach :=
  let rsp := match tfind m.att.sess p with | some x => x.rsp | none => []
  ((m.dropWork p).mark w.req.pkt).respondWith true w.req.ing w.req.pkt 0x54 rsp

def execSessionRelease (p : Fin 16) (s : State) : Host.Outcome State Fault Refusal :=
  s.onMach (fun m => match m.dueWork p [1, 3] with
    | some w => if w.kind = 1 then m.sessionOpen p w else m.sessionAgain p w
    | none => m)

/-- AUTH ends (R551): ACTIVE, or IDLE with cause AUTH. -/
def Mach.authEnd (m : Mach) (p : Nat) (w : KaolinWork) : Mach :=
  let m := m.dropWork p
  match tfind m.att.sess p with
  | none => m
  | some x =>
    if w.ok then
      let m := { m with att := { m.att with sess := tset m.att.sess p { x with ctr := x.ctr + 1, authing := false } } }
      ((m.put (A.SESS_STS p) 1 0 2).wr (A.SESS_CTR p) (BitVec.ofNat 32 (x.ctr + 1))).mark w.req.pkt |>.answer w.req.ing 0x50 w.req.pkt (.ack 0)
    else (m.closeSess p 3).answer w.req.ing 0x50 w.req.pkt (.nak 0x14 (fieldAt w.data 0x12 2))

def execAuthRelease (p : Fin 16) (s : State) : Host.Outcome State Fault Refusal :=
  s.onMach (fun m => match m.dueWork p [2] with | some w => m.authEnd p w | none => m)

/-- PENDING for AUTH_SLOTS slot boundaries with no AUTH (R551). -/
def Mach.sessionLate (m : Mach) (p : Nat) : Bool :=
  match tfind m.att.sess p with
  | some x => m.fld (A.SESS_STS p) 1 0 = 1 && !x.authing && x.since + max 1 (m.fld A.ATT_CFG 15 0) ≤ m.sys.slots && m.phs.slotEdge
  | none => false

def execSessionTimeout (p : Fin 16) (s : State) : Host.Outcome State Fault Refusal :=
  s.onMach (fun m => if m.sessionLate p then m.closeSess p 4 else m)

/-! ### Key messages (R552 to R555) -/

/-- The slot field and the FLAGS of a key message. -/
def msgSlot (b : List Byte) : Nat := fieldAt b 0x12 2
def msgFlags (b : List Byte) : Nat := fieldAt b 0x11 1

/-- A key is written into a slot of the partition's range (R555, R569): false where check 6 fails. `busy` tells
the slots that are in use for the operation. -/
def Mach.storeKey (m : Mach) (p attr : Nat) (len512 : Bool) (busy : Nat → Bool) (b body : List Byte) : Mach × Bool :=
  let s := msgSlot b
  if m.keyOwner s = some p && s < 512 && m.slotFree s && !busy s && body.length = (if len512 then 64 else 32) then
    (m.setSlot s { state := 1, len512 := len512, attr := attr, value := body }, true)
  else (m, false)

/-- MEM_KEY (R555, R504). -/
def Mach.opMemKey (m : Mach) (p : Nat) (b body : List Byte) : Mach × Bool :=
  if m.bit (A.MMU_KEY p) 31 then (m, false)
  else match m.storeKey p 2 true (fun _ => false) b body with
    | (m, true) => (m.installMemKey p (msgSlot b) ((msgFlags b).testBit 0), true)
    | (m, false) => (m, false)

/-- LINK_KEY (R555, R480, R481). -/
def Mach.opLinkKey (m : Mach) (p : Nat) (b body : List Byte) : Mach × Bool :=
  let f := msgFlags b % 4
  if f = 3 || (f = 1 && m.bit (A.HRMP_LKEY_CUR p) 31) then (m, false)
  else match m.storeKey p 1 false (m.linkNames p) b body with
    | (m, false) => (m, false)
    | (m, true) =>
      if f = 1 then (m.wr (A.HRMP_LKEY_CUR p) (BitVec.ofNat 32 (2 ^ 31 + msgSlot b)), true)
      else if f = 2 then
        let m := m.wr (A.HRMP_LKEY_ALT p) (BitVec.ofNat 32 (2 ^ 31 + msgSlot b))
        ({ m with net := { m.net with grace := terase m.net.grace p } }, true)
      else (m, true)

/-- DEBUG_KEY (R555, R543). -/
def Mach.opDebugKey (m : Mach) (p : Nat) (b body : List Byte) : Mach × Bool :=
  match m.storeKey p 32 false (fun _ => false) b body with
  | (m, false) => (m, false)
  | (m, true) =>
    let m := { m with att := { m.att with export_ := tset m.att.export_ p (msgSlot b), dumpSeq := terase m.att.dumpSeq p } }
    (m.wr (A.SESS_DUMPS p) 0, true)

/-- ERASE (R555). -/
def Mach.opErase (m : Mach) (p : Nat) (b : List Byte) : Mach × Bool :=
  let s := msgSlot b
  if m.keyOwner s = some p && s < 512 && !m.slotInUse p s then
    let m := m.eraseSlot s
    ({ m with att := { m.att with export_ := m.att.export_.filter (fun e => e.2 ≠ s) } }, true)
  else (m, false)

/-- IMPORT is accepted (R557, R558): its status record reads RUNNING. -/
def Mach.importStart (m : Mach) (p : Nat) (body : List Byte) : Mach :=
  let i : Import := { slot := fieldAt body 0 2 % 512, ctr := fieldAt body 4 2 % 4096, src := fieldAt body 8 8 % 2 ^ 48,
                      dst := fieldAt body 16 8 % 2 ^ 48, status := fieldAt body 24 8 % 2 ^ 48 }
  let m := { m with att := { m.att with imports := tset m.att.imports p i } }
  (m.vwrite 3 p i.status (leBytes 16 1)).1

/-- IMPORT (R557, R558). -/
def Mach.opImport (m : Mach) (p : Nat) (b body : List Byte) : Mach × Ans :=
  let s := fieldAt body 0 2 % 512
  if (tfind m.att.imports p).isSome then (m, .nak 7 0)
  else if body.length = 32 && (m.mskUnits p).length ≠ 0 && m.keyOwner s = some p && (m.slot s).state = 1 && (m.slot s).attr.testBit 2 then
    (m.importStart p body, .ack 0)
  else (m, .nak 0x14 (msgSlot b))

/-- AUTH is accepted for its release edge (R546, R554). -/
def Mach.opAuth (m : Mach) (p : Nat) (ing : Ingress) (k : Pkt) (x : TenSess) (b body : List Byte) : Mach × Ans :=
  if (tfind m.att.work p).isSome then (m, .nak 7 1)
  else if body.length ≠ 7412 then (m, .nak 0x14 (msgSlot b))
  else
    let pubM := slice body 0 2592
    let pubE := slice body 2592 97
    let ok := sha384' (pubM ++ pubE) = m.ownerDigest p && Config.ecdsaVerify pubE x.th2 (slice body 2689 96) &&
      Config.mldsaVerify pubM x.th2 (ascii "HFA9-AUTH") (slice body 2785 4627)
    let m := { m with att := { m.att with sess := tset m.att.sess p { x with authing := true } } }
    (m.addWork 2 p { opc := 0x50, pkt := k, ing := ing } (b.take 32) ok, .later)

/-- An executed message advances the expected MSG_CTR (R553). -/
def Mach.advanceCtr (m : Mach) (p : Nat) : Mach :=
  match tfind m.att.sess p with
  | some x => ({ m with att := { m.att with sess := tset m.att.sess p { x with ctr := x.ctr + 1 } } }).wr (A.SESS_CTR p)
      (BitVec.ofNat 32 (x.ctr + 1))
  | none => m

/-- The operation of a key message in an ACTIVE session (R555). -/
def Mach.keyOp (m : Mach) (p : Nat) (b body : List Byte) : Mach × Ans :=
  let fin (r : Mach × Bool) : Mach × Ans := if r.2 then (r.1.advanceCtr p, .ack 0) else (r.1, .nak 0x14 (msgSlot b))
  match fieldAt b 0x10 1 with
  | 2 => fin (m.opMemKey p b body)
  | 3 => fin (m.opLinkKey p b body)
  | 4 => fin (m.opDebugKey p b body)
  | 5 => fin (m.storeKey p 4 false (m.importNames p) b body)
  | 6 => fin (m.storeKey p 8 false (m.sessionNames p) b body)
  | 7 => fin (m.storeKey p 16 false (fun _ => false) b body)
  | 8 => fin (m.opErase p b)
  | 9 =>
    match m.opImport p b body with
    | (m, .ack v) => (m.advanceCtr p, .ack v)
    | r => r
  | 0xA => ((m.advanceCtr p).closeSess p 1, .ack 0)
  | _ => (m, .nak 0x14 (msgSlot b))

/-- A tag failure of a key message (R551, R553). -/
def Mach.msgTagFail (m : Mach) (p : Nat) : Mach :=
  let m := m.bumpF (A.SESS_STS p) 15 8 1
  if 16 ≤ m.fld (A.SESS_STS p) 15 8 then m.closeSess p 5 else m

/-- A key message that is whole (R553): `b` is the concatenation of its payloads. -/
def Mach.keyMessage (m : Mach) (ing : Ingress) (k : Pkt) (b : List Byte) : Mach × Ans :=
  let p := k.part.val
  let len := fieldAt b 0x14 4
  match decide (m.partState p = 1), tfind m.att.sess p with
  | true, some x =>
    if x.id ≠ b.take 8 then (m, .nak 0xC 0)
    else if 16384 < len || b.length ≠ (48 + len + 15) / 16 * 16 then (m, .nak 6 (m.maxPlen ing k.enc))
    else
      let ctr := slice b 8 8
      match gcmOpen (toNats x.kT2d) (toNats (leBytes 4 1 ++ ctr)) (toNats (b.take 32)) (toNats (slice b 32 len)) (toNats (slice b (32 + len) 16)) with
      | none => (m.msgTagFail p, .later)
      | some body =>
        let c := leNat ctr
        if c < x.ctr then (m, .ack 0)
        else if x.ctr < c then (m, .nak 0x10 (x.ctr % 2 ^ 32))
        else if x.authing then (m, .later)
        else
          let pending := m.fld (A.SESS_STS p) 1 0 = 1
          if pending ≠ (fieldAt b 0x10 1 = 1) then (m, .nak 0xC 0)
          else if pending then m.opAuth p ing k x b (toBytes body)
          else m.keyOp p b (toBytes body)
  | _, _ => (m, .nak 0xC 0)

/-- KEY_DELIVER at step 12 (R104, R553): a packet before the message's LAST completes with an ACK. -/
def Mach.keyDeliver (m : Mach) (ing : Ingress) (k : Pkt) : Mach × Ans :=
  if k.isLast then m.keyMessage ing k (m.messageBytes k) else (m, .ack 0)

/-! ### Weight import (R558) -/

/-- STATE, CODE and the phase of the end; the counter counts the end. -/
def Mach.importEnd (m : Mach) (p : Nat) (i : Import) (code : Nat) : Mach :=
  let m := { m with att := { m.att with imports := terase m.att.imports p } }
  let st := if code = 0 then 2 else 3
  ((m.vwrite 3 p i.status (leBytes 1 st ++ leBytes 1 code ++ leBytes 6 0 ++ leBytes 8 m.phase)).1).ctrAdd p i.ctr 1

/-- The CODE of a failed access. -/
def XFail.importCode (e : XFail) : Nat :=
  match e.kind with
  | .xlate _ => 3
  | .boundary => 3
  | _ => 4

/-- The header of a weight object is as R557 gives it. -/
def weightHeadOk (h : List Byte) : Bool :=
  fieldAt h 0 4 = 0x57394648 && fieldAt h 4 2 = 1 && fieldAt h 6 2 = 0 && fieldAt h 8 8 % 64 = 0 && fieldAt h 8 8 ≤ 2 ^ 36 - 64 &&
    (slice h 0x1C 36).all (· = 0)

/-- The import's work (R558). -/
def Mach.importRun (m : Mach) (p : Nat) (i : Import) : Mach :=
  match m.loadKey p i.slot 2 with
  | (m, none) => m.importEnd p i 1
  | (m, some key) =>
    match m.vread 3 p i.src 64 with
    | (m, .error e) => m.importEnd p i e.importCode
    | (m, .ok h) =>
      let len := fieldAt h 8 8
      if !weightHeadOk h then m.importEnd p i 1
      else if i.src < i.dst + len && i.dst < i.src + len + 80 then m.importEnd p i 5
      else
        match m.vread 3 p (i.src + 64) (len + 16) with
        | (m, .error e) => m.importEnd p i e.importCode
        | (m, .ok b) =>
          match gcmOpen (toNats key) (toNats (slice h 0x10 12)) (toNats h) (toNats (b.take len)) (toNats (b.drop len)) with
          | some pt =>
            match m.vwrite 3 p i.dst (toBytes pt) with
            | (m, none) => m.importEnd p i 0
            | (m, some e) => m.importEnd p i e.importCode
          | none =>
            match m.vwrite 3 p i.dst (List.replicate len 0) with
            | (m, none) => m.importEnd p i 2
            | (m, some e) => m.importEnd p i e.importCode

def execImportDone (p : Fin 16) (s : State) : Host.Outcome State Fault Refusal :=
  s.onMach (fun m => match tfind m.att.imports p with | some i => m.importRun p i | none => m)

end Sys2Proof.Machine
end

