-- ==== Sys2Proof/Machine/Comparators.lean ====
section
/-! DEFINITION. Update strobes (R81 to R85), the phase comparators and their actions (R55 to R58), and the global
throttle level (R59, R686). -/
namespace Sys2Proof.Machine

/-! ### Strobes (R82 to R84) -/

/-- The page of a register's storage key. -/
def pageOfKey (k : Nat) : Nat := k % 2 ^ 24 / 0x1000

/-- The update group of a page (R84). -/
def Mach.ugrp (m : Mach) (page : Nat) : Nat := m.fld (0x1000 * page + 4) 7 4

/-- A route entry that is applied folds where its PRI names a port that is not up, and FOLDED follows (R446). -/
def Mach.refold (m : Mach) (keys : List Nat) : Mach :=
  let es := (List.range 9).flatMap (fun t => ((List.range 64).filter (fun e =>
    keys.contains (routeAddr t e) || keys.contains (routeAddr t e + 4))).map (fun e => 64 * t + e))
  let down (x : Nat) : Bool :=
    let a := routeAddr (x / 64) (x % 64)
    m.bit a 31 && m.fld a 27 24 < 8 && !m.ringUp (m.fld a 27 24)
  let folded := m.net.folded.filter (fun x => !es.contains x) ++ es.filter down
  let m := { m with net := { m.net with folded := folded } }
  (List.range 8).foldl (fun a n => a.putBit (A.BRL_PORT_STS n) 7 ((a.entriesOf n).any (fun x => folded.contains x))) m

/-- Every pending shadow of the pages that `f` picks becomes active (R82); a slot that begins at this edge takes its
owners anew (R62). -/
def Mach.applyPages (m : Mach) (f : Nat → Bool) : Mach :=
  let pend := m.regs.shadow.filter (fun e => f (pageOfKey e.1))
  if pend.isEmpty then m
  else
    let m := m.tracked (fun a =>
      { a with regs := { a.regs with act := pend.foldl (fun t e => tset t e.1 e.2) a.regs.act,
                                     shadow := a.regs.shadow.filter (fun e => !f (pageOfKey e.1)) } })
    let m := if pend.any (fun e => 0x300 ≤ pageOfKey e.1) then m.refold (pend.map (·.1)) else m
    if m.phs.slotEdge then m.latchSlots else m

/-- The groups of a mask are applied (R82). -/
def Mach.applyGroups (m : Mach) (mask : Nat) : Mach := m.applyPages (fun p => mask.testBit (m.ugrp p))

/-- GLB_PEND.GROUPS (R93). -/
def Mach.pendingGroups (m : Mach) : Nat := m.regs.shadow.foldl (fun acc e => acc ||| 2 ^ m.ugrp (pageOfKey e.1)) 0

/-- GLB_UPD schedules its groups for the next edge (R82). -/
def Mach.writeGlbUpd (m : Mach) (v : Nat) : Mach :=
  { m with regs := { m.regs with updNext := m.regs.updNext ||| BitVec.ofNat 16 v } }

/-- The groups scheduled for this edge are applied, in its first position of class 5 (R82). -/
def Mach.groupApply (m : Mach) : Mach :=
  let mask := m.regs.updNow.toNat
  ({ m with regs := { m.regs with updNow := 0 } }).applyGroups mask

def execGroupApply (s : State) : Host.Outcome State Fault Refusal := s.onMach Mach.groupApply

/-- GLB_UPD_AT is due (R85). -/
def Mach.updAtDue (m : Mach) : Bool := m.running && m.bit A.GLB_UPD_AT_CTL 31 && m.rd64 A.GLB_UPD_AT_LO ≤ m.phase

/-- Its groups and those of a GLB_UPD due at this edge apply together (R82, R85). -/
def Mach.updAtFire (m : Mach) : Mach :=
  let late := m.isLate 64 (m.rd64 A.GLB_UPD_AT_LO)
  let mask := m.fld A.GLB_UPD_AT_CTL 15 0 ||| m.regs.updNow.toNat
  let m := (m.putBit A.GLB_UPD_AT_CTL 31 false).putBit A.GLB_UPD_AT_CTL 30 late
  let m := { m with phs := { m.phs with lateArm := m.phs.lateArm.filter (· ≠ 64) }, regs := { m.regs with updNow := 0 } }
  m.applyGroups mask

def execGlbUpdAtFire (s : State) : Host.Outcome State Fault Refusal :=
  s.onMach (fun m => if m.updAtDue then m.updAtFire else m)

/-- GLB_UPD_AT_CTL (R85, R93): ARMED and MASK; MASK stays while armed. -/
def Mach.writeUpdAtCtl (m : Mach) (v : Nat) : Mach :=
  let a := A.GLB_UPD_AT_CTL
  let m := if m.bit a 31 then m else m.put a 15 0 (bitsOf v 15 0)
  if bitOf v 31 then ((m.putBit a 31 true).putBit a 30 false).markArm 64 (m.rd64 A.GLB_UPD_AT_LO)
  else m.putBit a 31 false

/-! ### The throttle level (R59, R686) -/

/-- The global level L. -/
def Mach.level (m : Mach) : Nat := m.fld A.PWR_STS 10 8

/-- A change may take effect now: at a slot boundary, 16 or more after the previous change (R59). -/
def Mach.levelReady (m : Mach) : Bool := m.phs.slotEdge && 16 ≤ m.sys.sinceL

/-- L takes a value. -/
def Mach.setLevel (m : Mach) (v : Nat) : Mach :=
  { (m.put A.PWR_STS 10 8 v) with sys := { m.sys with wantL := none, sinceL := 0 } }

/-- A request that L become `v` (R59): at once, or held. -/
def Mach.askLevel (m : Mach) (v : Nat) : Mach :=
  if v = m.level then { m with sys := { m.sys with wantL := none } }
  else if m.levelReady then m.setLevel v
  else { m with sys := { m.sys with wantL := some v } }

/-- A step of L, up or down; beyond 0 and 7 it stays (R59). -/
def Mach.stepLevel (m : Mach) (down : Bool) : Mach := m.askLevel (if down then m.level - 1 else min 7 (m.level + 1))

/-- A held change takes effect (R59). -/
def execThrottleLevelChange (s : State) : Host.Outcome State Fault Refusal :=
  s.onMach (fun m => match m.sys.wantL with
    | some v => if m.levelReady then m.setLevel v else m
    | none => m)

/-! ### Comparators (R55 to R58) -/

/-- An action on context `c` of partition `p` (R58, R140): it is denied where `p` does not hold the context. -/
def Mach.cmpContext (m : Mach) (p c op : Nat) : Mach × Bool :=
  let st := m.ctxState c
  if m.ctxOwner c ≠ some p then (m, false)
  else if op = 3 then (if st = 1 then m.openCtx c false else m, true)
  else if op = 4 then (if st = 2 then m.closeCtx c false else m, true)
  else (if m.ctxInUse c then m.abortCtx c 3 false else m, true)

/-- The ACTION of a comparator of partition `p`: false where it fires without effect (R57, R58). -/
def Mach.cmpAct (m : Mach) (p act arg : Nat) : Mach × Bool :=
  match act with
  | 0 => (m, true)
  | 1 => if p = 0 then (m.applyGroups (arg % 65536), true) else (m, false)
  | 2 => m.loamStart p (arg % 64)
  | 3 => m.cmpContext p (arg % 4096) 3
  | 4 => m.cmpContext p (arg % 4096) 4
  | 5 => m.cmpContext p (arg % 4096) 5
  | 6 => m.keyRotate p (arg % 512)
  | 7 => (m, true)
  | 8 =>
    if p ≠ 0 then (m, false)
    else if arg.testBit 4 then (m.stepLevel (arg.testBit 0), true)
    else (m.askLevel (arg % 8), true)
  | _ => (m, false)

/-- The comparator has fired at `old`: it re-arms a whole number of periods later, or disarms (R55). -/
def Mach.cmpRearm (m : Mach) (c old : Nat) : Mach :=
  let per := m.fld (A.CMP_CTL c) 15 0 * 1024
  if per = 0 then m.putBit (A.CMP_CTL c) 31 false
  else
    let n := (m.phase - old) / per + 1
    if 2 ^ 64 ≤ old + n * per then m.putBit (A.CMP_CTL c) 31 false
    else (m.wr64 (A.CMP_TARGET_LO c) (old + n * per)).bumpF (A.CMP_CTL c) 27 24 (n - 1)

/-- Comparator `c` is due (R55). -/
def Mach.cmpDue (m : Mach) (c : Nat) : Bool := m.running && m.bit (A.CMP_CTL c) 31 && m.rd64 (A.CMP_TARGET_LO c) ≤ m.phase

/-- It fires (R55, R702). -/
def Mach.cmpFire (m : Mach) (c : Nat) : Mach :=
  let old := m.rd64 (A.CMP_TARGET_LO c)
  let late := m.isLate c old
  let w := (m.rd (A.CMP_ACTION c)).toNat
  let (m, ok) := m.cmpAct (m.cmpOwner c) (w / 2 ^ 28) (w % 2 ^ 24)
  let m := ((m.putBit (A.CMP_CTL c) 28 true).putBit (A.CMP_CTL c) 30 late).putBit (A.CMP_CTL c) 29 (!ok)
  ({ m with phs := { m.phs with lateArm := m.phs.lateArm.filter (· ≠ c) } }).cmpRearm c old

def execComparatorFire (c : Fin 64) (s : State) : Host.Outcome State Fault Refusal :=
  s.onMach (fun m => if m.cmpDue c then m.cmpFire c else m)

end Sys2Proof.Machine
end

