-- ==== Sys2Proof/Machine/Flt.lean ====
section
/-! DEFINITION. The fault controller: sources, records, reactions, isolation, repair, leases (R626 to R650). -/
namespace Sys2Proof.Machine

/-! ### Sources and units (R626, R628, R629) -/

/-- Class and units of a fault source (R629): code, first unit, last unit. -/
def fltSources : List (Nat × Nat × Nat × Nat) := [
  (0x01, 3, 0x138, 0x138), (0x02, 2, 0x138, 0x138), (0x03, 1, 0x139, 0x139), (0x04, 3, 0x139, 0x139), (0x05, 3, 0x139, 0x139),
  (0x20, 5, 0x132, 0x132), (0x21, 5, 0x132, 0x132), (0x22, 5, 0x130, 0x130), (0x23, 5, 0x130, 0x130), (0x24, 5, 0x130, 0x130),
  (0x30, 4, 0x130, 0x130), (0x40, 1, 0x000, 0x04F), (0x41, 2, 0x000, 0x04F), (0x42, 3, 0x000, 0x04F), (0x48, 1, 0x0E0, 0x0E3)] ++ [
  (0x49, 2, 0x0E0, 0x0E3), (0x50, 1, 0x080, 0x0BF), (0x51, 2, 0x080, 0x0BF), (0x52, 2, 0x080, 0x0BF), (0x53, 2, 0x080, 0x0BF),
  (0x54, 3, 0x080, 0x0BF), (0x58, 1, 0x110, 0x11F), (0x59, 2, 0x110, 0x11F), (0x60, 1, 0x0C0, 0x0C7), (0x61, 2, 0x0C0, 0x0C7),
  (0x62, 2, 0x0C0, 0x0C7), (0x63, 2, 0x0C0, 0x0C7), (0x68, 1, 0x0D0, 0x0DF), (0x69, 2, 0x0D0, 0x0DF), (0x70, 1, 0x125, 0x125)] ++ [
  (0x71, 2, 0x125, 0x125), (0x72, 2, 0x125, 0x125), (0x78, 2, 0x131, 0x131), (0x80, 3, 0x0F0, 0x0FF), (0x81, 3, 0x100, 0x107),
  (0x82, 2, 0x120, 0x132), (0x83, 1, 0x140, 0x148), (0x84, 2, 0x140, 0x148), (0x88, 1, 0x13A, 0x13A), (0x90, 3, 0x000, 0x14E),
  (0x91, 1, 0x14F, 0x14F), (0x92, 1, 0x14F, 0x14F), (0x98, 1, 0x14F, 0x14F), (0x99, 1, 0x14F, 0x14F)]

/-- A unit number of R628's table. -/
def unitUsed (u : Nat) : Bool :=
  u < 0x50 || (0x80 ≤ u && u < 0xC8) || (0xD0 ≤ u && u < 0xE4) || (0xF0 ≤ u && u < 0x108) || (0x110 ≤ u && u < 0x126) ||
    (0x130 ≤ u && u < 0x133) || (0x138 ≤ u && u < 0x13C) || (0x140 ≤ u && u < 0x149) || u = 0x14F

/-- The class of source `src` for unit `u`; none where R629 gives the unit type no such source. -/
def srcClass (src u : Nat) : Option Nat :=
  match fltSources.find? (fun e => e.1 = src) with
  | some (_, c, lo, hi) => if lo ≤ u && u ≤ hi && unitUsed u then some c else none
  | none => none

/-- The partition that owns a unit (R628, R650). -/
def Mach.unitOwner (m : Mach) (u : Nat) : Option Nat :=
  if u < 0x50 then m.tileOwner u
  else if 0x80 ≤ u && u < 0xC0 then m.chOwner (u - 0x80)
  else if 0xF0 ≤ u && u < 0x100 then m.ownLane (A.MSK_OWN ((u - 0xF0) / 4)) (u % 4)
  else if 0x110 ≤ u && u < 0x120 then m.wayOwner (u - 0x110)
  else none

/-- A unit that no partition can own (R628). -/
def unitShared (u : Nat) : Bool := !(u < 0x50 || (0x80 ≤ u && u < 0xC0) || (0xF0 ≤ u && u < 0x100) || (0x110 ≤ u && u < 0x120))

/-- Tiles, channels and ports are what a unit reset acts on (R653). -/
def resettable (u : Nat) : Bool := u < 0x50 || (0x80 ≤ u && u < 0xC8) || (0xD0 ≤ u && u < 0xE0)

/-- FLT_USTS.STATE (R650). -/
def Mach.unitState (m : Mach) (u : Nat) : Nat := m.fld (A.FLT_USTS u) 31 29
def Mach.setUnit (m : Mach) (u st : Nat) : Mach := m.put (A.FLT_USTS u) 31 29 st

/-! ### Detection (R243, R511, R519) -/

/-- What the detection of a fault does in its unit, where the fault did not come out of another command. -/
def Mach.detected (m : Mach) (src u detail : Nat) : Mach :=
  let line := (u - 0x80) * 2 ^ 27 + detail % 2 ^ 27
  match src with
  | 0x41 => m.setTile u { m.tile u with poison := (detail % 2 ^ 24 / 64 :: (m.tile u).poison).eraseDups }
  | 0x48 => m.bump (A.CLU_LINK_CORR (u - 0xE0))
  | 0x49 => m.bump (A.CLU_LINK_UNCORR (u - 0xE0))
  | 0x50 => (m.bump (A.MEM_CORR (u - 0x80))).devCorrected (u - 0x80) detail
  | 0x51 => m.memFound line .uncorrectable false
  | 0x52 => m.memFound line .tagFailure false
  | 0x78 => m.setSlot (detail % 512) { m.slot (detail % 512) with state := 2, value := [], tagOk := false }
  | _ => m

/-! ### Records (R630) -/

/-- PAGE_ERR of a unit's record (R76, R631). -/
def UnitErr.word (e : UnitErr) : Nat :=
  2 ^ 31 + b2n e.merged * 2 ^ 30 + e.cls * 2 ^ 27 + e.src * 2 ^ 16 + e.detail % 65536

/-- The device and unit records take the fault, first or merged (R630). True where it is the device's first. -/
def Mach.latchFault (m : Mach) (src u cls detail : Nat) (inj : Bool) : Mach × Bool :=
  let m := match tfind m.flt.units u with
    | some e => { m with flt := { m.flt with units := tset m.flt.units u { e with merged := true } } }
    | none => { m with flt := { m.flt with units := tset m.flt.units u (UnitErr.mk src cls detail m.phase false inj) } }
  if m.bit A.FLT_FIRST_STS 31 then
    ((m.putBit A.FLT_FIRST_STS 30 true).putBit A.FLT_OVF cls true, false)
  else
    let m := m.wr A.FLT_FIRST_STS (BitVec.ofNat 32 (2 ^ 31 + cls * 2 ^ 27 + b2n inj * 2 ^ 26 + src * 2 ^ 16 + u))
    (((m.wr A.FLT_FIRST_DET (BitVec.ofNat 32 detail)).wr64 A.FLT_FIRST_PH_LO m.phase).wr A.FLT_OVF (BitVec.ofNat 32 (2 ^ cls)), true)

/-- The fault log's queue block (R644). -/
def fltLog : Nat := 0x022020

/-- A fault item (R644). -/
def Mach.logFault (m : Mach) (src u cls detail reacts : Nat) (first inj : Bool) : Mach :=
  let item := leBytes 1 1 ++ leBytes 1 (cls + 8 * b2n first + 16 * b2n (!first) + 32 * b2n inj) ++ leBytes 1 src ++ leBytes 1 0 ++
    leBytes 2 u ++ leBytes 2 reacts ++ leBytes 8 m.phase ++ leBytes 4 detail ++ leBytes 4 m.flt.seq ++ leBytes 8 0
  let m := { m with flt := { m.flt with seq := (m.flt.seq + 1) % 2 ^ 32 } }
  m.lossyPush fltLog item (fun a i => a.qStore fltLog i)

/-! ### Isolation and repair (R634, R641) -/

/-- The owner loses a way for receive and recovery use; what it held can no longer be read (R634). -/
def Mach.loseWay (m : Mach) (w : Nat) : Mach :=
  match m.wayOwner w with
  | none => m
  | some p =>
    let m := if m.bit (A.HRMP_RXWAY p) 7 && m.fld (A.HRMP_RXWAY p) 3 0 = w then
        { ((m.freeLines (m.net.wins.filter (fun e => e.part = p))).putBit (A.HRMP_RXWAY p) 7 false) with
          net := { m.net with wins := m.net.wins.map (fun e => if e.part = p then { e with held := [] } else e) } }
      else m
    (m.agg.filter (fun e => e.2.part = p && e.2.recWay = w)).foldl (fun a e => if a.ctxState e.1 = 4 then a.abortCtx e.1 5 false else a) m

/-- A unit leaves service (R634). -/
def Mach.isolate (m : Mach) (u : Nat) : Mach :=
  let m := { (m.setUnit u 3).markGone u with flt := { m.flt with outSince := tset m.flt.outSince u m.sys.slots, reclaimed := m.flt.reclaimed.filter (fun e => e.2 ≠ u) } }
  if 0x80 ≤ u && u < 0xC0 then { m with mem := { m.mem with failed := ((u - 0x80) :: m.mem.failed).eraseDups } }
  else if u < 0x50 then m.haltTile u
  else if 0xC0 ≤ u && u < 0xC8 then m.portDownQuiet (u - 0xC0)
  else if 0xD0 ≤ u && u < 0xE0 then m.put (A.ETH_STS (u - 0xD0)) 2 0 0
  else if 0x100 ≤ u && u < 0x108 then m.haltCore (u - 0x100)
  else if 0x110 ≤ u && u < 0x120 then m.loseWay (u - 0x110)
  else m

/-- A tile's repair (R245, R247): a copy to the spare, or the tile is lost. -/
def Mach.repairTile (m : Mach) (t : Nat) : Mach :=
  let m := (m.sessionTileFailed t).failTile t
  m.setUnit t (if m.bit (A.TILE_STS t) 31 then 5 else 4)

/-- The contexts in use of the partition that owns a failed channel are aborted with MEM_ERR. -/
def Mach.abortOwner (m : Mach) (ch : Nat) : Mach :=
  match m.chOwner ch with
  | some p => (m.agg.filter (fun (e : Nat × AggCtx) => e.2.part = p)).foldl (fun (a : Mach) (e : Nat × AggCtx) => if a.ctxInUse e.1 then a.abortCtx e.1 5 false else a) m
  | none => m

/-- A channel's repair: a retirement as partition 0 would start it (R516, R641). -/
def Mach.repairChannel (m : Mach) (ch src : Nat) : Mach :=
  let m := if src = 0x54 then m.abortOwner ch else m
  let m := m.retire ch
  if m.chState ch = 4 then m.setUnit (0x80 + ch) 4 else m

/-- The repair of a unit (R641); `was` is the unit's state before the fault. -/
def Mach.repair (m : Mach) (u src : Nat) : Mach :=
  if u < 0x50 then m.repairTile u
  else if 0x80 ≤ u && u < 0xC0 then m.repairChannel (u - 0x80) src
  else if m.unitState u = 3 then m.setUnit u 5
  else m

/-! ### Reactions (R632 to R635, R639) -/

/-- ERR_N is driven for a class (R633, R639). -/
def Mach.drives (m : Mach) (cls : Nat) : Bool := m.fld A.FLT_PIN 2 0 ≠ 0 && m.fld A.FLT_PIN 2 0 ≤ cls

/-- FLT_REACT_c as it reads: ERRN is computed (R632). -/
def Mach.reactWord (m : Mach) (cls : Nat) : Nat := withBits (m.rd (A.FLT_REACT cls)).toNat 5 5 (b2n (m.drives cls))

/-- ERR_N falls (R639). -/
def Mach.driveErr (m : Mach) : Mach := ((m.putBit A.FLT_PIN 31 true).putBit A.FLT_PIN 30 true).putBit A.FLT_PIN 3 true

/-- Ring egress stops, and peers are told (R635). -/
def Mach.stopEgress (m : Mach) (cls : Nat) : Mach := (m.putBit A.FLT_EGRESS 0 true).broadcast 6 1 0xFFFF cls m.phase

/-- The reactions of a fault that has any effect, as bits of R632. -/
def Mach.taken (m : Mach) (src u cls : Nat) : Nat :=
  let r := m.reactWord cls
  let out := 3 ≤ m.unitState u
  let has (b : Nat) (c : Bool) : Nat := if bitOf r b && c then 2 ^ b else 0
  has 1 true + has 2 (!out) + has 3 (cls = 4 || (m.unitOwner u).isSome) + has 4 true + has 5 true + has 6 (!out && resettable u) +
    (if (bitOf r 7 || (u < 0x50 && cls = 3)) && !out && src ≠ 0 then 2 ^ 7 else 0)

/-- The reactions, in the order of R632's table. -/
def Mach.react (m : Mach) (src u cls bits : Nat) : Mach :=
  let m := if bitOf bits 1 then m.fire (m.fld (A.FLT_REACT cls) 21 12) else m
  let m := if bitOf bits 2 then m.isolate u else m
  let m := if bitOf bits 3 then
      (if cls = 4 then (List.range 16).foldl (fun a p => a.quiesce p) m
       else match m.unitOwner u with | some p => m.quiesce p | none => m)
    else m
  let m := if bitOf bits 4 then m.stopEgress cls else m
  let m := if bitOf bits 5 then m.driveErr else m
  let m := if bitOf bits 6 then
      let m := if m.unitState u < 3 then m.isolate u else m
      { m with sys := { m.sys with resetting := (u :: m.sys.resetting).eraseDups } }
    else m
  if bitOf bits 7 then m.repair u src else m

/-! ### Shutdown (R691) -/

/-- Every key slot, the link and memory installations and every session key go (R578). -/
def Mach.zeroKeys (m : Mach) : Mach :=
  { m with keys := [], att := { m.att with sess := [], work := [], export_ := [] } }

/-- The power manager enters SHUTDOWN (R691): the optics are dark, and the tiles and the DRAM lose power. -/
def Mach.shutdown (m : Mach) : Mach :=
  let m := (List.range 8).foldl (fun a n => if a.ringLive n then a.portDownQuiet n else a) m
  let m := (List.range 16).foldl (fun a n => a.put (A.ETH_STS n) 2 0 0) m
  let m := (List.range 80).foldl (fun a t => a.setTileState t 0) m
  let m := { m with tiles := [], gates := [], shards := [], mem := { m.mem with cells := [] } }
  ((m.zeroKeys.stopDrbgs).put A.PWR_STS 1 0 2).markGone everyTarget

/-- What the image in flash bank `b` measures at stage `i` (R547, R659): an image staged in this run, or what the bank held. -/
def Mach.bankMeasure (m : Mach) (b i : Nat) : List Byte :=
  match tfind m.sys.flash b with
  | some img => sha384' (slice img (fieldAt img (0x10 + 64 * i) 4) (fieldAt img (0x14 + 64 * i) 4))
  | none => Config.factoryMeasure b i

/-- A core that has just restarted on the staged bank fails: both halves run the booted bank again (R663). -/
def Mach.activationFail (m : Mach) : Mach :=
  let b := m.fld A.LC_STS 8 8
  let x := m.sys.meas
  { (m.put A.FW_STS 2 0 6) with sys := { m.sys with reload := [], meas := [x.getD 0 [], m.bankMeasure b 1, m.bankMeasure b 2, x.getD 3 [], x.getD 4 []] } }

/-- What a source itself does beside its class's reactions (R636, R642, R663, R690, R691, R700). -/
def Mach.ownAction (m : Mach) (src u detail : Nat) : Mach :=
  let m := if src = 0x81 && m.fld A.FW_STS 2 0 = 5 && u < 0x104 then m.activationFail else m
  let m := if src = 0x90 then m.putBit (A.FLT_USTS u) 28 true else m
  let m := if src = 0x01 || src = 0x02 then m.putBit A.MGT_ALERT 0 true else m
  let m := if (src = 0x03 || src = 0x04) && 95 ≤ detail then m.putBit A.MGT_ALERT 1 true else m
  let m := if src = 0x01 || src = 0x04 || src = 0x05 then m.shutdown else m
  if src = 0x30 then { m with flt := { m.flt with dead := true } } else m

/-! ### A fault is handled (R630, R632) -/

/-- Source and class as they are raised: the last spare of a hub engine or die link is gone (R634). -/
def Mach.escalate (m : Mach) (src u cls : Nat) : Mach × Nat × Nat × Nat :=
  if src = 0x82 || src = 0x84 then
    if m.flt.spareUsed.contains u then (if src = 0x82 && 0x130 ≤ u then (m, 0x30, 0x130, 4) else (m, src, u, 3))
    else ({ m with flt := { m.flt with spareUsed := u :: m.flt.spareUsed } }, src, u, cls)
  else (m, src, u, cls)

/-- One fault, in handling order: counted, latched, logged, and its reactions taken. -/
def Mach.handleFault (m : Mach) (src u cls detail : Nat) (inj : Bool) : Mach :=
  let (m, src, u, cls) := m.escalate src u cls
  let m := (m.bump (A.FLT_CNT cls)).bumpF (A.FLT_USTS u) 15 0 1
  let m := if 2 ≤ cls then m.bump A.FLT_RECOV else m
  let (m, first) := m.latchFault src u cls detail inj
  let m := if cls = 2 && m.unitState u = 1 then m.setUnit u 2 else m
  let bits := m.taken src u cls
  let m := m.logFault src u cls detail bits first inj
  let m := if m.drives cls then m.putBit A.MGT_ALERT 3 true else m
  let m := if unitShared u then { m with att := { m.att with service := true } } else m
  (m.react src u cls bits).ownAction src u detail

/-- An injection that is raised clears ARM of its page (R643). -/
def Mach.clearInj (m : Mach) (src u detail : Nat) : Mach :=
  let m := { m with flt := { m.flt with inj := m.flt.inj.erase (src, u, detail) } }
  { m with regs := { m.regs with act := m.regs.act.map (fun e =>
      if e.1 % 0x1000 = 0x14 && bitsOf e.2.toNat 23 16 = src && bitsOf e.2.toNat 15 0 = detail then (e.1, e.2 &&& 0x7FFFFFFF) else e) } }

/-- A fault input latched at this edge (R630): one that a command raised, one injected, or one its unit detects now. -/
def Mach.faultInput (m : Mach) (src u detail : Nat) : Mach :=
  match srcClass src u with
  | none => m
  | some cls =>
    if m.flt.inj.contains (src, u, detail) then
      ((m.clearInj src u detail).detected src u detail).handleFault src u cls detail true
    else if m.raised.contains (src, u, detail) then
      ({ m with raised := m.raised.erase (src, u, detail) }).handleFault src u cls detail false
    else (m.detected src u detail).handleFault src u cls detail false

def execFaultInput (src : Byte) (unit : BitVec 16) (detail : Word) (s : State) : Host.Outcome State Fault Refusal :=
  s.onMach (fun m =>
    if m.isGone everyTarget then { m.countDiscard with raised := m.raised.erase (src.toNat, unit.toNat, detail.toNat) }
    else m.faultInput src.toNat unit.toNat detail.toNat)

/-- HOLD is clear and the minimum has run: the pin is released (R639). -/
def execErrnRelease (s : State) : Host.Outcome State Fault Refusal :=
  s.onMach (fun m => if m.bit A.FLT_PIN 30 && !m.bit A.FLT_PIN 3 then (m.putBit A.FLT_PIN 30 false).putBit A.FLT_PIN 31 false else m)

/-! ### Mismatch, leases, saturation (R636, R637, R640) -/

/-- The state a unit reports on the management path differs from FLT_USTS (R636). -/
def Mach.mgmtMismatch (m : Mach) (u mgmt : Nat) : Mach :=
  m.raiseFault 0x90 u (mgmt + 16 * m.unitState u)

def execMgmtMismatch (unit : BitVec 16) (mgmt : BitVec 3) (s : State) : Host.Outcome State Fault Refusal :=
  s.onMach (fun m => if m.phs.slotEdge && unitUsed unit.toNat && m.unitState unit.toNat ≠ mgmt.toNat then
    m.mgmtMismatch unit.toNat mgmt.toNat else m)

/-- Lease term in slots (R637, R647). -/
def Mach.leaseSlots (m : Mach) : Nat := max 1 (m.fld A.FLT_CFG 31 16)

/-- Unit `u` holds something under a lease of that kind (R637). A request's response reservation and the queue of its
node are the HRMP engine's (DEDUCED, log 20); a core's grant of a shared engine lies in its program. -/
def Mach.leaseHeld (m : Mach) (kind u : Nat) : Bool :=
  match kind with
  | 1 => m.agg.any (fun e => match e.2.recov with | some r => 0xF0 ≤ u && r.holder = some (u - 0xF0) | none => false)
  | 2 => u < 0x50 && m.tiles.any (fun e => e.2.inbox.any (fun r => (tget e.2.chTab r.ch (.none, .none)).1 = .tile u))
  | 3 => u = 0x122 && m.net.reqs.any (fun r => r.node.isSome)
  | 5 => u = 0x122 && !m.net.reqs.isEmpty
  | _ => false

/-- A holder out of service whose lease has expired (R637). -/
def Mach.leaseDue (m : Mach) (kind u : Nat) : Bool :=
  m.phs.slotEdge && (m.unitState u = 3 || m.unitState u = 5) && !m.flt.reclaimed.contains (kind, u) &&
    (match tfind m.flt.outSince u with | some t => t + m.leaseSlots ≤ m.sys.slots | none => false) && m.leaseHeld kind u

/-- A recovery way goes back: its spill key, headers and shares are gone, and the context takes the way again
(R189, R197, R637; what the context does then is a DESIGN CHOICE, log 20). -/
def Mach.wayBack (m : Mach) (c u : Nat) : Mach :=
  match (m.ctx c).recov with
  | some r => if r.holder = some u then
      (m.setCtx c { m.ctx c with recov := some { r with wait := true, holder := none, shares := [], hdr := [] } }).putBit (mskReg (A.MSK_REC_STS 0) c) 29 true
    else m
  | none => m

/-- What the resource returns to (R637). -/
def Mach.leaseBack (m : Mach) (kind u : Nat) : Mach :=
  match kind with
  | 1 => (m.agg.map (·.1)).foldl (fun a c => a.wayBack c (u - 0xF0)) m
  | 2 => { m with tiles := m.tiles.map (fun e => (e.1, { e.2 with inbox := e.2.inbox.filter (fun r =>
      (tget e.2.chTab r.ch (.none, .none)).1 ≠ .tile u) })) }
  | 3 => (m.net.reqs.filterMap (fun r => r.node)).eraseDups.foldl (fun a n =>
      if (a.loam.sessions.any (fun s => s.node = n)) then a.sessionFailed n else a.xferFail n.1 n.2.1 n.2.2 0xFF) m
  | _ => m

def Mach.leaseReclaim (m : Mach) (kind u : Nat) : Mach :=
  let m := { m with flt := { m.flt with reclaimed := (kind, u) :: m.flt.reclaimed } }
  (m.leaseBack kind u).raiseFault 0x91 0x14F (kind + u * 2 ^ 16)

def execLeaseReclaim (kind : Fin 8) (unit : BitVec 16) (s : State) : Host.Outcome State Fault Refusal :=
  s.onMach (fun m => if m.leaseDue kind.val unit.toNat then m.leaseReclaim kind.val unit.toNat else m)

/-- FLT_CNT of class c + 1 stands at its limit, and nobody has been told (R640). -/
def execCntSat (c : Fin 5) (s : State) : Host.Outcome State Fault Refusal :=
  s.onMach (fun m =>
    if (m.rd (A.FLT_CNT (c.val + 1))).toNat = 2 ^ 32 - 1 && !m.flt.satTold.contains (c.val + 1) then
      ({ m with flt := { m.flt with satTold := (c.val + 1) :: m.flt.satTold } }).raiseFault 0x92 0x14F (c.val + 1)
    else m)

/-! ### Writes of FLT registers (R631, R635, R639, R648) -/

/-- FLT_FIRST_STS.VALID (R631). -/
def Mach.writeFirst (m : Mach) (v : Nat) : Mach :=
  if bitOf v 31 then
    ((m.wr A.FLT_FIRST_STS 0).wr A.FLT_FIRST_DET 0).wr64 A.FLT_FIRST_PH_LO 0 |>.wr A.FLT_OVF 0
  else m

/-- FLT_UCLR (R631). -/
def Mach.writeUclr (m : Mach) (v : Nat) : Mach := { m with flt := { m.flt with units := terase m.flt.units (v % 4096) } }

/-- FLT_PIN: HOLD and CLASS; after KAOLIN_LOST HOLD ignores writes (R639, R642). -/
def Mach.writePin (m : Mach) (v : Nat) : Mach :=
  let m := m.put A.FLT_PIN 2 0 (v % 8)
  if m.flt.dead then m else m.putBit A.FLT_PIN 3 (bitOf v 3)

/-- FLT_QUIESCE: a 1 ends the partition's quiesce, unless the device has failed (R635). -/
def Mach.writeQuiesce (m : Mach) (v : Nat) : Mach :=
  if m.flt.dead then m else m.wr A.FLT_QUIESCE (m.rd A.FLT_QUIESCE &&& ~~~(BitVec.ofNat 32 v))

/-- FLT_EGRESS: a 1 resumes ring egress (R635, R642). -/
def Mach.writeEgress (m : Mach) (v : Nat) : Mach := if bitOf v 0 && !m.flt.dead then m.putBit A.FLT_EGRESS 0 false else m

/-- Bits of FLT_REACT_c that are fixed at 1 (R633). -/
def fixedBits (c : Nat) : Nat := match c with | 3 => 0x04 | 4 => 0x3E | 5 => 0x02 | _ => 0

/-- FLT_REACT_c (R648). -/
def Mach.writeReact (m : Mach) (c v : Nat) : Mach :=
  if 512 ≤ bitsOf v 21 12 then m
  else m.wr (A.FLT_REACT c) (BitVec.ofNat 32 ((v &&& 0x3FF0DE) ||| fixedBits c))

/-- The unit that a page belongs to (R631), for PAGE_ERR and PAGE_INJ. -/
def pageUnit (p : Nat) : Option Nat :=
  if 0x010 ≤ p && p ≤ 0x013 then some 0x125
  else if 0x030 ≤ p && p ≤ 0x03F then some 0x124
  else if 0x040 ≤ p && p ≤ 0x04F then some 0x131
  else if 0x050 ≤ p && p ≤ 0x053 then some 0x132
  else if 0x060 ≤ p && p ≤ 0x06F then some 0x130
  else if p = 0x082 then some 0x139
  else if 0x080 ≤ p && p ≤ 0x087 then some 0x138
  else if 0x090 ≤ p && p ≤ 0x093 then some 0x13B
  else if 0x100 ≤ p && p ≤ 0x13F then some 0x121
  else if 0x200 ≤ p && p ≤ 0x27F then some 0x120
  else if 0x300 ≤ p && p ≤ 0x33F then some (0xC0 + (p - 0x300) / 8)
  else if 0x340 ≤ p && p ≤ 0x37F then some (0xD0 + (p - 0x340) / 4)
  else if 0x380 ≤ p && p ≤ 0x3BF then some 0x122
  else if 0x400 ≤ p && p ≤ 0x47F then some (0x80 + (p - 0x400) / 2)
  else if 0x800 ≤ p && p ≤ 0xA7F then some ((p - 0x800) / 8)
  else if 0xC00 ≤ p && p ≤ 0xC3F then some (0xE0 + (p - 0xC00) / 16)
  else none

/-- PAGE_INJ (R80, R643), in TEST only. -/
def Mach.writeInj (m : Mach) (page v : Nat) : Mach :=
  if m.lcs ≠ 1 then m
  else
    let src := bitsOf v 23 16
    let det := bitsOf v 15 0
    let m := m.wr (0x1000 * page + 0x14) (BitVec.ofNat 32 (v &&& 0x80FFFFFF))
    if !bitOf v 31 then m
    else
      match pageUnit page with
      | some u =>
        if (srcClass src u).isSome then { m with flt := { m.flt with inj := m.flt.inj ++ [(src, u, det)] } }
        else (m.putBit (0x1000 * page + 0x14) 31 false).putBit A.FLT_STS 31 true
      | none => (m.putBit (0x1000 * page + 0x14) 31 false).putBit A.FLT_STS 31 true

/-- The view of FLT_USTS of unit `u` (R650): owner fields are computed, an unused unit reads 0. -/
def Mach.ustsWord (m : Mach) (u : Nat) : Nat :=
  if !unitUsed u then 0
  else
    let w := (m.rd (A.FLT_USTS u)).toNat
    match m.unitOwner u with
    | some p => withBits w 27 23 (2 * p + 1)
    | none => withBits w 27 23 0

end Sys2Proof.Machine
end

