-- ==== Sys2Proof/Machine/Reset.lean ====
section
/-! DEFINITION. Resets, boot, firmware update and the life cycle (R651 to R670). -/
namespace Sys2Proof.Machine

/-! ### Cold and warm reset (R651, R655, R656) -/

/-- Every register at its reset value; fuses, flash and the record of what has left the fibres stay (R655). -/
def Mach.fresh (m : Mach) : Mach :=
  let n : Mach := { free := m.free,
                    sys := { flash := m.sys.flash, root := m.sys.root, destroyed := m.sys.destroyed },
                    net := { sent := m.net.sent, ctlOut := m.net.ctlOut } }
  (((n.put A.GLB_STS 7 4 m.lcs).put A.LC_STS 2 0 (m.fld A.LC_STS 2 0)).put A.LC_SVN 15 0 (m.fld A.LC_SVN 15 0)).wr A.FW_ASEQ (m.rd A.FW_ASEQ)

/-- PWRGD or RESET_N low (R655). -/
def execColdReset (s : State) : Host.Outcome State Fault Refusal := s.onMach Mach.fresh

/-- Registers that a warm reset keeps whole (R656): SILT_FAILS, the first-fault record, FLT_USTS, the fault log's block, and the
spare maps. -/
def warmKept (k : Nat) : Bool :=
  k = A.SILT_FAILS || (A.FLT_FIRST_STS ≤ k && k ≤ A.FLT_OVF) || (0x023400 ≤ k && k < 0x024000) ||
  (fltLog ≤ k && k < fltLog + 0x20) ||
  (0xC00000 ≤ k && k < 0xC40000 && k / 0x1000 % 16 = 0 && (k % 0x1000 = 0x20 || (0x40 ≤ k % 0x1000 && k % 0x1000 ≤ 0x60)))

/-- What KAOLIN_LOST leaves until a cold reset (R642). -/
def Mach.keepLost (m : Mach) : Mach := ((m.wr A.FLT_QUIESCE 0xFFFF).putBit A.FLT_EGRESS 0 true).driveErr

/-- The state after a warm reset (R656). -/
def Mach.warm (m : Mach) : Mach :=
  let n := m.fresh
  let kept := m.regs.act.filter (fun e => warmKept e.1)
  let n := { n with
    gone := [everyTarget]
    regs := { n.regs with act := n.regs.act.foldl (fun t e => tset t e.1 e.2) kept }
    mem := { failed := m.mem.failed, badDev := m.mem.badDev }
    flt := { outSince := m.flt.outSince, reclaimed := m.flt.reclaimed, spareUsed := m.flt.spareUsed, dead := m.flt.dead }
    qitems := m.qitems.filter (fun e => e.1 / 2 ^ 16 = fltLog)
    net := { n.net with gaps := m.net.gaps.filter (fun e => e.1 = fltLog) }
    sys := { n.sys with slots := m.sys.slots } }
  let n := (List.range 64).foldl (fun a c =>
    let a := if m.bit (A.MEM_CH_STS c) 7 then a.putBit (A.MEM_CH_STS c) 7 true else a
    if m.chState c = 5 then a.setChState c 5 else a) n
  let n := (List.range 80).foldl (fun a t =>
    if m.fld (A.TILE_STS t) 31 30 = 0 then a else a.put (A.TILE_STS t) 31 30 (m.fld (A.TILE_STS t) 31 30)) n
  let n := if m.flt.dead then n.keepLost else n
  if m.siltState = 4 then n.setSiltState 4 else n

/-- A warm reset that GLB_RST or a life-cycle transition asked for (R651, R668). -/
def execWarmReset (s : State) : Host.Outcome State Fault Refusal :=
  s.onMach (fun m => if m.warmReq || m.sys.lcReset then m.warm else m)

/-- GLB_RST: a warm reset with the right key (R93). -/
def Mach.writeGlbRst (m : Mach) (v : Nat) : Mach :=
  if bitsOf v 31 16 = 0xD7A9 && bitOf v 0 then { m with warmReq := true } else m

/-! ### Unit resets (R653) -/

/-- LC_RES after a command (R670). -/
def Mach.lcRes (m : Mach) (code : Nat) (done : Bool) : Mach := m.wr A.LC_RES (BitVec.ofNat 32 (b2n done * 2 ^ 31 + code))

/-- A write of RST_UNIT (R653, R670). -/
def Mach.writeRstUnit (m : Mach) (v : Nat) : Mach :=
  if !m.bit A.LC_RES 31 then m
  else
    let u := v % 4096
    let m := m.put A.RST_UNIT 11 0 u
    if !bitOf v 31 then m
    else if m.unitState u ≠ 3 || !resettable u then m.lcRes 1 true
    else { ((m.putBit A.RST_UNIT 31 true).lcRes 0 false) with sys := { m.sys with resetting := (u :: m.sys.resetting).eraseDups } }

/-- Counters and fault record of a tile are cleared (R653). -/
def Mach.clearTileRegs (m : Mach) (t : Nat) : Mach :=
  { m with regs := { m.regs with act := m.regs.act.filter (fun e =>
      !((A.TILE_KFAULT t ≤ e.1 && e.1 ≤ A.TILE_KFAULT_DET_HI t) || (A.CNT_CYC_LO t ≤ e.1 && e.1 ≤ A.CNT_STALL t) ||
        (A.ACC_STS t 0 ≤ e.1 && e.1 ≤ A.ACC_STS t 7))) } }

/-- What the reset of a unit does to it, where its self-test passes. -/
def Mach.unitFresh (m : Mach) (u : Nat) : Mach :=
  if u < 0x50 then ((((m.gateAgain u).loseKernel u).zeroTile u).clearTileRegs u).setTileState u 0
  else if u < 0xC0 then { m with mem := { m.mem with failed := m.mem.failed.filter (· ≠ u - 0x80) } }
  else if u < 0xC8 then (if m.mayTrain (u - 0xC0) then m.startTraining (u - 0xC0) else m)
  else if m.opticsOn then m.put (A.ETH_STS (u - 0xD0)) 2 0 1 else m

/-- A unit reset ends (R653): an ISOLATED unit is in service again, or OUT and repaired. One that its repair has taken
on meanwhile stays as it is (R632). -/
def Mach.unitResetDone (m : Mach) (u : Nat) (ok : Bool) : Mach :=
  let m := { m with sys := { m.sys with resetting := m.sys.resetting.filter (· ≠ u) } }
  let m := if m.unitState u ≠ 3 then m else if ok then (m.setUnit u 1).unitFresh u else (m.setUnit u 5).repair u 0
  if m.bit A.RST_UNIT 31 && m.fld A.RST_UNIT 11 0 = u then (m.putBit A.RST_UNIT 31 false).lcRes 0 true else m

def execUnitResetDone (unit : BitVec 16) (ok : Bool) (s : State) : Host.Outcome State Fault Refusal :=
  s.onMach (fun m => if m.sys.resetting.contains unit.toNat then m.unitResetDone unit.toNat ok else m)

/-! ### Ring reset (R654) -/

/-- A write of RST_RING has landed (R654). -/
def Mach.writeRstRing (m : Mach) (v : Nat) : Mach :=
  let m := m.put A.RST_RING 15 0 (v % 65536)
  if bitsOf v 31 16 = 0xD7A9 then
    { (m.broadcast 1 1 (if v % 65536 = 0 then 0xFFFF else v % 65536) 0 m.phase) with ringReq := true }
  else m

/-- PHS after a ring or warm reset: FREE at phase 0, nothing armed (R654). -/
def Mach.phsFree (m : Mach) : Mach :=
  let m := { m with phs := { m.phs with heard := [], cand := none, lastRef := none, beaconed := false, emittedAt := none, advFlag := false, lateArm := [] } }
  let m := ((m.loadPhase 0).setPhsState 0).putBit A.PHS_STS 7 false
  let m := (List.range 64).foldl (fun a c => if a.bit (A.CMP_CTL c) 31 then a.putBit (A.CMP_CTL c) 31 false else a) m
  m.putBit A.GLB_UPD_AT_CTL 31 false

/-- The ring reset of this node (R654). -/
def Mach.ringReset (m : Mach) : Mach :=
  let m := (({ m with ringReq := false }).phsFree).markGone everyTarget
  let m := ((rangeFrom 1 15).filter (fun p => m.partState p ≠ 0)).foldl (fun a p => a.quiesce p) m
  (List.range 8).foldl (fun a n => if a.ringLive n then a.portDown n 2 else a) m

def execRingReset (s : State) : Host.Outcome State Fault Refusal :=
  s.onMach (fun m => if m.ringReq then m.ringReset else m)

/-! ### Firmware images (R659, R660) -/

/-- Offset and length of stage `i`. -/
def stageOff (b : List Byte) (i : Nat) : Nat := fieldAt b (0x10 + 64 * i) 4
def stageLen (b : List Byte) (i : Nat) : Nat := fieldAt b (0x14 + 64 * i) 4

/-- Check 0x05 (R659). -/
def layoutOk (b : List Byte) : Bool :=
  (List.range 5).all (fun i => stageOff b i % 4096 = 0 && 0x2000 ≤ stageOff b i && stageOff b i + stageLen b i ≤ b.length &&
      (slice b (0x18 + 64 * i) 8).all (· = 0) && ((i ≠ 1 && i ≠ 2) || stageLen b i ≤ 4 * 2 ^ 20)) &&
    b.length ≤ 24 * 2 ^ 20 && fieldAt b 6 2 = 0 && fieldAt b 10 2 = 0 && (slice b 0x150 32).all (· = 0) && (slice b 0x1383 3197).all (· = 0)

/-- The checks of R660 on an image that reads without error: 0 where it verifies. -/
def romCheck (b : List Byte) (min : Nat) : Nat :=
  if fieldAt b 0 4 ≠ 0x46394648 then 1
  else if fieldAt b 4 2 ≠ 1 || fieldAt b 0xC 4 ≠ 5 then 2
  else if !Config.dravgenVerify 0 (slice b 0 0x170) (ascii "HFA9-FW") (slice b 0x170 4627) then 3
  else if fieldAt b 8 2 < min then 4
  else if !layoutOk b then 5
  else if (List.range 5).all (fun i => sha384' (slice b (stageOff b i) (stageLen b i)) = slice b (0x20 + 64 * i) 48) then 0
  else 6

/-- The bank that the ROM tries first (R660). -/
def Mach.firstBank (m : Mach) : Nat := if m.fld A.FW_ASEQ 15 0 < m.fld A.FW_ASEQ 31 16 then 1 else 0

/-- The ROM may check bank `b` now: first the preferred bank, then the other (R660). -/
def Mach.bankTurn (m : Mach) (b : Nat) : Bool :=
  !m.sys.verified && m.lcs ≠ 5 && m.sys.tried = (if b = m.firstBank then [] else [m.firstBank])

/-- What the ROM finds: an image staged in this run is checked here, of any other the command tells code and SVN (log entry 5). -/
def Mach.bankResult (m : Mach) (b code svn : Nat) : Nat × Nat :=
  match tfind m.sys.flash b with
  | some img => (if code = 7 then 7 else romCheck img (m.fld A.LC_SVN 15 0), fieldAt img 8 2)
  | none => (if code = 0 && svn < m.fld A.LC_SVN 15 0 then 4 else code, svn)

/-- The outcome of the ROM's check of bank `b` (R660): the bank boots, or BOOTERR keeps the failure. -/
def Mach.imageVerified (m : Mach) (b code svn : Nat) : Mach :=
  let first := m.sys.tried.isEmpty
  let m := { m with sys := { m.sys with tried := m.sys.tried ++ [b] } }
  match m.bankResult b code svn with
  | (0, v) =>
    let m := ((m.putBit A.LC_STS 8 (b = 1)).putBit A.LC_STS 9 (!first)).put A.LC_SVN 31 16 v
    let m := m.putBit A.THERM_COOL 0 true
    { m with sys := { m.sys with verified := true, meas := (List.range 5).map (fun i => m.bankMeasure b i) } }
  | (c, _) => m.put A.LC_STS (8 * b + 23) (8 * b + 16) c

def execImageVerified (b : Fin 2) (code : Fin 16) (svn : BitVec 16) (s : State) : Host.Outcome State Fault Refusal :=
  s.onMach (fun m => if m.bankTurn b.val && code.val < 8 then m.imageVerified b.val code.val svn.toNat else m)

/-- The stacks are trained, and their identities known (R94, R657). -/
def Mach.dramTrained (m : Mach) : Mach :=
  let m := { m with sys := { m.sys with dram := true } }
  (List.range 8).foldl (fun a s => (List.range 4).foldl (fun a i => a.wr (A.STACK_ID s i) (Config.stackId s i)) a) m

def execDramTrained (s : State) : Host.Outcome State Fault Refusal :=
  s.onMach (fun m => if m.sys.verified then m.dramTrained else m)

/-- Every condition of READY holds (R658). -/
def Mach.readyDue (m : Mach) : Bool :=
  !m.bit A.GLB_STS 0 && m.sys.verified && (List.range 8).all m.coreOn && m.sys.dram && m.running && m.siltState = 2 && m.lcs ≤ 3

/-- LC_NONCE is drawn anew (R667). -/
def Mach.newNonce (m : Mach) : Mach :=
  let (d, m) := m.draw
  m.wr64 A.LC_NONCE_LO d.toNat

/-- READY is set: partition 0 is ACTIVE, and Kaolin has keyed its memory (R504, R527, R658). -/
def Mach.ready (m : Mach) : Mach :=
  (((m.putBit A.GLB_STS 0 true).setPartState 0 1).putBit (A.MMU_KEY 0) 31 true).newNonce

def execReady (s : State) : Host.Outcome State Fault Refusal :=
  s.onMach (fun m => if m.readyDue then m.ready else m)

/-! ### Life-cycle transitions (R665 to R668) -/

/-- The table of R666: whether the transition exists, and whether it needs a token. -/
def lcTable (src dst : Nat) : Option Bool :=
  match src, dst with
  | 0, 1 => some true
  | 1, 2 => some false
  | 2, 1 => some true
  | 2, 3 => some false
  | 3, 4 => some true
  | 1, 5 => some false
  | 2, 5 => some false
  | 3, 5 => some false
  | 4, 5 => some false
  | _, _ => none

def Mach.lcSrc (m : Mach) : Nat := m.rd64 A.LC_SRC_LO

/-- The token holds for this transition (R667). -/
def Mach.tokenOk (m : Mach) (b : List Byte) (dst : Nat) : Bool :=
  fieldAt b 0 4 = 0x43394648 &&
  slice b 4 12 = (List.range 3).flatMap (fun i => leBytes 4 (m.rd (A.GLB_SERIAL i)).toNat) &&
  fieldAt b 0x10 1 = m.lcs && fieldAt b 0x11 1 = dst && (slice b 0x12 6).all (· = 0) &&
  fieldAt b 0x18 8 = m.rd64 A.LC_NONCE_LO &&
  Config.dravgenVerify 1 (slice b 0 0x20) (ascii "HFA9-LC") (slice b 0x20 4627)

/-- Check 5 of R668: code 0 where the token holds. -/
def Mach.tokenCheck (m : Mach) (dst : Nat) : Mach × Nat :=
  match m.vread 0 0 m.lcSrc 4659 with
  | (m, .error _) => (m, 7)
  | (m, .ok b) => (m, if m.tokenOk b dst then 0 else 4)

/-- Checks 2 to 5 of R668. -/
def Mach.transCheck (m : Mach) (dst : Nat) : Mach × Nat :=
  match lcTable m.lcs dst with
  | none => (m, 3)
  | some tok =>
    if m.lcs = 2 && dst = 1 && 4 ≤ m.fld A.LC_STS 2 0 then (m, 3)
    else if m.fld A.FW_STS 2 0 ≠ 0 && m.fld A.FW_STS 2 0 ≠ 2 && m.fld A.FW_STS 2 0 ≠ 6 then (m, 1)
    else if (rangeFrom 1 15).any (fun p => m.partState p ≠ 0) then (m, 5)
    else if tok then m.tokenCheck dst
    else (m, 0)

/-- The root is destroyed (R580): false where a bit does not blow, which a free value decides. -/
def Mach.destroyRoot (m : Mach) : Mach × Bool :=
  if m.sys.destroyed then (m, true)
  else
    let (d, m) := m.draw
    let m := { m with sys := { m.sys with root := none } }
    if d.toNat.testBit 0 then (m.raiseFault 0x22 0x130 (d.toNat / 2 % 512), false)
    else ({ m with sys := { m.sys with destroyed := true } }, true)

/-- On leaving RAW the root is drawn and programmed (R579). -/
def Mach.programRoot (m : Mach) : Mach :=
  let (b, m) := m.drawBytes 32
  { m with sys := { m.sys with root := some b } }

/-- An accepted transition (R668): the fuses are blown, and a warm reset is due. -/
def Mach.transition (m : Mach) (dst : Nat) : Mach :=
  let src := m.lcs
  match (if 4 ≤ dst then m.destroyRoot else (m, true)) with
  | (m, false) => m.lcRes 8 true
  | (m, true) =>
    let m := if src = 2 && dst = 1 then m.put A.LC_STS 2 0 (m.fld A.LC_STS 2 0 + 1) else m
    let m := m.put A.GLB_STS 7 4 dst
    let m := if src = 0 then m.programRoot else m
    ({ m with sys := { m.sys with lcReset := true } }).lcRes 0 true

/-- TRANSITION (R667, R668): every command, accepted or refused, draws a new nonce. -/
def Mach.lcTransition (m : Mach) (dst : Nat) : Mach :=
  match m.transCheck dst with
  | (m, 0) => (m.transition dst).newNonce
  | (m, c) => (m.lcRes c true).newNonce

/-! ### Firmware update in service (R661 to R664) -/

def Mach.fwState (m : Mach) : Nat := m.fld A.FW_STS 2 0

/-- FW_STAGE (R661): the image is read and the programming of the other bank begins. -/
def Mach.fwStage (m : Mach) : Mach :=
  if m.fwState ≠ 0 && m.fwState ≠ 2 && m.fwState ≠ 6 then m.lcRes 1 true
  else
    match m.vread 0 0 m.lcSrc (m.fld A.LC_LEN 24 0) with
    | (m, .error _) => m.lcRes 7 true
    | (m, .ok b) => { ((m.put A.FW_STS 2 0 1).lcRes 0 false) with sys := { m.sys with staging := some b } }

/-- The bank that did not boot. -/
def Mach.otherBank (m : Mach) : Nat := 1 - m.fld A.LC_STS 8 8

/-- Staging ends with the read-back check (R661). -/
def Mach.fwStageDone (m : Mach) (b : List Byte) : Mach :=
  let m := { m with sys := { m.sys with staging := none, flash := tset m.sys.flash m.otherBank b } }
  if romCheck b (m.fld A.LC_SVN 15 0) = 0 then ((m.put A.FW_STS 2 0 2).put A.FW_STS 31 16 (fieldAt b 8 2)).lcRes 0 true
  else (m.put A.FW_STS 2 0 6).lcRes 6 true

def execFwStageDone (s : State) : Host.Outcome State Fault Refusal :=
  s.onMach (fun m => match m.sys.staging with | some b => m.fwStageDone b | none => m)

/-- FW_ARM and FW_DISARM (R662). -/
def Mach.fwArm (m : Mach) : Mach := if m.fwState = 2 then (m.put A.FW_STS 2 0 3).lcRes 0 true else m.lcRes 3 true
def Mach.fwDisarm (m : Mach) : Mach := if m.fwState = 3 then (m.put A.FW_STS 2 0 2).lcRes 0 true else m.lcRes 3 true

/-- COMMIT_SVN (R664): a free value decides whether the fuses read back. -/
def Mach.commitSvn (m : Mach) : Mach :=
  if m.fld A.LC_SVN 31 16 ≤ m.fld A.LC_SVN 15 0 then m.lcRes 0 true
  else
    let (d, m) := m.draw
    if d.toNat.testBit 0 then m.lcRes 8 true
    else (m.put A.LC_SVN 15 0 (m.fld A.LC_SVN 31 16)).lcRes 0 true

/-- A write of LC_CMD has landed (R670). -/
def Mach.writeLcCmd (m : Mach) (v : Nat) : Mach :=
  if !m.bit A.LC_RES 31 then m
  else if bitsOf v 31 16 ≠ 0x4C43 then
    let m := m.lcRes 2 true
    if v % 16 = 1 then m.newNonce else m
  else
    match v % 16 with
    | 1 => m.lcTransition (bitsOf v 11 8)
    | 2 => m.fwStage
    | 3 => m.fwArm
    | 4 => m.fwDisarm
    | 5 => m.commitSvn
    | _ => m.lcRes 9 true

/-- Half A stops accepting sources (R662). -/
def execFwActivate (s : State) : Host.Outcome State Fault Refusal :=
  s.onMach (fun m =>
    if m.fwState = 3 && m.rd64 A.FW_AT_LO ≤ m.phase then
      { (m.put A.FW_STS 2 0 4) with sys := { m.sys with reload := [0, 1, 2, 3] } }
    else m)

/-- The measurement of stage `i` becomes that of the staged bank. -/
def Mach.measureStage (m : Mach) (i : Nat) : List (List Byte) :=
  (List.range 5).map (fun j => if j = i then m.bankMeasure m.otherBank i else m.sys.meas.getD j [])

/-- The handlers of a half have completed, and nothing is on its way to it. -/
def Mach.halfIdle (m : Mach) (cs : List Nat) : Bool :=
  cs.all (fun c => (tget m.irq.stack c []).isEmpty && !m.irq.transit.any (fun e => e.1 = c))

/-- Half A runs stage 1 of the staged bank, and half B begins (R662). -/
def execHalfADone (s : State) : Host.Outcome State Fault Refusal :=
  s.onMach (fun m =>
    if m.fwState = 4 && m.halfIdle [0, 1, 2, 3] then
      { (m.put A.FW_STS 2 0 5) with sys := { m.sys with reload := [4, 5, 6, 7], meas := m.measureStage 1 } }
    else m)

/-- Both halves run: the staged bank takes the next ASEQ (R662). -/
def Mach.activated (m : Mach) : Mach :=
  let b := m.otherBank
  let seq := m.fld A.FW_ASEQ (31 - 16 * b) (16 - 16 * b) + 1
  { ((m.put A.FW_ASEQ (16 * b + 15) (16 * b) seq).put A.FW_STS 2 0 0) with sys := { m.sys with reload := [], meas := m.measureStage 2 } }

def execHalfBDone (s : State) : Host.Outcome State Fault Refusal :=
  s.onMach (fun m => if m.fwState = 5 && m.halfIdle [4, 5, 6, 7] then m.activated else m)

end Sys2Proof.Machine
end

