-- ==== Sys2Proof/Machine/Power.lean ====
section
/-! DEFINITION. The power manager, thermal limits, telemetry, and the I3C and JTAG management ports (R678 to R701). -/
namespace Sys2Proof.Machine

/-! ### Shares and gates (R683 to R687) -/

/-- PWR_CAP in W (R698). -/
def Mach.cap (m : Mach) : Nat := max 1000 (min 2800 (m.fld A.PWR_CFG 11 0))

/-- PWR_TILEBUD (R685). -/
def Mach.tileBud (m : Mach) : Nat := (92 * m.cap - 73200) / 100

def Mach.share (m : Mach) (p : Nat) : Nat := m.fld (A.PWR_SHARE p) 11 0
/-- g_p (R683). -/
def Mach.gate (m : Mach) (p : Nat) : Nat := m.fld (A.PWR_GATE (p / 8)) (4 * (p % 8) + 2) (4 * (p % 8))

/-- OVERSUB, with `s` in place of the share of `p` (R685): in tenths of a watt. -/
def Mach.oversubWith (m : Mach) (p s : Nat) : Bool :=
  10 * m.tileBud < ((List.range 16).map (fun q => max (10 * (if q = p then s else m.share q)) (41 * (m.tilesOf q).length))).sum

/-- OVERSUB as it stands. -/
def Mach.oversub (m : Mach) : Bool := m.oversubWith 0 (m.share 0)

/-- The step of g_p at a slot boundary (R683): `d` is D_p of the slot just ended, in mW. -/
def gateNext (g share tiles d : Nat) : Nat :=
  if 1000 * share < 1000 * tiles + d && g < 7 then g + 1
  else if 0 < g && 1000 * tiles * (8 - g) + d * (9 - g) ≤ 1000 * share * (8 - g) then g - 1
  else g

def execGateStep (p : Fin 16) (dyn : BitVec 32) (s : State) : Host.Outcome State Fault Refusal :=
  s.onMach (fun m =>
    if m.phs.slotEdge then
      m.put (A.PWR_GATE (p.val / 8)) (4 * (p.val % 8) + 2) (4 * (p.val % 8)) (gateNext (m.gate p.val) (m.share p.val) (m.tilesOf p.val).length dyn.toNat)
    else m)

/-- The effective level of a tile of partition `p` (R684). -/
def Mach.effLevel (m : Mach) (p : Nat) : Nat := max m.level (m.gate p)

/-! ### The global level, temperature and input (R686 to R691) -/

/-- What the sensors show: the hottest junction, its die, and the input averaged over 16 slots; the input's volts and amperes,
and which die is the hottest, are free. -/
def Mach.measured (m : Mach) (tj watts : Nat) : Mach :=
  let (d, m) := m.draw
  let die := d.toNat % 9
  let m := ((m.put A.THERM_MAX 11 8 die).put A.THERM_MAX 7 0 tj).put (A.THERM_DIE die) 7 0 tj
  (m.put A.PWR_AVG 15 0 watts).wr A.PWR_IN (BitVec.ofNat 32 (d.toNat / 2 ^ 32))

/-- THERM_THROTTLE and THERM_SHUTDOWN are raised as the junction reaches them (R690, R699). -/
def Mach.thermFaults (m : Mach) (old : Nat) : Mach :=
  let tj := m.fld A.THERM_MAX 7 0
  let m := if old < 95 && 95 ≤ tj then (m.raiseFault 0x03 0x139 tj).putBit A.MGT_ALERT 1 true else m
  if old < 105 && 105 ≤ tj then m.raiseFault 0x04 0x139 tj else m

/-- The power manager's own step of L (R686), unless PWR_FIX is set (R687). -/
def Mach.pmThrottle (m : Mach) (tj watts : Nat) : Mach :=
  let old := m.fld A.THERM_MAX 7 0
  let m := (m.measured tj watts).thermFaults old
  if m.bit A.PWR_CFG 31 then m
  else if 95 ≤ tj || m.cap < watts then m.stepLevel false
  else if tj < 90 && 100 * watts < 95 * m.cap then m.stepLevel true
  else m

def execPmThrottle (tj watts : BitVec 16) (s : State) : Host.Outcome State Fault Refusal :=
  s.onMach (fun m => m.pmThrottle (tj.toNat % 256) watts.toNat)

/-- COOLANT_OK falls (R691, R699). -/
def execCoolantOkFall (s : State) : Host.Outcome State Fault Refusal :=
  s.onMach (fun m => (m.putBit A.THERM_COOL 0 false).putBit A.MGT_ALERT 2 true)

/-- COOLANT_OK has been low for more than 10 ms (R691). -/
def execCoolant (s : State) : Host.Outcome State Fault Refusal :=
  s.onMach (fun m => if m.bit A.THERM_COOL 0 then m else m.raiseFault 0x05 0x139 0)

/-! ### Writes of the PWR pages (R686 to R688, R698) -/

/-- PWR_CFG: CAP first, then FIX, which can be set only while OVERSUB is clear (R687). -/
def Mach.writePwrCfg (m : Mach) (v : Nat) : Mach :=
  let m := m.put A.PWR_CFG 11 0 (bitsOf v 11 0)
  let m := m.put A.PWR_TILEBUD 15 0 m.tileBud
  if !bitOf v 31 then m.putBit A.PWR_CFG 31 false
  else if m.oversub then m.putBit A.PWR_STS 4 true
  else m.putBit A.PWR_CFG 31 true

/-- PWR_SHARE_p: ignored under PWR_FIX where it would set OVERSUB (R687). -/
def Mach.writeShareW (m : Mach) (p v : Nat) : Mach :=
  if m.bit A.PWR_CFG 31 && m.oversubWith p (bitsOf v 11 0) then m else m.put (A.PWR_SHARE p) 11 0 (bitsOf v 11 0)

/-- PWR_STS: FIXLOST and SLEEPREJ are cleared by a 1. -/
def Mach.writePwrSts (m : Mach) (v : Nat) : Mach :=
  let m := if bitOf v 4 then m.putBit A.PWR_STS 4 false else m
  if bitOf v 3 then m.putBit A.PWR_STS 3 false else m

/-- At the slot boundary after OVERSUB came up under PWR_FIX (R687). -/
def execFixlost (s : State) : Host.Outcome State Fault Refusal :=
  s.onMach (fun m =>
    if m.phs.slotEdge && m.bit A.PWR_CFG 31 && m.oversub then (m.putBit A.PWR_CFG 31 false).putBit A.PWR_STS 4 true else m)

/-- The module may sleep: every tenant FREE, and no firmware activation runs (R688, R697). -/
def Mach.maySleep (m : Mach) : Bool :=
  (rangeFrom 1 15).all (fun p => m.partState p = 0) && m.fwState ≠ 4 && m.fwState ≠ 5

/-- The clock-stop state is entered, or SLEEPREJ set (R688). -/
def Mach.sleep (m : Mach) : Mach :=
  if m.maySleep then
    let m := (List.range 8).foldl (fun a n => if a.ringLive n then a.portDownQuiet n else a) m
    let m := (List.range 16).foldl (fun a n => if a.ethState n = 0 then a else a.put (A.ETH_STS n) 2 0 0) m
    ((((m.putBit A.PWR_CTL 3 true).loadPhase 0).setPhsState 0).put A.PWR_STS 1 0 1)
  else m.putBit A.PWR_STS 3 true

/-- PWR_CTL.LEVEL sets L (R686). -/
def Mach.writeLevel (m : Mach) (v : Nat) : Mach := (m.put A.PWR_CTL 2 0 (v % 8)).askLevel (v % 8)

/-- PWR_CTL: the level, then SLEEP, which a refusal leaves as it was (R686, R688). -/
def Mach.writePwrCtl (m : Mach) (v : Nat) : Mach :=
  let m := m.writeLevel v
  if !bitOf v 3 then m.putBit A.PWR_CTL 3 false
  else if m.fld A.PWR_STS 1 0 ≠ 2 then m.sleep
  else m

/-- MGT_ALERT: bits are cleared by a 1 (R699). -/
def Mach.writeAlert (m : Mach) (v : Nat) : Mach := m.put A.MGT_ALERT 3 0 (m.fld A.MGT_ALERT 3 0 &&& (15 - v % 16))

/-- ALERT_N is low (R700). -/
def Mach.alertLow (m : Mach) : Bool := m.fld A.MGT_ALERT 3 0 &&& m.fld A.MGT_ALERT_EN 3 0 ≠ 0

/-! ### Telemetry (R701) -/

/-- The telemetry queue's block. -/
def telQueue : Nat := 0x091040

/-- A STATUS item (R701). -/
def Mach.statusItem (m : Mach) : List Byte :=
  leBytes 8 1 ++ leBytes 8 m.phase ++ leBytes 2 (m.fld A.PWR_AVG 15 0) ++ leBytes 1 m.level ++ leBytes 1 m.phsState ++
    leBytes 4 (m.rd (A.PWR_GATE 0)).toNat ++ leBytes 4 (m.rd (A.PWR_GATE 1)).toNat ++
    leBytes 1 (m.fld A.THERM_MAX 7 0) ++ leBytes 1 (m.fld A.THERM_MAX 11 8) ++ leBytes 1 (m.fld A.THERM_COOL 0 0) ++
    leBytes 1 ((List.range 8).filter m.ringUp |>.foldl (fun a n => a + 2 ^ n) 0) ++
    leBytes 2 ((List.range 16).filter m.ethUp |>.foldl (fun a n => a + 2 ^ n) 0) ++ leBytes 2 0 ++
    leBytes 4 (m.rd A.FLT_RECOV).toNat ++ leBytes 24 0

/-- An item is due at this slot boundary. -/
def Mach.telDue (m : Mach) : Bool :=
  m.phs.slotEdge && m.bit A.MGT_TEL_CFG 31 && max 1 (m.fld A.MGT_TEL_CFG 15 0) ≤ m.sys.telCount

def Mach.telemetry (m : Mach) : Mach :=
  ({ m with sys := { m.sys with telCount := 0 } }).lossyPush telQueue m.statusItem (fun a i => a.qStore telQueue i)

def execTelemetryItem (s : State) : Host.Outcome State Fault Refusal :=
  s.onMach (fun m => if m.telDue then m.telemetry else m)

/-! ### I3C common command codes (R693) -/

/-- A dynamic address is assigned. -/
def Mach.setDyn (m : Mach) (a : Nat) : Mach := (m.putBit A.MGT_I3C 31 true).put A.MGT_I3C 30 24 a

/-- ENTDAA: a target that has no dynamic address takes part, and takes `addr` where it wins the arbitration. -/
def execEntdaa (addr : BitVec 7) (won : Bool) (s : State) : Host.Outcome State Fault Refusal :=
  s.onMach (fun m => if won && !m.bit A.MGT_I3C 31 then m.setDyn addr.toNat else m)

/-- SETDASA to the module's static address. -/
def execSetdasa (static addr : BitVec 7) (s : State) : Host.Outcome State Fault Refusal :=
  s.onMach (fun m => if static.toNat = m.fld A.MGT_I3C 6 0 && !m.bit A.MGT_I3C 31 then m.setDyn addr.toNat else m)

def execRstdaa (s : State) : Host.Outcome State Fault Refusal :=
  s.onMach (fun m => (m.putBit A.MGT_I3C 31 false).put A.MGT_I3C 30 24 0)

/-- ENEC and DISEC set and clear the target's event enables. -/
def execEnec (ev : Byte) (s : State) : Host.Outcome State Fault Refusal :=
  s.onMach (fun m => { m with sys := { m.sys with events := m.sys.events ||| ev.toNat } })

def execDisec (ev : Byte) (s : State) : Host.Outcome State Fault Refusal :=
  s.onMach (fun m => { m with sys := { m.sys with events := m.sys.events &&& (255 - ev.toNat) } })

/-- GETPID: the vendor field and the part field. -/
def execGetpid (s : State) : Host.Outcome State Fault Refusal :=
  s.onMach (fun m => { m with resp := [(0, 0x2D3), (0, 0xA090)] })

def execGetbcr (s : State) : Host.Outcome State Fault Refusal :=
  s.onMach (fun m => { m with resp := [(0, Config.i3cBcr.setWidth 32)] })

def execGetdcr (s : State) : Host.Outcome State Fault Refusal :=
  s.onMach (fun m => { m with resp := [(0, Config.i3cDcr.setWidth 32)] })

/-- GETSTATUS: the two bytes are free, since the spec gives no contents. -/
def execGetstatus (s : State) : Host.Outcome State Fault Refusal :=
  s.onMach (fun m => let (d, m) := m.draw; { m with resp := [(0, BitVec.ofNat 32 (d.toNat % 2 ^ 16))] })

/-! ### JTAG (R694) -/

/-- An instruction is selected, and its data register answers `out`. -/
def Mach.jtag (m : Mach) (ir : Nat) (out : List (Nat × Word)) : Mach :=
  { m with sys := { m.sys with ir := ir }, resp := out }

/-- TRST_N, or five TCK cycles with TMS high: IDCODE is selected. -/
def execTapReset (s : State) : Host.Outcome State Fault Refusal :=
  s.onMach (fun m => { m with sys := { m.sys with ir := 1 } })

def execIdcode (s : State) : Host.Outcome State Fault Refusal := s.onMach (fun m => m.jtag 1 [(0, 0x1A0905A7)])

/-- BYPASS: the one-bit register captures 0. -/
def execBypass (s : State) : Host.Outcome State Fault Refusal := s.onMach (fun m => m.jtag 0xFF [(0, 0)])

/-- The levels of the signals in the boundary scan are free. -/
def Mach.scan (m : Mach) (ir bits : Nat) : Mach :=
  let (d, m) := m.draw
  let m := m.jtag ir [(0, BitVec.ofNat 32 d.toNat), (0, BitVec.ofNat 32 (d.toNat / 2 ^ 32))]
  { m with sys := { m.sys with boundary := bits } }

def execSamplePreload (bits : Nat) (s : State) : Host.Outcome State Fault Refusal := s.onMach (fun m => m.scan 2 bits)

/-- EXTEST: in RAW and TEST only; elsewhere it acts as BYPASS. -/
def execExtest (bits : Nat) (s : State) : Host.Outcome State Fault Refusal :=
  s.onMach (fun m => if m.lcs ≤ 1 then m.scan 0 bits else m.jtag 0 [(0, 0)])

end Sys2Proof.Machine
end

