-- ==== Sys2Proof/Machine/Pages.lean ====
section
/-! DEFINITION. Pages of the register space, their aliases and classes, the class filter, and the register views
(R68 to R95). -/
namespace Sys2Proof.Machine

/-! ### Pages (R68 to R77) -/

/-- The regions: first page, pages of the region, pages implemented (R68). -/
def regions : List (Nat × Nat × Nat) := [
  (0x000, 0x10, 0x03), (0x010, 0x10, 0x04), (0x020, 0x10, 0x08), (0x030, 0x10, 0x10), (0x040, 0x10, 0x10), (0x050, 0x10, 0x04),
  (0x060, 0x20, 0x10), (0x080, 0x10, 0x08), (0x090, 0x70, 0x04), (0x100, 0x100, 0x40)] ++ [
  (0x200, 0x80, 0x80), (0x280, 0x80, 0x20), (0x300, 0x40, 0x40), (0x340, 0x40, 0x40), (0x380, 0x80, 0x40), (0x400, 0x80, 0x80),
  (0x480, 0x380, 0x10), (0x800, 0x400, 0x280), (0xC00, 0x300, 0x40), (0xF00, 0x100, 0x100)]

/-- The page alias (R72, step 1). -/
def resolvePage (p : Nat) : Nat :=
  match regions.find? (fun r => r.1 ≤ p && p < r.1 + r.2.1) with
  | some (b, _, n) => b + (p - b) % n
  | none => p

/-- PAGE_ID.TYPE (R77). -/
def pageType (p : Nat) : Nat :=
  if p < 0x010 then 0x01 else if p < 0x020 then 0x02 else if p < 0x030 then 0x03 else if p < 0x040 then 0x04
  else if p < 0x050 then 0x05 else if p < 0x060 then 0x06 else if p < 0x080 then 0x07 else if p < 0x090 then 0x08
  else if p < 0x100 then 0x09 else if p < 0x200 then 0x10 else if p < 0x280 then 0x20 else if p < 0x300 then 0x21
  else if p < 0x340 then 0x30 else if p < 0x380 then 0x31 else if p < 0x400 then 0x32 else if p < 0x480 then 0x40
  else if p < 0x800 then 0x41 else if p < 0xC00 then 0x80 else if p < 0xF00 then 0xC0 else 0xF0

/-- PAGE_ID.INST (R76): the unit, or the index of the page within its block. -/
def pageInst (p : Nat) : Nat :=
  if 0x300 ≤ p && p < 0x340 then (p - 0x300) / 8
  else if 0x340 ≤ p && p < 0x380 then (p - 0x340) / 4
  else if 0x400 ≤ p && p < 0x480 then (p - 0x400) / 2
  else if 0x800 ≤ p && p < 0xC00 then (p - 0x800) / 8
  else if 0xC00 ≤ p && p < 0xF00 then (p - 0xC00) / 16
  else
    match regions.find? (fun r => r.1 ≤ p && p < r.1 + r.2.1) with
    | some (b, _, _) => p - b
    | none => 0

/-- PAGE_ID.DECW (R75 and the blocks' page maps). -/
def pageDecw (p : Nat) : Nat :=
  if p < 0x100 then
    if [0x012, 0x013, 0x023, 0x032, 0x033, 0x034, 0x035, 0x036, 0x041].contains p then 10
    else if [0x011, 0x030, 0x037, 0x052].contains p then 9
    else if [0x001, 0x031, 0x053, 0x062].contains p then 8
    else if [0x002, 0x010, 0x061].contains p then 7
    else if [0x020, 0x022, 0x068, 0x091].contains p then 6
    else if [0x000, 0x021, 0x040, 0x050, 0x051, 0x060, 0x06F, 0x080, 0x081, 0x082, 0x090].contains p then 5
    else 4
  else if p < 0x110 then 6
  else if 0x120 ≤ p && p < 0x130 then 9
  else if p = 0x200 then 7
  else if 0x240 ≤ p && p < 0x280 then 10
  else if p = 0x280 || (0x290 ≤ p && p < 0x2A0) then 5
  else if 0x300 ≤ p && p < 0x340 then
    match (p - 0x300) % 8 with
    | 0 => 5
    | 2 => 7
    | 3 => 8
    | 4 => if p = 0x304 then 8 else 4
    | _ => 4
  else if 0x340 ≤ p && p < 0x380 then (if (p - 0x340) % 2 = 0 then 5 else 4)
  else if p = 0x380 then 9
  else if 0x390 ≤ p && p < 0x3A0 then 6
  else if 0x400 ≤ p && p < 0x480 then (if p % 2 = 0 then 5 else 4)
  else if 0x480 ≤ p && p < 0x800 then 6
  else if 0x800 ≤ p && p < 0xC00 then (if (p - 0x800) % 8 < 2 then 5 else 4)
  else if 0xC00 ≤ p && p < 0xF00 then (if (p - 0xC00) % 16 = 0 then 5 else 4)
  else if 0xF00 ≤ p then 10
  else 4

/-- PAGE_ID.CLASS (R76): 1 OP, 2 TEN, 3 SHRO, 4 SEC. -/
def pageClass (p : Nat) : Nat :=
  if p = 0x001 || p = 0x012 || p = 0x013 then 3
  else if (0x04C ≤ p && p ≤ 0x04F) || (0x06C ≤ p && p ≤ 0x06E) then 4
  else if p = 0x011 || (0x034 ≤ p && p ≤ 0x037) || p = 0x052 || (0x100 ≤ p && p < 0x140) || (0x210 ≤ p && p < 0x220) ||
      (0x240 ≤ p && p < 0x280) || (0x290 ≤ p && p < 0x2A0) || (0x390 ≤ p && p < 0x3A0) || (0x400 ≤ p && p < 0x490) ||
      (0x800 ≤ p && p < 0xA80) then 2
  else 1

/-- Pages of the slow clock domains (R70). -/
def slowPage (p : Nat) : Bool :=
  (0x080 ≤ p && p ≤ 0x087) || (0x090 ≤ p && p ≤ 0x093) || p = 0x06F || (0x300 ≤ p && p < 0x340 && p % 8 = 7) ||
  (0x340 ≤ p && p < 0x380 && p % 4 = 3)

/-- A page that controls a unit (R79). -/
def controlsUnit (p : Nat) : Bool := (0x800 ≤ p && p < 0xA80 && p % 8 = 0) || (0x100 ≤ p && p < 0x110)

/-- The offset alias (R73): no chapter names a window, so a reserved offset is a sink. -/
def resolveOff (p o : Nat) : Nat := 4 * (o / 4 % 2 ^ pageDecw p)

/-- The partition that owns what offset `o` of a TEN page shows; `some 16` where every partition may act (R89). -/
def Mach.tenOwner (m : Mach) (p o : Nat) : Option Nat :=
  if o < 0x20 && (p = 0x011 || (0x034 ≤ p && p ≤ 0x037) || p = 0x052 || (0x240 ≤ p && p < 0x280)) then none
  else if p = 0x011 then some (m.cmpOwner ((o - 0x100) / 16))
  else if p = 0x034 || p = 0x035 then m.srcOwner (512 + (o - 0x800) / 4)
  else if p = 0x036 then some 16
  else if p = 0x037 then (if 0x100 ≤ o && o < 0x500 then some ((o - 0x100) / 0x40) else none)
  else if p = 0x052 then (if 0x100 ≤ o && o < 0x200 then some ((o - 0x100) / 0x10) else none)
  else if 0x100 ≤ p && p < 0x140 then (if p / 16 % 2 = 0 then some (p % 16) else some 0)
  else if 0x210 ≤ p && p < 0x220 then some (p % 16)
  else if 0x240 ≤ p && p < 0x280 then (if 0x800 ≤ o then m.ctxOwner (64 * (p - 0x240) + (o - 0x800) / 32) else none)
  else if 0x290 ≤ p && p < 0x2A0 then some (p % 16)
  else if 0x390 ≤ p && p < 0x3A0 then some (p % 16)
  else if 0x400 ≤ p && p < 0x480 then m.chOwner ((p - 0x400) / 2)
  else if 0x480 ≤ p && p < 0x490 then some (p - 0x480)
  else if 0x800 ≤ p && p < 0xA80 then m.tileOwner ((p - 0x800) / 8)
  else none

/-- The class filter (R72, R78, R88, R89); `data` is the mark "(data)". HRMP_RXWAY is partition 0's to write (R491). -/
def Mach.allowed (m : Mach) (who : Ident) (p o : Nat) (data write : Bool) : Bool :=
  match who with
  | .kaolin => true
  | .part q =>
    if write && (o = 0x004 || (0x390 ≤ p && p < 0x3A0 && o = 0x02C)) then q = 0
    else
      match pageClass p with
      | 4 => false
      | 3 => !write || q = 0
      | 1 => q = 0
      | _ => m.tenOwner p o = some q.val || m.tenOwner p o = some 16 || (q = 0 && !data)

/-- What a path reaches (R92, R691, R695): 0 nothing, 1 all, 2 reads and W1C writes, 3 reads. Paths: 0 packets, 1 I3C, 2 HCPACC. -/
def Mach.reach (m : Mach) (path p : Nat) : Nat :=
  let keep : Bool := p ≤ 0x002 || (0x020 ≤ p && p ≤ 0x027) || (0x080 ≤ p && p ≤ 0x087) || (0x090 ≤ p && p ≤ 0x093)
  if m.fld A.PWR_STS 1 0 = 2 && !keep then 0
  else if path = 1 || (path = 2 && !m.bit A.GLB_STS 0) then
    if (0x080 ≤ p && p ≤ 0x087) || (0x090 ≤ p && p ≤ 0x093) then 1
    else if p ≤ 0x002 || p = 0x010 || (0x020 ≤ p && p ≤ 0x027) then (if path = 1 then 2 else 1)
    else if p = 0x06F then (if path = 1 then 3 else 1)
    else 0
  else 1

/-! ### Refusals (R90, R95) -/

/-- The number of an identity: 16 is Kaolin. -/
def identNum : Ident → Nat
  | .part p => p.val
  | .kaolin => 16

/-- A refused access: recorded and counted against its partition; `off` as addressed. -/
def Mach.refuse (m : Mach) (who : Ident) (path off st : Nat) : Mach :=
  match who with
  | .kaolin => m
  | .part p =>
    ((m.wr A.GLB_DENY_PAGE (BitVec.ofNat 32 (p.val * 2 ^ 28 + path * 2 ^ 26 + st * 2 ^ 24 + off / 0x1000 % 0x1000))).wr A.GLB_DENY_OFF
      (BitVec.ofNat 32 (off % 0x1000))).bump (A.GLB_DENY_CNT p.val)

/-! ### Where a register's value lies -/

/-- A queue register block that offset `o` of page `p` lies in: the block's offset (R415). -/
def queueBase (p o : Nat) : Option Nat :=
  if p = 0x022 && 0x20 ≤ o && o < 0x40 then some 0x20
  else if p = 0x091 && 0x40 ≤ o && o < 0x60 then some 0x40
  else if 0x100 ≤ p && p < 0x110 && 0x80 ≤ o && o < 0xA0 then some 0x80
  else if p = 0x037 && 0x100 ≤ o && o < 0x500 && 0x20 ≤ o % 0x40 then some (o / 0x20 * 0x20)
  else if 0x300 ≤ p && p < 0x340 && p % 8 = 2 && 0x40 ≤ o && o < 0xC0 then some (o / 0x20 * 0x20)
  else if 0x390 ≤ p && p < 0x3A0 && 0x40 ≤ o && o < 0x60 then some 0x40
  else none

/-- The storage key of a register: none where a selected window shows nothing of the partition's (R203, R401, R491, R562). -/
def Mach.cellOf (m : Mach) (p o : Nat) : Option Nat :=
  let k := 0x1000 * p + o
  let w := p % 16
  if p = 0x061 then some (k + 2 ^ 24 * m.fld A.ATT_SEL 3 0)
  else if 0x390 ≤ p && p < 0x3A0 then
    let q := m.fld (A.HRMP_Q_SEL w) 13 0
    if 0x34 ≤ o && o < 0x60 then (if m.queueOwner q = some w then some (0x390000 + o + 2 ^ 24 * q) else none)
    else if 0x64 ≤ o && o < 0x80 then some (k + 2 ^ 24 * m.fld (A.HRMP_PEER_SEL w) 7 0)
    else some k
  else if 0x290 ≤ p && p < 0x2A0 && 0x2C ≤ o && o < 0x50 then
    let c := m.fld (A.MSK_WIN_SEL w) 11 0
    if m.ctxOwner c = some w then some (mskReg (0x290000 + o) c) else none
  else if 0x100 ≤ p && p < 0x110 && o = 0x4C then
    let q := m.fld (A.LOAM_QB_SEL w) 13 0
    if m.queueOwner q = some w then some (qbKey w q) else none
  else some k

/-- Words of the multiword quantity that this register belongs to, and its place (R7; R485 and R491 name IP6 and the peer entry). -/
def mwInfo (p o : Nat) (r : RegRow) : Nat × Nat :=
  if 0x340 ≤ p && p < 0x380 && p % 4 = 0 && 0x40 ≤ o && o < 0x50 then (4, (o - 0x40) / 4)
  else if 0x390 ≤ p && p < 0x3A0 && 0x64 ≤ o && o < 0x80 then (7, (o - 0x64) / 4)
  else (r.mwLen, r.mwIdx)

/-! ### The head of a page (R76 to R80) -/

/-- PAGE_ERR (R80, R631). -/
def Mach.pageErr (m : Mach) (p : Nat) : Nat :=
  match (pageUnit p).bind (tfind m.flt.units) with
  | some e => 2 ^ 31 + b2n e.merged * 2 ^ 30 + e.cls * 2 ^ 27 + e.src % 256 * 2 ^ 16 + e.detail % 65536
  | none => 0

def Mach.pageBusy (m : Mach) (p : Nat) : Bool := (tfind m.regs.posted p).isSome

/-- A word of the head as it reads. -/
def Mach.headView (m : Mach) (p o : Nat) : Nat :=
  match o with
  | 0x00 => pageType p * 2 ^ 24 + pageInst p * 2 ^ 16 + 0x1000 + pageDecw p * 2 ^ 8 + pageClass p
  | 0x04 => (m.rd (0x1000 * p + 4)).toNat
  | 0x08 =>
    8 * (m.pageErr p / 2 ^ 31) + 4 * m.fld (0x1000 * p + 8) 2 2 + 2 * b2n (m.regs.shadow.any (fun e => pageOfKey e.1 = p)) + b2n (m.pageBusy p)
  | 0x10 => m.pageErr p
  | 0x14 => if m.lcs = 1 then (m.rd (0x1000 * p + 0x14)).toNat else 0
  | _ => 0

/-- PAGE_CTL (R76, R78, R79). -/
def Mach.writePageCtl (m : Mach) (p v : Nat) : Mach :=
  let a := 0x1000 * p + 4
  let m := if slowPage p then m else m.put a 7 4 (bitsOf v 7 4)
  let m := if bitOf v 1 then m.putBit a 1 true else m
  if controlsUnit p then m.putBit a 0 (bitOf v 0) else m

/-- A write of a word of the head; LOCK is checked before. -/
def Mach.writeHead (m : Mach) (p o v : Nat) : Mach :=
  match o with
  | 0x04 => m.writePageCtl p v
  | 0x08 => if bitOf v 2 then m.putBit (0x1000 * p + 8) 2 false else m
  | 0x0C => if bitOf v 0 then m.applyPages (fun q => q = p) else m
  | 0x14 => m.writeInj p v
  | _ => m

/-- LOCK of the page (R78). -/
def Mach.locked (m : Mach) (who : Ident) (p : Nat) : Bool := who ≠ .kaolin && m.bit (0x1000 * p + 4) 1

/-! ### Reads -/

/-- A word of a queue block (R415); `b` is the block's storage key. -/
def Mach.queueView (m : Mach) (p b i : Nat) : Nat :=
  let k := queueKind m b
  match i with
  | 0 => b2n (m.net.flushing.contains b) * 2 ^ 31 + 2 * m.fld (A.Q_CTL b) 1 1 + b2n k.2.2.1
  | 1 => m.qSts b (if 0x390 ≤ p && p < 0x3A0 then m.qlim (b / 2 ^ 24) else 2 ^ k.1)
  | 2 => m.fld (A.Q_CAP b) 31 16 * 2 ^ 16 + k.2.1 * 2 ^ 8 + k.1
  | _ => (m.rd (b + 4 * i)).toNat

/-- Word `i` of the item at slot RD of a hub queue: 0 where the queue is empty (R649, R701). -/
def Mach.itemWord (m : Mach) (b i : Nat) : Nat :=
  if m.qOcc b = 0 then 0
  else fieldAt (tget m.qitems (2 ^ 16 * b + m.fld (A.Q_PTR b) 15 0 % 2 ^ (queueKind m b).1) []) (4 * i) 4

/-- TILE_ENG_STS (R250). -/
def Mach.engSts (m : Mach) (t : Nat) : Nat :=
  let x := m.tile t
  16 * b2n (!x.chain.isEmpty) + 8 * b2n (!x.gen.isEmpty || !x.noise.isEmpty) + 4 * b2n (!x.brz.isEmpty) + 2 * b2n (!x.arr.isEmpty) +
    b2n (m.tileState t = 2 && x.node.isSome && !x.ended && x.fault.isNone && !x.halted)

/-- DBG_HSTS of the selected tile (R540, R565). -/
def Mach.dbgHsts (m : Mach) : Nat :=
  let t := m.fld A.DBG_HALT 6 0
  if t < 80 then b2n (m.tile t).halted + 2 * b2n (m.tileSealed t) else 0

/-- The registers of a page whose reads are computed; the rest read as stored. -/
def Mach.view (m : Mach) (who : Ident) (p o : Nat) : Nat :=
  match m.cellOf p o with
  | none => 0
  | some k =>
    let w := (m.rd k).toNat
    match queueBase p o with
    | some q => m.queueView p (k - (o - q)) ((o - q) / 4)
    | none =>
      if p = 0x000 then (if o = 0x50 then m.pendingGroups else w)
      else if p = 0x010 then (if o = 0x28 then m.phase % 2 ^ 32 else if o = 0x2C then m.phase / 2 ^ 32 else w)
      else if p = 0x021 then m.reactWord ((o - 0x20) / 4 + 1)
      else if p = 0x022 then m.itemWord fltLog ((o - 0x40) / 4)
      else if p = 0x023 then m.ustsWord ((o - 0x400) / 4)
      else if p = 0x036 then
        if o < 0x1C0 then 0
        else if o < 0x200 then m.tWord who ((o - 0x1C0) / 4) (fun s => m.bit (A.INT_CFG s) 31)
        else if o < 0x240 then m.tWord who ((o - 0x200) / 4) (fun s => m.srcState s = 1)
        else m.tWord who ((o - 0x240) / 4) (fun s => m.srcState s = 2)
      else if p = 0x040 then (if o = 0x4C then m.slotsLoaded else w)
      else if p = 0x041 then m.slotSts ((o - 0x800) / 4)
      else if p = 0x068 then (if o = 0x24 then m.dbgHsts else w)
      else if p = 0x080 then (if o = 0x20 then withBits w 5 5 (b2n m.oversub) else w)
      else if p = 0x091 then (if 0x80 ≤ o then m.itemWord telQueue ((o - 0x80) / 4) else w)
      else if 0x100 ≤ p && p < 0x110 then
        match o with
        | 0x24 => withBits w 6 0 (m.loamHandles (p % 16))
        | 0x34 => m.loamFree (p % 16)
        | 0x44 => m.ctr (p % 16) (m.fld (A.LOAM_CTR_SEL (p % 16)) 11 0)
        | _ => w
      else if p = 0x200 then (if o = 0x20 then withBits w 12 0 ((List.range 4096).filter m.ctxActive).length else w)
      else if 0x210 ≤ p && p < 0x220 then
        (if o = 0x38 then ((List.range 4096).filter (fun c => m.ctxOwner c = some (p % 16) && m.ctxActive c)).length else w)
      else if 0x390 ≤ p && p < 0x3A0 then
        (if o = 0x80 then (m.cbanksOf (p % 16)).length * 2 ^ 23 + (m.net.wins.filter (fun e => e.part = p % 16)).length else w)
      else if 0x800 ≤ p && p < 0xA80 && p % 8 = 1 then
        let t := (p - 0x800) / 8
        match o with
        | 0x20 => (m.tile t).dma.foldl (fun a x => a ||| 2 ^ x.tag) 0
        | 0x24 => m.engSts t
        | 0x28 => match m.tileOwner t with | some q => m.effLevel q | none => m.level
        | _ => w
      else if 0xC00 ≤ p && p < 0xC40 && p % 16 = 1 then (if o = 0x20 then withBits w 31 31 (b2n (m.drbgOn (18 + (p - 0xC00) / 16))) else w)
      else w

/-- Latches and held words: identity and register (R7). -/
def latchKey (who : Ident) (p o : Nat) : Nat := 2 ^ 40 * identNum who + 0x1000 * p + o

/-- A counter of cycles, which this model does not count: it reads as a free value. -/
def cycleCounter (p o : Nat) : Bool :=
  0x800 ≤ p && p < 0xA80 && p % 8 = 2 && (o = 0x20 || o = 0x30 || o = 0x34 || o = 0x3C)

/-- The value of a register, and what drawing it does. -/
def Mach.fetchReg (m : Mach) (who : Ident) (p o : Nat) : Mach × Word :=
  if p = 0x052 && 0x100 ≤ o && o < 0x200 && o % 16 = 0 then m.siltData ((o - 0x100) / 16)
  else if p = 0x051 && o = 0x40 then m.siltRaw
  else if cycleCounter p o then
    let (d, m) := m.draw
    let m := if o = 0x20 then m.wr (0x1000 * p + 0x24) (BitVec.ofNat 32 (d.toNat / 2 ^ 32)) else m
    (m, BitVec.ofNat 32 d.toNat)
  else (m, BitVec.ofNat 32 (m.view who p o))

end Sys2Proof.Machine
end

