-- ==== Sys2Proof/Machine/Debug.lean ====
section
/-! DEFINITION. The operator's debug reads: dump records (R541 to R544). -/
namespace Sys2Proof.Machine

/-- What a dump holds, or the code with which it ends (R565): the bytes, whether they are zeroed (R544), and the tenant
for which the record is wrapped (R541). -/
structure Dump where
  body : List Byte
  zeroed : Bool := false
  tenant : Option Nat := none
  deriving DecidableEq, Repr

/-- A tenant partition, if `o` is one. -/
def tenantOf (o : Option Nat) : Option Nat := o.bind (fun q => if q = 0 || 16 ≤ q then none else some q)

/-- One register word as a dump shows it: the bytes, and whether it is a SEC register (R544). A word that no stored value
gives (a cycle counter, an entropy word, a TEST page) is free. -/
def Mach.dumpWord (m : Mach) (p o : Nat) : Mach × List Byte × Bool :=
  let row := rowIn (pageRows p) o
  let sec := pageClass p = 4 || (match row with | some r => fldMask r (fun a => a = .sec) ≠ 0 | none => false)
  if o < 0x20 then (m, leBytes 4 (m.headView p o), false)
  else if sec then (m, leBytes 4 0, true)
  else if (0xF00 ≤ p && m.lcs < 2) || cycleCounter p o || p = 0x052 || (p = 0x051 && o = 0x40) then
    let (b, m) := m.drawBytes 4
    (m, b, false)
  else
    match row with
    | some r => (m, leBytes 4 (m.view .kaolin p o &&& fldMask r (fun a => a ≠ .wo)), false)
    | none => (m, leBytes 4 0, false)

/-- REG (R541): the registers of one page. -/
def Mach.dumpRegs (m : Mach) (off len : Nat) : Mach × Except Nat Dump :=
  if 2 ^ 24 ≤ off || off % 4 ≠ 0 || len % 4 ≠ 0 || len = 0 || 4096 < off % 4096 + len then (m, .error 3)
  else
    let p := resolvePage (off / 0x1000)
    let os := (List.range (len / 4)).map (fun i => resolveOff p (off % 0x1000 + 4 * i))
    let (m, b, z) := os.foldl (fun (a : Mach × List Byte × Bool) o =>
      let (m, w, s) := a.1.dumpWord p o
      (m, a.2.1 ++ w, a.2.2 || s)) (m, [], false)
    let data (o : Nat) : Bool := match rowIn (pageRows p) o with | some r => r.data | none => false
    let t := if pageClass p = 2 then (os.filter data).findSome? (fun o => tenantOf (m.tenOwner p o)) else none
    (m, .ok { body := b, zeroed := z, tenant := t })

/-- TILE (R541): tile store and code memory; a sealed tile reads as zeros (R544). -/
def Mach.dumpTile (m : Mach) (t a len : Nat) : Except Nat Dump :=
  if 80 ≤ t || len = 0 || 65536 < len || 0x840000 < a + len then .error 3
  else if m.tileSealed t then .ok { body := List.replicate len 0, zeroed := true, tenant := tenantOf (m.tileOwner t) }
  else
    match m.tileBytes t a len with
    | some b => .ok { body := b, tenant := tenantOf (m.tileOwner t) }
    | none => .error 7

/-- The 1,024 bytes of a STATE dump (R542). -/
def Mach.stateBytes (m : Mach) (t : Nat) : List Byte :=
  let x := m.tile t
  let s := (List.range 32).flatMap (fun i => leBytes 8 (tget x.s i 0).toNat)
  let v := (List.range 16).flatMap (fun i => leBytes 16 (tget x.v i 0))
  let regs := leBytes 8 (m.tilePc t) ++ leBytes 8 (m.fld (A.TILE_SFLAGS t) 1 0) ++ leBytes 8 (b2n x.ftz + 2 * b2n x.sr) ++
    leBytes 1 x.link.length ++ leBytes 1 x.loops.length ++ leBytes 6 0
  let links := x.link.reverse.flatMap (leBytes 8)
  let loops := x.loops.reverse.flatMap (fun (l : Nat × Nat × Nat) => leBytes 8 l.2.2 ++ leBytes 8 l.2.1)
  slice (s ++ v ++ regs ++ slice links 0 128 ++ slice loops 0 64) 0 1024

/-- STATE (R541, R542). -/
def Mach.dumpState (m : Mach) (t len : Nat) : Except Nat Dump :=
  if 80 ≤ t || len ≠ 1024 then .error 3
  else if !(m.tile t).halted then .error 4
  else if m.tileSealed t then .ok { body := List.replicate 1024 0, zeroed := true, tenant := tenantOf (m.tileOwner t) }
  else .ok { body := m.stateBytes t, tenant := tenantOf (m.tileOwner t) }

/-- The code of a failed access (R541). -/
def XFail.dumpCode (e : XFail) : Nat :=
  match e.kind with
  | .xlate _ => 6
  | .boundary => 6
  | _ => 7

/-- The lines before the one that fails are copied (R541): the bytes that go into the record, and the code. -/
def Mach.dumpLines (m : Mach) (p : Nat) (acc : List Byte) : List Seg → Mach × List Byte × Nat
  | [] => (m, acc, 0)
  | s :: r =>
    match m.lineRead p s.pa with
    | (m, some _) => (m, acc, 7)
    | (m, none) => m.dumpLines p (acc ++ memRead m.mem.cells s.pa s.len) r

/-- MEM and SNAP (R541): the bytes read, and 0, XLATE or MEM_ERR. -/
def Mach.dumpMem (m : Mach) (p kind src len : Nat) : Mach × Except Nat (List Byte × Nat) :=
  if len = 0 || 65536 < len then (m, .error 3)
  else if kind = 5 then
    if m.snapLen p < src + len then (m, .error 3)
    else
      let (m, b, c) := m.dumpLines p [] (lineSegs [{ off := 0, pa := m.snapBase p + src, len := len }])
      (m, .ok (b, c))
  else
    let (d, m) := m.draw
    match m.xlate (d.toNat % 8) p (src % 2 ^ 48) len with
    | (m, .error e) => (m, .error e.dumpCode)
    | (m, .ok segs) =>
      let (m, b, c) := m.dumpLines p [] (lineSegs segs)
      (m, .ok (b, c))

/-- WAY (R541): what a way holds is not in this model, so its bytes are free; a recovery way reads as zeros (R544). -/
def Mach.dumpWay (m : Mach) (w off len : Nat) : Mach × Except Nat Dump :=
  if len = 0 || 65536 < len || 6 * 2 ^ 20 < off + len then (m, .error 3)
  else if m.wayHeld w 4096 then (m, .ok { body := List.replicate len 0, zeroed := true, tenant := tenantOf (m.wayOwner w) })
  else
    let (b, m) := m.drawBytes len
    (m, .ok { body := b, tenant := tenantOf (m.wayOwner w) })

/-- DBG_RES as a read leaves it (R565). -/
def Mach.dbgRes (m : Mach) (code : Nat) (zeroed wrapped : Bool) : Mach :=
  m.wr A.DBG_RES (BitVec.ofNat 32 (2 ^ 31 + b2n zeroed * 512 + b2n wrapped * 256 + code))

/-- The header of a dump record (R543). -/
def Mach.dumpHead (m : Mach) (kind part src len seq : Nat) (wrapped zeroed : Bool) : List Byte :=
  leBytes 4 0x44394648 ++ leBytes 1 kind ++ leBytes 1 part ++ leBytes 1 (b2n wrapped + 2 * b2n zeroed) ++ leBytes 1 0 ++ leBytes 8 src ++
    leBytes 4 len ++ leBytes 4 0 ++ leBytes 8 seq ++ leBytes 8 m.phase ++
    (List.range 3).flatMap (fun i => leBytes 4 (m.rd (A.GLB_SERIAL i)).toNat) ++ leBytes 12 0

/-- The record is written at DBG_OUT in partition 0 (R543); `code` is what the read ended with. -/
def Mach.dumpWrite (m : Mach) (kind part src len code : Nat) (d : Dump) : Mach :=
  let out := m.fld A.DBG_OUT_HI 15 0 * 2 ^ 32 + m.fld A.DBG_OUT_LO 31 6 * 64
  let fin (m : Mach) (rec' : List Byte) : Mach :=
    let (f, m) := m.draw
    match m.vwrite (f.toNat % 8) 0 out rec' with
    | (m, none) => m.dbgRes code d.zeroed d.tenant.isSome
    | (m, some e) => m.dbgRes e.dumpCode d.zeroed d.tenant.isSome
  match d.tenant with
  | none => fin m (m.dumpHead kind part src len 0 false d.zeroed ++ d.body)
  | some q =>
    match (tfind m.att.export_ q).bind (fun s => m.slotKey q s 5) with
    | none => m.dbgRes 2 false false
    | some key =>
      let n := tget m.att.dumpSeq q 0
      let head := m.dumpHead kind part src len n true d.zeroed
      let (c, t) := gcmSeal (toNats key) (toNats (leBytes 8 n ++ leBytes 1 q ++ leBytes 3 0)) (toNats head) (toNats d.body)
      let m := ({ m with att := { m.att with dumpSeq := tset m.att.dumpSeq q (n + 1) } }).wr (A.SESS_DUMPS q) (BitVec.ofNat 32 (n + 1))
      fin m (head ++ toBytes c ++ toBytes t)

/-- The record of a dump, or its refusal. -/
def Mach.dumpEnd (m : Mach) (kind src len : Nat) (r : Except Nat Dump) : Mach :=
  match r with
  | .error c => m.dbgRes c false false
  | .ok d => m.dumpWrite kind (d.tenant.getD 0) src len 0 d

/-- DBG_CMD (R541, R565). -/
def Mach.writeDbgCmd (m : Mach) (v : Nat) : Mach :=
  let src := m.rd64 A.DBG_SRC_LO
  let len := m.fld A.DBG_LEN 16 0
  let kind := bitsOf v 6 4
  let part := bitsOf v 11 8
  if bitsOf v 3 0 ≠ 1 || 6 ≤ kind then m.dbgRes 8 false false
  else
    match kind with
    | 0 => (let (m, r) := m.dumpRegs src len; m.dumpEnd 0 src len r)
    | 1 => m.dumpEnd 1 src len (m.dumpTile (bitsOf src 38 32) (bitsOf src 23 0) len)
    | 2 => m.dumpEnd 2 src len (m.dumpState (bitsOf src 38 32) len)
    | 4 => (let (m, r) := m.dumpWay (bitsOf src 35 32) (bitsOf src 22 0) len; m.dumpEnd 4 src len r)
    | _ =>
      match (if part ≠ 0 && ((tfind m.att.export_ part).bind (fun s => m.slotKey part s 5)).isNone then (m, .error 2) else m.dumpMem part kind src len) with
      | (m, .error c) => m.dbgRes c false false
      | (m, .ok (b, c)) =>
        -- the lines before an uncorrectable one are copied; the rest of the body is free
        let (rest, m) := m.drawBytes (len - b.length)
        m.dumpWrite kind part src len c { body := b ++ rest, tenant := tenantOf (some part) }

end Sys2Proof.Machine
end

