-- ==== Sys2Proof/Machine/Access.lean ====
section
/-! DEFINITION. Register access: reads and writes of every register by access type, held words, posted writes,
and which write has which effect (R7, R8, R81, R86 to R92). -/
namespace Sys2Proof.Machine

/-- RC fields are cleared by the read (R8); a counter of faults may then report its saturation again (R640). -/
def Mach.readClear (m : Mach) (p o : Nat) (r : RegRow) : Mach :=
  let rc := fldMask r (fun a => a = .rc)
  if rc = 0 then m
  else
    match m.cellOf p o with
    | none => m
    | some k =>
      let m := m.wr k (m.rd k &&& ~~~(BitVec.ofNat 32 rc))
      if p = 0x020 && 0x34 ≤ o && o < 0x48 then { m with flt := { m.flt with satTold := m.flt.satTold.filter (· ≠ (o - 0x34) / 4 + 1) } } else m

/-- A read of a block register (R7, R8). -/
def Mach.readRow (m : Mach) (who : Ident) (p o : Nat) (r : RegRow) : Mach × Word :=
  let mw := mwInfo p o r
  if mw.2 ≠ 0 then (m, tget m.regs.latch (latchKey who p o) 0)
  else
    let (m, v) := m.fetchReg who p o
    let m := m.readClear p o r
    let m := (rangeFrom 1 (mw.1 - 1)).foldl (fun a j =>
      { a with regs := { a.regs with latch := tset a.regs.latch (latchKey who p (o + 4 * j)) (BitVec.ofNat 32 (a.view who p (o + 4 * j))) } }) m
    (m, v &&& BitVec.ofNat 32 (fldMask r (fun a => a ≠ .wo && a ≠ .sec)))

/-- A register read: value and status (R72, R88, R91). -/
def Mach.regRead (m : Mach) (who : Ident) (path off : Nat) : Mach × Word × Nat :=
  let p := resolvePage (off / 0x1000 % 0x1000)
  let o := resolveOff p (off % 0x1000)
  let row := rowIn (pageRows p) o
  let data := match row with | some r => r.data | none => false
  if off % 4 ≠ 0 then (m.refuse who path off 1, 0, 1)
  else if 0xF00 ≤ p && 2 ≤ m.lcs then (m, 0, 0)
  else if m.reach path p = 0 || !m.allowed who p o data false then (m.refuse who path off 1, 0, 1)
  else if o < 0x20 then (m, BitVec.ofNat 32 (m.headView p o), 0)
  else if 0xF00 ≤ p then (let (d, m) := m.draw; (m, BitVec.ofNat 32 d.toNat, 0))
  else
    match row with
    | none => (m, 0, 0)
    | some r => (let (m, v) := m.readRow who p o r; (m, v, 0))

/-! ### Writes -/

/-- A write by access types alone (R8, R81): RW and PW fields take the value, W1C and W1S bits clear and set, SH fields go to
the shadow. -/
def Mach.plainWrite (m : Mach) (k : Nat) (r : RegRow) (v : Nat) : Mach :=
  let V := BitVec.ofNat 32 v
  let mask (f : Acc → Bool) : Word := BitVec.ofNat 32 (fldMask r f)
  let sh := mask (fun a => a = .sh)
  if sh ≠ 0 then
    let old := (tfind m.regs.shadow k).getD (m.rd k)
    { m with regs := { m.regs with shadow := tset m.regs.shadow k ((old &&& ~~~sh) ||| (V &&& sh)) } }
  else
    let rw := mask (fun a => a = .rw || a = .pw)
    let old := m.rd k
    m.wr k ((((old &&& ~~~rw) ||| (V &&& rw)) &&& ~~~(V &&& mask (fun a => a = .w1c))) ||| (V &&& mask (fun a => a = .w1s)))

/-- Every word of a quantity, by access types alone. -/
def Mach.plainWords (m : Mach) (p : Nat) (ws : List (Nat × Nat)) : Mach :=
  ws.foldl (fun a e => match rowIn (pageRows p) e.1, a.cellOf p e.1 with
    | some r, some k => a.plainWrite k r e.2
    | _, _ => a) m

/-- What a flush discards beside the items (R411, R412): held packets of an HRMP queue, frames of a ring VC. -/
def Mach.flushHeld (m : Mach) (p b : Nat) : Mach :=
  if 0x390 ≤ p && p < 0x3A0 then
    let q := b / 2 ^ 24
    { m with net := { m.net with wins := m.net.wins.map (fun e => if e.part = p % 16 && e.queue = q then { e with held := [] } else e) } }
  else if 0x300 ≤ p && p < 0x340 then
    let n := (p - 0x300) / 8
    let vc := (b % 0x1000 - 0x40) / 0x20
    let mine := m.net.txq.filter (fun f => f.transit = some n && f.vc = vc)
    let m := mine.foldl (fun a f => a.freeCredits n vc f.pkt.part.val (cdiv (32 + 16 * f.pkt.plen.toNat + 16 * b2n f.pkt.enc) 64)) m
    let x := tget m.net.asm (4 * n + vc) {}
    { m with net := { m.net with txq := m.net.txq.filter (fun f => !(f.transit = some n && f.vc = vc)),
                                 asm := if x.isOpen then tset m.net.asm (4 * n + vc) { x with bad := true } else m.net.asm } }
  else m

/-- FLUSH (R411): the queue is emptied, its gap count cleared, and the flush counts what it discards. -/
def Mach.flushQueue (m : Mach) (p b : Nat) : Mach :=
  let items := if 0x390 ≤ p && p < 0x3A0 then
      ((m.net.wins.filter (fun e => e.part = p % 16 && e.queue = b / 2 ^ 24)).map (fun e => e.held.length)).sum
    else if 0x300 ≤ p && p < 0x340 then
      (m.net.txq.filter (fun f => f.transit = some ((p - 0x300) / 8) && f.vc = (b % 0x1000 - 0x40) / 0x20)).length
    else m.qOcc b
  let m := (m.bumpF (A.Q_FLUSHED b) 31 0 items).put (A.Q_PTR b) 15 0 (m.fld (A.Q_PTR b) 31 16)
  let m := m.flushHeld p b
  { m with net := { m.net with gaps := terase m.net.gaps b, flushing := b :: m.net.flushing.filter (· ≠ b) } }

/-- Q_PTR.RD (R415, R416): a value from RD to WR of a queue that software consumes. -/
def Mach.writeQPtr (m : Mach) (b v : Nat) : Mach :=
  let k := queueKind m b
  let c := 2 ^ (k.1 + 1)
  let rd := m.fld (A.Q_PTR b) 15 0
  if !k.2.2.2 then m
  else if v % 65536 < c && (v % 65536 + c - rd % c) % c ≤ m.qOcc b then m.put (A.Q_PTR b) 15 0 (v % 65536)
  else m.putBit (A.Q_STS b) 4 true

/-- A write of a queue block's word (R415). -/
def Mach.writeQueue (m : Mach) (p b i v : Nat) : Mach :=
  match i with
  | 0 =>
    let m := m.putBit (A.Q_CTL b) 1 (bitOf v 1)
    if bitOf v 31 then m.flushQueue p b else m
  | 1 => if bitOf v 4 then m.putBit (A.Q_STS b) 4 false else m
  | 3 => m.writeQPtr b v
  | _ => m

/-- A slot-table word: a shared entry has PART 0 (R61, R67). -/
def slotWord (v : Nat) : Nat := leNat ((leBytes 4 v).map (fun b => if b.toNat.testBit 4 then 0x10 else b &&& 0x0F))

/-- Pages 0x000 to 0x013. -/
def Mach.writeGlbPhs (m : Mach) (p o v : Nat) (ws : List (Nat × Nat)) : Mach :=
  if p = 0x000 then
    if o = 0x30 then m.writeGlbRst v
    else if o = 0x40 then m.writeGlbUpd v
    else if o = 0x48 then (if m.bit A.GLB_UPD_AT_CTL 31 then m else m.plainWords p ws)
    else if o = 0x4C then m.writeUpdAtCtl v
    else m.plainWords p ws
  else if p = 0x010 then
    if 0x80 ≤ o && o < 0xA0 then m.tracked (fun a => a.writeCmpOwn ((o - 0x80) / 4) v)
    else if o = 0x20 then m.writePhsCfg v
    else if o = 0x40 then m.writeAcq v
    else if o = 0x44 then m.writeEpochSet v
    else m.plainWords p ws
  else if p = 0x011 then
    if o % 16 = 0xC then m.writeCmpCtl ((o - 0x100) / 16) v
    else if m.bit (A.CMP_CTL ((o - 0x100) / 16)) 31 then m
    else m.plainWords p ws
  else if p = 0x012 || p = 0x013 then m.plainWords p (ws.map (fun e => (e.1, slotWord e.2)))
  else m.plainWords p ws

/-- Pages 0x020 to 0x03F. -/
def Mach.writeFltInt (m : Mach) (who : Ident) (p o v : Nat) (ws : List (Nat × Nat)) : Mach :=
  if p = 0x020 then
    if o = 0x20 then m.writeFirst v
    else if o = 0x50 then m.writePin v
    else if o = 0x58 then m.writeQuiesce v
    else if o = 0x5C then m.writeUclr v
    else if o = 0x60 then m.writeEgress v
    else m.plainWords p ws
  else if p = 0x021 then m.writeReact ((o - 0x20) / 4 + 1) v
  else if p = 0x030 then
    if 0x40 ≤ o && o < 0x80 then m.tracked (fun a => a.writeHvOwn ((o - 0x40) / 4) v)
    else if 0x80 ≤ o && o < 0xC0 then m.tracked (fun a => a.writeTOwn ((o - 0x80) / 4) v)
    else if o = 0x20 then m.writeSwPend v
    else if o = 0x24 then m.writeOPclr v
    else if o = 0x100 then m.writeDoorbell v
    else m.plainWords p ws
  else if p = 0x031 then (if o % 0x20 = 0x10 then m else m.plainWords p ws)
  else if p = 0x032 then m.writeOCfg ((o - 0x800) / 4) v
  else if p = 0x034 then m.writeTCfg who (512 + (o - 0x800) / 4) v
  else if p = 0x036 then
    if o < 0x140 then m.writeTMset who ((o - 0x100) / 4) v
    else if o < 0x180 then m.writeTMclr who ((o - 0x140) / 4) v
    else if o < 0x1C0 then m.writeTPclr who ((o - 0x180) / 4) v
    else m
  else if p = 0x037 then
    if o % 0x40 = 0 then m.writeHdest ((o - 0x100) / 0x40) v
    else if o % 0x40 = 4 then m.writeHcmpl ((o - 0x100) / 0x40) v
    else m.plainWords p ws
  else m.plainWords p ws

/-- DBG_HALT (R540, R565): a sealed tile is not held. -/
def Mach.writeDbgHalt (m : Mach) (v : Nat) : Mach :=
  let t := v % 128
  let old := m.fld A.DBG_HALT 6 0
  let m := m.put A.DBG_HALT 6 0 t
  let hold := bitOf v 31 && t < 80
  if hold && m.tileSealed t then (m.putBit A.DBG_HALT 31 false).put A.DBG_RES 7 0 5
  else
    let m := m.putBit A.DBG_HALT 31 (bitOf v 31)
    let free (a : Mach) (u : Nat) : Mach := if u < 80 && (a.tile u).halted then a.setTile u { a.tile u with halted := false, step := false } else a
    let m := if old = t then m else free m old
    if hold then m.setTile t { m.tile t with halted := true, step := bitOf v 30 && (m.tile t).halted }
    else free m t

/-- Pages 0x040 to 0x061. -/
def Mach.writeKeyAtt (m : Mach) (p o v : Nat) (ws : List (Nat × Nat)) : Mach :=
  if p = 0x040 then (if o = 0x44 then m.writeKeyCmd v else m.plainWords p ws)
  else if p = 0x050 then
    match o with
    | 0x20 => m.writeSiltCtl v
    | 0x24 => m.writeSiltCfg v
    | _ => m.plainWords p ws
  else if p = 0x060 then (if o = 0x24 then m.writeAttCmd v else m.plainWords p ws)
  else if p = 0x061 then
    let q := m.fld A.ATT_SEL 3 0
    if 0x40 ≤ o && o < 0x70 then
      if m.partState q = 0 || (q = 0 && m.fld (A.SESS_STS 0) 1 0 = 0) then m.plainWords p ws else m
    else m.plainWords p ws
  else m.plainWords p ws

/-- The slow pages 0x06F to 0x091. -/
def Mach.writeSlow (m : Mach) (p o v : Nat) (ws : List (Nat × Nat)) : Mach :=
  if p = 0x06F then
    match o with
    | 0x3C => (m.plainWords p ws).writeLcCmd v
    | 0x50 => m.writeRstUnit v
    | 0x54 => m.writeRstRing v
    | _ => m.plainWords p ws
  else if p = 0x080 then
    match o with
    | 0x20 => m.writePwrSts v
    | 0x24 => m.writePwrCfg v
    | 0x28 => m.writePwrCtl v
    | _ => m.plainWords p ws
  else if p = 0x081 then (if 0x40 ≤ o then m.writeShareW ((o - 0x40) / 4) v else m)
  else if p = 0x090 then (if o = 0x24 then m.writeAlert v else m.plainWords p ws)
  else m.plainWords p ws

/-- Pages 0x100 to 0x29F. -/
def Mach.writeLoamAgg (m : Mach) (who : Ident) (p o v lo : Nat) (ws : List (Nat × Nat)) : Mach :=
  let q := p % 16
  if p < 0x110 then
    match o with
    | 0x20 => m.writeLoamMode who q v
    | 0x2C => m.writeSnapBase who q lo v
    | 0x30 => m.writeSnapSize who q v
    | 0x38 => m.writeLoamCmd q v
    | 0x44 => m.writeCtrVal q v
    | 0x4C => m.writeQb q v
    | 0x58 => m.writeTraceCfg q v
    | 0x60 => if m.bit (A.TRACE_CFG q) 31 then m else m.plainWords p ws
    | _ => m.plainWords p ws
  else if p = 0x200 then (if 0x100 ≤ o then m.tracked (fun a => a.writeAggOwn ((o - 0x100) / 4) v) else m.plainWords p ws)
  else if 0x210 ≤ p && p < 0x220 then (if o = 0x2C then m.writeAggCmd q v else m.plainWords p ws)
  else if p = 0x280 then (if 0x30 ≤ o then m.tracked (fun a => a.writeMskOwn ((o - 0x30) / 4) v) else m.plainWords p ws)
  else if 0x290 ≤ p && p < 0x2A0 then (if o = 0x24 then m.writeMskCmd q v else m.plainWords p ws)
  else m.plainWords p ws

/-- OPT_LASER of a ring port: a laser disabled takes its lane out of service; the spare's lane is the one
that it serves (R459). -/
def Mach.writeLasers (m : Mach) (n v : Nat) : Mach :=
  let old := (m.rd (A.BRL_OPT_LASER n)).toNat
  let m := m.wr (A.BRL_OPT_LASER n) (BitVec.ofNat 32 (v % 2 ^ 17))
  let off := old &&& ((2 ^ 17 - 1) ^^^ (v % 2 ^ 17))
  let lane := m.fld (A.BRL_OPT_SPARE n) 3 0
  let off := if m.bit (A.BRL_OPT_SPARE n) 31 then withBits off lane lane (b2n (bitOf off 16)) else off
  if off % 65536 &&& m.lanes n = 0 then m else m.setLanes n (m.lanes n &&& (65535 ^^^ (off % 65536)))

/-- Pages 0x300 to 0x3BF. -/
def Mach.writePorts (m : Mach) (p o v : Nat) (ws : List (Nat × Nat)) : Mach :=
  let n := (p - 0x300) / 8
  let e := (p - 0x340) / 4
  if p < 0x340 then
    match p % 8 with
    | 0 => if o = 0x20 then m.writePortCtl n v else m.plainWords p ws
    | 2 => if 0x100 ≤ o then m.tracked (fun a => a.writeShare n ((o - 0x100) / 0x40) ((o % 0x40) / 4) v) else m.plainWords p ws
    | 5 => if p = 0x305 && o = 0x20 then m.writeNode v else m.plainWords p ws
    | 7 => if o = 0x20 then m.writeLasers n v else m.plainWords p ws
    | _ => m.plainWords p ws
  else if p < 0x380 then
    match p % 4 with
    | 0 => if o = 0x20 then m.writeEthCfg e v else m.plainWords p ws
    | 2 => m.tracked (fun a => a.writeRxShare e ((o - 0x20) / 4) v)
    | _ => m.plainWords p ws
  else if p = 0x380 then
    if 0x100 ≤ o && o < 0x200 then m.tracked (fun a => a.writeQown ((o - 0x100) / 4) v)
    else if 0x200 ≤ o && o < 0x300 then m.tracked (fun a => a.writeCbank ((o - 0x200) / 4) v)
    else if o = 0x20 then m.writeHrmpCfg v
    else m.plainWords p ws
  else
    match o with
    | 0x28 => m.writeLkeyCtl (p % 16) v
    | 0x2C => m.writeRxway (p % 16) v
    | _ => m.plainWords p ws

/-- Pages 0x400 and above. -/
def Mach.writeUnits (m : Mach) (p o v lo : Nat) (ws : List (Nat × Nat)) : Mach :=
  if p < 0x480 then
    (if p % 2 = 0 && o = 0x24 then (if bitOf v 0 then m.retire ((p - 0x400) / 2) else m) else m.plainWords p ws)
  else if p < 0x490 then
    match o with
    | 0x20 => m.writeMmuKey (p - 0x480) v
    | 0x28 => m.writeMmuRoot (p - 0x480) lo v
    | 0x38 => m.writeMmuInv (p - 0x480) v
    | _ => m.plainWords p ws
  else if 0xC00 ≤ p && p % 16 = 0 && o = 0x64 then m.writeRemap ((p - 0xC00) / 16) v
  else m.plainWords p ws

/-- The low word that a write of a pair commits: the held one, and where none is held the register's own value (R7). -/
def Mach.lowWord (m : Mach) (p : Nat) : List (Nat × Nat) → Nat
  | [(o, _)] => match m.cellOf p o with | some k => (m.rd (k - 4)).toNat | none => 0
  | ws => (ws.headD (0, 0)).2

/-- A whole quantity is written: the last of `ws` is the word that commits it (R7). -/
def Mach.commit (m : Mach) (who : Ident) (p : Nat) (ws : List (Nat × Nat)) : Mach :=
  let o := (ws.getLastD (0, 0)).1
  let v := (ws.getLastD (0, 0)).2
  let lo := m.lowWord p ws
  match queueBase p o, m.cellOf p o with
  | some q, some k => m.writeQueue p (k - (o - q)) ((o - q) / 4) v
  | some _, none => m
  | none, _ =>
    if p < 0x020 then m.writeGlbPhs p o v ws
    else if p < 0x040 then m.writeFltInt who p o v ws
    else if p = 0x068 then
      (if o = 0x20 then m.writeDbgHalt v else if o = 0x3C then m.writeDbgCmd v else m.plainWords p ws)
    else if p < 0x062 then m.writeKeyAtt p o v ws
    else if p < 0x100 then m.writeSlow p o v ws
    else if p < 0x300 then m.writeLoamAgg who p o v lo ws
    else if p < 0x400 then m.writePorts p o v ws
    else m.writeUnits p o v lo ws

/-- The words held for the quantity that this write commits, in address order (R7). -/
def Mach.heldWords (m : Mach) (who : Ident) (p o len v : Nat) : List (Nat × Nat) :=
  ((List.range (len - 1)).filterMap (fun j =>
    let a := o - 4 * (len - 1 - j)
    (tfind m.regs.held (latchKey who p a)).map (fun w => (a, w.toNat)))) ++ [(o, v)]

/-- The held words of the quantity are spent. -/
def Mach.dropHeld (m : Mach) (who : Ident) (p o len : Nat) : Mach :=
  { m with regs := { m.regs with held := m.regs.held.filter (fun e => !(latchKey who p (o - 4 * (len - 1)) ≤ e.1 && e.1 < latchKey who p o)) } }

/-- A register write that the filters let through (R7, R86): its status. `now` makes a posted write land at once. -/
def Mach.writeRow (m : Mach) (who : Ident) (path off p o : Nat) (r : RegRow) (v : Nat) (now : Bool) : Mach × Nat :=
  let (len, i) := mwInfo p o r
  if i + 1 < len then
    ({ m with regs := { m.regs with held := tset m.regs.held (latchKey who p o) (BitVec.ofNat 32 v) } }, 0)
  else
    let posted := slowPage p && fldMask r (fun a => a = .pw) ≠ 0
    if posted && m.pageBusy p then ((m.putBit (0x1000 * p + 8) 2 true).refuse who path off 3, 3)
    else
      let ws := m.heldWords who p o len v
      let m := m.dropHeld who p o len
      if posted && !now then ({ m with regs := { m.regs with posted := tset m.regs.posted p (ws.map (fun e => (e.1, BitVec.ofNat 32 e.2))) } }, 0)
      else (m.commit who p ws, 0)

/-- W1C fields of an offset, as an I3C write may change them (R92); GLB_RST is open too. -/
def i3cMask (p o : Nat) (row : Option RegRow) : Nat :=
  if o = 0x008 then 4
  else if p = 0x000 && o = 0x30 then 2 ^ 32 - 1
  else match row with | some r => fldMask r (fun a => a = .w1c) | none => 0

/-- A register write: its status (R72, R78, R88, R91). -/
def Mach.regWrite (m : Mach) (who : Ident) (path off : Nat) (v : Nat) (now : Bool) : Mach × Nat :=
  let p := resolvePage (off / 0x1000 % 0x1000)
  let o := resolveOff p (off % 0x1000)
  let row := if o < 0x20 then none else rowIn (pageRows p) o
  let data := match row with | some r => r.data | none => false
  let reach := m.reach path p
  let mask := if reach = 2 then i3cMask p o row else 2 ^ 32 - 1
  if off % 4 ≠ 0 || (0xF00 ≤ p && 2 ≤ m.lcs) || reach = 0 || reach = 3 || !m.allowed who p o data true || mask = 0 then
    (m.refuse who path off 1, 1)
  else if m.locked who p && (o = 0x004 || row.isSome) then (m.refuse who path off 2, 2)
  else if o < 0x20 then (m.writeHead p o (v &&& mask), 0)
  else
    match row with
    | none => (m, 0)
    | some r => m.writeRow who path off p o r (v &&& mask) now

/-- A posted write lands (R86). -/
def Mach.landPosted (m : Mach) (p : Nat) : Mach :=
  match tfind m.regs.posted p with
  | some ws => ({ m with regs := { m.regs with posted := terase m.regs.posted p } }).commit (.part 0) p (ws.map (fun (e : Nat × Word) => (e.1, e.2.toNat)))
  | none => m

/-- No register access is latched while the core clocks are stopped (R618). -/
def Mach.asleep (m : Mach) : Bool := m.fld A.PWR_STS 1 0 = 1

/-- One write, as a command of its own: the answer is its status. -/
def Mach.writeCmd (m : Mach) (who : Ident) (off v : Nat) : Mach :=
  if m.asleep then m
  else m.event (fun m =>
    let (m, st) := m.regWrite who 0 off v true
    { m with resp := [(st, 0)] })

/-- One read, as a command of its own. -/
def Mach.readCmd (m : Mach) (who : Ident) (off : Nat) : Mach :=
  if m.asleep then m
  else
    let (m, v, st) := m.regRead who 0 off
    { m with resp := [(st, v)] }

end Sys2Proof.Machine
end

