-- ==== Sys2Proof/Machine/Chain.lean ====
section
/-! DEFINITION. Chained reduction between tiles and with memory (R241, R298 to R306). -/
namespace Sys2Proof.Machine

/-! ### Combining two regions (R299 to R301) -/

/-- The local descriptor calls for pair mode (R301). -/
def pairMode (d : Nat) : Bool :=
  dSpace d = 0 && dFmt d = 0xA && 0x700000 ≤ dBase d && footEnd d ≤ 0x800000 && dBase d % 8 = 0 && dStride d % 8 = 0 &&
    dCols d % 2 = 0

/-- A received row ⊕ the local row, in the local descriptor's format. Scale bytes are not elements and stay
as they are locally. -/
def chainRow (d : Nat) (recv loc : List Byte) : List Byte :=
  let w := (fmtWidth (dFmt d)).getD 8
  let n := dCols d
  let el (b : List Byte) (c : Nat) : Nat := elemAt w b c
  let sums :=
    if pairMode d then
      (List.range (n / 2)).flatMap (fun i =>
        let v (b : List Byte) (k : Nat) : FVal := fp32.decode false (el b (2 * i + k))
        let (s, c) := pairAdd (v recv 0) (v recv 1) (v loc 0) (v loc 1)
        [fp32.round false s, fp32.round false c])
    else (List.range n).map (fun c => (chainAdd (dFmt d) (el recv c) (el loc c)).getD (el recv c))
  let b := packRow w sums
  b ++ loc.drop b.length

/-! ### Issue (R241, R300) -/

/-- The chain channel of an operation. -/
def chanIx (x : Nat) : Nat := x % 4

/-- The predecessor and successor that the chain table gives a channel (R298). -/
def Tile.ends (x : Tile) (ch : Nat) : ChainEnd × ChainEnd := tget x.chTab ch (.none, .none)

/-- CHAIN where the channel has no such end (R241). -/
def endCheck (e : ChainEnd) (ch : Nat) : Option KF := if e = .none then some (0x0C, ch) else none

/-- FMT_BAD where ⊕ is not available (R300). -/
def sumCheck (d : Nat) : Option KF := if (chainAdd (dFmt d) 0 0).isNone then some (8, dFmt d) else none

/-! ### Sending (R302, R303) -/

/-- A DMA failure of a chain operation stops the kernel (R303, R242). -/
def Mach.chainFault (m : Mach) (t : Nat) (o : EngOp) (cause detail : Nat) : Mach :=
  let x := m.tile t
  let m := m.setTile t { x with fault := if x.fault.isSome then x.fault else some (cause, detail, o.pc) }
  m.setTileState t 3

/-- How a failed access ends a chain operation. -/
def Mach.chainFail (m : Mach) (t : Nat) (o : EngOp) (e : XFail) : Mach :=
  match e.dmaEnd with
  | .fail kind v => m.chainFault t o 9 (kind * 2 ^ 60 + v % 2 ^ 48)
  | _ => m

/-- A region goes to the successor of channel `ch`. -/
def Mach.chainSend (m : Mach) (t : Nat) (o : EngOp) (ch n : Nat) (rows : List (List Byte)) : Mach :=
  let x := m.tile t
  match (x.ends ch).2 with
  | .none => m.chainFault t o 0x0C ch
  | .tile u =>
    let tag := tget x.chSent ch 0
    let m := m.setTile t { x with chSent := tset x.chSent ch (tag + 1) }
    let y := m.tile u
    m.setTile u { y with inbox := y.inbox ++ [{ ch := ch, tag := tag, rowBytes := n, rows := rows }] }
  | .mem va c _ =>
    let b := rows.flatten
    match m.vwrite 1 (m.tilePart t) va b with
    | (m, none) => (m.countLines t va b.length).ctrAdd (m.tilePart t) c 1
    | (m, some e) => m.chainFail t o e

/-- The rows of a local region. -/
def Tile.rows (x : Tile) (d : Nat) : List (List Byte) := (List.range (storedRows d)).map (x.row d)

/-- CHSEND executes: the region as stored, whatever its format (R300). -/
def Mach.sendLocal (m : Mach) (t : Nat) (o : EngOp) : Mach :=
  let x := m.tile t
  match x.poisonDesc o.vA with
  | some l => m.engPoison t o l
  | none => m.chainSend t o (chanIx o.x) (rowBytes o.vA) (x.rows o.vA)

/-- Sends at the head of the chain queue leave; a receiver waits for its region. -/
def Mach.chainDrain (m : Mach) (t : Nat) : (fuel : Nat) → Mach
  | 0 => m
  | fuel + 1 =>
    let x := m.tile t
    match x.chain with
    | o :: r => if o.code = 512 then ((m.setTile t { x with chain := r }).sendLocal t o).chainDrain t fuel else m
    | [] => m

/-- A chain operation enters the queue, and sends that can leave do. -/
def Mach.chainIssue (m : Mach) (t : Nat) (x : Tile) (o : EngOp) : TRes :=
  match m.engine t x 5 o with
  | .seq m => .seq (m.chainDrain t 2)
  | r => r

def Mach.chsend (m : Mach) (t : Nat) : Mach :=
  m.issue t [512] (fun m x i =>
    let va := x.vreg i.a
    checked [checkDesc i.a va false, needLocal i.a va, noSp va, endCheck (x.ends (chanIx i.x)).2 (chanIx i.x)]
      (m.chainIssue t x (engOp x i (foot va) [])))
def execChsend (t : Fin 80) (s : State) : Host.Outcome State Fault Refusal := s.onMach (fun m => m.chsend t)

def Mach.chrecv (m : Mach) (t : Nat) : Mach :=
  m.issue t [513] (fun m x i =>
    let vd := x.vreg i.d
    let store := i.x.testBit 2
    checked [checkDesc i.d vd true, needLocal i.d vd, noSp vd, if store then none else sumCheck vd,
        endCheck (x.ends (chanIx i.x)).1 (chanIx i.x)]
      (m.chainIssue t x (engOp x i (if store then [] else foot vd) (foot vd))))
def execChrecv (t : Fin 80) (s : State) : Host.Outcome State Fault Refusal := s.onMach (fun m => m.chrecv t)

def Mach.chpass (m : Mach) (t : Nat) : Mach :=
  m.issue t [514] (fun m x i =>
    let va := x.vreg i.a
    checked [checkDesc i.a va false, needLocal i.a va, noSp va, sumCheck va,
        endCheck (x.ends (chanIx i.x)).1 (chanIx i.x), endCheck (x.ends (chanIx i.x)).2 (chanIx i.x)]
      (m.chainIssue t x (engOp x i (foot va) [])))
def execChpass (t : Fin 80) (s : State) : Host.Outcome State Fault Refusal := s.onMach (fun m => m.chpass t)

/-! ### Receiving (R302, R303, R305) -/

/-- The descriptor a receiving operation combines with. -/
def EngOp.local (o : EngOp) : Nat := if o.code = 513 then o.vD else o.vA

/-- The rows of a region are combined, and written or sent on. -/
def Mach.chainTake (m : Mach) (t : Nat) (o : EngOp) (n : Nat) (rows : List (List Byte)) : Mach :=
  let x := m.tile t
  let d := o.local
  let store := o.code = 513 && o.x.testBit 2
  if n ≠ rowBytes d || rows.length ≠ storedRows d then m.chainFault t o 0x0C (chanIx o.x)
  else
    match (if store then none else x.poisonDesc d) with
    | some l => m.engPoison t o l
    | none =>
      let out := if store then rows else (List.zip rows (x.rows d)).map (fun e => chainRow d e.1 e.2)
      if o.code = 513 then m.setTile t (x.fill d out.flatten) else m.chainSend t o (chanIx o.x) n out

/-- What the link shows as the region arrives: nothing, a corrected error, or an uncorrectable one, on link `l`. -/
def Mach.linkError (m : Mach) (t st l : Nat) : Mach :=
  let c := t / 20
  match st with
  | 0 => m
  | 1 => (m.bump (A.CLU_LINK_CORR c)).raiseFault 0x48 (0xE0 + c) l
  | _ => (m.bump (A.CLU_LINK_CORR c + 4)).raiseFault 0x49 (0xE0 + c) l

/-- The operation at the head of the chain queue meets its region. -/
def Mach.chainArrive (m : Mach) (t st l : Nat) : Mach :=
  let x := m.tile t
  match x.chain with
  | [] => m
  | o :: r =>
    let ch := chanIx o.x
    let d := o.local
    let popped (m : Mach) : Mach := m.setTile t { m.tile t with chain := r }
    match (x.ends ch).1 with
    | .none => m
    | .mem va c count =>
      if m.ctr (m.tilePart t) c < count then m
      else
        let n := rowBytes d
        match (popped m).vread 1 (m.tilePart t) va (n * storedRows d) with
        | (m, .error e) => (m.chainFail t o e).chainDrain t 2
        | (m, .ok b) =>
          ((m.countLines t va b.length).chainTake t o n ((List.range (storedRows d)).map (fun k => slice b (k * n) n))).chainDrain t 2
    | .tile _ =>
      match x.inbox.find? (fun g => g.ch = ch) with
      | none => m
      | some g =>
        let got := tget x.chGot ch 0
        let m := (m.setTile t { x with inbox := x.inbox.erase g }).linkError t st l
        if 2 ≤ st then ((popped m).chainFault t o 0x0C ch).chainDrain t 2
        else if g.tag < got then m
        else if got < g.tag then ((popped m).chainFault t o 0x0C ch).chainDrain t 2
        else
          let y := m.tile t
          let m := m.setTile t { y with chGot := tset y.chGot ch (got + 1) }
          ((popped m).chainTake t o g.rowBytes g.rows).chainDrain t 2

def execChainRegionArrive (t : Fin 80) (st : Fin 3) (link : Nat) (s : State) : Host.Outcome State Fault Refusal :=
  s.onMach (fun m => m.chainArrive t st link)

end Sys2Proof.Machine
end

