-- ==== Sys2Proof/Machine/Receive.lean ====
section
/-! DEFINITION. What each packet does at step 12 of the receive checks, the duplicates of R476, the answers to the H9's own
requests, and the packet rows of the table (R102 to R121, R469, R476 to R479). -/
namespace Sys2Proof.Machine

/-! ### Register packets (R91, R110, R111) -/

/-- The payload of a REG_RSP: pairs of offset, status and value, padded where their number is odd (R111). -/
def regRsp (l : List (Nat × Nat × Nat)) : List Byte :=
  l.flatMap (fun e => leBytes 4 (e.1 + e.2.1 * 2 ^ 24) ++ leBytes 4 e.2.2) ++
    (if l.length % 2 = 1 then leBytes 4 0xFFFFFFFF ++ leBytes 4 0 else [])

/-- The offset of pair `i` (R110). -/
def pairOff (k : Pkt) (i : Nat) : Nat := fieldAt k.payload (8 * i) 4 % 2 ^ 24

/-- REG_RD at step 12: the pairs are read in order. -/
def Mach.regRdRun (m : Mach) (k : Pkt) : Mach × Ans :=
  let (m, l) := (List.range (k.operand.toNat % 128)).foldl (fun (a : Mach × List (Nat × Nat × Nat)) i =>
    let (m, v, st) := a.1.regRead (.part k.part) 0 (pairOff k i)
    (m, a.2 ++ [(pairOff k i, st, v.toNat)])) (m, [])
  (m, .rsp 0x03 (regRsp l))

/-- REG_WR at step 12: the pairs are written in order. -/
def Mach.regWrRun (m : Mach) (k : Pkt) : Mach × Ans :=
  let (m, l) := (List.range (k.operand.toNat % 128)).foldl (fun (a : Mach × List (Nat × Nat × Nat)) i =>
    let (m, st) := a.1.regWrite (.part k.part) 0 (pairOff k i) (fieldAt k.payload (8 * i + 4) 4) false
    (m, a.2 ++ [(pairOff k i, st, 0)])) (m, [])
  (m, .regWr (l.all (fun e => e.2.1 = 0)) (regRsp l))

/-- The statuses in a REG_RSP of `n` pairs are all OK. -/
def rspAllOk (b : List Byte) (n : Nat) : Bool := (List.range n).all (fun i => fieldAt b (8 * i) 4 / 2 ^ 24 % 4 = 0)

/-- A duplicate REG_WR (R476): the original statuses where they are known, otherwise OK in every pair. -/
def regWrAgain (k : Pkt) (rec' : Option (List Byte)) : Ans :=
  let n := k.operand.toNat % 128
  match rec' with
  | some b => .regWr (rspAllOk b n) b
  | none => .regWr true (regRsp ((List.range n).map (fun i => (pairOff k i, 0, 0))))

/-! ### Memory packets and atomics (R112, R113, R478, R479) -/

/-- The NAK of a failed access (R130). -/
def XFail.nak (e : XFail) : Ans :=
  match e.kind with
  | .xlate l => .nak 9 (l * 2 ^ 48 + e.va)
  | .boundary => .nak 0x0A e.va
  | .memErr => .nak 0x0B e.va
  | .key s => .nak 0x14 s

/-- MEM_WR (R112). -/
def Mach.memWrRun (m : Mach) (k : Pkt) : Mach × Ans :=
  match m.vwrite 0 k.part.val (fieldAt k.payload 0 8 % 2 ^ 48) (slice k.payload 16 (fieldAt k.payload 8 4)) with
  | (m, none) => (m, .ack 0)
  | (m, some e) => (m, e.nak)

/-- MEM_RD (R113): VA and LEN are echoed. -/
def Mach.memRdRun (m : Mach) (k : Pkt) : Mach × Ans :=
  match m.vread 0 k.part.val (fieldAt k.payload 0 8 % 2 ^ 48) (fieldAt k.payload 8 4) with
  | (m, .error e) => (m, e.nak)
  | (m, .ok b) => (m, .rsp 0x12 (slice k.payload 0 12 ++ leBytes 4 0 ++ b))

/-- The result ring of a queue (R478). -/
def Mach.atomVa (m : Mach) (q : Nat) : Nat :=
  m.fld (A.HRMP_Q_ATOM_HI 0 + 2 ^ 24 * q) 15 0 * 2 ^ 32 + m.fld (A.HRMP_Q_ATOM_LO 0 + 2 ^ 24 * q) 31 12 * 4096

/-- The answer of an atomic: the word's value before the operation (R115). -/
def atomRsp (old : List Byte) : Ans := .rsp 0x24 (slice old 0 8 ++ leBytes 8 0)

/-- The word's new value; none where a CAS does not swap (R479). -/
def atomNew (cas : Bool) (k : Pkt) (old : Nat) : Option Nat :=
  if cas then (if old = fieldAt k.payload 8 8 then some (fieldAt k.payload 16 8) else none)
  else some ((old + fieldAt k.payload 8 8) % 2 ^ 64)

/-- The operation on the word and the result record (R478, steps 2 and 3). -/
def Mach.atomDo (m : Mach) (cas : Bool) (k : Pkt) (va recVa : Nat) : Mach × Ans :=
  let p := k.part.val
  let fail (e : XFail) : Ans := ({ e with va := va } : XFail).nak
  match m.vread 0 p va 8 with
  | (m, .error e) => (m, fail e)
  | (m, .ok old) =>
    let w := match atomNew cas k (leNat old) with
      | some v => m.vwrite 0 p va (leBytes 8 v)
      | none => (m, none)
    match w with
    | (m, some e) => (m, fail e)
    | (m, none) =>
      match m.vwrite 0 p recVa (leBytes 4 k.seq.toNat ++ leBytes 3 k.src.toNat ++ leBytes 1 1 ++ old) with
      | (m, some e) => (m, fail e)
      | (m, none) => (m, atomRsp old)

/-- AADD and CAS (R115, R478). -/
def Mach.atomRun (m : Mach) (cas : Bool) (k : Pkt) : Mach × Ans :=
  let p := k.part.val
  let va := fieldAt k.payload 0 8
  let ring := m.atomVa k.queue.toNat
  let recVa := (ring + 16 * (k.seq.toNat % 256)) % 2 ^ 48
  if va % 8 ≠ 0 then (m, .nak 8 va)
  else if ring = 0 then (m, .nak 0x0C 0)
  else
    match m.vread 0 p recVa 16 with
    | (m, .error e) => (m, ({ e with va := va % 2 ^ 48 } : XFail).nak)
    | (m, .ok r) =>
      if (fieldAt r 7 1).testBit 0 && fieldAt r 0 4 = k.seq.toNat && fieldAt r 4 3 % 2 ^ 20 = k.src.toNat then (m, atomRsp (r.drop 8))
      else m.atomDo cas k (va % 2 ^ 48) recVa

/-! ### The other requests -/

/-- The answer that AGG, MSK or Loam gives. -/
def PRes.ans : PRes → Ans
  | .ok v => .ack v
  | .no r d => .nak r d

/-- INT_MSG (R118). -/
def Mach.intMsgRun (m : Mach) (k : Pkt) : Mach × Ans :=
  let s := k.operand.toNat % 1024
  if k.part = 0 || (512 ≤ s && m.srcOwner s = some k.part.val) then (m.fire s, .ack 0) else (m, .nak 0x0C 0)

/-- DOORBELL (R117). -/
def Mach.doorbellRun (m : Mach) (k : Pkt) : Mach × Ans :=
  let op := k.operand.toNat
  (m.doorbell k.part.val (op % 4096) (op / 2 ^ 16 % 4096) k.queue.toNat, .ack 0)

/-- What a request does at step 12. -/
def Mach.runPkt (m : Mach) (ing : Ingress) (opc : BitVec 8) (k : Pkt) : Mach × Ans :=
  let res (r : Mach × PRes) : Mach × Ans := (r.1, r.2.ans)
  match opc.toNat with
  | 0x01 => m.regRdRun k
  | 0x02 => m.regWrRun k
  | 0x10 => m.memWrRun k
  | 0x11 => m.memRdRun k
  | 0x20 => res (m.vadd false k)
  | 0x21 => res (m.vadd true k)
  | 0x22 => m.atomRun false k
  | 0x23 => m.atomRun true k
  | 0x30 => (match m.graphSubmit ing k with | (m, some r) => (m, r.ans) | (m, none) => (m, .later))
  | 0x31 => m.doorbellRun k
  | 0x32 => m.intMsgRun k
  | 0x40 => res (m.shareDeliver k)
  | 0x50 => m.keyDeliver ing k
  | 0x51 => m.attestReq ing k
  | _ => m.sessionInit ing k

/-- A submission of this packet waits for its answer (R382). -/
def Mach.subPending (m : Mach) (k : Pkt) : Bool :=
  m.loam.graphs.any (fun e => match e.2.sub with
    | some h => h.pkt.part = k.part && h.pkt.src = k.src && h.pkt.queue = k.queue && h.pkt.seq = k.seq
    | none => false)

/-- A duplicate that the window found (R476, R556). -/
def Mach.againPkt (m : Mach) (ing : Ingress) (opc : BitVec 8) (k : Pkt) (rec' : Option (List Byte)) : Mach × Ans :=
  match opc.toNat with
  | 0x01 => m.regRdRun k
  | 0x02 => (m, regWrAgain k rec')
  | 0x11 => m.memRdRun k
  | 0x22 => m.atomRun false k
  | 0x23 => m.atomRun true k
  | 0x30 => if m.subPending k then (m, .later) else (m, .ack (match rec' with | some b => fieldAt b 0 8 | none => 0))
  | 0x50 => if k.isFirst && k.isLast then m.keyMessage ing k k.payload else (m, .ack 0)
  | 0x51 => m.attestReq ing k
  | 0x53 => m.sessionInit ing k
  | _ => (m, .ack 0)

/-- Step 12 and the duplicates. -/
def handler : Handler := { run := Mach.runPkt, again := Mach.againPkt }

/-! ### Answers to the H9's own requests (R469) -/

/-- The request that a response answers (R107). -/
def Mach.reqOf (m : Mach) (k : Pkt) : Option Req := m.net.reqs.find? (fun r => r.is k.queue.toNat k.operand.toNat)

/-- The graph node or session of a finished request goes on. -/
def Mach.reqAcked (m : Mach) (node : Option (Nat × Nat × Nat)) : Mach :=
  match node with
  | none => m
  | some x => if m.loam.sessions.any (fun s => s.node = x) then m.sessionAcked x else m.xferAcked x.1 x.2.1 x.2.2

/-- The final failure of a request: XFER DETAIL `d`, or the session's exchange ends. -/
def Mach.reqFailed (m : Mach) (r : Req) (d : Nat) : Mach :=
  let m := m.dropReq r.pkt.queue.toNat r.pkt.seq.toNat
  match r.node with
  | none => m
  | some x => if m.loam.sessions.any (fun s => s.node = x) then m.sessionFailed x else m.xferFail x.1 x.2.1 x.2.2 d

/-- Abandonment (R469). -/
def Mach.abandon (m : Mach) (r : Req) (d : Nat) : Mach := (m.bump (A.HRMP_ABANDON r.pkt.part.val)).reqFailed r d

/-- A NAK for a request of the H9 (R130, R469). -/
def Mach.reqNak (m : Mach) (r : Req) (reason : Nat) : Mach :=
  if reason = 7 then
    if m.fld A.HRMP_TMR 23 16 ≤ r.rnrs then m.abandon r 7 else m.putReq { r with rnrs := r.rnrs + 1, backoff := true }
  else if reason = 0x0D then m.putReq { r with rnrs := 0 }
  else m.reqFailed r reason

/-- A response that passed the checks: matched, or dropped and counted (R107). -/
def Mach.response (m : Mach) (opc : BitVec 8) (k : Pkt) : Mach :=
  let drop : Mach := { m with net := { m.net with dropped := m.net.dropped + 1 } }
  match m.reqOf k with
  | none => drop
  | some r =>
    if opc = 0x60 then (m.dropReq r.pkt.queue.toNat r.pkt.seq.toNat).reqAcked r.node
    else if opc = 0x61 then m.reqNak r (fieldAt k.payload 0 1)
    else drop

/-! ### Arrival -/

/-- A frame on a ring port is for this node's hub where its table says so (R439), or where it is a broadcast. -/
def Mach.forHub (m : Mach) (ing : Ingress) (k : Pkt) : Bool :=
  match ing with
  | .ring n => k.dst.toNat = 0xFFFFF || m.route n.val k.dst.toNat = some 8
  | .eth _ _ _ _ _ => true

/-- A packet arrives whole (R126 to R128). -/
def Mach.packet (m : Mach) (ing : Ingress) (opc : BitVec 8) (k : Pkt) : Mach :=
  if m.asleep || !m.forHub ing k then m else m.arrive handler Mach.response ing opc k

def execRegRd (ing : Ingress) (k : Pkt) (s : State) : Host.Outcome State Fault Refusal := s.onMach (fun m => m.packet ing 0x01 k)
def execRegWr (ing : Ingress) (k : Pkt) (s : State) : Host.Outcome State Fault Refusal := s.onMach (fun m => m.packet ing 0x02 k)
def execMemWr (ing : Ingress) (k : Pkt) (s : State) : Host.Outcome State Fault Refusal := s.onMach (fun m => m.packet ing 0x10 k)
def execMemRd (ing : Ingress) (k : Pkt) (s : State) : Host.Outcome State Fault Refusal := s.onMach (fun m => m.packet ing 0x11 k)
def execVaddZ32 (ing : Ingress) (k : Pkt) (s : State) : Host.Outcome State Fault Refusal := s.onMach (fun m => m.packet ing 0x20 k)
def execVaddZ64 (ing : Ingress) (k : Pkt) (s : State) : Host.Outcome State Fault Refusal := s.onMach (fun m => m.packet ing 0x21 k)
def execAadd (ing : Ingress) (k : Pkt) (s : State) : Host.Outcome State Fault Refusal := s.onMach (fun m => m.packet ing 0x22 k)
def execCas (ing : Ingress) (k : Pkt) (s : State) : Host.Outcome State Fault Refusal := s.onMach (fun m => m.packet ing 0x23 k)
def execGraphSubmit (ing : Ingress) (k : Pkt) (s : State) : Host.Outcome State Fault Refusal := s.onMach (fun m => m.packet ing 0x30 k)
def execDoorbell (ing : Ingress) (k : Pkt) (s : State) : Host.Outcome State Fault Refusal := s.onMach (fun m => m.packet ing 0x31 k)
def execIntMsg (ing : Ingress) (k : Pkt) (s : State) : Host.Outcome State Fault Refusal := s.onMach (fun m => m.packet ing 0x32 k)
def execShareDeliver (ing : Ingress) (k : Pkt) (s : State) : Host.Outcome State Fault Refusal := s.onMach (fun m => m.packet ing 0x40 k)
def execKeyDeliver (ing : Ingress) (k : Pkt) (s : State) : Host.Outcome State Fault Refusal := s.onMach (fun m => m.packet ing 0x50 k)
def execAttestReq (ing : Ingress) (k : Pkt) (s : State) : Host.Outcome State Fault Refusal := s.onMach (fun m => m.packet ing 0x51 k)
def execSessionInit (ing : Ingress) (k : Pkt) (s : State) : Host.Outcome State Fault Refusal := s.onMach (fun m => m.packet ing 0x53 k)
def execAck (ing : Ingress) (k : Pkt) (s : State) : Host.Outcome State Fault Refusal := s.onMach (fun m => m.packet ing 0x60 k)
def execNak (ing : Ingress) (k : Pkt) (s : State) : Host.Outcome State Fault Refusal := s.onMach (fun m => m.packet ing 0x61 k)

/-- A reserved opcode, or one that no H9 takes as a request (R108). -/
def execReservedOpcode (ing : Ingress) (opc : Byte) (k : Pkt) (s : State) : Host.Outcome State Fault Refusal :=
  s.onMach (fun m => if (vcOf opc.toNat).isNone then m.packet ing opc k else m)

/-- A response other than ACK and NAK: the H9 sends no request that draws one (R107). -/
def execUnmatchedResponse (ing : Ingress) (opc : Byte) (k : Pkt) (s : State) : Host.Outcome State Fault Refusal :=
  s.onMach (fun m => if isResponse opc.toNat && opc ≠ 0x60 && opc ≠ 0x61 then m.packet ing opc k else m)

/-! ### Key messages by operation (R554, R555) -/

/-- OP of the key message that packet `k` ends; none where it ends none. -/
def Mach.keyMsgOp (m : Mach) (k : Pkt) : Option Nat :=
  if !k.isLast then none
  else
    let b := if k.isFirst then k.payload
      else match m.net.msgs.find? (fun o => o.part = k.part.val && o.src = k.src.toNat && o.queue = k.queue.toNat) with
        | some o => o.bytes ++ k.payload
        | none => k.payload
    some (fieldAt b 0x10 1)

/-- A KEY_DELIVER that ends a message of operation `op`. -/
def Mach.keyPacket (m : Mach) (ing : Ingress) (k : Pkt) (op : Nat) : Mach :=
  if m.keyMsgOp k = some op then m.packet ing 0x50 k else m

def execAuth (ing : Ingress) (k : Pkt) (s : State) : Host.Outcome State Fault Refusal := s.onMach (fun m => m.keyPacket ing k 1)
def execMemKey (ing : Ingress) (k : Pkt) (s : State) : Host.Outcome State Fault Refusal := s.onMach (fun m => m.keyPacket ing k 2)
def execLinkKey (ing : Ingress) (k : Pkt) (s : State) : Host.Outcome State Fault Refusal := s.onMach (fun m => m.keyPacket ing k 3)
def execDebugKey (ing : Ingress) (k : Pkt) (s : State) : Host.Outcome State Fault Refusal := s.onMach (fun m => m.keyPacket ing k 4)
def execModelKey (ing : Ingress) (k : Pkt) (s : State) : Host.Outcome State Fault Refusal := s.onMach (fun m => m.keyPacket ing k 5)
def execTripleKey (ing : Ingress) (k : Pkt) (s : State) : Host.Outcome State Fault Refusal := s.onMach (fun m => m.keyPacket ing k 6)
def execSeedKey (ing : Ingress) (k : Pkt) (s : State) : Host.Outcome State Fault Refusal := s.onMach (fun m => m.keyPacket ing k 7)
def execErase (ing : Ingress) (k : Pkt) (s : State) : Host.Outcome State Fault Refusal := s.onMach (fun m => m.keyPacket ing k 8)
def execImportKey (ing : Ingress) (k : Pkt) (s : State) : Host.Outcome State Fault Refusal := s.onMach (fun m => m.keyPacket ing k 9)
def execClose (ing : Ingress) (k : Pkt) (s : State) : Host.Outcome State Fault Refusal := s.onMach (fun m => m.keyPacket ing k 0xA)

/-! ### Waiting shares, snapshots, beacons, timers -/

def execEthShareRelease (n : Fin 16) (s : State) : Host.Outcome State Fault Refusal :=
  s.onMach (fun m => if m.ethUp n.val then m.shareRelease handler Mach.response n.val else m)

/-- The submission's answer, and its place in the window's record (R382, R473). -/
def Mach.snapAnswer (m : Mach) (h : HeldPkt) (r : PRes) : Mach :=
  let k := h.pkt
  let a := r.ans
  let m := m.answer h.ing 0x30 k a
  let m := if a.code = 0 then m.mark k else m
  match m.winOf k.part.val k.src.toNat k.queue.toNat with
  | some e => (match e.last with
    | some (sq, _) => if sq = k.seq.toNat then m.setWin { e with last := some (sq, a.record) } else m
    | none => m)
  | none => m

/-- SNAPSHOT_DONE (R382): the image is copied and checked, and the submission answered. -/
def Mach.snapshotDone (m : Mach) (p g : Nat) : Mach :=
  match m.graph p g with
  | none => m
  | some x =>
    match x.sub with
    | some h =>
      if m.grState p g = 1 && x.whole then (let (m, r) := m.snapCheck p g x; m.snapAnswer h r) else m
    | none => m

def execSnapshotDone (p : Fin 16) (g : Fin 64) (s : State) : Host.Outcome State Fault Refusal := s.onMach (fun m => m.snapshotDone p.val g.val)

/-- A beacon that passes steps 2 to 9 of R128 (R42, R125). -/
def Mach.beaconOk (m : Mach) (ing : Ingress) (k : Pkt) : Bool :=
  k.whole && k.ver = 1 && k.part = 0 && m.openPkt 0x70 k = some k && (hdrCheck 0x70 k).isNone && k.vc = 2 &&
    (k.dst.toNat = 0xFFFFF || k.dst.toNat = m.node) && k.plen = 1 && ing.isRing

/-- A PHASE_BEACON arrives (R42 to R47); one that fails a check is treated as any packet is. -/
def Mach.beacon (m : Mach) (ing : Ingress) (k : Pkt) (resid : Nat) : Mach :=
  match ing with
  | .ring n => if m.ringUp n.val && m.beaconOk ing k then m.beaconIn n.val k resid else m.packet ing 0x70 k
  | .eth _ _ _ _ _ => m.packet ing 0x70 k

def execPhaseBeacon (ing : Ingress) (k : Pkt) (resid : Word) (s : State) : Host.Outcome State Fault Refusal :=
  s.onMach (fun m => m.event (fun m => m.beacon ing k resid.toNat))

/-- The timer of a request runs out (R469). -/
def Mach.retransmit (m : Mach) (q seq : Nat) : Mach :=
  match m.net.reqs.find? (fun r => r.is q seq) with
  | none => m
  | some r =>
    if r.backoff then m
    else if m.fld A.HRMP_TMR 31 24 ≤ r.timeouts then m.abandon r 0xFF
    else (m.putReq { r with timeouts := r.timeouts + 1, rnrs := 0 }).resend r

def execRetransmitTimeout (queue : BitVec 14) (seq : Word) (s : State) : Host.Outcome State Fault Refusal :=
  s.onMach (fun m => m.retransmit queue.toNat seq.toNat)

/-- The RNR back-off of a request ends (R469). -/
def Mach.rnrRetry (m : Mach) (q seq : Nat) : Mach :=
  match m.net.reqs.find? (fun r => r.is q seq) with
  | none => m
  | some r => if r.backoff then (m.putReq { r with backoff := false }).resend r else m

def execRnrRetry (queue : BitVec 14) (seq : Word) (s : State) : Host.Outcome State Fault Refusal :=
  s.onMach (fun m => m.rnrRetry queue.toNat seq.toNat)

end Sys2Proof.Machine
end

