-- ==== Sys2Proof/Machine/RegRows.lean ====
section
/-! DEFINITION. The rows that are one register access: writes, reads, I3C transfers, JTAG accesses, and what a queue's
registers do by themselves. A row acts where its operands spell what its name says. -/
namespace Sys2Proof.Machine

/-- A write that its row names where `c` holds of the value; otherwise it is no command of that row. -/
def Mach.writeWhen (m : Mach) (c : Bool) (who : Ident) (off v : Nat) : Mach := if c then m.writeCmd who off v else m

/-! ### Ring phase, global page, comparators -/

def execPhsCfgWrite (who : Ident) (v : Word) (s : State) : Host.Outcome State Fault Refusal :=
  s.onMach (fun m => m.writeCmd who A.PHS_CFG v.toNat)
def execAcq (who : Ident) (v : Word) (s : State) : Host.Outcome State Fault Refusal :=
  s.onMach (fun m => m.writeWhen (bitOf v.toNat 0) who A.PHS_CTL v.toNat)
def execPhsEpochSet (who : Ident) (v : Word) (s : State) : Host.Outcome State Fault Refusal :=
  s.onMach (fun m => m.writeCmd who A.PHS_EPOCH_SET v.toNat)
def execCmpCtlWrite (who : Ident) (c : Fin 64) (v : Word) (s : State) : Host.Outcome State Fault Refusal :=
  s.onMach (fun m => m.writeCmd who (A.CMP_CTL c.val) v.toNat)
def execPhsCmpOwnWrite (who : Ident) (n : Fin 8) (v : Word) (s : State) : Host.Outcome State Fault Refusal :=
  s.onMach (fun m => m.writeCmd who (A.PHS_CMP_OWN n.val) v.toNat)
def execGlbUpd (who : Ident) (v : Word) (s : State) : Host.Outcome State Fault Refusal :=
  s.onMach (fun m => m.writeCmd who A.GLB_UPD v.toNat)
def execPageUpd (who : Ident) (page : Fin 4096) (v : Word) (s : State) : Host.Outcome State Fault Refusal :=
  s.onMach (fun m => m.writeCmd who (0x1000 * page.val + 0x0C) v.toNat)
def execGlbRst (who : Ident) (v : Word) (s : State) : Host.Outcome State Fault Refusal :=
  s.onMach (fun m => m.writeCmd who A.GLB_RST v.toNat)
def execPageInj (who : Ident) (page : Fin 4096) (v : Word) (s : State) : Host.Outcome State Fault Refusal :=
  s.onMach (fun m => m.writeCmd who (0x1000 * page.val + 0x14) v.toNat)

/-- A posted write lands in its slow domain (R86). -/
def execPostedWriteLand (page : Fin 4096) (s : State) : Host.Outcome State Fault Refusal :=
  s.onMach (fun m => m.landPosted page.val)

/-! ### Accesses of any register (R7, R8) -/

/-- A write of any register by its access type; on a slow page it is posted (R86). -/
def execRegisterWrite (who : Ident) (off : BitVec 24) (v : Word) (s : State) : Host.Outcome State Fault Refusal :=
  s.onMach (fun m => if m.asleep then m else m.event (fun m =>
    let (m, st) := m.regWrite who 0 off.toNat v.toNat false
    { m with resp := [(st, 0)] }))

/-- The row of the register that an access addresses, where it is one. -/
def rowOf (off : Nat) : Option RegRow :=
  let p := resolvePage (off / 0x1000 % 0x1000)
  let o := resolveOff p (off % 0x1000)
  if o < 0x20 then none else rowIn (pageRows p) o

/-- A read of the lowest word of a multiword quantity (R7). -/
def execMultiwordLoRead (who : Ident) (off : BitVec 24) (s : State) : Host.Outcome State Fault Refusal :=
  s.onMach (fun m => match rowOf off.toNat with
    | some r =>
      let p := resolvePage (off.toNat / 0x1000)
      let mw := mwInfo p (resolveOff p (off.toNat % 0x1000)) r
      if 1 < mw.1 && mw.2 = 0 then m.readCmd who off.toNat else m
    | none => m)

/-- A read of a register with an RC field (R8). -/
def execRcRead (who : Ident) (off : BitVec 24) (s : State) : Host.Outcome State Fault Refusal :=
  s.onMach (fun m => match rowOf off.toNat with
    | some r => if fldMask r (fun a => a = .rc) ≠ 0 then m.readCmd who off.toNat else m
    | none => m)

/-! ### I3C transfers and JTAG accesses (R92, R695) -/

/-- A write transfer: its words are written to consecutive registers (R92). -/
def Mach.i3cWrite (m : Mach) (off : Nat) (data : List Word) : Mach :=
  let m := (data.zip (List.range data.length)).foldl (fun (a : Mach) (e : Word × Nat) =>
    (a.regWrite (.part 0) 1 ((off + 4 * e.2) % 2 ^ 24) e.1.toNat false).1) m
  { m with resp := [] }

def execI3cWriteTransfer (off : BitVec 24) (data : List Word) (s : State) : Host.Outcome State Fault Refusal :=
  s.onMach (fun m => if m.asleep || 16 < data.length then m else m.event (fun m => m.i3cWrite off.toNat data))

/-- A read transfer: `n` consecutive registers (R92). -/
def Mach.i3cRead (m : Mach) (off n : Nat) : Mach :=
  let (m, l) := (List.range n).foldl (fun (a : Mach × List (Nat × Word)) i =>
    let (m, v, st) := a.1.regRead (.part 0) 1 ((off + 4 * i) % 2 ^ 24)
    (m, a.2 ++ [(st, v)])) (m, [])
  { m with resp := l }

def execI3cReadTransfer (off : BitVec 24) (n : Nat) (s : State) : Host.Outcome State Fault Refusal :=
  s.onMach (fun m => if m.asleep || 16 < n then m else m.i3cRead off.toNat n)

/-- The data register of HCPACC as Capture-DR returns it (R695). -/
def hcpWord (wr : Bool) (st off v : Nat) : Nat := 2 ^ 63 + b2n wr * 2 ^ 62 + st * 2 ^ 60 + off * 2 ^ 32 + v

/-- HCPACC: Update-DR launches one access as partition 0 (R695). -/
def Mach.hcpacc (m : Mach) (wr : Bool) (off : Nat) (v : Word) : Mach :=
  let (m, r, st) := if wr then (let (m, st) := m.regWrite (.part 0) 2 off v.toNat false; (m, v, st))
    else m.regRead (.part 0) 2 off
  let m := { m with resp := [(st, r)] }
  { m with sys := { m.sys with ir := 0x10, hcp := hcpWord wr st off r.toNat } }

def execHcpacc (wr : Bool) (off : BitVec 24) (v : Word) (s : State) : Host.Outcome State Fault Refusal :=
  s.onMach (fun m =>
    if m.asleep then m
    else if wr && m.isGone everyTarget then
      -- a discarded access counts as completed, without effect (R52, log entry 15)
      let m := { m.countDiscard with resp := [] }
      { m with sys := { m.sys with ir := 0x10, hcp := hcpWord wr 0 off.toNat v.toNat } }
    else m.hcpacc wr off.toNat v)

/-! ### HRMP and queues -/

def execSwap (who : Ident) (p : Fin 16) (v : Word) (s : State) : Host.Outcome State Fault Refusal :=
  s.onMach (fun m => m.writeWhen (bitOf v.toNat 0) who (A.HRMP_LKEY_CTL p.val) v.toNat)
def execHrmpRxwayWrite (who : Ident) (p : Fin 16) (v : Word) (s : State) : Host.Outcome State Fault Refusal :=
  s.onMach (fun m => m.writeCmd who (A.HRMP_RXWAY p.val) v.toNat)
def execHrmpQownWrite (who : Ident) (n : Fin 64) (v : Word) (s : State) : Host.Outcome State Fault Refusal :=
  s.onMach (fun m => m.writeCmd who (A.HRMP_QOWN n.val) v.toNat)
def execHrmpCbankWrite (who : Ident) (n : Fin 64) (v : Word) (s : State) : Host.Outcome State Fault Refusal :=
  s.onMach (fun m => m.writeCmd who (A.HRMP_CBANK n.val) v.toNat)
def execHrmpCfgWrite (who : Ident) (v : Word) (s : State) : Host.Outcome State Fault Refusal :=
  s.onMach (fun m => m.writeCmd who A.HRMP_CFG v.toNat)

/-- The word of a queue block that a byte offset addresses: its index. -/
def queueWord (off : Nat) : Option Nat :=
  let p := resolvePage (off / 0x1000)
  let o := resolveOff p (off % 0x1000)
  (queueBase p o).map (fun b => (o - b) / 4)

/-- FLUSH: a 1 written to Q_CTL.FLUSH of a queue (R411). -/
def execFlush (who : Ident) (off : BitVec 24) (v : Word) (s : State) : Host.Outcome State Fault Refusal :=
  s.onMach (fun m => m.writeWhen (queueWord off.toNat = some 0 && bitOf v.toNat 31) who off.toNat v.toNat)
def execQPtrRdWrite (who : Ident) (off : BitVec 24) (v : Word) (s : State) : Host.Outcome State Fault Refusal :=
  s.onMach (fun m => m.writeWhen (queueWord off.toNat = some 3) who off.toNat v.toNat)

/-- Both sides of the queue block at `off`, selector `sel`, have reset their pointers (R411). -/
def execFlushDone (off : BitVec 24) (sel : Nat) (s : State) : Host.Outcome State Fault Refusal :=
  s.onMach (fun m => { m with net := { m.net with flushing := m.net.flushing.filter (· ≠ off.toNat + 2 ^ 24 * sel) } })

/-- A lossy queue whose gap count is not zero writes its MARKER into a free slot (R413). -/
def Mach.marker (m : Mach) (b : Nat) : Mach :=
  if b = fltLog || b = telQueue then m.lossyMark b (fun a i => a.qStore b i)
  else
    match (List.range 16).find? (fun p => b = traceBlock p), (List.range 16).find? (fun p => b = hostBlock p) with
    | some p, _ => m.lossyMark b (Mach.traceStore p)
    | none, some _ => m.lossyMark b (fun a i => a.qStore b i)
    | none, none => m

def execLossyMarker (off : BitVec 24) (s : State) : Host.Outcome State Fault Refusal := s.onMach (fun m => m.marker off.toNat)

/-! ### Ring ports -/

def execBrlPortCtlTrain (who : Ident) (n : Fin 8) (v : Word) (s : State) : Host.Outcome State Fault Refusal :=
  s.onMach (fun m => m.writeWhen (bitOf v.toNat 0) who (A.BRL_PORT_CTL n.val) v.toNat)
def execForceDown (who : Ident) (n : Fin 8) (v : Word) (s : State) : Host.Outcome State Fault Refusal :=
  s.onMach (fun m => m.writeWhen (bitOf v.toNat 1 ≠ m.bit (A.BRL_PORT_CTL n.val) 1) who (A.BRL_PORT_CTL n.val) v.toNat)
def execRevert (who : Ident) (n : Fin 8) (v : Word) (s : State) : Host.Outcome State Fault Refusal :=
  s.onMach (fun m => m.writeWhen (bitOf v.toNat 2) who (A.BRL_PORT_CTL n.val) v.toNat)
def execBrlNodeWrite (who : Ident) (v : Word) (s : State) : Host.Outcome State Fault Refusal :=
  s.onMach (fun m => m.writeCmd who A.BRL_NODE v.toNat)
def execBrlShareWrite (who : Ident) (n : Fin 8) (vc : Fin 2) (p : Fin 16) (v : Word) (s : State) : Host.Outcome State Fault Refusal :=
  s.onMach (fun m => m.writeCmd who (shareAddr n.val vc.val p.val) v.toNat)

/-! ### Aggregation and mask recovery -/

def execAggOwnWrite (who : Ident) (n : Fin 64) (v : Word) (s : State) : Host.Outcome State Fault Refusal :=
  s.onMach (fun m => m.writeCmd who (A.AGG_OWN n.val) v.toNat)
def execAggArm (who : Ident) (p : Fin 16) (s : State) : Host.Outcome State Fault Refusal :=
  s.onMach (fun m => m.writeCmd who (A.AGG_WIN_CMD p.val) 1)
def execAggOpen (who : Ident) (p : Fin 16) (s : State) : Host.Outcome State Fault Refusal :=
  s.onMach (fun m => m.writeCmd who (A.AGG_WIN_CMD p.val) 2)
def execAggClose (who : Ident) (p : Fin 16) (s : State) : Host.Outcome State Fault Refusal :=
  s.onMach (fun m => m.writeCmd who (A.AGG_WIN_CMD p.val) 3)
def execAggEndRecovery (who : Ident) (p : Fin 16) (s : State) : Host.Outcome State Fault Refusal :=
  s.onMach (fun m => m.writeCmd who (A.AGG_WIN_CMD p.val) 4)
def execAggRelease (who : Ident) (p : Fin 16) (s : State) : Host.Outcome State Fault Refusal :=
  s.onMach (fun m => m.writeCmd who (A.AGG_WIN_CMD p.val) 5)
def execAggAbort (who : Ident) (p : Fin 16) (s : State) : Host.Outcome State Fault Refusal :=
  s.onMach (fun m => m.writeCmd who (A.AGG_WIN_CMD p.val) 6)
def execFinish (who : Ident) (p : Fin 16) (s : State) : Host.Outcome State Fault Refusal :=
  s.onMach (fun m => m.writeCmd who (A.MSK_WIN_CMD p.val) 1)
def execMskOwnWrite (who : Ident) (n : Fin 4) (v : Word) (s : State) : Host.Outcome State Fault Refusal :=
  s.onMach (fun m => m.writeCmd who (A.MSK_OWN n.val) v.toNat)

/-! ### Tiles and graphs -/

def execCluRemap (who : Ident) (c : Fin 4) (v : Word) (s : State) : Host.Outcome State Fault Refusal :=
  s.onMach (fun m => m.writeWhen (bitOf v.toNat 31) who (A.CLU_REMAP c.val) v.toNat)
def execLoamStart (who : Ident) (p : Fin 16) (g : Fin 64) (s : State) : Host.Outcome State Fault Refusal :=
  s.onMach (fun m => m.writeCmd who (A.LOAM_CMD p.val) (256 * g.val + 1))
def execLoamAbort (who : Ident) (p : Fin 16) (g : Fin 64) (s : State) : Host.Outcome State Fault Refusal :=
  s.onMach (fun m => m.writeCmd who (A.LOAM_CMD p.val) (256 * g.val + 2))
def execLoamRelease (who : Ident) (p : Fin 16) (g : Fin 64) (s : State) : Host.Outcome State Fault Refusal :=
  s.onMach (fun m => m.writeCmd who (A.LOAM_CMD p.val) (256 * g.val + 3))
def execLoamStep (who : Ident) (p : Fin 16) (s : State) : Host.Outcome State Fault Refusal :=
  s.onMach (fun m => m.writeCmd who (A.LOAM_CMD p.val) 4)
def execLoamModeWrite (who : Ident) (p : Fin 16) (v : Word) (s : State) : Host.Outcome State Fault Refusal :=
  s.onMach (fun m => m.writeCmd who (A.LOAM_MODE p.val) v.toNat)
def execLoamCtrValWrite (who : Ident) (p : Fin 16) (v : Word) (s : State) : Host.Outcome State Fault Refusal :=
  s.onMach (fun m => m.writeCmd who (A.LOAM_CTR_VAL p.val) v.toNat)
def execLoamQbWrite (who : Ident) (p : Fin 16) (v : Word) (s : State) : Host.Outcome State Fault Refusal :=
  s.onMach (fun m => m.writeCmd who (A.LOAM_QB p.val) v.toNat)
def execLoamSnapWrite (who : Ident) (p : Fin 16) (word : Fin 3) (v : Word) (s : State) : Host.Outcome State Fault Refusal :=
  s.onMach (fun m => m.writeCmd who (A.LOAM_SNAP_BASE_LO p.val + 4 * word.val) v.toNat)
def execTraceCfgWrite (who : Ident) (p : Fin 16) (v : Word) (s : State) : Host.Outcome State Fault Refusal :=
  s.onMach (fun m => m.writeCmd who (A.TRACE_CFG p.val) v.toNat)

/-! ### Memory -/

def execMmuKeyWrite (who : Ident) (p : Fin 16) (v : Word) (s : State) : Host.Outcome State Fault Refusal :=
  s.onMach (fun m => m.writeCmd who (A.MMU_KEY p.val) v.toNat)
def execMmuInvAll (who : Ident) (p : Fin 16) (v : Word) (s : State) : Host.Outcome State Fault Refusal :=
  s.onMach (fun m => m.writeWhen (bitsOf v.toNat 1 0 = 1) who (A.MMU_INV_CTL p.val) v.toNat)
def execMmuInvRange (who : Ident) (p : Fin 16) (v : Word) (s : State) : Host.Outcome State Fault Refusal :=
  s.onMach (fun m => m.writeWhen (bitsOf v.toNat 1 0 = 2) who (A.MMU_INV_CTL p.val) v.toNat)
def execMmuRootHiWrite (who : Ident) (p : Fin 16) (v : Word) (s : State) : Host.Outcome State Fault Refusal :=
  s.onMach (fun m => m.writeCmd who (A.MMU_ROOT_HI p.val) v.toNat)
def execRetire (who : Ident) (ch : Fin 64) (v : Word) (s : State) : Host.Outcome State Fault Refusal :=
  s.onMach (fun m => m.writeWhen (bitOf v.toNat 0) who (A.MEM_CH_CTL ch.val) v.toNat)

/-! ### Partitions, debug, keys, entropy -/

def execCreate (who : Ident) (v : Word) (s : State) : Host.Outcome State Fault Refusal :=
  s.onMach (fun m => m.writeWhen (v.toNat % 16 = 1) who A.ATT_CMD v.toNat)
def execGrow (who : Ident) (v : Word) (s : State) : Host.Outcome State Fault Refusal :=
  s.onMach (fun m => m.writeWhen (v.toNat % 16 = 2) who A.ATT_CMD v.toNat)
def execDestroy (who : Ident) (v : Word) (s : State) : Host.Outcome State Fault Refusal :=
  s.onMach (fun m => m.writeWhen (v.toNat % 16 = 3) who A.ATT_CMD v.toNat)
def execDbgHalt (who : Ident) (v : Word) (s : State) : Host.Outcome State Fault Refusal :=
  s.onMach (fun m => m.writeCmd who A.DBG_HALT v.toNat)
def execDbgStep (who : Ident) (v : Word) (s : State) : Host.Outcome State Fault Refusal :=
  s.onMach (fun m => m.writeWhen (bitOf v.toNat 30) who A.DBG_HALT v.toNat)
def execDbgRead (who : Ident) (v : Word) (s : State) : Host.Outcome State Fault Refusal :=
  s.onMach (fun m => m.writeWhen (v.toNat % 16 = 1) who A.DBG_CMD v.toNat)
def execGenerate (who : Ident) (v : Word) (s : State) : Host.Outcome State Fault Refusal :=
  s.onMach (fun m => m.writeWhen (v.toNat % 16 = 1) who A.KEY_CMD v.toNat)
def execDerive (who : Ident) (v : Word) (s : State) : Host.Outcome State Fault Refusal :=
  s.onMach (fun m => m.writeWhen (v.toNat % 16 = 2) who A.KEY_CMD v.toNat)
def execKeyCmdErase (who : Ident) (v : Word) (s : State) : Host.Outcome State Fault Refusal :=
  s.onMach (fun m => m.writeWhen (v.toNat % 16 = 3) who A.KEY_CMD v.toNat)

/-- CHECK (R581); `upset` is whether the selected slot's tag no longer matches its record (R571). -/
def execCheck (who : Ident) (v : Word) (upset : Bool) (s : State) : Host.Outcome State Fault Refusal :=
  s.onMach (fun m =>
    if v.toNat % 16 = 4 then (if upset then m.upsetSlot (m.fld A.KEY_SEL 8 0) else m).writeCmd who A.KEY_CMD v.toNat else m)
def execRestart (who : Ident) (v : Word) (s : State) : Host.Outcome State Fault Refusal :=
  s.onMach (fun m => m.writeWhen (bitOf v.toNat 0) who A.SILT_CTL v.toNat)
def execSiltCfgWrite (who : Ident) (v : Word) (s : State) : Host.Outcome State Fault Refusal :=
  s.onMach (fun m => m.writeCmd who A.SILT_CFG v.toNat)
def execSiltDataRead (who : Ident) (p : Fin 16) (s : State) : Host.Outcome State Fault Refusal :=
  s.onMach (fun m => m.readCmd who (A.SILT_DATA p.val))
def execSiltRawRead (who : Ident) (s : State) : Host.Outcome State Fault Refusal :=
  s.onMach (fun m => m.readCmd who A.SILT_RAW)

/-! ### Interrupts -/

def execIntDoorbell (who : Ident) (v : Word) (s : State) : Host.Outcome State Fault Refusal :=
  s.onMach (fun m => m.writeCmd who A.INT_DOORBELL v.toNat)
def execIntHcmpl (who : Ident) (p : Fin 16) (v : Word) (s : State) : Host.Outcome State Fault Refusal :=
  s.onMach (fun m => m.writeCmd who (A.INT_HCMPL p.val) v.toNat)
def execIntSwPend (who : Ident) (v : Word) (s : State) : Host.Outcome State Fault Refusal :=
  s.onMach (fun m => m.writeCmd who A.INT_SW_PEND v.toNat)
def execIntOPclr (who : Ident) (v : Word) (s : State) : Host.Outcome State Fault Refusal :=
  s.onMach (fun m => m.writeCmd who A.INT_O_PCLR v.toNat)
def execTMset (who : Ident) (k : Fin 16) (v : Word) (s : State) : Host.Outcome State Fault Refusal :=
  s.onMach (fun m => m.writeCmd who (A.T_MSET k.val) v.toNat)
def execTMclr (who : Ident) (k : Fin 16) (v : Word) (s : State) : Host.Outcome State Fault Refusal :=
  s.onMach (fun m => m.writeCmd who (A.T_MCLR k.val) v.toNat)
def execTPclr (who : Ident) (k : Fin 16) (v : Word) (s : State) : Host.Outcome State Fault Refusal :=
  s.onMach (fun m => m.writeCmd who (A.T_PCLR k.val) v.toNat)
def execIntOwnWrite (who : Ident) (hv : Bool) (n : Fin 16) (v : Word) (s : State) : Host.Outcome State Fault Refusal :=
  s.onMach (fun m => m.writeCmd who (if hv then A.INT_HV_OWN n.val else A.INT_T_OWN n.val) v.toNat)
def execIntCfgWrite (who : Ident) (src : BitVec 10) (v : Word) (s : State) : Host.Outcome State Fault Refusal :=
  s.onMach (fun m => m.writeCmd who (A.INT_CFG src.toNat) v.toNat)
def execCcCtlThreshWrite (who : Ident) (c : Fin 8) (thresh : Bool) (v : Word) (s : State) : Host.Outcome State Fault Refusal :=
  s.onMach (fun m => m.writeCmd who (if thresh then A.CC_THRESH c.val else A.CC_CTL c.val) v.toNat)

/-! ### Faults, resets, life cycle, power -/

def execFltFirstClear (who : Ident) (v : Word) (s : State) : Host.Outcome State Fault Refusal :=
  s.onMach (fun m => m.writeWhen (bitOf v.toNat 31) who A.FLT_FIRST_STS v.toNat)
def execFltUclr (who : Ident) (v : Word) (s : State) : Host.Outcome State Fault Refusal :=
  s.onMach (fun m => m.writeCmd who A.FLT_UCLR v.toNat)
def execFltQuiesceWrite (who : Ident) (v : Word) (s : State) : Host.Outcome State Fault Refusal :=
  s.onMach (fun m => m.writeCmd who A.FLT_QUIESCE v.toNat)
def execFltEgressWrite (who : Ident) (v : Word) (s : State) : Host.Outcome State Fault Refusal :=
  s.onMach (fun m => m.writeCmd who A.FLT_EGRESS v.toNat)
def execFltReactWrite (who : Ident) (c : Fin 5) (v : Word) (s : State) : Host.Outcome State Fault Refusal :=
  s.onMach (fun m => m.writeCmd who (A.FLT_REACT (c.val + 1)) v.toNat)
def execRstUnit (who : Ident) (v : Word) (s : State) : Host.Outcome State Fault Refusal :=
  s.onMach (fun m => m.writeCmd who A.RST_UNIT v.toNat)
def execRstRing (who : Ident) (v : Word) (s : State) : Host.Outcome State Fault Refusal :=
  s.onMach (fun m => m.writeCmd who A.RST_RING v.toNat)
def execTransition (who : Ident) (v : Word) (s : State) : Host.Outcome State Fault Refusal :=
  s.onMach (fun m => m.writeWhen (v.toNat % 16 = 1) who A.LC_CMD v.toNat)
def execFwStage (who : Ident) (v : Word) (s : State) : Host.Outcome State Fault Refusal :=
  s.onMach (fun m => m.writeWhen (v.toNat % 16 = 2) who A.LC_CMD v.toNat)
def execFwArm (who : Ident) (v : Word) (s : State) : Host.Outcome State Fault Refusal :=
  s.onMach (fun m => m.writeWhen (v.toNat % 16 = 3) who A.LC_CMD v.toNat)
def execFwDisarm (who : Ident) (v : Word) (s : State) : Host.Outcome State Fault Refusal :=
  s.onMach (fun m => m.writeWhen (v.toNat % 16 = 4) who A.LC_CMD v.toNat)
def execCommitSvn (who : Ident) (v : Word) (s : State) : Host.Outcome State Fault Refusal :=
  s.onMach (fun m => m.writeWhen (v.toNat % 16 = 5) who A.LC_CMD v.toNat)
def execPwrCtlLevel (who : Ident) (v : Word) (s : State) : Host.Outcome State Fault Refusal :=
  s.onMach (fun m => m.writeWhen (!bitOf v.toNat 3) who A.PWR_CTL v.toNat)
def execSleep (who : Ident) (v : Word) (s : State) : Host.Outcome State Fault Refusal :=
  s.onMach (fun m => m.writeWhen (bitOf v.toNat 3) who A.PWR_CTL v.toNat)
def execPwrFixWrite (who : Ident) (v : Word) (s : State) : Host.Outcome State Fault Refusal :=
  s.onMach (fun m => m.writeCmd who A.PWR_CFG v.toNat)
def execPwrShareWrite (who : Ident) (p : Fin 16) (v : Word) (s : State) : Host.Outcome State Fault Refusal :=
  s.onMach (fun m => m.writeCmd who (A.PWR_SHARE p.val) v.toNat)
def execMgtAlertWrite (who : Ident) (v : Word) (s : State) : Host.Outcome State Fault Refusal :=
  s.onMach (fun m => m.writeCmd who A.MGT_ALERT v.toNat)

end Sys2Proof.Machine
end

