-- ==== Sys2Proof/Machine/Dispatch.lean ====
section
/-! DEFINITION. The dispatch of every command to its meaning. -/
namespace Sys2Proof.Machine

def exec (i : Instr) (s : State) : Host.Outcome State Fault Refusal :=
  match i with
  | .tickEdge => Sys2Proof.Machine.execTickEdge s
  | .phsCfgWrite who v => Sys2Proof.Machine.execPhsCfgWrite who v s
  | .acq who v => Sys2Proof.Machine.execAcq who v s
  | .phsEpochSet who v => Sys2Proof.Machine.execPhsEpochSet who v s
  | .epochAdvance => Sys2Proof.Machine.execEpochAdvance s
  | .phaseRefEdge => Sys2Proof.Machine.execPhaseRefEdge s
  | .phaseRefLost => Sys2Proof.Machine.execPhaseRefLost s
  | .beaconEmit => Sys2Proof.Machine.execBeaconEmit s
  | .phaseBeacon ing k resid => Sys2Proof.Machine.execPhaseBeacon ing k resid s
  | .becomeMaster => Sys2Proof.Machine.execBecomeMaster s
  | .phaseLost => Sys2Proof.Machine.execPhaseLost s
  | .comparatorFire c => Sys2Proof.Machine.execComparatorFire c s
  | .throttleLevelChange => Sys2Proof.Machine.execThrottleLevelChange s
  | .cmpCtlWrite who c v => Sys2Proof.Machine.execCmpCtlWrite who c v s
  | .phsCmpOwnWrite who n v => Sys2Proof.Machine.execPhsCmpOwnWrite who n v s
  | .glbUpd who v => Sys2Proof.Machine.execGlbUpd who v s
  | .groupApply => Sys2Proof.Machine.execGroupApply s
  | .pageUpd who page v => Sys2Proof.Machine.execPageUpd who page v s
  | .glbUpdAtFire => Sys2Proof.Machine.execGlbUpdAtFire s
  | .glbRst who v => Sys2Proof.Machine.execGlbRst who v s
  | .postedWriteLand page => Sys2Proof.Machine.execPostedWriteLand page s
  | .registerWrite who off v => Sys2Proof.Machine.execRegisterWrite who off v s
  | .multiwordLoRead who off => Sys2Proof.Machine.execMultiwordLoRead who off s
  | .rcRead who off => Sys2Proof.Machine.execRcRead who off s
  | .regRd ing k => Sys2Proof.Machine.execRegRd ing k s
  | .regWr ing k => Sys2Proof.Machine.execRegWr ing k s
  | .i3cWriteTransfer off data => Sys2Proof.Machine.execI3cWriteTransfer off data s
  | .i3cReadTransfer off n => Sys2Proof.Machine.execI3cReadTransfer off n s
  | .memWr ing k => Sys2Proof.Machine.execMemWr ing k s
  | .memRd ing k => Sys2Proof.Machine.execMemRd ing k s
  | .vaddZ32 ing k => Sys2Proof.Machine.execVaddZ32 ing k s
  | .vaddZ64 ing k => Sys2Proof.Machine.execVaddZ64 ing k s
  | .aadd ing k => Sys2Proof.Machine.execAadd ing k s
  | .cas ing k => Sys2Proof.Machine.execCas ing k s
  | .graphSubmit ing k => Sys2Proof.Machine.execGraphSubmit ing k s
  | .snapshotDone p g => Sys2Proof.Machine.execSnapshotDone p g s
  | .graphSubmitTimeout p g => Sys2Proof.Machine.execGraphSubmitTimeout p g s
  | .doorbell ing k => Sys2Proof.Machine.execDoorbell ing k s
  | .intMsg ing k => Sys2Proof.Machine.execIntMsg ing k s
  | .shareDeliver ing k => Sys2Proof.Machine.execShareDeliver ing k s
  | .keyDeliver ing k => Sys2Proof.Machine.execKeyDeliver ing k s
  | .attestReq ing k => Sys2Proof.Machine.execAttestReq ing k s
  | .attestRelease p => Sys2Proof.Machine.execAttestRelease p s
  | .sessionInit ing k => Sys2Proof.Machine.execSessionInit ing k s
  | .sessionRelease p => Sys2Proof.Machine.execSessionRelease p s
  | .authRelease p => Sys2Proof.Machine.execAuthRelease p s
  | .sessionTimeout p => Sys2Proof.Machine.execSessionTimeout p s
  | .auth ing k => Sys2Proof.Machine.execAuth ing k s
  | .memKey ing k => Sys2Proof.Machine.execMemKey ing k s
  | .linkKey ing k => Sys2Proof.Machine.execLinkKey ing k s
  | .debugKey ing k => Sys2Proof.Machine.execDebugKey ing k s
  | .modelKey ing k => Sys2Proof.Machine.execModelKey ing k s
  | .tripleKey ing k => Sys2Proof.Machine.execTripleKey ing k s
  | .seedKey ing k => Sys2Proof.Machine.execSeedKey ing k s
  | .erase ing k => Sys2Proof.Machine.execErase ing k s
  | .importKey ing k => Sys2Proof.Machine.execImportKey ing k s
  | .close ing k => Sys2Proof.Machine.execClose ing k s
  | .importDone p => Sys2Proof.Machine.execImportDone p s
  | .ack ing k => Sys2Proof.Machine.execAck ing k s
  | .nak ing k => Sys2Proof.Machine.execNak ing k s
  | .retransmitTimeout queue seq => Sys2Proof.Machine.execRetransmitTimeout queue seq s
  | .rnrRetry queue seq => Sys2Proof.Machine.execRnrRetry queue seq s
  | .ringCtlReset n k => Sys2Proof.Machine.execRingCtlReset n k s
  | .linkDown n k => Sys2Proof.Machine.execLinkDown n k s
  | .linkUp n k => Sys2Proof.Machine.execLinkUp n k s
  | .echo n k => Sys2Proof.Machine.execEcho n k s
  | .echoRsp n k => Sys2Proof.Machine.execEchoRsp n k s
  | .ringFault n k => Sys2Proof.Machine.execRingFault n k s
  | .ethFrameDrop n f => Sys2Proof.Machine.execEthFrameDrop n f s
  | .ethShareRelease n => Sys2Proof.Machine.execEthShareRelease n s
  | .ethTxStart n room => Sys2Proof.Machine.execEthTxStart n room s
  | .ethPortDown n ber => Sys2Proof.Machine.execEthPortDown n ber s
  | .ethLaserFail n lane => Sys2Proof.Machine.execEthLaserFail n lane s
  | .ethLight n => Sys2Proof.Machine.execEthLight n s
  | .ethTrainDone n => Sys2Proof.Machine.execEthTrainDone n s
  | .swap who p v => Sys2Proof.Machine.execSwap who p v s
  | .lkeyGraceEnd p => Sys2Proof.Machine.execLkeyGraceEnd p s
  | .hrmpRxwayWrite who p v => Sys2Proof.Machine.execHrmpRxwayWrite who p v s
  | .hrmpQownWrite who n v => Sys2Proof.Machine.execHrmpQownWrite who n v s
  | .hrmpCbankWrite who n v => Sys2Proof.Machine.execHrmpCbankWrite who n v s
  | .hrmpCfgWrite who v => Sys2Proof.Machine.execHrmpCfgWrite who v s
  | .flush who off v => Sys2Proof.Machine.execFlush who off v s
  | .flushDone off sel => Sys2Proof.Machine.execFlushDone off sel s
  | .qPtrRdWrite who off v => Sys2Proof.Machine.execQPtrRdWrite who off v s
  | .lossyMarker off => Sys2Proof.Machine.execLossyMarker off s
  | .hostEventSend p => Sys2Proof.Machine.execHostEventSend p s
  | .brlTransit n frs room => Sys2Proof.Machine.execBrlTransit n frs room s
  | .brlFrameStart n openVc room => Sys2Proof.Machine.execBrlFrameStart n openVc room s
  | .ctlSend n => Sys2Proof.Machine.execCtlSend n s
  | .credit n vc part count => Sys2Proof.Machine.execCredit n vc part count s
  | .train n node port tick map sizes => Sys2Proof.Machine.execTrain n node port tick map sizes s
  | .lanes n map => Sys2Proof.Machine.execLanes n map s
  | .down n => Sys2Proof.Machine.execDown n s
  | .brlLos n noCtl => Sys2Proof.Machine.execBrlLos n noCtl s
  | .brlUncLimit n count => Sys2Proof.Machine.execBrlUncLimit n count s
  | .brlLaserFail n lane => Sys2Proof.Machine.execBrlLaserFail n lane s
  | .brlLaneRetrainDone n period => Sys2Proof.Machine.execBrlLaneRetrainDone n period s
  | .brlLight n => Sys2Proof.Machine.execBrlLight n s
  | .brlTrainDone n echo => Sys2Proof.Machine.execBrlTrainDone n echo s
  | .brlTrainOverrun n => Sys2Proof.Machine.execBrlTrainOverrun n s
  | .brlTrainRetry n => Sys2Proof.Machine.execBrlTrainRetry n s
  | .brlPortCtlTrain who n v => Sys2Proof.Machine.execBrlPortCtlTrain who n v s
  | .revert who n v => Sys2Proof.Machine.execRevert who n v s
  | .forceDown who n v => Sys2Proof.Machine.execForceDown who n v s
  | .brlNodeWrite who v => Sys2Proof.Machine.execBrlNodeWrite who v s
  | .brlShareWrite who n vc p v => Sys2Proof.Machine.execBrlShareWrite who n vc p v s
  | .aggOwnWrite who n v => Sys2Proof.Machine.execAggOwnWrite who n v s
  | .aggArm who p => Sys2Proof.Machine.execAggArm who p s
  | .armingDone c => Sys2Proof.Machine.execArmingDone c s
  | .aggOpen who p => Sys2Proof.Machine.execAggOpen who p s
  | .aggClose who p => Sys2Proof.Machine.execAggClose who p s
  | .aggEndRecovery who p => Sys2Proof.Machine.execAggEndRecovery who p s
  | .aggRelease who p => Sys2Proof.Machine.execAggRelease who p s
  | .aggAbort who p => Sys2Proof.Machine.execAggAbort who p s
  | .ctxPhOpen c => Sys2Proof.Machine.execCtxPhOpen c s
  | .ctxPhClose c => Sys2Proof.Machine.execCtxPhClose c s
  | .ctxPhDeadline c => Sys2Proof.Machine.execCtxPhDeadline c s
  | .commitDone c j => Sys2Proof.Machine.execCommitDone c j s
  | .slotReclaim c => Sys2Proof.Machine.execSlotReclaim c s
  | .drainDone c => Sys2Proof.Machine.execDrainDone c s
  | .abortDrainDone c => Sys2Proof.Machine.execAbortDrainDone c s
  | .recWayAcquired c => Sys2Proof.Machine.execRecWayAcquired c s
  | .censusDone c => Sys2Proof.Machine.execCensusDone c s
  | .secretReconstructed c o => Sys2Proof.Machine.execSecretReconstructed c o s
  | .agreementDone c => Sys2Proof.Machine.execAgreementDone c s
  | .xofPassStart c => Sys2Proof.Machine.execXofPassStart c s
  | .xofPassDone c => Sys2Proof.Machine.execXofPassDone c s
  | .expansionStart c => Sys2Proof.Machine.execExpansionStart c s
  | .expansionDone c => Sys2Proof.Machine.execExpansionDone c s
  | .recoveryDone c => Sys2Proof.Machine.execRecoveryDone c s
  | .finish who p => Sys2Proof.Machine.execFinish who p s
  | .mskOwnWrite who n v => Sys2Proof.Machine.execMskOwnWrite who n v s
  | .add t => Sys2Proof.Machine.execAdd t s
  | .sub t => Sys2Proof.Machine.execSub t s
  | .mul t => Sys2Proof.Machine.execMul t s
  | .mulhu t => Sys2Proof.Machine.execMulhu t s
  | .mulhs t => Sys2Proof.Machine.execMulhs t s
  | .divu t => Sys2Proof.Machine.execDivu t s
  | .divs t => Sys2Proof.Machine.execDivs t s
  | .remu t => Sys2Proof.Machine.execRemu t s
  | .rems t => Sys2Proof.Machine.execRems t s
  | .tileAnd t => Sys2Proof.Machine.execTileAnd t s
  | .tileOr t => Sys2Proof.Machine.execTileOr t s
  | .tileXor t => Sys2Proof.Machine.execTileXor t s
  | .shl t => Sys2Proof.Machine.execShl t s
  | .shr t => Sys2Proof.Machine.execShr t s
  | .sar t => Sys2Proof.Machine.execSar t s
  | .neg t => Sys2Proof.Machine.execNeg t s
  | .min t => Sys2Proof.Machine.execMin t s
  | .max t => Sys2Proof.Machine.execMax t s
  | .minu t => Sys2Proof.Machine.execMinu t s
  | .maxu t => Sys2Proof.Machine.execMaxu t s
  | .slt t => Sys2Proof.Machine.execSlt t s
  | .sltu t => Sys2Proof.Machine.execSltu t s
  | .seq t => Sys2Proof.Machine.execSeq t s
  | .popc t => Sys2Proof.Machine.execPopc t s
  | .clz t => Sys2Proof.Machine.execClz t s
  | .movhi t => Sys2Proof.Machine.execMovhi t s
  | .addq t => Sys2Proof.Machine.execAddq t s
  | .mulq t => Sys2Proof.Machine.execMulq t s
  | .rdflag t => Sys2Proof.Machine.execRdflag t s
  | .clrflag t => Sys2Proof.Machine.execClrflag t s
  | .rand t => Sys2Proof.Machine.execRand t s
  | .rdph t => Sys2Proof.Machine.execRdph t s
  | .ld8 t => Sys2Proof.Machine.execLd8 t s
  | .ld16 t => Sys2Proof.Machine.execLd16 t s
  | .ld32 t => Sys2Proof.Machine.execLd32 t s
  | .ld64 t => Sys2Proof.Machine.execLd64 t s
  | .lds8 t => Sys2Proof.Machine.execLds8 t s
  | .lds16 t => Sys2Proof.Machine.execLds16 t s
  | .lds32 t => Sys2Proof.Machine.execLds32 t s
  | .st8 t => Sys2Proof.Machine.execSt8 t s
  | .st16 t => Sys2Proof.Machine.execSt16 t s
  | .st32 t => Sys2Proof.Machine.execSt32 t s
  | .st64 t => Sys2Proof.Machine.execSt64 t s
  | .vld t => Sys2Proof.Machine.execVld t s
  | .vst t => Sys2Proof.Machine.execVst t s
  | .vmov t => Sys2Proof.Machine.execVmov t s
  | .vset t => Sys2Proof.Machine.execVset t s
  | .vget t => Sys2Proof.Machine.execVget t s
  | .br t => Sys2Proof.Machine.execBr t s
  | .beq t => Sys2Proof.Machine.execBeq t s
  | .bne t => Sys2Proof.Machine.execBne t s
  | .blt t => Sys2Proof.Machine.execBlt t s
  | .bge t => Sys2Proof.Machine.execBge t s
  | .bltu t => Sys2Proof.Machine.execBltu t s
  | .bgeu t => Sys2Proof.Machine.execBgeu t s
  | .call t => Sys2Proof.Machine.execCall t s
  | .ret t => Sys2Proof.Machine.execRet t s
  | .jr t => Sys2Proof.Machine.execJr t s
  | .loop t => Sys2Proof.Machine.execLoop t s
  | .trap t => Sys2Proof.Machine.execTrap t s
  | .endKernel t => Sys2Proof.Machine.execEndKernel t s
  | .kernelReport t => Sys2Proof.Machine.execKernelReport t s
  | .kernelFaultRecord t => Sys2Proof.Machine.execKernelFaultRecord t s
  | .copy t => Sys2Proof.Machine.execCopy t s
  | .gather t => Sys2Proof.Machine.execGather t s
  | .scatter t => Sys2Proof.Machine.execScatter t s
  | .scatterAdd t => Sys2Proof.Machine.execScatterAdd t s
  | .dmaTransferDone t => Sys2Proof.Machine.execDmaTransferDone t s
  | .mma t => Sys2Proof.Machine.execMma t s
  | .mmaDone t => Sys2Proof.Machine.execMmaDone t s
  | .accclr t => Sys2Proof.Machine.execAccclr t s
  | .accstat t => Sys2Proof.Machine.execAccstat t s
  | .accout t => Sys2Proof.Machine.execAccout t s
  | .setmode t => Sys2Proof.Machine.execSetmode t s
  | .bntt t => Sys2Proof.Machine.execBntt t s
  | .bintt t => Sys2Proof.Machine.execBintt t s
  | .bmul t => Sys2Proof.Machine.execBmul t s
  | .bmac t => Sys2Proof.Machine.execBmac t s
  | .badd t => Sys2Proof.Machine.execBadd t s
  | .bsub t => Sys2Proof.Machine.execBsub t s
  | .bdec t => Sys2Proof.Machine.execBdec t s
  | .brot t => Sys2Proof.Machine.execBrot t s
  | .bext t => Sys2Proof.Machine.execBext t s
  | .bks t => Sys2Proof.Machine.execBks t s
  | .bboot t => Sys2Proof.Machine.execBboot t s
  | .bmodsw t => Sys2Proof.Machine.execBmodsw t s
  | .sexp t => Sys2Proof.Machine.execSexp t s
  | .noise t => Sys2Proof.Machine.execNoise t s
  | .bronzeDone t q => Sys2Proof.Machine.execBronzeDone t q s
  | .waitdma t => Sys2Proof.Machine.execWaitdma t s
  | .waitarr t => Sys2Proof.Machine.execWaitarr t s
  | .waitbr t => Sys2Proof.Machine.execWaitbr t s
  | .waitall t => Sys2Proof.Machine.execWaitall t s
  | .fence t => Sys2Proof.Machine.execFence t s
  | .signal t => Sys2Proof.Machine.execSignal t s
  | .tileDoorbell t => Sys2Proof.Machine.execTileDoorbell t s
  | .tbar t => Sys2Proof.Machine.execTbar t s
  | .waitctr t => Sys2Proof.Machine.execWaitctr t s
  | .chsend t => Sys2Proof.Machine.execChsend t s
  | .chrecv t => Sys2Proof.Machine.execChrecv t s
  | .chpass t => Sys2Proof.Machine.execChpass t s
  | .chainRegionArrive t st link => Sys2Proof.Machine.execChainRegionArrive t st link s
  | .loadImageDone p g n => Sys2Proof.Machine.execLoadImageDone p g n s
  | .migrationDone t bad => Sys2Proof.Machine.execMigrationDone t bad s
  | .cluRemap who c v => Sys2Proof.Machine.execCluRemap who c v s
  | .bronzeLevelStart t => Sys2Proof.Machine.execBronzeLevelStart t s
  | .bronzeLevelCopyDone t => Sys2Proof.Machine.execBronzeLevelCopyDone t s
  | .exchRecordRead t => Sys2Proof.Machine.execExchRecordRead t s
  | .tripleBatchRead t => Sys2Proof.Machine.execTripleBatchRead t s
  | .a2s t => Sys2Proof.Machine.execA2s t s
  | .s2c t => Sys2Proof.Machine.execS2c t s
  | .w2s t => Sys2Proof.Machine.execW2s t s
  | .s2w t => Sys2Proof.Machine.execS2w t s
  | .shareAddSub t => Sys2Proof.Machine.execShareAddSub t s
  | .cmul t => Sys2Proof.Machine.execCmul t s
  | .cadd t => Sys2Proof.Machine.execCadd t s
  | .shareMul t => Sys2Proof.Machine.execShareMul t s
  | .sqsum t => Sys2Proof.Machine.execSqsum t s
  | .sign t => Sys2Proof.Machine.execSign t s
  | .lt t => Sys2Proof.Machine.execLt t s
  | .shareMax t => Sys2Proof.Machine.execShareMax t s
  | .relu t => Sys2Proof.Machine.execRelu t s
  | .thresh t => Sys2Proof.Machine.execThresh t s
  | .clip t => Sys2Proof.Machine.execClip t s
  | .topk t => Sys2Proof.Machine.execTopk t s
  | .genA t => Sys2Proof.Machine.execGenA t s
  | .genB t => Sys2Proof.Machine.execGenB t s
  | .sessionDeadline t => Sys2Proof.Machine.execSessionDeadline t s
  | .sessionEnd t => Sys2Proof.Machine.execSessionEnd t s
  | .loamStart who p g => Sys2Proof.Machine.execLoamStart who p g s
  | .loamAbort who p g => Sys2Proof.Machine.execLoamAbort who p g s
  | .loamRelease who p g => Sys2Proof.Machine.execLoamRelease who p g s
  | .loamStep who p => Sys2Proof.Machine.execLoamStep who p s
  | .startPhaseReached p g => Sys2Proof.Machine.execStartPhaseReached p g s
  | .loamDispatch p => Sys2Proof.Machine.execLoamDispatch p s
  | .tileKernel p g n => Sys2Proof.Machine.execTileKernel p g n s
  | .bronzeKernel p g n => Sys2Proof.Machine.execBronzeKernel p g n s
  | .dma p g n => Sys2Proof.Machine.execDma p g n s
  | .aggOp p g n => Sys2Proof.Machine.execAggOp p g n s
  | .mskOp p g n => Sys2Proof.Machine.execMskOp p g n s
  | .ringXfer p g n => Sys2Proof.Machine.execRingXfer p g n s
  | .hrmpSend p g n => Sys2Proof.Machine.execHrmpSend p g n s
  | .waitPhase p g n => Sys2Proof.Machine.execWaitPhase p g n s
  | .waitCount p g n => Sys2Proof.Machine.execWaitCount p g n s
  | .barrier p g n => Sys2Proof.Machine.execBarrier p g n s
  | .hostNotify p g n => Sys2Proof.Machine.execHostNotify p g n s
  | .loadImage p g n => Sys2Proof.Machine.execLoadImage p g n s
  | .waitPhaseReached p g n => Sys2Proof.Machine.execWaitPhaseReached p g n s
  | .waitCountMet p g n => Sys2Proof.Machine.execWaitCountMet p g n s
  | .nodeComplete p g n => Sys2Proof.Machine.execNodeComplete p g n s
  | .graphDrained p g => Sys2Proof.Machine.execGraphDrained p g s
  | .loamModeWrite who p v => Sys2Proof.Machine.execLoamModeWrite who p v s
  | .loamCtrValWrite who p v => Sys2Proof.Machine.execLoamCtrValWrite who p v s
  | .loamQbWrite who p v => Sys2Proof.Machine.execLoamQbWrite who p v s
  | .loamSnapWrite who p word v => Sys2Proof.Machine.execLoamSnapWrite who p word v s
  | .traceCfgWrite who p v => Sys2Proof.Machine.execTraceCfgWrite who p v s
  | .mmuKeyWrite who p v => Sys2Proof.Machine.execMmuKeyWrite who p v s
  | .channelInitDone ch => Sys2Proof.Machine.execChannelInitDone ch s
  | .mmuInvAll who p v => Sys2Proof.Machine.execMmuInvAll who p v s
  | .mmuInvRange who p v => Sys2Proof.Machine.execMmuInvRange who p v s
  | .mmuInvDone p => Sys2Proof.Machine.execMmuInvDone p s
  | .mmuRootHiWrite who p v => Sys2Proof.Machine.execMmuRootHiWrite who p v s
  | .retire who ch v => Sys2Proof.Machine.execRetire who ch v s
  | .retirePageDone ch => Sys2Proof.Machine.execRetirePageDone ch s
  | .retireDone ch => Sys2Proof.Machine.execRetireDone ch s
  | .scrubLine ch dev unc => Sys2Proof.Machine.execScrubLine ch dev unc s
  | .create who v => Sys2Proof.Machine.execCreate who v s
  | .partitionActive p => Sys2Proof.Machine.execPartitionActive p s
  | .grow who v => Sys2Proof.Machine.execGrow who v s
  | .destroy who v => Sys2Proof.Machine.execDestroy who v s
  | .destroyDrained p => Sys2Proof.Machine.execDestroyDrained p s
  | .serviceEvent => Sys2Proof.Machine.execServiceEvent s
  | .dbgHalt who v => Sys2Proof.Machine.execDbgHalt who v s
  | .dbgStep who v => Sys2Proof.Machine.execDbgStep who v s
  | .dbgRead who v => Sys2Proof.Machine.execDbgRead who v s
  | .generate who v => Sys2Proof.Machine.execGenerate who v s
  | .derive who v => Sys2Proof.Machine.execDerive who v s
  | .keyCmdErase who v => Sys2Proof.Machine.execKeyCmdErase who v s
  | .check who v upset => Sys2Proof.Machine.execCheck who v upset s
  | .slotTagScan upset => Sys2Proof.Machine.execSlotTagScan upset s
  | .siltStartupDone kat => Sys2Proof.Machine.execSiltStartupDone kat s
  | .siltHealthFail c apt => Sys2Proof.Machine.execSiltHealthFail c apt s
  | .siltBlockRelease => Sys2Proof.Machine.execSiltBlockRelease s
  | .drbgReseed n => Sys2Proof.Machine.execDrbgReseed n s
  | .restart who v => Sys2Proof.Machine.execRestart who v s
  | .siltCfgWrite who v => Sys2Proof.Machine.execSiltCfgWrite who v s
  | .siltDataRead who p => Sys2Proof.Machine.execSiltDataRead who p s
  | .intDoorbell who v => Sys2Proof.Machine.execIntDoorbell who v s
  | .irqRoute => Sys2Proof.Machine.execIrqRoute s
  | .entry c => Sys2Proof.Machine.execEntry c s
  | .exit c => Sys2Proof.Machine.execExit c s
  | .ccCmpl c src => Sys2Proof.Machine.execCcCmpl c src s
  | .intHcmpl who p v => Sys2Proof.Machine.execIntHcmpl who p v s
  | .hostDelivery src => Sys2Proof.Machine.execHostDelivery src s
  | .intSwPend who v => Sys2Proof.Machine.execIntSwPend who v s
  | .intOPclr who v => Sys2Proof.Machine.execIntOPclr who v s
  | .tMset who k v => Sys2Proof.Machine.execTMset who k v s
  | .tMclr who k v => Sys2Proof.Machine.execTMclr who k v s
  | .tPclr who k v => Sys2Proof.Machine.execTPclr who k v s
  | .intOwnWrite who hv n v => Sys2Proof.Machine.execIntOwnWrite who hv n v s
  | .intCfgWrite who src v => Sys2Proof.Machine.execIntCfgWrite who src v s
  | .ccCtlThreshWrite who c thresh v => Sys2Proof.Machine.execCcCtlThreshWrite who c thresh v s
  | .wake latches => Sys2Proof.Machine.execWake latches s
  | .faultInput src unit detail => Sys2Proof.Machine.execFaultInput src unit detail s
  | .errnRelease => Sys2Proof.Machine.execErrnRelease s
  | .fltFirstClear who v => Sys2Proof.Machine.execFltFirstClear who v s
  | .fltUclr who v => Sys2Proof.Machine.execFltUclr who v s
  | .fltQuiesceWrite who v => Sys2Proof.Machine.execFltQuiesceWrite who v s
  | .fltEgressWrite who v => Sys2Proof.Machine.execFltEgressWrite who v s
  | .fltReactWrite who c v => Sys2Proof.Machine.execFltReactWrite who c v s
  | .mgmtMismatch unit mgmt => Sys2Proof.Machine.execMgmtMismatch unit mgmt s
  | .leaseReclaim kind unit => Sys2Proof.Machine.execLeaseReclaim kind unit s
  | .cntSat c => Sys2Proof.Machine.execCntSat c s
  | .pageInj who page v => Sys2Proof.Machine.execPageInj who page v s
  | .coldReset => Sys2Proof.Machine.execColdReset s
  | .warmReset => Sys2Proof.Machine.execWarmReset s
  | .rstUnit who v => Sys2Proof.Machine.execRstUnit who v s
  | .unitResetDone unit ok => Sys2Proof.Machine.execUnitResetDone unit ok s
  | .rstRing who v => Sys2Proof.Machine.execRstRing who v s
  | .ringReset => Sys2Proof.Machine.execRingReset s
  | .imageVerified b code svn => Sys2Proof.Machine.execImageVerified b code svn s
  | .dramTrained => Sys2Proof.Machine.execDramTrained s
  | .ready => Sys2Proof.Machine.execReady s
  | .transition who v => Sys2Proof.Machine.execTransition who v s
  | .fwStage who v => Sys2Proof.Machine.execFwStage who v s
  | .fwStageDone => Sys2Proof.Machine.execFwStageDone s
  | .fwArm who v => Sys2Proof.Machine.execFwArm who v s
  | .fwDisarm who v => Sys2Proof.Machine.execFwDisarm who v s
  | .fwActivate => Sys2Proof.Machine.execFwActivate s
  | .halfADone => Sys2Proof.Machine.execHalfADone s
  | .halfBDone => Sys2Proof.Machine.execHalfBDone s
  | .commitSvn who v => Sys2Proof.Machine.execCommitSvn who v s
  | .coolant => Sys2Proof.Machine.execCoolant s
  | .gateStep p dyn => Sys2Proof.Machine.execGateStep p dyn s
  | .pmThrottle tj watts => Sys2Proof.Machine.execPmThrottle tj watts s
  | .pwrCtlLevel who v => Sys2Proof.Machine.execPwrCtlLevel who v s
  | .sleep who v => Sys2Proof.Machine.execSleep who v s
  | .pwrFixWrite who v => Sys2Proof.Machine.execPwrFixWrite who v s
  | .pwrShareWrite who p v => Sys2Proof.Machine.execPwrShareWrite who p v s
  | .fixlost => Sys2Proof.Machine.execFixlost s
  | .telemetryItem => Sys2Proof.Machine.execTelemetryItem s
  | .mgtAlertWrite who v => Sys2Proof.Machine.execMgtAlertWrite who v s
  | .entdaa addr won => Sys2Proof.Machine.execEntdaa addr won s
  | .setdasa static addr => Sys2Proof.Machine.execSetdasa static addr s
  | .rstdaa => Sys2Proof.Machine.execRstdaa s
  | .enec ev => Sys2Proof.Machine.execEnec ev s
  | .disec ev => Sys2Proof.Machine.execDisec ev s
  | .getpid => Sys2Proof.Machine.execGetpid s
  | .getbcr => Sys2Proof.Machine.execGetbcr s
  | .getdcr => Sys2Proof.Machine.execGetdcr s
  | .getstatus => Sys2Proof.Machine.execGetstatus s
  | .tapReset => Sys2Proof.Machine.execTapReset s
  | .extest bits => Sys2Proof.Machine.execExtest bits s
  | .idcode => Sys2Proof.Machine.execIdcode s
  | .samplePreload bits => Sys2Proof.Machine.execSamplePreload bits s
  | .hcpacc wr off v => Sys2Proof.Machine.execHcpacc wr off v s
  | .bypass => Sys2Proof.Machine.execBypass s
  | .coolantOkFall => Sys2Proof.Machine.execCoolantOkFall s
  | .siltBlockComplete => Sys2Proof.Machine.execSiltBlockComplete s
  | .siltRawRead who => Sys2Proof.Machine.execSiltRawRead who s
  | .reservedOpcode ing opc k => Sys2Proof.Machine.execReservedOpcode ing opc k s
  | .unmatchedResponse ing opc k => Sys2Proof.Machine.execUnmatchedResponse ing opc k s

end Sys2Proof.Machine
end

