-- ==== Sys2Proof/Safety.lean ====
section
/-! DEFINITION. The terms in which claims speak of a run: what a command gives, which runs are safe, and the conditions on
the state that several families of commands share. -/
namespace Sys2Proof.Machine

/-! ### What a command gives -/

/-- Command `c` is carried out in `s`: it answers a next state that keeps the queue, whose pins follow its registers, and
whose data half is as `P` says. -/
def Gives (c : Instr) (s : State) (P : Mach → Prop) : Prop := ∃ m, exec c s = .next (s.after m) ∧ P m

/-- The machine has no further effect of the command: it answers the same data. -/
def Unmoved (c : Instr) (s : State) : Prop := exec c s = .next (s.after s.m)

/-! ### Safe runs -/

/-- A step is safe where it answers a next state. -/
def SafeStep (s : State) : Prop := ∃ t, step s = .next t

/-- The run of `k` steps from a state, for as long as every step answers a next state. -/
def runFor (k : Nat) (s : State) : Option State :=
  match k with
  | 0 => some s
  | j + 1 => match step s with
    | .next t => runFor j t
    | _ => none

/-- The pins say what the registers hold (R639, R657, R700). -/
abbrev PinsFollow (s : State) : Prop := s.pins = s.m.outputs

/-! ### Conditions on the state -/

/-- The machine that has answered a register write with status OK. -/
def Mach.answered (m : Mach) : Mach := { m with resp := [(0, 0)] }

/-- The core clocks run and no reset has ended the pass of this tick (R52, R618). -/
def Mach.awake (m : Mach) : Prop := m.asleep = false ∧ m.isGone everyTarget = false

/-- Is the register at page `p`, offset `o` marked "(data)" (R88)? -/
def dataMark (p o : Nat) : Bool :=
  match (if o < 0x20 then none else rowIn (pageRows p) o) with
  | some r => r.data
  | none => false

/-- A packet write by `who` of the register at byte offset `off` passes every filter and finds its page ready: the core clocks
run, the page is reached, the class filter allows it, LOCK is clear, and no posted write is under way (R72, R78, R86, R88). -/
def Mach.writeOpen (m : Mach) (who : Ident) (off : Nat) : Prop :=
  let p := resolvePage (off / 0x1000 % 0x1000)
  let o := resolveOff p (off % 0x1000)
  m.awake ∧ m.reach 0 p = 1 ∧ m.allowed who p o (dataMark p o) true = true ∧ m.locked who p = false ∧ m.pageBusy p = false

/-- A packet read by `who` of the register at `off` passes every filter (R72, R88). -/
def Mach.readOpen (m : Mach) (who : Ident) (off : Nat) : Prop :=
  let p := resolvePage (off / 0x1000 % 0x1000)
  let o := resolveOff p (off % 0x1000)
  m.asleep = false ∧ m.reach 0 p = 1 ∧ m.allowed who p o (dataMark p o) false = true

/-- A packet write by `who` at `off` is denied: the core clocks run and the class filter does not allow it (R72, R88). -/
def Mach.writeDenied (m : Mach) (who : Ident) (off : Nat) : Prop :=
  let p := resolvePage (off / 0x1000 % 0x1000)
  let o := resolveOff p (off % 0x1000)
  m.awake ∧ off % 4 = 0 ∧ m.allowed who p o (dataMark p o) true = false

/-! ### Kernel instructions -/

/-- Tile `t` may issue, and the word at its program counter is legal and has the code `c`, that is CLS × 64 + OP (R221, R228, R242). -/
def Mach.issues (m : Mach) (t c : Nat) : Prop :=
  m.canIssue t = true ∧ (m.tile t).pcOk (m.fetch t).pc = true ∧ (m.fetch t).legal = true ∧ (m.fetch t).code = c

/-- `n` is `m` after tile `t` has issued one instruction and gone to `pc` with the loop stack `loops`: `x` is what the
instruction makes of the tile, CNT_INSTR has counted, and the sticky flags DZ and OV are joined with `dz` and `ov`
(R221, R224, R251, R540). No other tile, no other register and nothing else of the machine has changed. -/
def Mach.movesTo (m : Mach) (t : Nat) (x : Tile) (pc : Nat) (loops : List (Nat × Nat × Nat)) (dz ov : Bool) (n : Mach) : Prop :=
  n.tile t = { x with loops := loops, step := x.step && !x.halted } ∧
  n.tilePc t = pc % 2 ^ 24 ∧
  n.rd64 (A.CNT_INSTR_LO t) = min (m.rd64 (A.CNT_INSTR_LO t) + 1) (2 ^ 64 - 1) ∧
  n.bit (A.TILE_SFLAGS t) 0 = (m.bit (A.TILE_SFLAGS t) 0 || dz) ∧
  n.bit (A.TILE_SFLAGS t) 1 = (m.bit (A.TILE_SFLAGS t) 1 || ov) ∧
  (∀ u, u ≠ t → n.tile u = m.tile u) ∧
  (∀ a, a ≠ A.TILE_PC t → a ≠ A.TILE_SFLAGS t → a ≠ A.CNT_INSTR_LO t → a ≠ A.CNT_INSTR_LO t + 4 → n.rd a = m.rd a) ∧
  n = { m with tiles := n.tiles, regs := { m.regs with act := n.regs.act } }

/-- `movesTo` in sequence: past the word, or back to the start of a loop body with passes left (R221, R228). -/
def Mach.stepsTo (m : Mach) (t : Nat) (x : Tile) (dz ov : Bool) (n : Mach) : Prop :=
  m.movesTo t x (loopNext (m.tilePc t) x.loops).1 (loopNext (m.tilePc t) x.loops).2 dz ov n

/-- `movesTo` at a target, with the loop stack as the instruction leaves it (R228). -/
def Mach.jumpsTo (m : Mach) (t : Nat) (x : Tile) (pc : Nat) (n : Mach) : Prop := m.movesTo t x pc x.loops false false n

/-- Tile `t` has met the kernel fault `cause` with `detail` at its program counter: nothing else of it changes, and it waits for its
engines to drain (R242). -/
def Mach.faultsWith (m : Mach) (t cause detail : Nat) (n : Mach) : Prop :=
  n.tile t = { m.tile t with fault := some (cause, detail % 2 ^ 64, m.tilePc t), step := (m.tile t).step && !(m.tile t).halted } ∧
  n.tileState t = 3 ∧ (∀ u, u ≠ t → n.tile u = m.tile u) ∧ ∀ a, a ≠ A.TILE_STS t → n.rd a = m.rd a

/-! ### Packets -/

/-- The port `ing` is up and gives packet `k` to the receive checks at once: by its route on a ring port (R439); on an ingest
port where its share has room and, for VC0 and VC1, nothing of its partition waits and the slot is open to it (R465). -/
def Mach.portTakes (m : Mach) (ing : Ingress) (k : Pkt) : Prop :=
  match ing with
  | .ring n => m.ringUp n.val = true ∧ (k.dst.toNat = 0xFFFFF ∨ m.route n.val k.dst.toNat = some 8)
  | .eth n _ _ _ _ => m.ethUp n.val = true ∧ m.shareUsed n.val k.part.val + k.size ≤ m.fld (A.ETH_RXSHARE n.val k.part.val) 8 0 * 4096 ∧
      (2 ≤ k.vc.toNat ∨ ((∀ q, m.slotOwner (8 + n.val) = some q → q = k.part.val) ∧
        ∀ w ∈ m.net.wait, ¬ (w.1 = n.val ∧ w.2.pkt.part = k.part)))

/-- Packet `k0` with opcode `opc` passes the receive checks 1 to 9 of R128 as `k`, its payload opened. -/
def Mach.admits (m : Mach) (ing : Ingress) (opc : BitVec 8) (k0 k : Pkt) : Prop :=
  m.asleep = false ∧ m.portTakes ing k0 ∧ k0.whole = true ∧ k0.ver = 1 ∧ m.queueOwner k0.queue.toNat = some k0.part.val ∧
  m.openPkt opc k0 = some k ∧ vcOf opc.toNat = some k.vc.toNat ∧ hdrCheck opc.toNat k = none ∧ k.dst.toNat = m.node ∧
  k.plen.toNat ≤ m.maxPlen ing k.enc ∧ lenOkFor opc.toNat (m.maxPlen ing k.enc) k = true

/-- Request `k` is the next of its sequence (R473), there is room for it (R470), its partition is not quiesced (R129, R635),
and it opens a message where none is open, or continues the open one (R104). -/
def Mach.proceeds (m : Mach) (opc : BitVec 8) (k : Pkt) : Prop :=
  (m.banks k.part.val ≠ []) ∧
  (∃ e, m.winOf k.part.val k.src.toNat k.queue.toNat = some e ∧ e.e = k.seq.toNat ∧
    k.seq.toNat ∉ e.done ∧ ∀ x ∈ e.held, x.1 ≠ k.seq.toNat) ∧
  m.hasRoom k = true ∧ m.partQuiesced k.part.val = false ∧ m.isGone everyTarget = false ∧
  ((k.isFirst = true ∧ ∀ o ∈ m.net.msgs, ¬ (o.part = k.part.val ∧ o.src = k.src.toNat ∧ o.queue = k.queue.toNat)) ∨
    (k.isFirst = false ∧ ∃ o, m.net.msgs.find? (fun o => o.part = k.part.val && o.src = k.src.toNat && o.queue = k.queue.toNat) = some o ∧
      o.next = k.seq.toNat ∧ o.opc = opc))

/-- `n` is the machine as step 12 finds it: it differs from `m` in the window and message records, and in the counters and
pointers of the packet's queue and port (R410, R473). -/
def Mach.atStep12 (n m : Mach) (ing : Ingress) (k : Pkt) : Prop :=
  n = { m with regs := { m.regs with act := n.regs.act }, net := n.net } ∧
  n.net = { m.net with wins := n.net.wins, useClock := n.net.useClock, msgs := n.net.msgs } ∧
  ∀ a, a ≠ A.Q_PTR (qBlock k.queue.toNat) → a ≠ A.Q_ITEMS (qBlock k.queue.toNat) →
    a ≠ A.Q_CAP (qBlock k.queue.toNat) → (∀ i, i < 16 → a ≠ A.ETH_RX_FRAMES i) → n.rd a = m.rd a

/-- `n` is `m` after the answer to request `k`: it differs in what is queued to leave, the window records, the counter that MARK
counts on, and two statistics (R102, R103, R439, R491). -/
def Mach.afterAnswer (n m : Mach) (k : Pkt) : Prop :=
  n = { m with regs := { m.regs with act := n.regs.act }, net := n.net, ctrs := n.ctrs } ∧
  (k.mark = false → n.ctrs = m.ctrs) ∧
  ∀ a, a ≠ A.BRL_NOROUTE 0 → a ≠ A.HRMP_RNR k.part.val → n.rd a = m.rd a

/-- A response with opcode `opc` to request `k` waits to leave in `n`, behind what waited in `m` (R107). -/
def Mach.responded (n m : Mach) (k : Pkt) (opc : BitVec 8) : Prop :=
  ∃ f, n.net.txq = m.net.txq ++ [f] ∧ f.opc = opc ∧ f.vc = 1 ∧ f.pkt.dst = k.src ∧ f.pkt.operand = k.seq ∧ f.pkt.queue = k.queue

/-- A response to request `k` can leave: on an ingest port, or by a route of the hub (R107, R439); sealed where it must be (R125). -/
def Mach.reachable (m : Mach) (ing : Ingress) (opc : BitVec 8) (k : Pkt) : Prop :=
  (ing.isRing = true → (m.route 8 k.src.toNat).isSome = true) ∧ (clearAns opc = false → k.part = 0 ∨ m.hasKey k.part.val = true)

end Sys2Proof.Machine
end

