-- ==== Sys2Proof/Certificates/Slice0/Obligations.lean ====
section
/-! DEFINITION. Statements for the provers: what the commands of each family do to the block, and what holds of every state and run. -/

namespace Sys2Proof.Machine

/-! ### Terms of the statements -/

/-- No shadow stands on page 0x000, which has no register of type SH (R93). -/
def Mach.noGlbShadow (m : Mach) : Prop := ∀ e ∈ m.regs.shadow, pageOfKey e.1 ≠ 0

/-- A scalar operation with number `op` of class 0 or 1, with the result `f` and the flags `dz` and `ov`. -/
def ScalarOp (c : Fin 80 → Instr) (op : Nat) (f : BitVec 64 → BitVec 64 → BitVec 64) (dz ov : BitVec 64 → BitVec 64 → Bool) : Prop :=
  ∀ (s : State) (t : Fin 80), (s.m.issues t op ∨ s.m.issues t (64 + op)) →
    let x := s.m.tile t
    let i := s.m.fetch t
    let a := BitVec.ofNat 64 (x.sreg i.a)
    let b := BitVec.ofNat 64 (if i.cls = 1 then i.sext else x.sreg i.b)
    Gives (c t) s (s.m.stepsTo t (x.setS i.d (f a b).toNat) (dz a b) (ov a b))

/-- A load of `n` bytes; `sx` where it sign-extends. -/
def LoadOp (c : Fin 80 → Instr) (op n : Nat) (sx : Bool) : Prop := ∀ (s : State) (t : Fin 80), s.m.issues t (128 + op) →
  let x := s.m.tile t
  let i := s.m.fetch t
  let a := (x.sreg i.a + i.sext) % 2 ^ 64
  (a % n ≠ 0 → Gives (c t) s (s.m.faultsWith t 4 a)) ∧
  (a % n = 0 → 0x840000 ≤ a → Gives (c t) s (s.m.faultsWith t 3 a)) ∧
  (a % n = 0 → a < 0x840000 → (x.poisonIn a n).isSome = true → x.barred 9 [(a, a + n)] [] = false → Gives (c t) s (s.m.faultsWith t 0x0B a)) ∧
  (a % n = 0 → a < 0x840000 → x.poisonIn a n = none → x.barred 9 [(a, a + n)] [] = false → Gives (c t) s
    (s.m.stepsTo t (x.setS i.d
      (let v := BitVec.ofNat (8 * n) (leNat (memRead x.mem a n)); if sx then (v.signExtend 64).toNat else v.toNat)) false false))

/-- A store of the low `n` bytes of sB. -/
def StoreOp (c : Fin 80 → Instr) (op n : Nat) : Prop := ∀ (s : State) (t : Fin 80), s.m.issues t (128 + op) →
  let x := s.m.tile t
  let i := s.m.fetch t
  let a := (x.sreg i.a + i.sext) % 2 ^ 64
  (a % n ≠ 0 → Gives (c t) s (s.m.faultsWith t 4 a)) ∧
  (a % n = 0 → 0x840000 ≤ a → Gives (c t) s (s.m.faultsWith t 3 a)) ∧
  (a % n = 0 → 0x800000 ≤ a → a < 0x840000 → Gives (c t) s (s.m.faultsWith t 2 a)) ∧
  (a % n = 0 → a < 0x800000 → x.barred 9 [] [(a, a + n)] = false → Gives (c t) s
    (s.m.stepsTo t (x.store a (leBytes n (x.sreg i.b))) false false))

/-- A branch taken where `c` holds of its sources. -/
def BranchOp (b : Fin 80 → Instr) (op : Nat) (c : BitVec 64 → BitVec 64 → Bool) : Prop :=
  ∀ (s : State) (t : Fin 80), s.m.issues t (192 + op) →
    let x := s.m.tile t
    let i := s.m.fetch t
    let dest := (s.m.tilePc t + i.sext) % 2 ^ 64
    let taken := c (BitVec.ofNat 64 (x.sreg i.a)) (BitVec.ofNat 64 (x.sreg i.b))
    (taken = true → x.pcOk dest = true → Gives (b t) s (s.m.jumpsTo t x dest)) ∧
    (taken = true → x.pcOk dest = false → Gives (b t) s (s.m.faultsWith t 5 dest)) ∧
    (taken = false → Gives (b t) s (s.m.stepsTo t x false false))

/-- An engine operation with code `code` enters queue `k` as the record `op` when its checks pass and nothing bars it; a check that
fails faults. -/
def EngineOp (c : Fin 80 → Instr) (code k : Nat) (chk : Mach → Nat → Tile → TIns → List (Option KF)) (op : Mach → Nat → Tile → TIns → EngOp) : Prop :=
  ∀ (s : State) (t : Fin 80), s.m.issues t code →
    let x := s.m.tile t
    let i := s.m.fetch t
    let o := op s.m t x i
    (firstKF (chk s.m t x i) = none → (x.queue k).length < queueCap k → x.inFlight < 32 → x.barred k o.rds o.wrs = false →
      (k = 1 → ∀ p ∈ x.dma, p.tag ≠ o.tag) → Gives (c t) s (s.m.stepsTo t (x.push k o) false false)) ∧
    (∀ cause d, firstKF (chk s.m t x i) = some (cause, d) → Gives (c t) s (s.m.faultsWith t cause d))

/-- The checks of COPY (R233). -/
def copyChecks (i : TIns) (va vb : Nat) : List (Option KF) :=
  [checkDesc i.a va false, checkDesc i.b vb true, if dSp va != dSp vb then descBad i.b 6 else none,
    if rowBytes va ≠ rowBytes vb then descBad i.b 2 else none, if dRows va ≠ dRows vb then descBad i.b 3 else none]

/-- The record of a Bronze operation: `useB` where it reads vB, `rdD` where it reads vD. -/
def bronzeOp (useB rdD : Bool) (_ : Mach) (_ : Nat) (x : Tile) (i : TIns) : EngOp :=
  engOp x i (foot (x.vreg i.a) ++ (if useB then foot (x.vreg i.b) else []) ++ (if rdD then foot (x.vreg i.d) else [])) (foot (x.vreg i.d))

/-- A request with opcode `opc` that passes the checks does `run` at step 12 and is answered; packets held behind it are then
released (R102, R107, R128, R129, R473). -/
def RequestRuns (c : Ingress → Pkt → Instr) (opc : BitVec 8) (sel : Mach → Pkt → Bool) (run : Mach → Ingress → Pkt → Mach × Ans) : Prop :=
  ∀ (s : State) (ing : Ingress) (k0 k : Pkt), s.m.admits ing opc k0 k → s.m.proceeds opc k → sel s.m k0 = true →
    (k.queue.toNat < s.m.fld (A.TRACE_QRANGE k.part.val) 29 16 ∨ s.m.fld (A.TRACE_QRANGE k.part.val) 13 0 < k.queue.toNat) →
    Gives (c ing k0) s (fun m => ∃ m0 m1 : Mach, m0.atStep12 s.m ing k ∧
      let r := run m0 ing k
      (r.1.rd (A.TRACE_QRANGE k.part.val) = s.m.rd (A.TRACE_QRANGE k.part.val) → m1.afterAnswer r.1 k) ∧
      (r.1.reachable ing opc k →
        (∀ v, r.2 = .ack v → k.ackReq = true → m1.responded r.1 k 0x60) ∧
        (∀ o b, r.2 = .rsp o b → m1.responded r.1 k o) ∧
        (∀ ok b, r.2 = .regWr ok b → k.ackReq = true → m1.responded r.1 k 0x03) ∧
        (∀ reason d, r.2 = .nak reason d → k.posted = false → m1.responded r.1 k 0x61)) ∧
      m = m1.release handler k.part.val k.src.toNat k.queue.toNat 64)

/-- Op rows, by constructor and op code (R359). -/
def SessionOp (t : Fin 80) (c : Instr) (code : Nat) : Prop :=
  (c, code) ∈ [(Instr.a2s t, 0x01), (.s2c t, 0x02), (.w2s t, 0x03), (.s2w t, 0x04), (.shareAddSub t, 0x10), (.cmul t, 0x11), (.cadd t, 0x12),
    (.shareMul t, 0x20), (.sqsum t, 0x21), (.sign t, 0x30), (.lt t, 0x31), (.shareMax t, 0x32), (.relu t, 0x33), (.thresh t, 0x34),
    (.clip t, 0x35), (.topk t, 0x36), (.genA t, 0x40), (.genB t, 0x41)]

/-- The machine as a warm reset or a life-cycle transition finds it asked for. -/
def Mach.resetAsked (m : Mach) : Prop := m.warmReq = true ∨ m.sys.lcReset = true

/-- The machine that has stored the command `v` in LC_CMD, as the command's work finds it. -/
def Mach.lcAsked (m : Mach) (v : Word) : Mach := m.plainWords 0x06F [(0x3C, v.toNat)]

/-- `n` differs from `m` in registers, the phase unit, the power and boot record, interrupt handling, faults raised, the answer and the
free counter only: memory, translation, keys, ownership, contexts, tiles, gates, Loam, entropy, sessions, links, faults handled and
counters are as they were. -/
def Mach.controlOnly (n m : Mach) : Prop :=
  n = { m with regs := n.regs, phs := n.phs, sys := n.sys, irq := n.irq, raised := n.raised, resp := n.resp, free := n.free,
               slotOwn := n.slotOwn, warmReq := n.warmReq }

end Sys2Proof.Machine

open Sys2Proof Sys2Proof.Machine

/-! ### Ring phase -/

/-- Tick edges, the epoch advance, PHASE_REF, beacons and the election each complete where they are due (R36, R39, R40, R42,
R46, R47). -/
def Obligations.PhaseEventsComplete : Prop := ∀ s : State,
  (s.m.fld A.PWR_STS 1 0 ≠ 1 → Gives .tickEdge s (fun m =>
    m.phase = min (s.m.phase + s.m.phs.corr.step) (2 ^ 64 - 1) ∧ m.phs.corr = .none ∧ m.phs.edges = s.m.phs.edges + 1 ∧
    (m.phase = 2 ^ 64 - 1 → m.bit A.PHS_STS 7 = true) ∧ m.gone = [] ∧ m.regs.updNow = s.m.regs.updNext)) ∧
  (s.m.epochDue = true → s.m.phsState = 4 → s.m.phase / 2 ^ 48 < s.m.fld A.PHS_EPOCH_SET 15 0 → Gives .epochAdvance s (fun m =>
    m.phase = s.m.fld A.PHS_EPOCH_SET 15 0 * 2 ^ 48 ∧ m.bit A.PHS_EPOCH_SET 31 = false ∧ m.phs.advFlag = true)) ∧
  (s.m.epochDue = true → (s.m.phsState ≠ 4 ∨ s.m.fld A.PHS_EPOCH_SET 15 0 ≤ s.m.phase / 2 ^ 48) → Gives .epochAdvance s (fun m =>
    m.phase = s.m.phase ∧ m.bit A.PHS_EPOCH_SET 31 = false ∧ m.bit A.PHS_STS 5 = true)) ∧
  (s.m.phsState = 4 → s.m.bit A.PHS_CFG 8 = true → Gives .phaseRefEdge s (fun m =>
    m.bit A.PHS_STS 4 = true ∧ m.phs.lastRef = some s.m.phs.edges ∧
    (s.m.phs.beaconed = true → m.phase = s.m.phase ∧
      m.phs.corr = corrOf ((nearestMultiple s.m.refPer s.m.ticks s.m.phs.edges : Int) - (s.m.ticks : Int))))) ∧
  (s.m.refLostDue = true → Gives .phaseRefLost s (fun m =>
    m.bit A.PHS_STS 4 = false ∧ m.phs.lastRef = none ∧ m.raised = s.m.raised ++ [(0x70, 0x125, 0)])) ∧
  (s.m.beaconDue = true → Gives .beaconEmit s (fun m =>
    m.phs.beaconed = true ∧ m.phs.emittedAt = some s.m.phase ∧ m.phs.advFlag = false ∧
    m.net.txq = s.m.net.txq ++ ((List.range 8).filter s.m.ringUp).map (fun n => beaconFrame n
      (s.m.mkPkt 0x93 2 0 0xFFFFF 0 0 0 (beaconPayload 0 0 (s.m.fld A.PHS_CFG 1 0) s.m.phs.advFlag
        (s.m.bit A.PHS_CFG 8 && s.m.bit A.PHS_STS 4)))))) ∧
  (s.m.electionDue = true → Gives .becomeMaster s (fun m =>
    m.phsState = 4 ∧ m.phase = s.m.phase ∧ m.rd A.PHS_MASTER = BitVec.ofNat 32 s.m.node ∧ m.phs.beaconed = false)) ∧
  (s.m.phaseLostDue = true → Gives .phaseLost s (fun m =>
    m.phsState = 3 ∧ m.phase = s.m.phase ∧ m.raised = s.m.raised ++ [(0x71, 0x125, s.m.fld A.PHS_MISS 15 0)]))

/-- R45: PHASE_DEV, of class DEG (2), is raised when |d| exceeds MAXDEV, again only after |d| has returned, and the node keeps correcting. -/
def Obligations.PhaseDevRule : Prop := ∀ (m : Mach) (n : Nat) (k : Pkt), (m.phsState = 2 ∨ m.phsState = 3) →
  let d : Int := (m.expectedPhase n k : Int) - (m.phase : Int)
  let t := m.acceptBeacon n k
  srcClass 0x72 0x125 = some 2 ∧
  (m.fld A.PHS_CFG 31 24 < d.natAbs → m.phs.devArmed = true →
    t.raised = m.raised ++ [(0x72, 0x125, (BitVec.ofInt 32 d).toNat)] ∧ t.phs.devArmed = false) ∧
  (m.fld A.PHS_CFG 31 24 < d.natAbs → m.phs.devArmed = false → t.raised = m.raised ∧ t.phs.devArmed = false) ∧
  (d.natAbs ≤ m.fld A.PHS_CFG 31 24 → t.raised = m.raised ∧ t.phs.devArmed = true) ∧
  (bitOf (fieldAt k.payload 6 1) 2 = false → t.phase = m.phase ∧ t.phs.corr = corrOf d)

/-- Writes of the PHS registers and of the strobe and reset registers of page 0x000 complete (R39, R46, R47, R57, R66, R82, R93). -/
def Obligations.PhaseWritesComplete : Prop := ∀ (s : State) (who : Ident) (v : Word),
  (s.m.writeOpen who A.PHS_CFG → Gives (.phsCfgWrite who v) s (fun m => m.resp = [(0, 0)] ∧
    m.fld A.PHS_CFG 31 24 = bitsOf v.toNat 31 24 ∧ m.bit A.PHS_CFG 8 = bitOf v.toNat 8 ∧ m.bit A.PHS_CFG 4 = bitOf v.toNat 4 ∧
    m.fld A.PHS_CFG 1 0 = (if s.m.phsState = 0 then bitsOf v.toNat 1 0 else s.m.fld A.PHS_CFG 1 0) ∧
    m.phsState = (if s.m.phsState = 4 ∧ bitOf v.toNat 4 = false then 3 else s.m.phsState))) ∧
  (s.m.writeOpen who A.PHS_CTL → bitOf v.toNat 0 = true → s.m.phsState = 0 → Gives (.acq who v) s (fun m =>
    m.resp = [(0, 0)] ∧ m.phsState = 1 ∧ m.bit A.PHS_CTL 0 = true ∧ m.phs.cand = none)) ∧
  (s.m.writeOpen who A.PHS_EPOCH_SET → bitOf v.toNat 31 = true → s.m.phsState = 4 → s.m.phase / 2 ^ 48 < bitsOf v.toNat 15 0 →
    Gives (.phsEpochSet who v) s (fun m => m.resp = [(0, 0)] ∧ m.bit A.PHS_EPOCH_SET 31 = true ∧
      m.fld A.PHS_EPOCH_SET 15 0 = bitsOf v.toNat 15 0)) ∧
  (s.m.writeOpen who A.PHS_EPOCH_SET → bitOf v.toNat 31 = true → (s.m.phsState ≠ 4 ∨ bitsOf v.toNat 15 0 ≤ s.m.phase / 2 ^ 48) →
    Gives (.phsEpochSet who v) s (fun m => m.resp = [(0, 0)] ∧ m.bit A.PHS_EPOCH_SET 31 = false ∧ m.bit A.PHS_STS 5 = true)) ∧
  (∀ c : Fin 64, s.m.writeOpen who (A.CMP_CTL c.val) → Gives (.cmpCtlWrite who c v) s (fun m => m.resp = [(0, 0)] ∧
    m.bit (A.CMP_CTL c.val) 31 = bitOf v.toNat 31 ∧ m.fld (A.CMP_CTL c.val) 15 0 = bitsOf v.toNat 15 0 ∧
    (bitOf v.toNat 31 = true → m.bit (A.CMP_CTL c.val) 30 = false ∧ m.bit (A.CMP_CTL c.val) 29 = false) ∧
    (bitOf v.toNat 28 = true → m.bit (A.CMP_CTL c.val) 28 = false))) ∧
  (∀ n k : Fin 8, s.m.writeOpen who (A.PHS_CMP_OWN n.val) → Gives (.phsCmpOwnWrite who n v) s (fun m => m.resp = [(0, 0)] ∧
    m.cmpOwner (8 * n.val + k.val) = bitsOf v.toNat (4 * k.val + 3) (4 * k.val) ∧
    m.bit (A.CMP_CTL (8 * n.val + k.val)) 31 = (s.m.bit (A.CMP_CTL (8 * n.val + k.val)) 31 &&
      s.m.cmpOwner (8 * n.val + k.val) = bitsOf v.toNat (4 * k.val + 3) (4 * k.val)))) ∧
  (s.m.writeOpen who A.GLB_UPD → Gives (.glbUpd who v) s (fun m => m.resp = [(0, 0)] ∧
    m.regs.updNext = s.m.regs.updNext ||| v.setWidth 16)) ∧
  (s.m.writeOpen who A.GLB_RST → bitsOf v.toNat 31 16 = 0xD7A9 → bitOf v.toNat 0 = true → Gives (.glbRst who v) s (fun m =>
    m.resp = [(0, 0)] ∧ m.warmReq = true))

/-! ### Strobes, comparators, the throttle level -/

/-- Update strobes apply exactly the pages of their groups (R82, R84, R85); comparators fire and re-arm (R55, R58); a held throttle
change takes effect (R59). -/
def Obligations.StrobesAndComparatorsComplete : Prop := ∀ s : State,
  (Gives .groupApply s (fun m => m.regs.updNow = 0 ∧
    m.regs.shadow = s.m.regs.shadow.filter (fun e => !s.m.regs.updNow.toNat.testBit (s.m.ugrp (pageOfKey e.1))) ∧
    ∀ e ∈ s.m.regs.shadow, s.m.regs.updNow.toNat.testBit (s.m.ugrp (pageOfKey e.1)) = true → pageOfKey e.1 < 0x060 →
      (∀ x ∈ s.m.regs.shadow, x.1 = e.1 → x = e) → m.rd e.1 = e.2)) ∧
  (s.m.updAtDue = true → s.m.noGlbShadow → Gives .glbUpdAtFire s (fun m =>
    m.bit A.GLB_UPD_AT_CTL 31 = false ∧ m.bit A.GLB_UPD_AT_CTL 30 = s.m.isLate 64 (s.m.rd64 A.GLB_UPD_AT_LO) ∧ m.regs.updNow = 0 ∧
    m.regs.shadow = s.m.regs.shadow.filter (fun e =>
      !(s.m.fld A.GLB_UPD_AT_CTL 15 0 ||| s.m.regs.updNow.toNat).testBit (s.m.ugrp (pageOfKey e.1))))) ∧
  (∀ v, s.m.sys.wantL = some v → v < 8 → s.m.levelReady = true → Gives .throttleLevelChange s (fun m =>
    m.level = v ∧ m.sys.wantL = none ∧ m.sys.sinceL = 0)) ∧
  (∀ c : Fin 64, s.m.cmpDue c.val = true → Gives (.comparatorFire c) s (fun m =>
    m.bit (A.CMP_CTL c.val) 28 = true ∧ m.bit (A.CMP_CTL c.val) 30 = s.m.isLate c.val (s.m.rd64 (A.CMP_TARGET_LO c.val)))) ∧
  (∀ c : Fin 64, s.m.cmpDue c.val = true → s.m.fld (A.CMP_ACTION c.val) 31 28 = 0 → Gives (.comparatorFire c) s (fun m =>
    m.bit (A.CMP_CTL c.val) 29 = false ∧ m.raised = s.m.raised ∧
    (s.m.fld (A.CMP_CTL c.val) 15 0 = 0 → m.bit (A.CMP_CTL c.val) 31 = false) ∧
    (∀ n per : Nat, per = s.m.fld (A.CMP_CTL c.val) 15 0 * 1024 → per ≠ 0 → n = (s.m.phase - s.m.rd64 (A.CMP_TARGET_LO c.val)) / per + 1 →
      s.m.rd64 (A.CMP_TARGET_LO c.val) + n * per < 2 ^ 64 →
      m.rd64 (A.CMP_TARGET_LO c.val) = s.m.rd64 (A.CMP_TARGET_LO c.val) + n * per ∧ m.bit (A.CMP_CTL c.val) 31 = true))) ∧
  (∀ (who : Ident) (page : Fin 4096) (v : Word), s.m.writeOpen who (0x1000 * page.val + 0x0C) → resolvePage page.val < 0xF00 →
    bitOf v.toNat 0 = true → Gives (.pageUpd who page v) s (fun m => m.resp = [(0, 0)] ∧
      m.regs.shadow = s.m.regs.shadow.filter (fun e => pageOfKey e.1 ≠ resolvePage page.val))) ∧
  (∀ (who : Ident) (page : Fin 4096) (v : Word) (u : Nat), s.m.writeOpen who (0x1000 * page.val + 0x14) → resolvePage page.val < 0xF00 →
    s.m.lcs = 1 → bitOf v.toNat 31 = true → pageUnit (resolvePage page.val) = some u → (srcClass (bitsOf v.toNat 23 16) u).isSome = true →
    Gives (.pageInj who page v) s (fun m => m.resp = [(0, 0)] ∧
      m.flt.inj = s.m.flt.inj ++ [(bitsOf v.toNat 23 16, u, bitsOf v.toNat 15 0)]))

/-! ### Register accesses -/

/-- Accesses of any register: a plain register takes its value (R8), a slow page posts the write (R86), a busy page answers BUSY,
a read of the lowest word captures the rest (R7), a read clears RC fields (R8), and the I3C and JTAG paths make the same
accesses (R92, R695). -/
def Obligations.RegisterAccessesComplete : Prop := ∀ (s : State) (who : Ident) (v : Word),
  (s.m.writeOpen who A.KEY_SEL → Gives (.registerWrite who (BitVec.ofNat 24 A.KEY_SEL) v) s (fun m =>
    m.resp = [(0, 0)] ∧ m.fld A.KEY_SEL 8 0 = bitsOf v.toNat 8 0)) ∧
  (s.m.writeOpen who A.MGT_ALERT_EN → Gives (.registerWrite who (BitVec.ofNat 24 A.MGT_ALERT_EN) v) s (fun m =>
    m.resp = [(0, 0)] ∧ tfind m.regs.posted 0x090 = some [(0x28, v)] ∧ m.rd A.MGT_ALERT_EN = s.m.rd A.MGT_ALERT_EN)) ∧
  (∀ w : Word, tfind s.m.regs.posted 0x090 = some [(0x28, w)] → Gives (.postedWriteLand 0x090) s (fun m =>
    tfind m.regs.posted 0x090 = none ∧ m.fld A.MGT_ALERT_EN 3 0 = bitsOf w.toNat 3 0)) ∧
  (s.m.readOpen who A.PHS_NOW_LO → Gives (.multiwordLoRead who (BitVec.ofNat 24 A.PHS_NOW_LO)) s (fun m =>
    m.resp = [(0, s.m.phs.phase.setWidth 32)] ∧
    tget m.regs.latch (latchKey who 0x010 0x2C) 0 = BitVec.ofNat 32 (s.m.phase / 2 ^ 32))) ∧
  (s.m.readOpen who A.PHS_DISCARD → Gives (.rcRead who (BitVec.ofNat 24 A.PHS_DISCARD)) s (fun m =>
    m.resp = [(0, s.m.rd A.PHS_DISCARD)] ∧ m.rd A.PHS_DISCARD = 0)) ∧
  (s.m.awake → s.m.fld A.PWR_STS 1 0 = 0 → s.m.pageBusy 0x090 = false → s.m.bit 0x090004 1 = false →
    Gives (.i3cWriteTransfer (BitVec.ofNat 24 A.MGT_ALERT_EN) [v]) s (fun m =>
      m.resp = [] ∧ tfind m.regs.posted 0x090 = some [(0x28, v)])) ∧
  (s.m.awake → s.m.fld A.PWR_STS 1 0 = 0 → Gives (.i3cReadTransfer (BitVec.ofNat 24 A.MGT_ALERT_EN) 1) s (fun m =>
      m.resp = [(0, s.m.rd A.MGT_ALERT_EN &&& 0xF)])) ∧
  (s.m.awake → s.m.fld A.PWR_STS 1 0 = 0 → Gives (.hcpacc false (BitVec.ofNat 24 A.MGT_ALERT_EN) v) s (fun m =>
      m.resp = [(0, s.m.rd A.MGT_ALERT_EN &&& 0xF)] ∧ m.sys.ir = 0x10 ∧
      m.sys.hcp = hcpWord false 0 A.MGT_ALERT_EN (s.m.rd A.MGT_ALERT_EN &&& 0xF).toNat))

/-- R90: a refused access answers DENIED, a refused read returns 0, and nothing changes but the record and the count of the refusal.

R78: once LOCK is set, a write of a block register of the page, or of PAGE_CTL, from a partition answers LOCKED and has no effect
but the record and the count of the refusal; Kaolin's writes are not held. -/
def Obligations.RefusedAndLockedAccesses : Prop :=
  (∀ (s : State) (p : Fin 16) (off : BitVec 24) (v : Word), s.m.awake → off.toNat % 4 = 0 →
  let pg := resolvePage (off.toNat / 0x1000)
  let o := resolveOff pg (off.toNat % 0x1000)
  pg < 0xF00 →
  (s.m.allowed (.part p) pg o (dataMark pg o) true = false →
    Gives (.registerWrite (.part p) off v) s (fun m => m = { s.m.refuse (.part p) 0 off.toNat 1 with resp := [(1, 0)] } ∧
      m.rd (A.GLB_DENY_CNT p.val) = BitVec.ofNat 32 (min ((s.m.rd (A.GLB_DENY_CNT p.val)).toNat + 1) (2 ^ 32 - 1)) ∧
      ∀ a, a ≠ A.GLB_DENY_PAGE → a ≠ A.GLB_DENY_OFF → a ≠ A.GLB_DENY_CNT p.val → m.rd a = s.m.rd a)) ∧
  (s.m.allowed (.part p) pg o (dataMark pg o) false = false →
    s.m.readCmd (.part p) off.toNat = { s.m.refuse (.part p) 0 off.toNat 1 with resp := [(1, 0)] })) ∧
  (∀ (s : State) (p : Fin 16) (off : BitVec 24) (v : Word), s.m.awake → off.toNat % 4 = 0 →
  let pg := resolvePage (off.toNat / 0x1000)
  let o := resolveOff pg (off.toNat % 0x1000)
  pg < 0xF00 → s.m.reach 0 pg = 1 → s.m.allowed (.part p) pg o (dataMark pg o) true = true → s.m.bit (0x1000 * pg + 4) 1 = true →
  (o = 4 ∨ (0x20 ≤ o ∧ (rowIn (pageRows pg) o).isSome = true)) →
  Gives (.registerWrite (.part p) off v) s (fun m => m = { s.m.refuse (.part p) 0 off.toNat 2 with resp := [(2, 0)] }) ∧
  s.m.locked .kaolin pg = false)

/-! ### Ring and ingest ports -/

/-- Frames and link-control entries on the ring ports: a frame that may start leaves and uses its credits (R431 to R433), a whole good
frame for another node waits at its egress (R428, R439), a CTL fragment carries the counts that changed (R426), a CREDIT entry
replaces the count received (R433).

A RING_CTL for this node is acted on as its OP says (R440, R448, R449). -/
def Obligations.RingPacketsComplete : Prop :=
  (∀ (s : State) (n : Fin 8), s.m.ringUp n.val = true →
  (∀ (openVc : Option (Fin 4)) (room : Nat) (f : TxFrame), s.m.nextRingFrame n.val (openVc.map Fin.val) room = some f →
    Gives (.brlFrameStart n openVc room) s (fun m =>
      m.net.sent = s.m.net.sent ++ [f] ∧ m.net.txq = dropFirst s.m.net.txq f ∧
      tget m.net.crSent (crKey n.val f.vc f.pkt.part.val) 0 =
        (tget s.m.net.crSent (crKey n.val f.vc f.pkt.part.val) 0 + f.frags) % 2 ^ 32)) ∧
  (∀ (x : Frag) (room g : Nat) (opc : BitVec 8) (k : Pkt), x.typ = 1 → x.first = true → x.last = true → x.uncorrectable = false →
    x.crcOk = true → 2 ≤ x.vc → (tget s.m.net.asm (4 * n.val + x.vc) {}).isOpen = false →
    parsePkt (x.body.take x.nbytes) = (opc, k) → fragsOf k.plen.toNat k.enc = 1 → k.vc.toNat = x.vc → k.dst.toNat ≠ 0xFFFFF →
    s.m.route n.val k.dst.toNat = some g → g < 8 →
    (let f : TxFrame := { port := g, vc := x.vc, opc := opc, pkt := k, dest := none, transit := some n.val,
                          recovery := decide (opc = 0x71) && bitOf (fieldAt k.payload 1 1) 0 }
     s.m.hasCredit f = false → Gives (.brlTransit n [x] room) s (fun m => m.net.txq = s.m.net.txq ++ [f] ∧
      m.rd (A.BRL_RX_FRAMES n.val) = BitVec.ofNat 32 (min ((s.m.rd (A.BRL_RX_FRAMES n.val)).toNat + 1) (2 ^ 32 - 1))))) ∧
  Gives (.ctlSend n) s (fun m =>
    let mine := (s.m.net.crDirty.filter (fun k => k / 64 = n.val)).take 8
    m.net.ctlOut = s.m.net.ctlOut ++ (if mine.isEmpty then [{ port := n.val, typ := 0, b := leBytes 7 0 }]
      else mine.map (fun k => creditEntry n.val k (tget s.m.net.crFree k 0))) ∧
    m.net.crDirty = s.m.net.crDirty.filter (fun k => !mine.contains k)) ∧
  (∀ (vc : Fin 4) (part : Fin 16) (count : Word), Gives (.credit n vc part count) s (fun m =>
    tget m.net.crRecv (crKey n.val vc.val part.val) 0 = count.toNat ∧
    ∀ k, k ≠ crKey n.val vc.val part.val → tget m.net.crRecv k 0 = tget s.m.net.crRecv k 0))) ∧
  (∀ (s : State) (n : Fin 8) (k : Pkt), s.m.ringUp n.val = true → k.dst.toNat = s.m.node →
  k.dst.toNat ≠ 0xFFFFF →
  (ringCtlOk k 1 = true → Gives (.ringCtlReset n k) s (fun m => m.ringReq = true)) ∧
  (ringCtlOk k 2 = true → Gives (.linkDown n k) s (fun m => m = s.m.peerLink k false)) ∧
  (ringCtlOk k 3 = true → Gives (.linkUp n k) s (fun m => m = s.m.peerLink k true)) ∧
  (ringCtlOk k 4 = true → Gives (.echo n k) s (fun m =>
    m = s.m.sendRing 0x71 (s.m.ringCtl 5 0 0 (fieldAt k.payload 4 4) s.m.phase k.src.toNat) false)) ∧
  (ringCtlOk k 5 = true → Gives (.echoRsp n k) s (fun m =>
    m.net.echoRsp = s.m.net.echoRsp ++ [(k.src.toNat, fieldAt k.payload 4 4, BitVec.ofNat 64 (fieldAt k.payload 8 8))])) ∧
  (ringCtlOk k 6 = true → Gives (.ringFault n k) s (fun m =>
    m.raised = s.m.raised ++ [(0x98, 0x14F, k.src.toNat + 2 ^ 24 * (fieldAt k.payload 4 1 % 8))])))

/-- The states of a ring port (R443 to R446): every cause takes it DOWN with its event bit and a fault; lasers and lanes; training. -/
def Obligations.RingLinkStates : Prop := ∀ (s : State) (n : Fin 8),
  (s.m.ringLive n.val = true → Gives (.down n) s (fun m =>
    m.fld (A.BRL_PORT_STS n.val) 2 0 = 0 ∧ m.bit (A.BRL_PORT_EVT n.val) 2 = true ∧ ∃ d, (0x62, 0xC0 + n.val, d) ∈ m.raised)) ∧
  (∀ noCtl, s.m.ringUp n.val = true → (noCtl = true ∨ s.m.fld (A.BRL_PORT_STS n.val) 20 16 < 8) → Gives (.brlLos n noCtl) s (fun m =>
    m.fld (A.BRL_PORT_STS n.val) 2 0 = 0 ∧ m.bit (A.BRL_PORT_EVT n.val) 0 = true ∧ ∃ d, (0x62, 0xC0 + n.val, d) ∈ m.raised)) ∧
  (∀ count, s.m.ringUp n.val = true → s.m.fld (A.BRL_PORT_CFG n.val) 31 16 < count → Gives (.brlUncLimit n count) s (fun m =>
    m.fld (A.BRL_PORT_STS n.val) 2 0 = 0 ∧ m.bit (A.BRL_PORT_EVT n.val) 1 = true ∧ ∃ d, (0x62, 0xC0 + n.val, d) ∈ m.raised)) ∧
  (∀ lane : Fin 16, Gives (.brlLaserFail n lane) s (fun m =>
    m.bit (A.BRL_OPT_FAIL n.val) lane.val = true ∧ (m.lanes n.val).testBit lane.val = false ∧
    m.bit (A.BRL_OPT_SPARE n.val) 31 = true ∧
    (s.m.bit (A.BRL_OPT_SPARE n.val) 31 = true → m.raised = s.m.raised ++ [(0x61, 0xC0 + n.val, lane.val)]) ∧
    (s.m.bit (A.BRL_OPT_SPARE n.val) 31 = false → m.fld (A.BRL_OPT_SPARE n.val) 3 0 = lane.val ∧
      m.bit (A.BRL_PORT_EVT n.val) 3 = true ∧ m.raised = s.m.raised ++ [(0x60, 0xC0 + n.val, lane.val)]))) ∧
  (∀ (period : Word) (lane : Nat), tfind s.m.net.retrain n.val = some lane → s.m.ringUp n.val = true → Gives (.brlLaneRetrainDone n period) s (fun m =>
    m.lanes n.val = withBits (s.m.lanes n.val) lane lane 1 ∧
    m.net.ctlOut = s.m.net.ctlOut ++ [CtlEntry.mk n.val 5 (leBytes 1 0 ++ leBytes 2 (m.lanes n.val) ++ leBytes 4 period.toNat)])) ∧
  (∀ map : BitVec 16, s.m.ringUp n.val = true → Gives (.lanes n map) s (fun m =>
    m.lanes n.val = map.toNat ∧ m.fld (A.BRL_PORT_STS n.val) 20 16 = lanesOf map.toNat)) ∧
  (s.m.mayTrain n.val = true → s.m.bit (A.BRL_PORT_CFG n.val) 0 = true → Gives (.brlLight n) s (fun m =>
    m.fld (A.BRL_PORT_STS n.val) 2 0 = 1 ∧ m.bit (A.BRL_PORT_CTL n.val) 0 = true)) ∧
  (∀ (node : BitVec 20) (port : Fin 8) (tick : BitVec 2) (map : BitVec 16) (sizes : List Nat), s.m.fld (A.BRL_PORT_STS n.val) 2 0 = 1 →
    Gives (.train n node port tick map sizes) s (fun m =>
      m.fld (A.BRL_PEER n.val) 19 0 = node.toNat ∧ m.fld (A.BRL_PEER n.val) 26 24 = port.val ∧
      (node.toNat = s.m.node → m.fld (A.BRL_PORT_STS n.val) 2 0 = 3 ∧ m.bit (A.BRL_PORT_EVT n.val) 4 = true ∧
        m.raised = s.m.raised ++ [(0x63, 0xC0 + n.val, node.toNat)]) ∧
      (node.toNat ≠ s.m.node → tick.toNat ≠ s.m.fld A.PHS_CFG 1 0 → m.fld (A.BRL_PORT_STS n.val) 2 0 = 3) ∧
      (m.fld (A.BRL_PORT_STS n.val) 2 0 = 1 → tget m.net.peerLanes n.val 0 = map.toNat))) ∧
  (∀ echo, s.m.fld (A.BRL_PORT_STS n.val) 2 0 = 1 → Gives (.brlTrainDone n echo) s (fun m =>
    m.ringUp n.val = true ∧ m.bit (A.BRL_PORT_CTL n.val) 0 = false ∧ m.rd (A.PHS_LINKDLY n.val) = BitVec.ofNat 32 (linkDelay echo))) ∧
  (s.m.fld (A.BRL_PORT_STS n.val) 2 0 = 1 → Gives (.brlTrainOverrun n) s (fun m =>
    m.fld (A.BRL_PORT_STS n.val) 2 0 = 0 ∧ n.val ∈ m.net.overrun)) ∧
  (n.val ∈ s.m.net.overrun → s.m.mayTrain n.val = true → Gives (.brlTrainRetry n) s (fun m =>
    m.fld (A.BRL_PORT_STS n.val) 2 0 = 1 ∧ n.val ∉ m.net.overrun))

/-- The ingest ports (R461, R462, R464, R467): frames that are no accepted command datagram are counted by cause, ports go down and come
back, a laser fails, and the next frame leaves. -/
def Obligations.IngestPortsComplete : Prop := ∀ (s : State) (n : Fin 16),
  (∀ f : EthFrame, Gives (.ethFrameDrop n f) s (fun m =>
    (s.m.ethVerdict n.val f = .badFcs → m = s.m.bump (A.ETH_RX_FCS n.val)) ∧ (s.m.ethVerdict n.val f = .drop → m = s.m.bump (A.ETH_RX_DROP n.val)) ∧
    (s.m.ethVerdict n.val f = .ip → m = s.m.bump (A.ETH_RX_IP n.val)))) ∧
  (∀ ber, s.m.ethUp n.val = true → Gives (.ethPortDown n ber) s (fun m =>
    m.ethState n.val = 0 ∧ m.bit (A.ETH_EVT n.val) (if ber then 1 else 0) = true ∧ ∃ d, m.raised = s.m.raised ++ [(0x69, 0xD0 + n.val, d)])) ∧
  (∀ lane : Fin 4, Gives (.ethLaserFail n lane) s (fun m => m.bit (A.ETH_OPT_FAIL n.val) lane.val = true ∧
    (s.m.bit (A.ETH_OPT_SPARE n.val) 31 = true → m.ethState n.val = 0 ∧ ∃ d, m.raised = s.m.raised ++ [(0x69, 0xD0 + n.val, d)]) ∧
    (s.m.bit (A.ETH_OPT_SPARE n.val) 31 = false → (s.m.ethState n.val ≠ 0 → m.ethState n.val = 1) ∧ m.fld (A.ETH_OPT_SPARE n.val) 1 0 = lane.val ∧
      m.raised = s.m.raised ++ [(0x68, 0xD0 + n.val, lane.val)]))) ∧
  (s.m.ethState n.val = 0 → s.m.bit (A.ETH_CFG n.val) 2 = true → s.m.bit (A.ETH_CFG n.val) 0 = false → s.m.ethLanesLost n.val = 0 →
    s.m.fld (A.FLT_USTS (0xD0 + n.val)) 31 29 < 3 → s.m.opticsOn = true → Gives (.ethLight n) s (fun m => m.ethState n.val = 1)) ∧
  (s.m.ethState n.val = 1 → Gives (.ethTrainDone n) s (fun m => m.ethUp n.val = true ∧ m.bit (A.ETH_STS n.val) 4 = false)) ∧
  (∀ (room : Nat) (f : TxFrame), s.m.ethUp n.val = true → s.m.nextEthFrame (8 + n.val) room = some f → Gives (.ethTxStart n room) s (fun m =>
    m.net.sent = s.m.net.sent ++ [f] ∧ m.net.txq = dropFirst s.m.net.txq f ∧
    m.rd (A.ETH_TX_FRAMES n.val) = BitVec.ofNat 32 (min ((s.m.rd (A.ETH_TX_FRAMES n.val)).toNat + 1) (2 ^ 32 - 1))))

/-- Writes of the ring ports' and of HRMP's registers (R411, R416, R434, R442, R443, R447, R463, R471, R474, R481, R482). -/
def Obligations.PortWritesComplete : Prop := ∀ (s : State) (who : Ident) (v : Word),
  (∀ n : Fin 8, s.m.writeOpen who (A.BRL_PORT_CTL n.val) → bitOf v.toNat 0 = true → bitOf v.toNat 1 = false → bitOf v.toNat 2 = false →
    (s.m.putBit (A.BRL_PORT_CTL n.val) 1 false).mayTrain n.val = true → Gives (.brlPortCtlTrain who n v) s (fun m =>
      m.resp = [(0, 0)] ∧ m.fld (A.BRL_PORT_STS n.val) 2 0 = 1 ∧ m.bit (A.BRL_PORT_CTL n.val) 0 = true)) ∧
  (∀ n : Fin 8, s.m.writeOpen who (A.BRL_PORT_CTL n.val) → bitOf v.toNat 0 = false → bitOf v.toNat 1 = true → bitOf v.toNat 2 = false →
    s.m.bit (A.BRL_PORT_CTL n.val) 1 = false → s.m.fld (A.BRL_PORT_STS n.val) 2 0 ≠ 0 → Gives (.forceDown who n v) s (fun m =>
      m.resp = [(0, 0)] ∧ m.fld (A.BRL_PORT_STS n.val) 2 0 = 0 ∧ m.bit (A.BRL_PORT_CTL n.val) 1 = true)) ∧
  (∀ n : Fin 8, s.m.writeOpen who (A.BRL_PORT_CTL n.val) → bitOf v.toNat 0 = false → bitOf v.toNat 1 = false → bitOf v.toNat 2 = true →
    s.m.ringUp n.val = true → Gives (.revert who n v) s (fun m => m.resp = [(0, 0)] ∧ m.bit (A.BRL_PORT_STS n.val) 7 = false ∧
      ∀ x ∈ m.net.folded, x ∉ s.m.entriesOf n.val)) ∧
  (s.m.writeOpen who A.BRL_NODE → (∀ n < 8, s.m.fld (A.BRL_PORT_STS n) 2 0 = 0) → Gives (.brlNodeWrite who v) s (fun m =>
    m.resp = [(0, 0)] ∧ m.node = bitsOf v.toNat 19 0)) ∧
  (∀ (n : Fin 8) (vc : Fin 2) (p : Fin 16), s.m.writeOpen who (shareAddr n.val vc.val p.val) → s.m.fld (A.BRL_PORT_STS n.val) 2 0 = 0 →
    (bitsOf v.toNat 15 0 = 0 ∨ 2050 ≤ bitsOf v.toNat 15 0) →
    ((List.range 16).foldl (fun t q => t + if q = p.val then bitsOf v.toNat 15 0 else s.m.fld (shareAddr n.val vc.val q) 15 0) 0 ≤ 16384) →
    Gives (.brlShareWrite who n vc p v) s (fun m => m.resp = [(0, 0)] ∧ m.fld (shareAddr n.val vc.val p.val) 15 0 = bitsOf v.toNat 15 0)) ∧
  (∀ p : Fin 16, s.m.writeOpen who (A.HRMP_LKEY_CTL p.val) → bitOf v.toNat 0 = true → s.m.bit (A.HRMP_LKEY_ALT p.val) 31 = true →
    s.m.bit (A.HRMP_LKEY_ALT p.val) 30 = false → Gives (.swap who p v) s (fun m => m.resp = [(0, 0)] ∧
      m.bit (A.HRMP_LKEY_CUR p.val) 31 = true ∧ m.fld (A.HRMP_LKEY_CUR p.val) 8 0 = s.m.fld (A.HRMP_LKEY_ALT p.val) 8 0 ∧
      (s.m.bit (A.HRMP_LKEY_CUR p.val) 31 = true → m.bit (A.HRMP_LKEY_ALT p.val) 30 = true ∧
        m.fld (A.HRMP_LKEY_ALT p.val) 8 0 = s.m.fld (A.HRMP_LKEY_CUR p.val) 8 0))) ∧
  (∀ (p : Fin 16) (t : Nat), tfind s.m.net.grace p.val = some t → s.m.phs.slotEdge = true → t ≤ s.m.phase → Gives (.lkeyGraceEnd p) s (fun m =>
    m.bit (A.HRMP_LKEY_ALT p.val) 31 = false)) ∧
  (∀ p : Fin 16, s.m.writeOpen who (A.HRMP_RXWAY p.val) → bitOf v.toNat 7 = true → s.m.wayOwner (v.toNat % 16) = some p.val →
    s.m.fld (A.FLT_USTS (0x110 + v.toNat % 16)) 31 29 < 3 → s.m.wayIsRec p.val (v.toNat % 16) = false → Gives (.hrmpRxwayWrite who p v) s (fun m =>
      m.resp = [(0, 0)] ∧ m.fld (A.HRMP_RXWAY p.val) 3 0 = v.toNat % 16 ∧ m.bit (A.HRMP_RXWAY p.val) 7 = true)) ∧
  (∀ n : Fin 64, s.m.writeOpen who (A.HRMP_QOWN n.val) → (∀ e ∈ s.m.net.wins, e.held = []) → Gives (.hrmpQownWrite who n v) s (fun m =>
    m.resp = [(0, 0)] ∧ m.rd (A.HRMP_QOWN n.val) = v &&& 0x8F8F8F8F)) ∧
  (∀ n : Fin 64, s.m.writeOpen who (A.HRMP_CBANK n.val) → (∀ e ∈ s.m.net.wins, e.pinned = false) → Gives (.hrmpCbankWrite who n v) s (fun m =>
    m.resp = [(0, 0)] ∧ m.rd (A.HRMP_CBANK n.val) = v &&& 0x8F8F8F8F)) ∧
  (s.m.writeOpen who A.HRMP_CFG → 1280 ≤ bitsOf v.toNat 13 0 → bitsOf v.toNat 13 0 ≤ 9194 → Gives (.hrmpCfgWrite who v) s (fun m =>
    m.resp = [(0, 0)] ∧ m.fld A.HRMP_CFG 13 0 = bitsOf v.toNat 13 0 ∧ m.fld A.HRMP_CFG 31 16 = bitsOf v.toNat 31 16)) ∧
  (s.m.writeOpen who 0x022020 → bitOf v.toNat 31 = true → Gives (.flush who 0x022020 v) s (fun m =>
    m.resp = [(0, 0)] ∧ m.qOcc fltLog = 0 ∧ fltLog ∈ m.net.flushing ∧ tfind m.net.gaps fltLog = none)) ∧
  (∀ (off : BitVec 24) (sel : Nat), Gives (.flushDone off sel) s (fun m => off.toNat + 2 ^ 24 * sel ∉ m.net.flushing)) ∧
  (s.m.writeOpen who 0x02202C → v.toNat % 65536 < 1024 →
    (v.toNat % 65536 + 1024 - s.m.fld (A.Q_PTR fltLog) 15 0 % 1024) % 1024 ≤ s.m.qOcc fltLog → Gives (.qPtrRdWrite who 0x02202C v) s (fun m =>
      m.resp = [(0, 0)] ∧ m.fld (A.Q_PTR fltLog) 15 0 = v.toNat % 65536)) ∧
  (∀ (gap : Nat) (ph : DWord), tfind s.m.net.gaps fltLog = some (gap, ph) → gap ≠ 0 → s.m.qRoom fltLog = true →
    Gives (.lossyMarker (BitVec.ofNat 24 fltLog)) s (fun m => tfind m.net.gaps fltLog = none ∧
      tget m.qitems (2 ^ 16 * fltLog + s.m.qSlot fltLog) [] = markerItem 32 gap ph))

/-! ### Tiles -/

/-- R223, R224: the scalar operations on 64-bit values, their results, and the sticky flags. -/
def Obligations.ScalarArithmetic : Prop :=
  let no : BitVec 64 → BitVec 64 → Bool := fun _ _ => false
  let q : Nat := 2 ^ 64 - 2 ^ 32 + 1
  ScalarOp .add 0x00 (fun a b => a + b) no no ∧
  ScalarOp .sub 0x01 (fun a b => a - b) no no ∧
  ScalarOp .mul 0x02 (fun a b => a * b) no no ∧
  ScalarOp .mulhu 0x03 (fun a b => ((a.setWidth 128 * b.setWidth 128) >>> 64).setWidth 64) no no ∧
  ScalarOp .mulhs 0x04 (fun a b => ((a.signExtend 128 * b.signExtend 128) >>> 64).setWidth 64) no no ∧
  ScalarOp .divu 0x05 (fun a b => if b = 0 then BitVec.allOnes 64 else a.udiv b) (fun _ b => b = 0) no ∧
  ScalarOp .divs 0x06 (fun a b => if b = 0 then BitVec.allOnes 64 else a.sdiv b) (fun _ b => b = 0)
    (fun a b => a = BitVec.intMin 64 && b = BitVec.allOnes 64) ∧
  ScalarOp .remu 0x07 (fun a b => a.umod b) (fun _ b => b = 0) no ∧
  ScalarOp .rems 0x08 (fun a b => a.srem b) (fun _ b => b = 0) no ∧
  ScalarOp .tileAnd 0x09 (fun a b => a &&& b) no no ∧
  ScalarOp .tileOr 0x0A (fun a b => a ||| b) no no ∧
  ScalarOp .tileXor 0x0B (fun a b => a ^^^ b) no no ∧
  ScalarOp .shl 0x0C (fun a b => a <<< (b.toNat % 256)) no (fun a b => 64 ≤ b.toNat % 256 && a ≠ 0) ∧
  ScalarOp .shr 0x0D (fun a b => a >>> (b.toNat % 256)) no no ∧
  ScalarOp .sar 0x0E (fun a b => a.sshiftRight (b.toNat % 256)) no no ∧
  ScalarOp .neg 0x0F (fun a _ => -a) no (fun a _ => a = BitVec.intMin 64) ∧
  ScalarOp .min 0x10 (fun a b => if a.sle b then a else b) no no ∧
  ScalarOp .max 0x11 (fun a b => if a.sle b then b else a) no no ∧
  ScalarOp .minu 0x12 (fun a b => if a.ule b then a else b) no no ∧
  ScalarOp .maxu 0x13 (fun a b => if a.ule b then b else a) no no ∧
  ScalarOp .slt 0x14 (fun a b => (BitVec.ofBool (a.slt b)).setWidth 64) no no ∧
  ScalarOp .sltu 0x15 (fun a b => (BitVec.ofBool (a.ult b)).setWidth 64) no no ∧
  ScalarOp .seq 0x16 (fun a b => (BitVec.ofBool (a == b)).setWidth 64) no no ∧
  ScalarOp .popc 0x17 (fun a _ => BitVec.ofNat 64 ((List.range 64).countP a.getLsbD)) no no ∧
  ScalarOp .clz 0x18 (fun a _ => BitVec.ofNat 64 (((List.range 64).reverse.takeWhile (fun k => !a.getLsbD k)).length)) no no ∧
  ScalarOp .addq 0x1A (fun a b => BitVec.ofNat 64 ((a.toNat + b.toNat) % q)) no no ∧
  ScalarOp .mulq 0x1B (fun a b => BitVec.ofNat 64 (a.toNat * b.toNat % q)) no no ∧
  ∀ (s : State) (t : Fin 80),
    let x := s.m.tile t
    let i := s.m.fetch t
    let b := if i.cls = 1 then i.sext else x.sreg i.b
    (s.m.issues t (64 + 0x19) → Gives (.movhi t) s (s.m.stepsTo t (x.setS i.d (x.sreg i.a % 2 ^ 32 + 2 ^ 32 * i.imm)) false false)) ∧
    ((s.m.issues t 0x1C ∨ s.m.issues t (64 + 0x1C)) → Gives (.rdflag t) s
      (s.m.stepsTo t (x.setS i.d (s.m.fld (A.TILE_SFLAGS t) 1 0)) false false)) ∧
    ((s.m.issues t 0x1D ∨ s.m.issues t (64 + 0x1D)) → Gives (.clrflag t) s (fun m =>
      (∀ k < 2, m.bit (A.TILE_SFLAGS t) k = (s.m.bit (A.TILE_SFLAGS t) k && !b.testBit k)) ∧
      m.tilePc t = (loopNext (s.m.tilePc t) x.loops).1 % 2 ^ 24 ∧ (m.tile t).s = x.s)) ∧
    ((s.m.issues t 0x1E ∨ s.m.issues t (64 + 0x1E)) → Gives (.rand t) s
      (s.m.draw.2.stepsTo t (x.setS i.d s.m.draw.1.toNat) false false)) ∧
    ((s.m.issues t 0x1F ∨ s.m.issues t (64 + 0x1F)) → Gives (.rdph t) s (s.m.stepsTo t (x.setS i.d s.m.phase) false false))

/-- R225: loads, stores and the moves of vector registers, with their faults. -/
def Obligations.LoadsAndStores : Prop :=
  LoadOp .ld8 0x00 1 false ∧ LoadOp .ld16 0x01 2 false ∧ LoadOp .ld32 0x02 4 false ∧ LoadOp .ld64 0x03 8 false ∧
  LoadOp .lds8 0x04 1 true ∧ LoadOp .lds16 0x05 2 true ∧ LoadOp .lds32 0x06 4 true ∧
  StoreOp .st8 0x08 1 ∧ StoreOp .st16 0x09 2 ∧ StoreOp .st32 0x0A 4 ∧ StoreOp .st64 0x0B 8 ∧
  ∀ (s : State) (t : Fin 80),
    let x := s.m.tile t
    let i := s.m.fetch t
    let a := (x.sreg i.a + i.sext) % 2 ^ 64
    (s.m.issues t (128 + 0x10) → a % 16 = 0 → a < 0x840000 → x.poisonIn a 16 = none → x.barred 9 [(a, a + 16)] [] = false →
      Gives (.vld t) s (s.m.stepsTo t (x.setV i.d (leNat (memRead x.mem a 16))) false false)) ∧
    (s.m.issues t (128 + 0x11) → a % 16 = 0 → a < 0x800000 → x.barred 9 [] [(a, a + 16)] = false →
      Gives (.vst t) s (s.m.stepsTo t (x.store a (leBytes 16 (x.vreg i.b))) false false)) ∧
    (s.m.issues t (128 + 0x10) → a % 16 ≠ 0 → Gives (.vld t) s (s.m.faultsWith t 4 a)) ∧
    (s.m.issues t (128 + 0x11) → a % 16 ≠ 0 → Gives (.vst t) s (s.m.faultsWith t 4 a)) ∧
    (s.m.issues t (128 + 0x12) → Gives (.vmov t) s (s.m.stepsTo t (x.setV i.d (x.vreg i.a)) false false)) ∧
    (∀ hi lo, s.m.issues t (128 + 0x13) → descField i.x = some (hi, lo) →
      Gives (.vset t) s (s.m.stepsTo t (x.setV i.d (withBits (x.vreg i.d) hi lo a)) false false)) ∧
    (∀ hi lo, s.m.issues t (128 + 0x14) → descField i.x = some (hi, lo) →
      Gives (.vget t) s (s.m.stepsTo t (x.setS i.d (bitsOf (x.vreg i.a) hi lo)) false false)) ∧
    (s.m.issues t (128 + 0x13) → descField i.x = none → Gives (.vset t) s (s.m.faultsWith t 1 i.w)) ∧
    (s.m.issues t (128 + 0x14) → descField i.x = none → Gives (.vget t) s (s.m.faultsWith t 1 i.w))

/-- R225: a store changes the bytes at its address and no other byte of local memory, and the memory keeps its canonical form. -/
def Obligations.StoreFrame : Prop := ∀ (x : Tile) (a n v : Nat), memWf x.mem = true →
  let y := x.store a (leBytes n v)
  memWf y.mem = true ∧
  (∀ k < n, memGet y.mem (a + k) = BitVec.ofNat 8 (v / 256 ^ k)) ∧
  (∀ j, (j < a ∨ a + n ≤ j) → memGet y.mem j = memGet x.mem j) ∧
  leNat (memRead y.mem a n) = v % 256 ^ n

/-- R228, R220: branches, calls, loops, TRAP and END. -/
def Obligations.ControlTransfers : Prop :=
  BranchOp .br 0 (fun _ _ => true) ∧ BranchOp .beq 1 (fun a b => a == b) ∧ BranchOp .bne 2 (fun a b => a != b) ∧
  BranchOp .blt 3 (fun a b => a.slt b) ∧ BranchOp .bge 4 (fun a b => b.sle a) ∧ BranchOp .bltu 5 (fun a b => a.ult b) ∧
  BranchOp .bgeu 6 (fun a b => b.ule a) ∧
  ∀ (s : State) (t : Fin 80),
    let x := s.m.tile t
    let i := s.m.fetch t
    let dest := (s.m.tilePc t + i.sext) % 2 ^ 64
    let depths := x.link.length + 256 * x.loops.length
    (s.m.issues t (192 + 0x08) → x.link.length < 16 → x.pcOk dest = true →
      Gives (.call t) s (s.m.jumpsTo t { x with link := (s.m.tilePc t + 8) :: x.link } dest)) ∧
    (s.m.issues t (192 + 0x08) → 16 ≤ x.link.length → Gives (.call t) s (s.m.faultsWith t 6 depths)) ∧
    (∀ a r, s.m.issues t (192 + 0x09) → x.link = a :: r → x.pcOk a = true → Gives (.ret t) s (s.m.jumpsTo t { x with link := r } a)) ∧
    (s.m.issues t (192 + 0x09) → x.link = [] → Gives (.ret t) s (s.m.faultsWith t 6 depths)) ∧
    (∀ a r, s.m.issues t (192 + 0x09) → x.link = a :: r → a < 2 ^ 64 → x.pcOk a = false → Gives (.ret t) s (s.m.faultsWith t 5 a)) ∧
    (s.m.issues t (192 + 0x0A) → x.pcOk (x.sreg i.a) = false → Gives (.jr t) s (s.m.faultsWith t 5 (x.sreg i.a))) ∧
    (s.m.issues t (192 + 0x0A) → x.pcOk (x.sreg i.a) = true → Gives (.jr t) s (s.m.jumpsTo t x (x.sreg i.a))) ∧
    (s.m.issues t (192 + 0x0B) → x.pcOk dest = true → x.pcOk (s.m.tilePc t + 8) = true → x.loops.length < 4 → 0 < x.sreg i.a →
      Gives (.loop t) s (s.m.jumpsTo t { x with loops := (s.m.tilePc t + 8, dest, x.sreg i.a) :: x.loops } (s.m.tilePc t + 8))) ∧
    (s.m.issues t (192 + 0x0B) → x.pcOk dest = true → x.pcOk (loopNext dest x.loops).1 = true → x.loops.length < 4 → x.sreg i.a = 0 →
      Gives (.loop t) s (s.m.jumpsTo t { x with loops := (loopNext dest x.loops).2 } (loopNext dest x.loops).1)) ∧
    (s.m.issues t (192 + 0x0B) → x.pcOk dest = true → 4 ≤ x.loops.length → Gives (.loop t) s (s.m.faultsWith t 6 depths)) ∧
    (s.m.issues t (192 + 0x0E) → Gives (.trap t) s (s.m.faultsWith t 0x0D i.imm)) ∧
    (s.m.issues t (192 + 0x0F) → Gives (.endKernel t) s (fun m => (m.tile t).ended = true ∧ m.tileState t = 3 ∧
      (m.tile t).mem = x.mem ∧ m.rd64 (A.CNT_INSTR_LO t) = min (s.m.rd64 (A.CNT_INSTR_LO t) + 1) (2 ^ 64 - 1)))

/-- R231, R232, R242: waits end when their engines have drained, a wait meets the failure of a transfer, and signals, barriers and
counter waits act on the partition's counters. -/
def Obligations.Synchronisation : Prop := ∀ (s : State) (t : Fin 80),
  let x := s.m.tile t
  let i := s.m.fetch t
  let onwards := s.m.stepsTo t x false false
  (s.m.issues t 448 → (∀ o ∈ x.dma, i.imm.testBit (o.x % 16) = false) → (∀ e ∈ x.dmaFail, (i.imm % 2 ^ 16).testBit e.1 = false) →
    Gives (.waitdma t) s onwards) ∧
  (s.m.issues t 448 → (∃ o ∈ x.dma, i.imm.testBit (o.x % 16) = true) → Unmoved (.waitdma t) s) ∧
  (∀ tag d r, s.m.issues t 448 → x.dma = [] → x.dmaFail = (tag, d) :: r → (i.imm % 2 ^ 16).testBit tag = true →
    Gives (.waitdma t) s (s.m.faultsWith t 9 d)) ∧
  (s.m.issues t 449 → x.arr = [] → Gives (.waitarr t) s onwards) ∧
  (s.m.issues t 450 → x.brz = [] → x.gen = [] → x.noise = [] → Gives (.waitbr t) s onwards) ∧
  (s.m.issues t 451 → x.drained = true → x.dmaFail = [] → Gives (.waitall t) s onwards) ∧
  (s.m.issues t 451 → x.drained = false → Unmoved (.waitall t) s) ∧
  (s.m.issues t 452 → x.fenced = true → Gives (.fence t) s onwards) ∧
  (s.m.issues t 453 → x.fenced = true → Gives (.signal t) s
    ((s.m.ctrAdd (s.m.tilePart t) (x.sreg i.a % 4096) (if i.imm % 4096 = 0 then 1 else i.imm % 4096)).stepsTo t x false false)) ∧
  (s.m.issues t 455 → x.tbarNow = false → (∀ u ∈ x.target, u = t.val) → Gives (.tbar t) s
    (s.m.stepsTo t { x with tbars := tset x.tbars (i.imm % 16) (x.bars' (i.imm % 16) + 1) } false false)) ∧
  (s.m.issues t 456 → x.sreg i.b ≤ s.m.ctr (s.m.tilePart t) (x.sreg i.a % 4096) → Gives (.waitctr t) s onwards) ∧
  (s.m.issues t 456 → s.m.ctr (s.m.tilePart t) (x.sreg i.a % 4096) < x.sreg i.b → Unmoved (.waitctr t) s) ∧
  (s.m.issues t 454 → 512 ≤ i.imm % 1024 → s.m.srcOwner (i.imm % 1024) = some (s.m.tilePart t) → Gives (.tileDoorbell t) s
    ((s.m.fire (i.imm % 1024)).stepsTo t x false false)) ∧
  (s.m.issues t 454 → (i.imm % 1024 < 512 ∨ s.m.srcOwner (i.imm % 1024) ≠ some (s.m.tilePart t)) → Gives (.tileDoorbell t) s
    (s.m.faultsWith t 15 (i.imm % 1024)))

/-- The array and DMA engines take their operations (R229, R230, R233, R239).

Bronze, the seed expander and the noise sampler take their operations (R229, R230, R236, R238, R240, R324, R325). -/
def Obligations.EngineIssue : Prop :=
  (EngineOp .mma 320 0 (fun _ _ x i => mmaChecks i.a i.b (x.vreg i.a) (x.vreg i.b) (i.x.testBit 4))
    (fun _ _ x i => engOp x i (foot (x.vreg i.a) ++ foot (x.vreg i.b) ++ [accRange (i.x % 8)]) [accRange (i.x % 8)]) ∧
  EngineOp .copy 256 1 (fun _ _ x i => copyChecks i (x.vreg i.a) (x.vreg i.b)) (fun _ _ x i => engOp x i (foot (x.vreg i.a)) (foot (x.vreg i.b))) ∧
  EngineOp .gather 257 1 (fun _ _ x i => rowChecks i (x.vreg i.a) (x.vreg i.b) (x.vreg i.d) true)
    (fun _ _ x i => engOp x i (foot (x.vreg i.d)) (foot (x.vreg i.b))) ∧
  EngineOp .scatter 258 1 (fun _ _ x i => rowChecks i (x.vreg i.a) (x.vreg i.b) (x.vreg i.d) false)
    (fun _ _ x i => engOp x i (foot (x.vreg i.d) ++ foot (x.vreg i.b)) []) ∧
  EngineOp .scatterAdd 259 1 (fun _ _ x i => rowChecks i (x.vreg i.a) (x.vreg i.b) (x.vreg i.d) false ++
      [if 1 < dFmt (x.vreg i.a) then some (8, dFmt (x.vreg i.a)) else none, if 1 < dFmt (x.vreg i.b) then some (8, dFmt (x.vreg i.b)) else none])
    (fun _ _ x i => engOp x i (foot (x.vreg i.d) ++ foot (x.vreg i.b)) []) ∧
  ∀ (s : State) (t : Fin 80),
    let x := s.m.tile t
    let i := s.m.fetch t
    let acc := accRange (i.x % 8)
    (s.m.issues t 322 → x.arr = [] → x.barred 0 [] [acc] = false → Gives (.accclr t) s (fun m =>
      m.rd (A.ACC_STS t (i.x % 8)) = 0 ∧ (∀ a, acc.1 ≤ a → a < acc.2 → memWf x.mem = true → memGet (m.tile t).mem a = 0) ∧
      (∀ a, (a < acc.1 ∨ acc.2 ≤ a) → memWf x.mem = true → memGet (m.tile t).mem a = memGet x.mem a) ∧
      m.tilePc t = (loopNext (s.m.tilePc t) x.loops).1 % 2 ^ 24)) ∧
    (s.m.issues t 323 → bars x.arr [acc] [] = false →
      Gives (.accstat t) s (s.m.stepsTo t (x.setS i.d (s.m.fld (A.ACC_STS t (i.x % 8)) 23 0)) false false)) ∧
    (s.m.issues t 325 → Gives (.setmode t) s (s.m.stepsTo t { x with ftz := i.imm.testBit 0, sr := i.imm.testBit 1 } false false)) ∧
    (∀ vd, s.m.issues t 324 → x.vreg i.d = vd → x.arr = [] → checkDesc i.d vd true = none → dSpace vd = 0 → dFmt vd = 0 → dSp vd = false →
      dBs vd = false → dRows vd = 1 → dCols vd = 1 → i.x.testBit 3 = true → x.barred 0 [acc] (foot vd) = false →
      x.poisonIn (accAddr (i.x % 8) 0 0) 8 = none → memWf x.mem = true → Gives (.accout t) s (fun m =>
        memRead (m.tile t).mem (dBase vd) 4 = memRead x.mem (accAddr (i.x % 8) 0 0) 4 ∧
        (∀ a, (a < dBase vd ∨ dBase vd + 4 ≤ a) → memGet (m.tile t).mem a = memGet x.mem a) ∧
        m.tilePc t = (loopNext (s.m.tilePc t) x.loops).1 % 2 ^ 24))) ∧
  (let chk (f : TIns → (va vb vd : Nat) → List (Option KF)) : Mach → Nat → Tile → TIns → List (Option KF) :=
    fun _ _ x i => f i (x.vreg i.a) (x.vreg i.b) (x.vreg i.d)
  EngineOp .bntt 384 2 (chk chkNtt) (bronzeOp false false) ∧
  EngineOp .bintt 385 2 (chk chkNtt) (bronzeOp false false) ∧
  EngineOp .bmul 386 2 (chk (chkElem true)) (bronzeOp true false) ∧
  EngineOp .bmac 387 2 (chk (chkElem false)) (bronzeOp true true) ∧
  EngineOp .badd 388 2 (chk (chkElem true)) (bronzeOp true false) ∧
  EngineOp .bsub 389 2 (chk (chkElem true)) (bronzeOp true false) ∧
  EngineOp .bdec 390 2 (chk chkDec) (bronzeOp false false) ∧
  EngineOp .brot 391 2 (chk chkRot) (bronzeOp false false) ∧
  EngineOp .bext 392 2 (chk chkExt) (bronzeOp false false) ∧
  EngineOp .bks 393 2 (chk chkKs) (bronzeOp true true) ∧
  EngineOp .bboot 394 2 (chk chkBoot) (bronzeOp true true) ∧
  EngineOp .bmodsw 395 2 (chk chkModsw) (bronzeOp false false) ∧
  EngineOp .sexp 400 3 (fun m t x i => [checkDesc i.d (x.vreg i.d) true, needLocal i.d (x.vreg i.d), noSp (x.vreg i.d),
      if i.x.testBit 0 then none else readCheck (x.sreg i.a) 32, readCheck (x.sreg i.b) 16,
      if i.x.testBit 0 && (m.slotKey (m.tilePart t) (i.imm % 512) 4).isNone then some (0x0A, i.imm % 512) else none])
    (fun m t x i => { engOp x i ((if i.x.testBit 0 then [] else [(x.sreg i.a, x.sreg i.a + 32)]) ++ [(x.sreg i.b, x.sreg i.b + 16)])
        (foot (x.vreg i.d)) with key := if i.x.testBit 0 then (m.slotKey (m.tilePart t) (i.imm % 512) 4).getD [] else [] }) ∧
  EngineOp .noise 401 4 (fun _ _ x i => [checkDesc i.d (x.vreg i.d) true, needLocal i.d (x.vreg i.d), noSp (x.vreg i.d),
      if (if i.x.testBit 0 then dFmt (x.vreg i.d) ≤ 1 else dFmt (x.vreg i.d) = 0xA) then none else some (8, dFmt (x.vreg i.d))])
    (fun _ _ x i => engOp x i [] (foot (x.vreg i.d))))

/-- Chain operations (R241, R300 to R303): a send leaves for the successor, a receive waits for its region and then stores or adds it. -/
def Obligations.ChainOperations : Prop := ∀ (s : State) (t : Fin 80),
  let x := s.m.tile t
  let i := s.m.fetch t
  let ch := i.x % 4
  let va := x.vreg i.a
  let vd := x.vreg i.d
  (∀ u : Fin 80, u ≠ t → s.m.issues t 512 → checkDesc i.a va false = none → dSpace va = 0 → dSp va = false → (x.ends ch).2 = .tile u.val → x.chain = [] →
    x.inFlight < 32 → x.barred 5 (foot va) [] = false → x.poisonDesc va = none → Gives (.chsend t) s (fun m =>
      (m.tile u.val).inbox = (s.m.tile u.val).inbox ++ [Region.mk ch (tget x.chSent ch 0) (rowBytes va)
        ((List.range (storedRows va)).map (fun r => memRead x.mem (dBase va + r * dStride va) (rowBytes va)))] ∧
      tget (m.tile t).chSent ch 0 = tget x.chSent ch 0 + 1 ∧ (m.tile t).chain = [] ∧
      m.tilePc t = (loopNext (s.m.tilePc t) x.loops).1 % 2 ^ 24)) ∧
  (s.m.issues t 513 → checkDesc i.d vd true = none → dSpace vd = 0 → dSp vd = false → (x.ends ch).1 ≠ .none → (i.x.testBit 2 = true ∨ (chainAdd (dFmt vd) 0 0).isSome = true) →
    x.chain = [] → x.inFlight < 32 → x.barred 5 (if i.x.testBit 2 then [] else foot vd) (foot vd) = false →
    Gives (.chrecv t) s (s.m.stepsTo t { x with chain := [engOp x i (if i.x.testBit 2 then [] else foot vd) (foot vd)] } false false)) ∧
  (s.m.issues t 514 → checkDesc i.a va false = none → dSpace va = 0 → dSp va = false → (x.ends ch).1 ≠ .none → (x.ends ch).2 ≠ .none →
    (chainAdd (dFmt va) 0 0).isSome = true → x.chain = [] → x.inFlight < 32 → x.barred 5 (foot va) [] = false →
    Gives (.chpass t) s (s.m.stepsTo t { x with chain := [engOp x i (foot va) []] } false false)) ∧
  (s.m.issues t 512 → checkDesc i.a va false = none → dSpace va = 0 → dSp va = false → (x.ends ch).2 = .none → Gives (.chsend t) s (s.m.faultsWith t 0x0C ch)) ∧
  (∀ (o : EngOp) (g : Region) (u link : Nat), x.chain = [o] → o.code = 513 → o.x.testBit 2 = true → (x.ends (o.x % 4)).1 = .tile u →
    x.inbox = [g] → g.ch = o.x % 4 → g.tag = tget x.chGot (o.x % 4) 0 → g.rowBytes = rowBytes o.vD → g.rows.length = storedRows o.vD →
    Gives (.chainRegionArrive t 0 link) s (fun m => m.tile t =
      Tile.fill ({ x with inbox := [], chain := [], chGot := tset x.chGot (o.x % 4) (g.tag + 1) } : Tile) o.vD g.rows.flatten ∧
      ∀ a, m.rd a = s.m.rd a)) ∧
  (∀ (o : EngOp) (g : Region) (u link : Nat), x.chain = [o] → (x.ends (o.x % 4)).1 = .tile u → x.inbox = [g] → g.ch = o.x % 4 →
    tget x.chGot (o.x % 4) 0 < g.tag → x.fault = none → Gives (.chainRegionArrive t 0 link) s (fun m =>
      (m.tile t).fault = some (0x0C, o.x % 4, o.pc) ∧ m.tileState t = 3 ∧ (m.tile t).chain = []))

/-- Engines complete their operations, a fault is recorded once the tile has drained, and a kernel that ended is reported
(R210, R213, R220, R234, R242, R327). -/
def Obligations.EngineCompletions : Prop := ∀ (s : State) (t : Fin 80),
  let x := s.m.tile t
  (∀ (o : EngOp), x.arr = [o] → o.code = 320 → x.poisonDesc o.vA = none → x.poisonDesc o.vB = none → o.x.testBit 3 = false →
    Gives (.mmaDone t) s (fun m => (m.tile t).arr = [] ∧ m.fld (A.ACC_STS t (o.x % 8)) 23 0 =
      (let k := dRows o.vB; min k (2 ^ 22) % 2 ^ 22 + 2 ^ 22 * b2n (2 ^ 22 < k) + 2 ^ 23 * (min k (2 ^ 22) / 2 ^ 22)) ∧
      (∀ j, j < 0x700000 → memWf x.mem = true → memGet (m.tile t).mem j = memGet x.mem j))) ∧
  (∀ (o : EngOp), x.arr = [o] → o.code = 320 → dFmt o.vA = 0 → dSp o.vB = false → dRows o.vA = 1 → dCols o.vA = 1 → dRows o.vB = 1 →
    dCols o.vB = 1 → dBs o.vA = false → dBs o.vB = false → dFmt o.vB = 0 → dBase o.vA < 0x700000 → dBase o.vB < 0x700000 →
    x.poisonDesc o.vA = none → x.poisonDesc o.vB = none → o.x.testBit 3 = false → memWf x.mem = true →
    Gives (.mmaDone t) s (fun m => leNat (memRead (m.tile t).mem (accAddr (o.x % 8) 0 0) 8) =
      leNat (memRead x.mem (dBase o.vA) 4) * leNat (memRead x.mem (dBase o.vB) 4) % 2 ^ 32)) ∧
  (∀ (o : EngOp) (r : List EngOp), x.dma = o :: r → o.code = 256 → dSpace o.vA = 0 → dSpace o.vB = 0 → storedRows o.vA = 1 →
    x.poisonIn (dBase o.vA) (rowBytes o.vA) = none → Gives (.dmaTransferDone t) s (fun m =>
      m.tile t = Tile.store { x with dma := r } (dBase o.vB) (memRead x.mem (dBase o.vA) (rowBytes o.vA)) ∧ ∀ a, m.rd a = s.m.rd a)) ∧
  (∀ (o : EngOp) (r : List EngOp), x.brz = o :: r → (∀ e ∈ o.rds, x.poisonIn e.1 (e.2 - e.1) = none) → o.code = 388 →
    Gives (.bronzeDone t 0) s (fun m => m.tile t = Tile.putRows { x with brz := r } o.vD ((List.range (dRows o.vA)).map (fun k =>
      addL (modOf o.vA) (x.words o.vA k) (x.words o.vB k))) ∧ ∀ a, m.rd a = s.m.rd a)) ∧
  (∀ f : Nat × Nat × Nat, s.m.tileState t = 3 → x.fault = some f → x.drained = true → s.m.bit (A.TILE_KFAULT t) 31 = false → f.1 < 2 ^ 31 →
    f.2.1 < 2 ^ 64 → f.2.2 < 2 ^ 24 → Gives (.kernelFaultRecord t) s (fun m => m.tileState t = 4 ∧ m.rd (A.TILE_KFAULT t) = BitVec.ofNat 32 (2 ^ 31 + f.1) ∧
      m.fld (A.TILE_KFAULT_PC t) 23 0 = f.2.2 ∧ m.rd64 (A.TILE_KFAULT_DET_LO t) = f.2.1 ∧ (m.tile t).report = some false)) ∧
  (s.m.tileState t = 3 → x.ended = true → x.drained = true → x.fault = none → x.dmaFail = [] → Gives (.kernelReport t) s (fun m =>
    m.tileState t = 0 ∧ (m.tile t).report = some true ∧ (m.tile t).ended = false))

/-! ### Packets -/

/-- Every request opcode completes (R108 to R118, R128, R129); the key messages by their operation (R554, R555). -/
def Obligations.PacketsComplete : Prop :=
  let all : Mach → Pkt → Bool := fun _ _ => true
  let op (n : Nat) : Mach → Pkt → Bool := fun m k => m.keyMsgOp k = some n
  let ans (f : Mach → Pkt → Mach × PRes) : Mach → Ingress → Pkt → Mach × Ans := fun m _ k => ((f m k).1, (f m k).2.ans)
  RequestRuns .regRd 0x01 all (fun m _ k => m.regRdRun k) ∧
  RequestRuns .regWr 0x02 all (fun m _ k => m.regWrRun k) ∧
  RequestRuns .memWr 0x10 all (fun m _ k => m.memWrRun k) ∧
  RequestRuns .memRd 0x11 all (fun m _ k => m.memRdRun k) ∧
  RequestRuns .vaddZ32 0x20 all (ans (Mach.vadd (z64 := false))) ∧
  RequestRuns .vaddZ64 0x21 all (ans (Mach.vadd (z64 := true))) ∧
  RequestRuns .aadd 0x22 all (fun m _ k => m.atomRun false k) ∧
  RequestRuns .cas 0x23 all (fun m _ k => m.atomRun true k) ∧
  RequestRuns .graphSubmit 0x30 all (fun m ing k => ((m.graphSubmit ing k).1, match (m.graphSubmit ing k).2 with | some r => r.ans | none => .later)) ∧
  RequestRuns .doorbell 0x31 all (fun m _ k => m.doorbellRun k) ∧
  RequestRuns .intMsg 0x32 all (fun m _ k => m.intMsgRun k) ∧
  RequestRuns .shareDeliver 0x40 all (ans Mach.shareDeliver) ∧
  RequestRuns .keyDeliver 0x50 all Mach.keyDeliver ∧
  RequestRuns .attestReq 0x51 all Mach.attestReq ∧
  RequestRuns .sessionInit 0x53 all Mach.sessionInit ∧
  RequestRuns .auth 0x50 (op 1) Mach.keyDeliver ∧
  RequestRuns .memKey 0x50 (op 2) Mach.keyDeliver ∧
  RequestRuns .linkKey 0x50 (op 3) Mach.keyDeliver ∧
  RequestRuns .debugKey 0x50 (op 4) Mach.keyDeliver ∧
  RequestRuns .modelKey 0x50 (op 5) Mach.keyDeliver ∧
  RequestRuns .tripleKey 0x50 (op 6) Mach.keyDeliver ∧
  RequestRuns .seedKey 0x50 (op 7) Mach.keyDeliver ∧
  RequestRuns .erase 0x50 (op 8) Mach.keyDeliver ∧
  RequestRuns .importKey 0x50 (op 9) Mach.keyDeliver ∧
  RequestRuns .close 0x50 (op 10) Mach.keyDeliver

/-- What the memory, atomic, doorbell and interrupt requests do at step 12 (R112, R113, R115, R117, R118, R478, R479). -/
def Obligations.RequestEffects : Prop := ∀ (m : Mach) (k : Pkt),
  let p := k.part.val
  let va := fieldAt k.payload 0 8 % 2 ^ 48
  let len := fieldAt k.payload 8 4
  (∀ m', m.vwrite 0 p va (slice k.payload 16 len) = (m', none) → m.memWrRun k = (m', .ack 0)) ∧
  (∀ m' b, m.vread 0 p va len = (m', .ok b) → m.memRdRun k = (m', .rsp 0x12 (slice k.payload 0 12 ++ leBytes 4 0 ++ b))) ∧
  (∀ (cas : Bool) (m1 m2 m3 m4 : Mach) (rec' old : List Byte), fieldAt k.payload 0 8 % 8 = 0 → m.atomVa k.queue.toNat ≠ 0 →
    (let recVa := (m.atomVa k.queue.toNat + 16 * (k.seq.toNat % 256)) % 2 ^ 48
     m.vread 0 p recVa 16 = (m1, .ok rec') → (fieldAt rec' 7 1).testBit 0 = false → m1.vread 0 p va 8 = (m2, .ok old) →
     (cas = true → leNat old = fieldAt k.payload 8 8) →
     m2.vwrite 0 p va (leBytes 8 (if cas then fieldAt k.payload 16 8 else (leNat old + fieldAt k.payload 8 8) % 2 ^ 64)) = (m3, none) →
     m3.vwrite 0 p recVa (leBytes 4 k.seq.toNat ++ leBytes 3 k.src.toNat ++ leBytes 1 1 ++ old) = (m4, none) →
     m.atomRun cas k = (m4, .rsp 0x24 (slice old 0 8 ++ leBytes 8 0)))) ∧
  (∀ (m1 m2 m3 : Mach) (rec' old : List Byte), fieldAt k.payload 0 8 % 8 = 0 → m.atomVa k.queue.toNat ≠ 0 →
    (let recVa := (m.atomVa k.queue.toNat + 16 * (k.seq.toNat % 256)) % 2 ^ 48
     m.vread 0 p recVa 16 = (m1, .ok rec') → (fieldAt rec' 7 1).testBit 0 = false → m1.vread 0 p va 8 = (m2, .ok old) →
     leNat old ≠ fieldAt k.payload 8 8 →
     m2.vwrite 0 p recVa (leBytes 4 k.seq.toNat ++ leBytes 3 k.src.toNat ++ leBytes 1 1 ++ old) = (m3, none) →
     m.atomRun true k = (m3, .rsp 0x24 (slice old 0 8 ++ leBytes 8 0)))) ∧
  (∀ (cas : Bool) (m1 : Mach) (rec' : List Byte), fieldAt k.payload 0 8 % 8 = 0 → m.atomVa k.queue.toNat ≠ 0 →
    (let recVa := (m.atomVa k.queue.toNat + 16 * (k.seq.toNat % 256)) % 2 ^ 48
     m.vread 0 p recVa 16 = (m1, .ok rec') → (fieldAt rec' 7 1).testBit 0 = true → fieldAt rec' 0 4 = k.seq.toNat →
     fieldAt rec' 4 3 % 2 ^ 20 = k.src.toNat → m.atomRun cas k = (m1, .rsp 0x24 (slice (rec'.drop 8) 0 8 ++ leBytes 8 0)))) ∧
  (fieldAt k.payload 0 8 % 8 ≠ 0 → ∀ cas, m.atomRun cas k = (m, .nak 8 (fieldAt k.payload 0 8))) ∧
  m.doorbellRun k = (m.doorbell p (k.operand.toNat % 4096) (k.operand.toNat / 2 ^ 16 % 4096) k.queue.toNat, .ack 0) ∧
  (k.part = 0 → m.intMsgRun k = (m.fire (k.operand.toNat % 1024), .ack 0)) ∧
  (k.part ≠ 0 → k.operand.toNat % 1024 < 512 → m.intMsgRun k = (m, .nak 0x0C 0))

/-- Sequence windows (R473, R475, R476): an in-order packet goes on, a later one of an ordered queue is held, a value below the window
is a duplicate and one beyond it draws RNR; completing the expected packet moves the window on. -/
def Obligations.SequenceWindows : Prop := ∀ (m : Mach) (k : Pkt) (e : WinEntry), m.banks k.part.val ≠ [] →
  m.winOf k.part.val k.src.toNat k.queue.toNat = some e → e.e < 2 ^ 32 →
  let d := (k.seq.toNat + 2 ^ 32 - e.e) % 2 ^ 32
  (d < 64 → k.seq.toNat ∈ e.done → (m.window k).2 = .dup) ∧
  (d < 64 → k.seq.toNat ∉ e.done → (∃ h, (k.seq.toNat, h) ∈ e.held) → (m.window k).2 = .heldDup) ∧
  (d = 0 → k.seq.toNat ∉ e.done → (∀ x ∈ e.held, x.1 ≠ k.seq.toNat) → ∃ cold, (m.window k).2 = .go cold) ∧
  (0 < d → d < 64 → k.cls = 0 → k.seq.toNat ∉ e.done → (∀ x ∈ e.held, x.1 ≠ k.seq.toNat) → (m.window k).2 = .hold) ∧
  (0 < d → d < 64 → k.cls = 1 → k.seq.toNat ∉ e.done → (∀ x ∈ e.held, x.1 ≠ k.seq.toNat) → ∃ cold, (m.window k).2 = .go cold) ∧
  (2 ^ 31 ≤ d → e.cold = none → (m.window k).2 = .dup) ∧
  (64 ≤ d → d < 2 ^ 31 → (m.window k).2 = .rnr) ∧
  (m.window k).1.mem = m.mem ∧
  (e.done = [] → e.cold = none → e.complete e.e = { e with e := (e.e + 1) % 2 ^ 32, done := [] })

/-- Responses and the timers of the H9's own requests (R107, R469), the waiting shares (R465), beacons and packets with no opcode of
a request (R42, R45, R108). -/
def Obligations.ResponsesComplete : Prop := ∀ (s : State),
  (∀ (ing : Ingress) (k0 k : Pkt) (r : Req), s.m.admits ing 0x60 k0 k → s.m.net.reqs.find? (fun r => r.is k.queue.toNat k.operand.toNat) = some r →
    r.node = none → ing.isRing = true → Gives (.ack ing k0) s (fun m =>
      m.net.reqs = s.m.net.reqs.filter (fun x => !x.is r.pkt.queue.toNat r.pkt.seq.toNat) ∧ m.net.dropped = s.m.net.dropped)) ∧
  (∀ (ing : Ingress) (k0 k : Pkt) (r : Req), s.m.admits ing 0x61 k0 k → s.m.net.reqs.find? (fun r => r.is k.queue.toNat k.operand.toNat) = some r →
    ing.isRing = true → fieldAt k.payload 0 1 = 7 → r.rnrs < s.m.fld A.HRMP_TMR 23 16 → Gives (.nak ing k0) s (fun m =>
      m.net.reqs = s.m.net.reqs.map (fun x => if x.is r.pkt.queue.toNat r.pkt.seq.toNat then { r with rnrs := r.rnrs + 1, backoff := true } else x))) ∧
  (∀ (ing : Ingress) (k0 k : Pkt), s.m.admits ing 0x60 k0 k → ing.isRing = true →
    s.m.net.reqs.find? (fun r => r.is k.queue.toNat k.operand.toNat) = none → Gives (.ack ing k0) s (fun m =>
      m = { s.m with net := { s.m.net with dropped := s.m.net.dropped + 1 } })) ∧
  (∀ (n : Fin 8) (opc : Byte) (k : Pkt), opc = 0x52 ∨ opc = 0x54 → s.m.asleep = false → s.m.ringUp n.val = true →
    k.dst.toNat = s.m.node → k.ver = 1 → k.whole = true → k.enc = false → s.m.queueOwner k.queue.toNat = some k.part.val →
    hdrCheck opc.toNat k = none → k.vc = 1 → k.plen.toNat ≤ 4096 → Gives (.unmatchedResponse (.ring n) opc k) s (fun m =>
      m = { s.m with net := { s.m.net with dropped := s.m.net.dropped + 1 } })) ∧
  (∀ (n : Fin 8) (opc : Byte) (k : Pkt), vcOf opc.toNat = none → ¬ (0x50 ≤ opc.toNat ∧ opc.toNat ≤ 0x54) → s.m.asleep = false → s.m.ringUp n.val = true →
    k.dst.toNat = s.m.node → k.ver = 1 → k.whole = true → k.enc = false → k.part = 0 → s.m.hasKey 0 = false → k.posted = false →
    s.m.queueOwner k.queue.toNat = some 0 → (s.m.route 8 k.src.toNat).isSome = true → Gives (.reservedOpcode (.ring n) opc k) s (fun m =>
      m.responded s.m k 0x61 ∧ m.mem = s.m.mem ∧ ∀ a, m.rd a = s.m.rd a)) ∧
  (∀ (n : Fin 16) (w : Nat × HeldPkt), s.m.ethUp n.val = true → s.m.nextWaiting n.val = some w → Gives (.ethShareRelease n) s (fun m =>
    m = ({ s.m with net := { s.m.net with wait := s.m.net.wait.erase w } } : Mach).recv handler Mach.response w.2.ing w.2.opc w.2.pkt)) ∧
  (∀ (queue : BitVec 14) (seq : Word) (r : Req), s.m.net.reqs.find? (fun r => r.is queue.toNat seq.toNat) = some r → r.backoff = false →
    r.timeouts < s.m.fld A.HRMP_TMR 31 24 → Gives (.retransmitTimeout queue seq) s (fun m =>
      m.net.reqs = s.m.net.reqs.map (fun x => if x.is r.pkt.queue.toNat r.pkt.seq.toNat then { r with timeouts := r.timeouts + 1, rnrs := 0 } else x) ∧
      m.rd (A.HRMP_RETX r.pkt.part.val) = BitVec.ofNat 32 (min ((s.m.rd (A.HRMP_RETX r.pkt.part.val)).toNat + 1) (2 ^ 32 - 1)))) ∧
  (∀ (queue : BitVec 14) (seq : Word) (r : Req), s.m.net.reqs.find? (fun r => r.is queue.toNat seq.toNat) = some r → r.backoff = false →
    s.m.fld A.HRMP_TMR 31 24 ≤ r.timeouts → r.node = none → Gives (.retransmitTimeout queue seq) s (fun m =>
      m.net.reqs = s.m.net.reqs.filter (fun x => !x.is r.pkt.queue.toNat r.pkt.seq.toNat) ∧
      m.rd (A.HRMP_ABANDON r.pkt.part.val) = BitVec.ofNat 32 (min ((s.m.rd (A.HRMP_ABANDON r.pkt.part.val)).toNat + 1) (2 ^ 32 - 1)))) ∧
  (∀ (queue : BitVec 14) (seq : Word) (r : Req), s.m.net.reqs.find? (fun r => r.is queue.toNat seq.toNat) = some r → r.backoff = true →
    Gives (.rnrRetry queue seq) s (fun m =>
      m.net.reqs = s.m.net.reqs.map (fun x => if x.is r.pkt.queue.toNat r.pkt.seq.toNat then { r with backoff := false } else x))) ∧
  (∀ (n : Fin 8) (k : Pkt) (resid : Word), s.m.awake → s.m.ringUp n.val = true → s.m.beaconOk (.ring n) k = true →
    Gives (.phaseBeacon (.ring n) k resid) s (fun m => m = s.m.beaconIn n.val k resid.toNat))

/-! ### Masked aggregation -/

/-- R139, R140, R142: entering a state sets it with its cause, stamps its phase, counts NOTIFY, and leaves every other context alone. -/
def Obligations.ContextEntry : Prop := ∀ (m : Mach) (c : Fin 4096) (st cause : Nat) (byCmd : Bool), 1 ≤ st → st < 8 → cause < 256 →
  m.running = true →
  let n := m.enterCtx c st cause byCmd
  n.ctxState c = st ∧ n.fld (A.CTX_STS c) 23 16 = cause ∧ (n.ctx c).entered = some m.phase ∧ n.phase = m.phase ∧
  (∀ i, atIndex st = some i → (m.ctx c).ats.length = 5 → (n.ctx c).ats.getD i 0 = m.phase) ∧
  (n.ctx c).desc = (m.ctx c).desc ∧ (n.ctx c).slots = (m.ctx c).slots ∧
  (bitOf (m.ctx c).flags 2 = true → 2 ≤ st → n.ctr (m.ctx c).part ((m.ctx c).f 6 2 % 4096) =
    min (m.ctr (m.ctx c).part ((m.ctx c).f 6 2 % 4096) + 1) (2 ^ 32 - 1)) ∧
  (∀ c' : Fin 4096, c' ≠ c → n.ctx c' = m.ctx c' ∧ n.rd (A.CTX_STS c') = m.rd (A.CTX_STS c'))

/-- Window commands (R140, R170): each acts in its states on a context of the window's partition and answers CODE 0; in another state
CODE 1, on another's context CODE 2, and nothing else changes. -/
def Obligations.AggCommandsComplete : Prop := ∀ (s : State) (who : Ident) (p : Fin 16), s.m.writeOpen who (A.AGG_WIN_CMD p.val) →
  s.m.bit (A.AGG_WIN_RES p.val) 31 = true →
  let c := s.m.fld (A.AGG_WIN_SEL p.val) 11 0
  let va := s.m.rd64 (A.AGG_WIN_DESC_LO p.val)
  let res (code detail : Nat) : Word := BitVec.ofNat 32 (2 ^ 31 + c * 2 ^ 16 + detail * 2 ^ 8 + code)
  (s.m.ctxOwner c = some p.val →
    (s.m.ctxState c = 1 → Gives (.aggOpen who p) s (fun m => m.resp = [(0, 0)] ∧ m.ctxState c = 2 ∧ m.rd (A.AGG_WIN_RES p.val) = res 0 0 ∧
      m = ((s.m.openCtx c true).aggResult p c 0 0).answered)) ∧
    (s.m.ctxState c ≠ 1 → Gives (.aggOpen who p) s (fun m => m = (s.m.aggResult p c 1 0).answered ∧ m.rd (A.AGG_WIN_RES p.val) = res 1 0)) ∧
    (s.m.ctxState c = 2 → (∀ e ∈ (s.m.ctx c).slots, e.2.committing = true) → Gives (.aggClose who p) s (fun m => m.resp = [(0, 0)] ∧
      m.ctxState c = 3 ∧ m.rd (A.AGG_WIN_RES p.val) = res 0 0)) ∧
    (s.m.ctxState c = 2 → (s.m.ctx c).direct = true → (∃ e ∈ (s.m.ctx c).slots, e.2.committing = false) → Gives (.aggClose who p) s (fun m =>
      m.resp = [(0, 0)] ∧ m.ctxState c = 7 ∧ m.fld (A.CTX_STS c) 23 16 = 2 ∧ m.rd (A.AGG_WIN_RES p.val) = res 0 0)) ∧
    (s.m.ctxInUse c = true → Gives (.aggEndRecovery who p) s (fun m => m.resp = [(0, 0)] ∧ m.ctxState c = 7 ∧ m.fld (A.CTX_STS c) 23 16 = 3 ∧
      m.rd (A.AGG_WIN_RES p.val) = res 0 0)) ∧
    (s.m.ctxInUse c = true → Gives (.aggAbort who p) s (fun m => m.resp = [(0, 0)] ∧ m.ctxState c = 7 ∧ m.fld (A.CTX_STS c) 23 16 = 1 ∧
      m.rd (A.AGG_WIN_RES p.val) = res 0 0)) ∧
    (s.m.ctxState c = 5 → Gives (.aggRelease who p) s (fun m => m.resp = [(0, 0)] ∧ m.ctxState c = 6 ∧ m.ctx c = {} ∧
      m.rd (A.AGG_WIN_RES p.val) = res 0 0)) ∧
    (∀ (m1 m2 : Mach) (b : List Byte), s.m.ctxArming c = false → s.m.bit (A.CTX_STS c) 31 = false →
      (s.m.ctxState c = 0 ∨ s.m.ctxState c = 6 ∨ s.m.ctxState c = 7) → va % 256 = 0 → s.m.armRead p va = (m1, .ok b) →
      (let x : AggCtx := { desc := b, descVa := va, part := p }
       descCheck x p va = none → m1.maskCheck x p va = none → m1.armXlate p x.armRanges = (m2, none) →
       Gives (.aggArm who p) s (fun m => m.resp = [(0, 0)] ∧ m.ctxArming c = true ∧ m.ctx c = x ∧ m.ctxState c = 0 ∧
         m.rd (A.CTX_COMMITTED c) = 0 ∧ m.rd (A.AGG_WIN_RES p.val) = BitVec.ofNat 32 (c * 2 ^ 16)))) ∧
    (va % 256 ≠ 0 → (s.m.ctxArming c = false ∧ s.m.bit (A.CTX_STS c) 31 = false ∧ s.m.ctxState c = 0) → Gives (.aggArm who p) s (fun m =>
      m = (s.m.aggResult p c 4 0xFF).answered))) ∧
  (s.m.ctxOwner c ≠ some p.val → ∀ cmd ∈ [Instr.aggArm who p, .aggOpen who p, .aggClose who p, .aggEndRecovery who p, .aggRelease who p, .aggAbort who p],
    Gives cmd s (fun m => m = (s.m.aggResult p c 2 0).answered))

/-- Contexts move by themselves (R137, R140, R141, R149, R151 to R154, R161, R162), and their blocks change hands (R132). -/
def Obligations.ContextEventsComplete : Prop := ∀ (s : State) (c : Fin 4096),
  (∀ m', s.m.ctxArming c = true → (s.m.putBit (A.CTX_STS c) 30 false).zeroAll (s.m.ctx c).part (s.m.ctx c).zeroRanges = (m', none) →
    Gives (.armingDone c) s (fun m => m = (m'.enterCtx c 1 0 false).armResult c (s.m.ctx c) 0 0)) ∧
  (s.m.ctxState c = 1 → s.m.ctxPhaseDue c 0 = true → Gives (.ctxPhOpen c) s (fun m => m.ctxState c = 2 ∧ m = (s.m.ctxLate c 0).openCtx c false)) ∧
  (s.m.ctxState c = 2 → s.m.ctxPhaseDue c 1 = true → (∀ e ∈ (s.m.ctx c).slots, e.2.committing = true) → Gives (.ctxPhClose c) s (fun m =>
    m.ctxState c = 3 ∧ m = (s.m.ctxLate c 1).closeCtx c false)) ∧
  (s.m.ctxInUse c = true → s.m.ctxPhaseDue c 2 = true → Gives (.ctxPhDeadline c) s (fun m =>
    m.ctxState c = 7 ∧ m.fld (A.CTX_STS c) 23 16 = 3 ∧ (m.ctx c).slots = [] ∧ m = (s.m.ctxLate c 2).abortCtx c 3 false)) ∧
  (s.m.ctxState c = 1 → s.m.ctxPhaseDue c 0 = false → Unmoved (.ctxPhOpen c) s) ∧
  (∀ (j : Fin 64) (sl : AggSlot) (m1 m2 : Mach) (b : List Byte), tfind (s.m.ctx c).slots j.val = some sl → sl.committing = true →
    s.m.vread 2 (s.m.ctx c).part (((s.m.ctx c).buf 3 + 4096 * (s.m.ctx c).nslots + j.val * (s.m.ctx c).stageLen) % 2 ^ 48)
      ((s.m.ctx c).vlen * (s.m.ctx c).w) = (m1, .ok b) →
    m1.vupdate 2 (s.m.ctx c).part ((s.m.ctx c).buf 0) ((s.m.ctx c).vlen * (s.m.ctx c).w) false (fun off old =>
      (List.range (old.length / (s.m.ctx c).w)).flatMap (fun i => leBytes (s.m.ctx c).w
        (fieldAt old (i * (s.m.ctx c).w) (s.m.ctx c).w + fieldAt b (off + i * (s.m.ctx c).w) (s.m.ctx c).w))) = (m2, none) →
    Gives (.commitDone c j) s (fun m => m = m2.committed c sl.who j)) ∧
  (∀ (m : Mach) (i j : Nat) (m1 m2 : Mach), m.setArrived c i = (m1, none) →
    m1.vupdate 2 (m.ctx c).part ((m.ctx c).segEntry i) 4 false (fun _ old => leBytes 4 (withBits (leNat old) 30 24 0)) = (m2, none) →
    let n := m.committed c i j
    (n.ctx c).slots = terase (m.ctx c).slots j ∧
    n.fld (A.CTX_COMMITTED c) 22 0 = min (m.fld (A.CTX_COMMITTED c) 22 0 + 1) (2 ^ 23 - 1) ∧ n.mem = m2.mem) ∧
  (∀ (j : Nat) (sl : AggSlot) (m' : Mach), s.m.reclaimDue c = [(j, sl)] →
    (s.m.bumpF (A.CTX_RECLAIMED c) 31 0 1).dropContributor c j sl = (m', none) → Gives (.slotReclaim c) s (fun m => m = m' ∧
      (m.ctx c).slots = terase (s.m.ctx c).slots j)) ∧
  (s.m.ctxState c = 3 → (s.m.ctx c).slots = [] → s.m.fld (A.CTX_COMMITTED c) 22 0 < (s.m.ctx c).t → Gives (.drainDone c) s (fun m =>
    m.ctxState c = 7 ∧ m.fld (A.CTX_STS c) 23 16 = 4)) ∧
  (s.m.ctxState c = 3 → (s.m.ctx c).slots = [] → (s.m.ctx c).t ≤ s.m.fld (A.CTX_COMMITTED c) 22 0 → Gives (.drainDone c) s (fun m =>
    m.ctxState c = 4 ∧ (m.ctx c).recov.isSome = true)) ∧
  (s.m.ctxState c = 7 → Gives (.abortDrainDone c) s (fun m => m.bit (A.CTX_STS c) 31 = false ∧ m.ctxState c = 7)) ∧
  (∀ (who : Ident) (n : Fin 64) (v : Word), s.m.writeOpen who (A.AGG_OWN n.val) → (∀ i < 64, s.m.ctxActive (64 * n.val + i) = false) →
    Gives (.aggOwnWrite who n v) s (fun m => m.resp = [(0, 0)] ∧ m.rd (A.AGG_OWN n.val) = v &&& 0x8F8F8F8F)) ∧
  (∀ (who : Ident) (n : Fin 64) (v : Word) (i : Fin 64), s.m.writeOpen who (A.AGG_OWN n.val) → s.m.ctxActive (64 * n.val + i.val) = true →
    ownByte (s.m.rd (A.AGG_OWN n.val)).toNat (i.val / 16) ≠ ownByte v.toNat (i.val / 16) →
    Gives (.aggOwnWrite who n v) s (fun m => m.resp = [(0, 0)] ∧ m.rd (A.AGG_OWN n.val) = s.m.rd (A.AGG_OWN n.val) ∧ m.bit A.AGG_STS 31 = true))

/-! ### Mask recovery -/

/-- Recovery (R173, R174, R190 to R195, R199, R202, R204): the way, the census, secrets, agreements, mask passes, expansion, and the end. -/
def Obligations.RecoveryComplete : Prop := ∀ (s : State) (c : Fin 4096),
  let x := s.m.ctx c
  let r := s.m.recov c
  (s.m.ctxState c = 4 → x.recov.isSome = true → r.wait = true → s.m.wayHeld x.recWay c = false → Gives (.recWayAcquired c) s (fun m =>
    (m.recov c).wait = false ∧ m.bit (mskReg (A.MSK_REC_STS 0) c) 29 = false ∧ (m.recov c).holder = s.m.wayHolder x.part)) ∧
  (∀ (m1 : Mach) (surv : List Nat) (es : List (Nat × Nat)), s.m.inRecovery c = true → r.census = false → s.m.censusRead c = (m1, .ok (surv, es)) →
    (x.lwr = true → surv.length + (es.filter (fun e => e.2 < e.1)).length + (es.filter (fun e => e.1 < e.2)).length ≤ 2 ^ x.f 0xA2 1) → r.finished = false →
    Gives (.censusDone c) s (fun m => (m.recov c).census = true ∧ m.bit (mskReg (A.MSK_REC_STS 0) c) 31 = true ∧
      m.rd (mskReg (A.MSK_NEED 0) c) = BitVec.ofNat 32 (neededOf surv es).length ∧ m.rd (mskReg (A.MSK_EDGES 0) c) = BitVec.ofNat 32 es.length ∧
      m.rd (mskReg (A.MSK_MP 0) c) = BitVec.ofNat 32 (surv.length + (es.filter (fun e => e.2 < e.1)).length) ∧
      m.rd (mskReg (A.MSK_MQ 0) c) = BitVec.ofNat 32 (es.filter (fun e => e.1 < e.2)).length ∧ m.ctxState c = 4)) ∧
  (∀ (o : BitVec 22) (m1 m2 : Mach) (secret : List Byte) (surv : List Nat), s.m.reconDue c o.toNat = true →
    s.m.checkShares c o.toNat (tget r.shares o.toNat []).zipIdx = (m1, none) → reconstruct (tget r.shares o.toNat []) = some secret →
    m1.survivors c = (m2, .ok surv) → surv.contains o.toNat = true → x.lwr = false → Gives (.secretReconstructed c o) s (fun m =>
      (m.recov c).secrets = (m2.recov c).secrets ++ [o.toNat] ∧ (m.recov c).entries = (m2.recov c).entries ++ [{ plus := true, seed := secret }])) ∧
  (∀ (j i : Nat) (sk pk : List Byte) (rest : List (Nat × List Byte × Nat)) (m1 : Mach), s.m.inRecovery c = true →
    (s.m.freeUnit x.part).isSome = true → r.agree = (j, sk, i) :: rest →
    (s.m.setRec c { r with agree := rest }).pubKey c i = (m1, .ok pk) →
    (toBytes (x25519 (toNats sk) (toNats pk))).all (· = 0) = false → x.lwr = false → Gives (.agreementDone c) s (fun m =>
      (m.recov c).agree = (m1.recov c).agree ∧ (m.recov c).entries = (m1.recov c).entries ++
        [{ plus := decide (i < j), seed := pairSeed (m1.ctx c).round i j (toBytes (x25519 (toNats sk) (toNats pk))) }])) ∧
  (∀ u, s.m.inRecovery c = true → x.lwr = false → r.pass = none → r.entries ≠ [] → s.m.freeUnit x.part = some u → Gives (.xofPassStart c) s (fun m =>
    (m.recov c).pass = some (u, r.entries.take 65536) ∧ (m.recov c).entries = r.entries.drop 65536 ∧ m.bit A.MSK_STS u = true)) ∧
  (∀ (u : Nat) (es : List MaskEntry) (m1 : Mach), s.m.inRecovery c = true → r.pass = some (u, es) →
    ((s.m.setRec c { r with pass := none }).putBit A.MSK_STS u false).vupdate 3 x.part (x.buf 0) (x.vlen * x.w) false (fun off old =>
      (List.range (old.length / x.w)).flatMap (fun i => leBytes x.w (fieldAt old (i * x.w) x.w + 2 ^ 64 -
        passSum (es.map (fun e => (e.plus, aesSchedule (toNats e.seed)))) x.round x.w (off / x.w + i)))) = (m1, none) →
    Gives (.xofPassDone c) s (fun m => m = m1)) ∧
  (s.m.inRecovery c = true → x.lwr = true → r.expanding = false → r.expanded = false → s.m.seedsDone c = true →
    (∀ t ∈ x.expTiles, s.m.tileClaimable t = true) → Gives (.expansionStart c) s (fun m => (m.recov c).expanding = true ∧
      m.bit (mskReg (A.MSK_REC_STS 0) c) 28 = true ∧ ∀ t ∈ x.expTiles, m.tileState t = 6)) ∧
  (∀ m1 : Mach, s.m.inRecovery c = true → r.expanding = true →
    s.m.vupdate 3 x.part (x.buf 0) (x.vlen * 8) false (fun off old => (List.range (old.length / 8)).flatMap (fun i =>
      leBytes 8 (lwrLane x r.vP r.vQ (s.m.rd (mskReg (A.MSK_MP 0) c)).toNat (fieldAt old (8 * i) 8) (off / 8 + i)))) = (m1, none) →
    Gives (.expansionDone c) s (fun m => (m.recov c).expanding = false ∧ (m.recov c).expanded = true ∧
      m.bit (mskReg (A.MSK_REC_STS 0) c) 28 = false ∧ m.mem = m1.mem)) ∧
  (s.m.recoveryDone c = true → Gives (.recoveryDone c) s (fun m => m.ctxState c = 5 ∧ (m.ctx c).recov = none ∧ m = s.m.enterCtx c 5 0 false)) ∧
  (∀ (who : Ident) (p : Fin 16), s.m.writeOpen who (A.MSK_WIN_CMD p.val) → s.m.bit (A.MSK_WIN_RES p.val) 31 = true →
    s.m.fld (A.MSK_WIN_SEL p.val) 11 0 = c.val → s.m.ctxOwner c = some p.val → s.m.ctxState c = 4 → r.finished = false → r.census = false →
    Gives (.finish who p) s (fun m => m.resp = [(0, 0)] ∧ (m.recov c).finished = true ∧ (m.recov c).finishTick = s.m.ticks ∧
      m.bit (mskReg (A.MSK_REC_STS 0) c) 30 = true ∧ m.rd (A.MSK_WIN_RES p.val) = BitVec.ofNat 32 (2 ^ 31 + c.val * 2 ^ 16))) ∧
  (∀ (who : Ident) (n : Fin 4) (v : Word), s.m.writeOpen who (A.MSK_OWN n.val) → (∀ k < 4, s.m.bit A.MSK_STS (4 * n.val + k) = false) →
    Gives (.mskOwnWrite who n v) s (fun m => m.resp = [(0, 0)] ∧ m.rd (A.MSK_OWN n.val) = v &&& 0x8F8F8F8F))

/-! ### Loam -/

/-- Window commands of Loam (R384, R394, R401): each acts in its states and answers LOAM_RES with code 0; a free handle answers 2, a
wrong state 1, and STEP outside TEST 6.

The window's other registers (R391, R392, R401, R403): modes change only as R392 allows, else MODEREJ is set. -/
def Obligations.LoamWindowComplete : Prop :=
  (∀ (s : State) (who : Ident) (p : Fin 16), s.m.writeOpen who (A.LOAM_CMD p.val) →
  s.m.bit (A.LOAM_RES p.val) 31 = true →
  (∀ g : Fin 64,
    let res (code : Nat) : Word := BitVec.ofNat 32 (2 ^ 31 + g.val * 256 + code)
    (s.m.grState p g = 2 → Gives (.loamStart who p g) s (fun m => m.resp = [(0, 0)] ∧ m.grState p g = 3 ∧ m.rd (A.LOAM_RES p.val) = res 0)) ∧
    (s.m.grState p g = 2 ∨ s.m.grState p g = 3 → Gives (.loamAbort who p g) s (fun m => m.rd (A.LOAM_RES p.val) = res 0 ∧
      m = ((s.m.abortGraph p g 0 0x30 0).loamRes p g 0).answered)) ∧
    (s.m.grState p g = 4 ∨ s.m.grState p g = 5 ∨ s.m.grState p g = 6 → Gives (.loamRelease who p g) s (fun m => m.resp = [(0, 0)] ∧
      m.graph p g = none ∧ m.grState p g = 0 ∧ m.rd (A.LOAM_RES p.val) = res 0 ∧
      ∀ h : Fin 64, h ≠ g → m.graph p h = s.m.graph p h ∧ m.grState p h = s.m.grState p h)) ∧
    (s.m.grState p g = 0 → ∀ c ∈ [Instr.loamStart who p g, .loamAbort who p g, .loamRelease who p g],
      Gives c s (fun m => m = (s.m.loamRes p g 2).answered)) ∧
    (s.m.grState p g = 1 → ∀ c ∈ [Instr.loamStart who p g, .loamAbort who p g, .loamRelease who p g],
      Gives c s (fun m => m = (s.m.loamRes p g 1).answered))) ∧
  (s.m.fld (A.LOAM_MODE p.val) 1 0 = 2 → Gives (.loamStep who p) s (fun m => m.resp = [(0, 0)] ∧ p.val ∈ m.loam.step ∧
    m.rd (A.LOAM_RES p.val) = BitVec.ofNat 32 (2 ^ 31))) ∧
  (s.m.fld (A.LOAM_MODE p.val) 1 0 ≠ 2 → Gives (.loamStep who p) s (fun m => m = (s.m.loamRes p 0 6).answered))) ∧
  (∀ (s : State) (who : Ident) (p : Fin 16) (v : Word),
  (s.m.writeOpen who (A.LOAM_MODE p.val) →
    (v.toNat % 4 = s.m.fld (A.LOAM_MODE p.val) 1 0 → Gives (.loamModeWrite who p v) s (fun m => m = s.m.answered)) ∧
    (v.toNat % 4 = 2 → s.m.fld (A.LOAM_MODE p.val) 1 0 = 0 → who = .part 0 → s.m.handles p = [] → Gives (.loamModeWrite who p v) s (fun m =>
      m.resp = [(0, 0)] ∧ m.fld (A.LOAM_MODE p.val) 1 0 = 2 ∧ m.loam = s.m.loam)) ∧
    (v.toNat % 4 = 3 → s.m.fld (A.LOAM_MODE p.val) 1 0 < 2 → who = .part 0 ∨ who = .kaolin → Gives (.loamModeWrite who p v) s (fun m =>
      m.resp = [(0, 0)] ∧ m.fld (A.LOAM_MODE p.val) 1 0 = 3 ∧ tfind m.loam.modeFrom p = some (s.m.fld (A.LOAM_MODE p.val) 1 0))) ∧
    ((v.toNat % 4 = 1 ∨ (v.toNat % 4 = 2 ∧ s.m.handles p ≠ []) ∨ (v.toNat % 4 = 2 ∧ who ≠ .part 0)) →
      v.toNat % 4 ≠ s.m.fld (A.LOAM_MODE p.val) 1 0 → Gives (.loamModeWrite who p v) s (fun m =>
        m = (s.m.putBit (A.LOAM_STS p.val) 31 true).answered ∧ m.bit (A.LOAM_STS p.val) 31 = true ∧
        m.fld (A.LOAM_MODE p.val) 1 0 = s.m.fld (A.LOAM_MODE p.val) 1 0))) ∧
  (s.m.writeOpen who (A.LOAM_CTR_VAL p.val) → Gives (.loamCtrValWrite who p v) s (fun m => m.resp = [(0, 0)] ∧
    m.ctr p (s.m.fld (A.LOAM_CTR_SEL p.val) 11 0) = v.toNat ∧
    ∀ q c : Nat, c < 4096 → (q ≠ p.val ∨ c ≠ s.m.fld (A.LOAM_CTR_SEL p.val) 11 0) → m.ctr q c = s.m.ctr q c)) ∧
  (s.m.writeOpen who (A.LOAM_QB p.val) → s.m.queueOwner (s.m.fld (A.LOAM_QB_SEL p.val) 13 0) = some p.val →
    Gives (.loamQbWrite who p v) s (fun m => m.resp = [(0, 0)] ∧
      m.queueCtr p (s.m.fld (A.LOAM_QB_SEL p.val) 13 0) = (if bitOf v.toNat 15 then some (bitsOf v.toNat 11 0) else none))) ∧
  (s.m.writeOpen who (A.LOAM_QB p.val) → s.m.queueOwner (s.m.fld (A.LOAM_QB_SEL p.val) 13 0) ≠ some p.val →
    Gives (.loamQbWrite who p v) s (fun m => m = s.m.answered)) ∧
  (s.m.writeOpen who (A.LOAM_SNAP_SIZE p.val) → who = .part 0 → s.m.handles p = [] → Gives (.loamSnapWrite who p 2 v) s (fun m =>
    m.resp = [(0, 0)] ∧ m.fld (A.LOAM_SNAP_SIZE p.val) 15 0 = v.toNat % 2 ^ 16)) ∧
  (s.m.writeOpen who (A.LOAM_SNAP_SIZE p.val) → s.m.handles p ≠ [] → Gives (.loamSnapWrite who p 2 v) s (fun m =>
    m = (s.m.putBit (A.LOAM_STS p.val) 31 true).answered)) ∧
  (s.m.writeOpen who (A.TRACE_CFG p.val) → Gives (.traceCfgWrite who p v) s (fun m => m = (s.m.writeTraceCfg p v.toNat).answered ∧
    m.resp = [(0, 0)])))

/-- A dispatched node begins its work, by its kind (R216, R219, R379, R386): it is then in progress, or has ended.

R219: what a kernel finds when it starts. -/
def Obligations.NodeWorkAndKernelEntry : Prop :=
  (∀ (s : State) (p : Fin 16) (g : Fin 64) (n : BitVec 16) (x : Graph) (y : GNode),
  s.m.graph p g = some x → tfind x.nodes n.toNat = some y → y.st = 1 →
  let b := x.img
  let y' : GNode := { y with st := 2 }
  let w := s.m.setNode p g n.toNat y'
  let k := nKind b n.toNat
  (k = 1 → nf b n.toNat 0x1C 1 ≠ 0x80 → Gives (.tileKernel p g n) s (fun m =>
    m = y.tiles.foldl (fun a t => a.kernelStart p g n.toNat b y.tiles t) w)) ∧
  (k = 1 → nf b n.toNat 0x1C 1 = 0x80 → s.m.drbgOn 0 = true → Gives (.tileKernel p g n) s (fun m =>
    m = w.sessionStart p g n.toNat b y.tiles ∧ m.loam.sessions.map (·.node) = s.m.loam.sessions.map (·.node) ++ [(p.val, g.val, n.toNat)])) ∧
  (k = 2 → Gives (.bronzeKernel p g n) s (fun m => m = w.gateStart (nodeId p g n.toNat) y.tiles (nf b n.toNat 0x20 8))) ∧
  (∀ (m1 m2 : Mach) (l : List Byte), k = 3 → nf b n.toNat 0x1C 1 = 0 → w.vread 4 p (nf b n.toNat 0x20 8) (nf b n.toNat 0x30 4) = (m1, .ok l) →
    m1.vwrite 4 p (nf b n.toNat 0x28 8) l = (m2, none) → Gives (.dma p g n) s (fun m =>
      m.nodeRes = m2.nodeRes ++ [((p.val, g.val, n.toNat), 0, 0)] ∧ m.mem = m2.mem)) ∧
  (∀ (m1 : Mach) (l : List Byte), k = 3 → nf b n.toNat 0x1C 1 = 1 → w.vread 4 p (nf b n.toNat 0x20 8) (nf b n.toNat 0x30 4) = (m1, .ok l) →
    Gives (.dma p g n) s (fun m => m.nodeRes = m1.nodeRes ++ [((p.val, g.val, n.toNat), 0, 0)] ∧ m.mem = m1.mem ∧
      ∀ t, y.tiles = [t] → m.tile t = (m1.tile t).store (nf b n.toNat 0x28 8) l)) ∧
  (∀ m1 d, k = 4 → w.aggCommand p (nf b n.toNat 0x1E 2) (nf b n.toNat 0x1C 1) (nf b n.toNat 0x20 8) (some (nodeId p g n.toNat)) = (m1, some (0, d)) →
    Gives (.aggOp p g n) s (fun m => m = m1.completeNode p g n.toNat)) ∧
  (∀ m1 c d, k = 4 → c ≠ 0 → w.aggCommand p (nf b n.toNat 0x1E 2) (nf b n.toNat 0x1C 1) (nf b n.toNat 0x20 8) (some (nodeId p g n.toNat)) = (m1, some (c, d)) →
    Gives (.aggOp p g n) s (fun m => m = m1.failNode p g n.toNat 0x26 c)) ∧
  (∀ m1, k = 5 → w.mskCommand p (nf b n.toNat 0x1E 2) (nf b n.toNat 0x1C 1) = (m1, 0) →
    Gives (.mskOp p g n) s (fun m => m = m1.completeNode p g n.toNat)) ∧
  (k = 6 → Gives (.ringXfer p g n) s (fun m => m = w.xferStart p g n.toNat b)) ∧
  (k = 7 → Gives (.hrmpSend p g n) s (fun m => m = w.xferStart p g n.toNat b)) ∧
  (k = 8 → Gives (.waitPhase p g n) s (fun m => m = w ∧ m.gnode p g n.toNat = some y')) ∧
  (k = 9 → Gives (.waitCount p g n) s (fun m => m = w ∧ m.gnode p g n.toNat = some y')) ∧
  (k = 10 → Gives (.barrier p g n) s (fun m => m = w.completeNode p g n.toNat)) ∧
  (k = 11 → s.m.vecOwner (nf b n.toNat 0x1C 1) = some p.val → Gives (.hostNotify p g n) s (fun m =>
    m = (w.hostItem p (nf b n.toNat 0x1C 1) 0xFFFE 0 s.m.phase).nodeResult (nodeId p g n.toNat) 0 0)) ∧
  (k = 11 → s.m.vecOwner (nf b n.toNat 0x1C 1) ≠ some p.val → Gives (.hostNotify p g n) s (fun m =>
    m = w.failNode p g n.toNat 0x2A (nf b n.toNat 0x1C 1))) ∧
  (∀ (m1 m2 : Mach) (h body : List Byte), k = 12 → nf b n.toNat 0x20 8 % 64 = 0 → w.vread 4 p (nf b n.toNat 0x20 8) 64 = (m1, .ok h) →
    imageHead h (nf b n.toNat 0x1C 1) = none →
    m1.vread 4 p (nf b n.toNat 0x20 8 + 64) (fieldAt h 8 4 + fieldAt h 0x10 4) = (m2, .ok body) →
    toBytes (sha256 (toNats body)) = slice h 0x20 32 → y.tiles = [] → Gives (.loadImage p g n) s (fun m =>
      m = m2.setNode p g n.toNat { y' with data := h ++ body })) ∧
  (k = 12 → nf b n.toNat 0x20 8 % 64 ≠ 0 → Gives (.loadImage p g n) s (fun m => m = w.nodeResult (nodeId p g n.toNat) 0x21 0))) ∧
  (∀ (m : Mach) (t : Fin 80) (u : Fin 80),
  let x := m.tile t
  let n := m.kernelEntry t
  n.tileState t = 2 ∧ n.tilePc t = (x.cbase + x.entry) % 2 ^ 24 ∧ n.rd (A.TILE_SFLAGS t.val) = 0 ∧ n.rd64 (A.CNT_INSTR_LO t.val) = 0 ∧
  (∀ i, i < 8 → (tget (n.tile t).s (i + 1) 0).toNat = x.args.getD i 0 % 2 ^ 64) ∧
  tget (n.tile t).s 9 0 = BitVec.ofNat 64 t.val ∧ tget (n.tile t).s 10 0 = BitVec.ofNat 64 (x.target.idxOf t.val) ∧
  tget (n.tile t).s 11 0 = BitVec.ofNat 64 x.target.length ∧ tget (n.tile t).s 12 0 = BitVec.ofNat 64 (m.tilePart t) ∧
  tget (n.tile t).s 13 0 = BitVec.ofNat 64 x.disp ∧ (∀ i, i < 8 → tget (n.tile t).v i 0 = x.vargs.getD i nullDesc) ∧
  (n.tile t).link = [] ∧ (n.tile t).loops = [] ∧ (n.tile t).ftz = false ∧ (n.tile t).sr = false ∧ (n.tile t).mem = x.mem ∧
  (u ≠ t → n.tile u = m.tile u ∧ n.tileState u = m.tileState u))

/-- Graphs move by themselves (R216, R381, R383 to R387, R394, R395): starts, dispatch, waits, loads, results, ends. -/
def Obligations.GraphEventsComplete : Prop := ∀ (s : State) (p : Fin 16) (g : Fin 64),
  (s.m.grState p g = 2 → gStart (s.m.gimg p g) = 2 → gStartPhase (s.m.gimg p g) ≤ s.m.phase → s.m.running = true →
    Gives (.startPhaseReached p g) s (fun m => m.grState p g = 3 ∧ m = s.m.startGraph p g)) ∧
  (s.m.grState p g = 2 → gStart (s.m.gimg p g) = 2 → s.m.phase < gStartPhase (s.m.gimg p g) → Unmoved (.startPhaseReached p g) s) ∧
  (s.m.running = true → s.m.pageOn (0x100 + p) = true → tfind s.m.loam.lastPass p ≠ some s.m.phs.edges → s.m.readyNodes p = [] →
    s.m.fld (A.LOAM_MODE p.val) 1 0 ≠ 2 → Gives (.loamDispatch p) s (fun m => tfind m.loam.lastPass p = some s.m.phs.edges ∧
      m.loam.graphs = s.m.loam.graphs ∧ p.val ∉ m.loam.step)) ∧
  (s.m.running = true → s.m.pageOn (0x100 + p) = true → tfind s.m.loam.lastPass p ≠ some s.m.phs.edges →
    s.m.fld (A.LOAM_MODE p.val) 1 0 = 2 → p.val ∉ s.m.loam.step → Gives (.loamDispatch p) s (fun m => m.loam.graphs = s.m.loam.graphs ∧
      tfind m.loam.lastPass p = some s.m.phs.edges)) ∧
  (∀ (n e r o : Nat) (y : GNode), s.m.running = true → s.m.pageOn (0x100 + p) = true → tfind s.m.loam.lastPass p ≠ some s.m.phs.edges →
    s.m.readyNodes p = [(g.val, n, e, r, o)] → s.m.fld (A.LOAM_MODE p.val) 1 0 ≠ 2 → s.m.grState p g = 3 → s.m.gnode p g n = some y →
    nTarget (s.m.gimg p g) n = [] → nKind (s.m.gimg p g) n ≠ 6 → nKind (s.m.gimg p g) n ≠ 7 → Gives (.loamDispatch p) s (fun m =>
      m.gnode p g n = some { y with st := 1, at_ := s.m.phs.edges, tiles := [] })) ∧
  (∀ (n : BitVec 16) (y : GNode), s.m.gnode p g n.toNat = some y → y.st = 2 →
    let b := s.m.gimg p g
    (nKind b n.toNat = 8 → y.at_ < s.m.phs.edges → s.m.running = true → nf b n.toNat 0x20 8 ≤ s.m.phase →
      Gives (.waitPhaseReached p g n) s (fun m => m = s.m.completeNode p g n.toNat)) ∧
    (nKind b n.toNat = 8 → s.m.phase < nf b n.toNat 0x20 8 → Unmoved (.waitPhaseReached p g n) s) ∧
    (nKind b n.toNat = 9 → y.at_ < s.m.phs.edges → s.m.running = true → nf b n.toNat 0x20 4 ≤ s.m.ctr p (nf b n.toNat 0x1E 2) →
      Gives (.waitCountMet p g n) s (fun m => m = s.m.completeNode p g n.toNat)) ∧
    (nKind b n.toNat = 12 → y.data ≠ [] → (∀ t ∈ y.tiles, s.m.loadWaits t (nf b n.toNat 0x1C 1) y.data = false) →
      Gives (.loadImageDone p g n) s (fun m => m.nodeRes = s.m.nodeRes ++ [((p.val, g.val, n.toNat), 0, 0)] ∧
        ∀ t : Fin 80, y.tiles = [t.val] → s.m.tileState t = 1 → m.tileState t = 0 ∧
          tfind (m.tile t).images (nf b n.toNat 0x1C 1) = some (fieldAt y.data 8 4, fieldAt y.data 0xC 4, fieldAt y.data 6 2, fieldAt y.data 0x18 4))) ∧
    (∀ d, ¬ (nKind b n.toNat = 1 ∧ nf b n.toNat 0x1C 1 ≠ 0x80) → s.m.nodeRes = [((p.val, g.val, n.toNat), 0, d)] →
      Gives (.nodeComplete p g n) s (fun m => m = ({ s.m with nodeRes := [] } : Mach).completeNode p g n.toNat)) ∧
    (∀ c d, c ≠ 0 → ¬ (nKind b n.toNat = 1 ∧ nf b n.toNat 0x1C 1 ≠ 0x80) → s.m.nodeRes = [((p.val, g.val, n.toNat), c, d)] →
      Gives (.nodeComplete p g n) s (fun m => m = ({ s.m with nodeRes := [] } : Mach).failNode p g n.toNat c d)) ∧
    (∀ t : Fin 80, nKind b n.toNat = 1 → nf b n.toNat 0x1C 1 ≠ 0x80 → y.tiles = [t.val] → y.bad = false →
      (s.m.tile t).node = some (p.val, g.val, n.toNat) → (s.m.tile t).report = some true →
      Gives (.nodeComplete p g n) s (fun m => m = (s.m.tileDone t).completeNode p g n.toNat))) ∧
  (∀ x : Graph, s.m.graph p g = some x → s.m.grState p g = 7 → (∀ y ∈ x.nodes, y.2.live = false) → gAutoRel x.img = false →
    (fieldAt x.img 0x32 1).testBit 7 = false → Gives (.graphDrained p g) s (fun m =>
      m.grState p g = (if x.aborted then 6 else 5) ∧ m.loam = s.m.loam)) ∧
  (∀ x : Graph, s.m.graph p g = some x → x.whole = false → s.m.grState p g = 1 → 64 * 1024 < s.m.phs.edges - x.lastSlot →
    Gives (.graphSubmitTimeout p g) s (fun m => m.graph p g = none ∧ m.grState p g = 0 ∧
      m.rd (A.LOAM_LAST_ERR p.val) = BitVec.ofNat 32 (0x0F + 256 * (x.img.length / 64)))) ∧
  (∀ (x : Graph) (h : HeldPkt), s.m.graph p g = some x → x.whole = true → s.m.grState p g = 1 → x.sub = some h →
    Gives (.snapshotDone p g) s (fun m => m = (s.m.snapCheck p g x).1.snapAnswer h (s.m.snapCheck p g x).2))

/-- R386: a node that completes takes one from the count of each successor and adds 1 to GR_DONE; the last one ends the graph. -/
def Obligations.NodeCompletion : Prop := ∀ (m : Mach) (p : Fin 16) (g : Fin 64) (n : Nat) (x : Graph) (y : GNode),
  m.graph p g = some x → tfind x.nodes n = some y → doneCtr (nf x.img n 0xE 2) = none → m.bit (A.TRACE_CFG p.val) 31 = false →
  gAutoRel x.img = false →
  let r := m.completeNode p g n
  (m.grState p g ≠ 3 → r.grState p g = m.grState p g ∧ r.rd (A.GR_DONE p.val g.val) = m.rd (A.GR_DONE p.val g.val) + 1) ∧
  (m.grState p g = 3 → nSucc x.img n = [] → (∀ z ∈ x.nodes, z.1 = n ∨ z.2.st = 3) → x.nodes.Pairwise (fun a b => a.1 < b.1) →
    r.grState p g = 4) ∧
  (m.grState p g = 3 → (∃ z ∈ x.nodes, z.1 ≠ n ∧ z.2.st ≠ 3) → r.grState p g = 3) ∧
  (∀ (j : Nat) (z : GNode), j ≠ n → nSucc x.img n = [j] → tfind x.nodes j = some z → m.grState p g ≠ 3 → ∃ r' : Graph, r.graph p g = some r' ∧
    tfind r'.nodes j = some { z with deps := z.deps - 1 } ∧ tfind r'.nodes n = some { y with st := 3, data := [] })

/-- R382: a submission by value or by reference that fails a header check is refused with that check's code, counted, and leaves no graph. -/
def Obligations.SubmissionRefusals : Prop := ∀ (m : Mach) (ing : Ingress) (k : Pkt) (c d : Nat), c < 256 → d < 2 ^ 16 →
  let refused (n : Mach) (r : Mach × Option PRes) : Prop := r.2 = some (.no 0x13 (c + 256 * d)) ∧ r.1.loam = n.loam ∧
    r.1.rd (A.LOAM_LAST_ERR k.part.val) = BitVec.ofNat 32 (c + 256 * d) ∧
    r.1.rd (A.LOAM_ERRCNT k.part.val) = BitVec.ofNat 32 (min ((n.rd (A.LOAM_ERRCNT k.part.val)).toNat + 1) (2 ^ 32 - 1))
  (k.operand.toNat.testBit 0 = false → k.isFirst = true → 64 ≤ k.payload.length → headCheck k.payload = some (c, d) → refused m (m.graphSubmit ing k)) ∧
  (k.operand.toNat.testBit 0 = false → k.isFirst = true → 64 ≤ k.payload.length → headCheck k.payload = none →
    m.takeSpace k.part.val (gLen k.payload) = .error (c, d) → refused m (m.graphSubmit ing k)) ∧
  (∀ (m1 : Mach) (b : List Byte), k.operand.toNat.testBit 0 = true → 64 ≤ fieldAt k.payload 8 4 →
    m.vread 4 k.part.val (fieldAt k.payload 0 8) (min (fieldAt k.payload 8 4) (2 ^ 26)) = (m1, .ok b) → headCheck b = some (c, d) →
    refused m1 (m.graphSubmit ing k)) ∧
  (∀ b : List Byte, fieldAt b 0 4 ≠ 0x4C394648 → headCheck b = some (1, 0)) ∧
  (∀ b : List Byte, fieldAt b 0 4 = 0x4C394648 → fieldAt b 4 2 ≠ 1 → headCheck b = some (2, 4))

/-! ### Gate programs and spares -/

/-- Levels of a gate program (R338 to R341), and what a spare takes over (R245 to R247, R253). -/
def Obligations.GateAndSpareEvents : Prop := ∀ (s : State) (t : Fin 80),
  (∀ h : GateRun, s.m.gateOn t = some h → h.busy = false → s.m.gateReady h = true → Gives (.bronzeLevelStart t) s (fun m => m = s.m.levelStart h)) ∧
  (∀ (h : GateRun) (m1 : Mach), s.m.gateOn t = some h → h.busy = true → s.m.gateReady h = true → h.level + 1 < h.levels.length →
    s.m.copyStage h.node.1 (gpStageVa h.header) (gpWireVa h.header) h.first 0 h.outs = (m1, none) →
    Gives (.bronzeLevelCopyDone t) s (fun m => 
      m = m1.setGate { h with busy := false, outs := [], level := h.level + 1, first := h.first + h.levels.getD h.level 0 })) ∧
  (∀ (h : GateRun) (m1 : Mach), s.m.gateOn t = some h → h.busy = true → s.m.gateReady h = true → h.levels.length ≤ h.level + 1 →
    s.m.copyStage h.node.1 (gpStageVa h.header) (gpWireVa h.header) h.first 0 h.outs = (m1, none) →
    Gives (.bronzeLevelCopyDone t) s (fun m => m = m1.gateEnd h 0 0)) ∧
  (∀ bad : List Nat, s.m.tileState t = 5 → (s.m.tile t).migFrom = some 0 → Gives (.migrationDone t bad) s (fun m =>
    m.tileState t = 0 ∧ m.bit (A.TILE_STS t.val) 30 = true ∧ m.fld (A.CLU_STS (t.val / 20)) 4 0 = 0x1F ∧
    m.tileSlot t = s.m.fld (A.CLU_STS (t.val / 20)) 4 0 ∧ m.bit (A.CLU_FAILED (t.val / 20)) (s.m.tileSlot t) = true)) ∧
  (∀ bad : List Nat, s.m.tileState t ≠ 5 → Unmoved (.migrationDone t bad) s) ∧
  (∀ (who : Ident) (c : Fin 4) (v : Word), c.val = t.val / 20 → s.m.writeOpen who (A.CLU_REMAP c.val) → bitOf v.toNat 31 = true →
    s.m.bit (A.CLU_REMAP c.val) 31 = false → bitsOf v.toNat 4 0 = t.val % 20 → s.m.spareUsed c = false → s.m.tileLost t = false →
    Gives (.cluRemap who c v) s (fun m => m.resp = [(0, 0)] ∧ m.tileState t = 5 ∧ m.bit (A.CLU_REMAP c.val) 31 = true ∧
      m.spareUsed c = true ∧ (m.tile t).migFrom = some (s.m.tileState t)))

/-! ### Protocol sessions -/

/-- The next op of a running session begins where its row names it, and takes its vectors (R349, R359, R369, R590); a row that names
another op finds nothing to do.

What the ops that need no round give (R359), and what a product and its sum give once their round is over (R357, R359). -/
def Obligations.SessionOperations : Prop :=
  (∀ (s : State) (t : Fin 80) (c : Instr) (code : Nat) (x : Session), SessionOp t c code →
  s.m.sessionOn t = some x → x.state = 1 → x.op < x.ops → x.began = false → x.rnd = 0 → x.outq = [] → (x.role = 2 ∨ 0 < x.round) →
  (x.draws = true → ∃ u ∈ s.m.mskUnits x.part, s.m.drbgOn (2 + u) = true) →
  (x.opc = code → ∀ (m1 m2 : Mach) (a b : List Nat), s.m.getVec x (x.cur 2 2) = (m1, some a) → m1.getVec x (x.cur 4 2) = (m2, some b) →
    Gives c s (fun m => m = (m2.opStep { x with began := true, ins := [a, b] } []).1.setSession
      (m2.opStep { x with began := true, ins := [a, b] } []).2)) ∧
  (x.opc = code → ∀ m1 : Mach, s.m.getVec x (x.cur 2 2) = (m1, none) → Gives c s (fun m => m = m1.setSession (x.stop 7 2))) ∧
  (x.opc ≠ code → Unmoved c s)) ∧
  (∀ (m : Mach) (x : Session) (res : List Nat) (a : List Nat),
  (x.opc = 0x11 → x.ins = [a, []] → m.opStep x res = m.opEnd { x with saved := [] } (some (a.map (fun v => x.p0 * v % 2 ^ 64)))) ∧
  (x.opc = 0x12 → x.ins = [a, []] → x.role = 1 → m.opStep x res = m.opEnd { x with saved := [] } (some (a.map (fun v => v % 2 ^ 64)))) ∧
  (x.opc = 0x12 → x.ins = [a, []] → x.role = 0 →
    m.opStep x res = m.opEnd { x with saved := [] } (some (a.map (fun v => (v + x.p0 % 2 ^ 64) % 2 ^ 64)))) ∧
  (x.opc = 0x20 → x.phase = 1 → m.opStep x res = m.opEnd { x with saved := [] } (some res)) ∧
  (x.opc = 0x21 → x.phase = 1 → m.opStep x res = m.opEnd { x with saved := [] } (some [res.sum % 2 ^ 64])) ∧
  (∀ (m1 : Mach) (x1 : Session), m.putVec x (x.cur 6 2) a = (m1, .ok x1) → ∀ m2 : Mach, m1.writeStatus x1 = (m2, none) →
    m.opEnd x (some a) = (m2, { x1 with op := x1.op + 1 }.enterOp)))

/-- R357: the shares that the two parties compute from a right triple add up to the product, and for bits to the AND; the dealer's
triples are right (R355). -/
def Obligations.SharesMultiply : Prop := ∀ x0 x1 y0 y1 a0 a1 b0 b1 c0 c1 : Nat,
  ((c0 + c1) % 2 ^ 64 = (a0 + a1) * (b0 + b1) % 2 ^ 64 →
    let d := m64 (sub64 x0 a0 + sub64 x1 a1)
    let e := m64 (sub64 y0 b0 + sub64 y1 b1)
    (mulShare 0 a0 b0 c0 d e + mulShare 1 a1 b1 c1 d e) % 2 ^ 64 = (x0 + x1) * (y0 + y1) % 2 ^ 64) ∧
  ((c0 + c1) % 2 = (a0 + a1) * (b0 + b1) % 2 →
    let d := (x0 + a0 + (x1 + a1)) % 2
    let e := (y0 + b0 + (y1 + b1)) % 2
    (andShare 0 a0 b0 c0 d e + andShare 1 a1 b1 c1 d e) % 2 = (x0 + x1) * (y0 + y1) % 2) ∧
  (let w := dealItem 0 [a0, a1, b0, b1, c1]
   (w.1.2.2 + w.2.2.2) % 2 ^ 64 = (w.1.1 + w.2.1) * (w.1.2.1 + w.2.2.1) % 2 ^ 64)

/-- Records and batches are taken in order, and a session ends (R354, R356, R370 to R372). -/
def Obligations.SessionEventsComplete : Prop := ∀ (s : State) (t : Fin 80) (x : Session), s.m.sessionOn t = some x →
  (x.state = 1 → x.role ≠ 2 → x.rnd ≠ 0 → x.sentRec = true → x.recs < s.m.ctr x.part x.exchCtr →
    Gives (.exchRecordRead t) s (fun m => m = (s.m.readRecord x).1.setSession (s.m.readRecord x).2)) ∧
  (x.state = 1 → x.role ≠ 2 → x.rnd = 2 → x.sentRec = false → x.outq = [] → x.batches < s.m.ctr x.part x.tripleCtr →
    Gives (.tripleBatchRead t) s (fun m => m = ((s.m.readBatch x).1.tryRound (s.m.readBatch x).2).1.setSession
      ((s.m.readBatch x).1.tryRound (s.m.readBatch x).2).2)) ∧
  (x.state = 1 → x.desc ≠ [] → x.d 0x68 8 ≠ 0 → x.d 0x68 8 ≤ s.m.phase → s.m.running = true →
    Gives (.sessionDeadline t) s (fun m => m = s.m.setSession { x with state := 3, reason := 5, detail := 0 })) ∧
  (x.state = 1 → s.m.phase < x.d 0x68 8 → Unmoved (.sessionDeadline t) s) ∧
  (x.state = 3 → Gives (.sessionEnd t) s (fun m => (∀ y ∈ m.loam.sessions, y.node ≠ x.node) ∧
    m.nodeRes = s.m.nodeRes ++ [(x.node, 0, 0)] ∧ m = s.m.endSession x)) ∧
  (x.state = 1 → x.op = x.ops → x.ops ≠ 0 → 0 < x.round → Gives (.sessionEnd t) s (fun m =>
    (∀ y ∈ m.loam.sessions, y.node ≠ x.node) ∧ m = s.m.endSession { x with state := 2 })) ∧
  (∀ (m1 : Mach) (h : List Byte), s.m.vread 5 x.part ((x.d 0x30 8 + x.round % 2 * x.d 0x70 4) % 2 ^ 48) 64 = (m1, .ok h) →
    fieldAt h 8 4 = x.round → fieldAt h 0 8 ≠ x.d 8 8 → s.m.readRecord x = (m1, { x with recs := x.recs + 1 }.stop 3 x.round))

/-- AES-256-GCM as the links, records, keys and dumps use it: what is sealed opens to the plaintext, and a changed tag never does
(R369, R466, R543). -/
def Obligations.SealedOpens : Prop := ∀ key nonce aad pt : Bytes, key.length = 32 → nonce.length = 12 →
  gcmOpen key nonce aad (gcmSeal key nonce aad pt).1 (gcmSeal key nonce aad pt).2 = some pt ∧
  ∀ tag : Bytes, tag ≠ (gcmSeal key nonce aad pt).2 → gcmOpen key nonce aad (gcmSeal key nonce aad pt).1 tag = none

/-! ### Memory -/

/-- A write through one translated range stores exactly its bytes and leaves every other byte of memory as it was (R112, R492, R499);
a read changes no byte, and a failed translation stores nothing.

Memory keeps its canonical form through every operation that stores to it. -/
def Obligations.MemoryOperations : Prop :=
  (∀ (m m1 m2 : Mach) (src p va pa : Nat) (b : List Byte), memWf m.mem.cells = true →
  (m.xlate src p va b.length = (m1, .ok [⟨0, pa, b.length⟩]) → m.vwrite src p va b = (m2, none) →
    memRead m2.mem.cells pa b.length = b ∧ ∀ a, (a < pa ∨ pa + b.length ≤ a) → memGet m2.mem.cells a = memGet m.mem.cells a) ∧
  (∀ e, m.xlate src p va b.length = (m1, .error e) → m.vwrite src p va b = (m1, some e) ∧ m1.mem.cells = m.mem.cells) ∧
  (∀ n, (m.vread src p va n).1.mem.cells = m.mem.cells)) ∧
  (∀ m : Mach, memWf m.mem.cells = true →
  (∀ (src p va n : Nat) (full : Bool) (g : Nat → List Byte → List Byte), memWf (m.vupdate src p va n full g).1.mem.cells = true) ∧
  (∀ (pa : Nat) (b : List Byte), memWf (m.pwrite pa b).mem.cells = true) ∧
  (∀ ch : Nat, memWf (m.channelInitDone ch).mem.cells = true) ∧
  (∀ ch : Nat, memWf (m.retirePageDone ch).mem.cells = true) ∧
  memWf State.reset.m.mem.cells = true)

/-- Keys, invalidation, channel INIT, retirement and scrubbing (R502, R504, R510, R511, R513 to R517, R519). -/
def Obligations.MemoryRowsComplete : Prop := ∀ (s : State) (who : Ident) (p : Fin 16) (ch : Fin 64) (v : Word),
  (s.m.writeOpen who (A.MMU_KEY p.val) → s.m.bit (A.MMU_KEY p.val) 31 = false → bitOf v.toNat 31 = true →
    s.m.xtsSlot p (bitsOf v.toNat 8 0) = true → Gives (.mmuKeyWrite who p v) s (fun m => m.resp = [(0, 0)] ∧
      m.bit (A.MMU_KEY p.val) 31 = true ∧ m.fld (A.MMU_KEY p.val) 8 0 = bitsOf v.toNat 8 0 ∧ m.bit (A.MMU_KEY p.val) 30 = bitOf v.toNat 30 ∧
      ∀ c : Fin 64, m.chState c = (if s.m.chOwner c = some p.val ∧ s.m.chState c = 1 then 2 else s.m.chState c))) ∧
  (s.m.writeOpen who (A.MMU_KEY p.val) → s.m.bit (A.MMU_KEY p.val) 31 = true → Gives (.mmuKeyWrite who p v) s (fun m =>
    m = (s.m.putBit (A.MMU_STS p.val) 0 true).answered)) ∧
  (s.m.chState ch = 2 → Gives (.channelInitDone ch) s (fun m => m.chState ch = 3 ∧
    (∀ a, ch.val * 2 ^ 33 ≤ a → a < (ch.val + 1) * 2 ^ 33 → memGet m.mem.cells a = 0) ∧
    ∀ a, (a < ch.val * 2 ^ 33 ∨ (ch.val + 1) * 2 ^ 33 ≤ a) → memGet m.mem.cells a = memGet s.m.mem.cells a)) ∧
  (s.m.writeOpen who (A.MMU_INV_CTL p.val) → s.m.retiring p = false → bitsOf v.toNat 1 0 = 1 → Gives (.mmuInvAll who p v) s (fun m =>
    m.resp = [(0, 0)] ∧ m.bit (A.MMU_INV_CTL p.val) 31 = false ∧ m.mem.leaf = s.m.mem.leaf.filter (fun e => e.part ≠ p.val) ∧
    m.mem.ptr = s.m.mem.ptr.filter (fun e => e.part ≠ p.val))) ∧
  (s.m.writeOpen who (A.MMU_INV_CTL p.val) → s.m.retiring p = false → bitsOf v.toNat 1 0 = 2 → Gives (.mmuInvRange who p v) s (fun m =>
    m.resp = [(0, 0)] ∧ m.bit (A.MMU_INV_CTL p.val) 31 = false ∧
    let lo := s.m.rd64 (A.MMU_INV_LO p.val)
    let hi := lo + max 1 (s.m.rd (A.MMU_INV_CNT p.val)).toNat * 2 ^ 16
    (∀ e ∈ m.mem.leaf, e ∈ s.m.mem.leaf ∧ ¬ (e.part = p.val ∧ e.va < hi ∧ lo < e.va + lvlSpan e.lvl)) ∧
    ∀ e ∈ s.m.mem.leaf, ¬ (e.part = p.val ∧ e.va < hi ∧ lo < e.va + lvlSpan e.lvl) → e ∈ m.mem.leaf)) ∧
  (s.m.writeOpen who (A.MMU_INV_CTL p.val) → s.m.retiring p = true → bitsOf v.toNat 1 0 = 1 → Gives (.mmuInvAll who p v) s (fun m =>
    m = (s.m.putBit (A.MMU_STS p.val) 1 true).answered)) ∧
  Gives (.mmuInvDone p) s (fun m => m = s.m.putBit (A.MMU_INV_CTL p.val) 31 true ∧ m.bit (A.MMU_INV_CTL p.val) 31 = true) ∧
  (s.m.writeOpen who (A.MMU_ROOT_HI p.val) → s.m.retiring p = false → Gives (.mmuRootHiWrite who p v) s (fun m => m.resp = [(0, 0)] ∧
    m.fld (A.MMU_ROOT_HI p.val) 7 0 = bitsOf v.toNat 7 0 ∧ m.bit (A.MMU_INV_CTL p.val) 31 = false ∧
    m.mem.leaf = s.m.mem.leaf.filter (fun e => e.part ≠ p.val))) ∧
  (s.m.writeOpen who (A.MEM_CH_CTL ch.val) → bitOf v.toNat 0 = true → s.m.chOwner ch = none → Gives (.retire who ch v) s (fun m =>
    m = (s.m.retireErr ch 8).answered ∧ m.fld (A.MEM_MIG_STS ch.val) 31 24 = 8)) ∧
  (∀ (m1 : Mach) (res : List Nat) (plan : List MigPage), s.m.writeOpen who (A.MEM_CH_CTL ch.val) → bitOf v.toNat 0 = true →
    s.m.chOwner ch = some p.val → s.m.chState ch = 3 → s.m.retiring p = false →
    2 ≤ ((s.m.channelsOf p).filter (fun c => s.m.chState c ≠ 5)).length → s.m.fld (A.LOAM_MODE p.val) 1 0 < 2 → s.m.snapLen p = 0 →
    tablesIn (s.m.tree p).2 ch = false → s.m.reserveList p = (m1, .ok res) →
    res.all (m1.reserveOk p ch) = true →
    assignReserve res ((s.m.tree p).1.filter (fun g => chanOf g.pa = ch.val)) = some plan →
    Gives (.retire who ch v) s (fun m => m.resp = [(0, 0)] ∧ m.chState ch = 4 ∧ m.fld (A.LOAM_MODE p.val) 1 0 = 3 ∧
      tfind m.mem.mig ch = some (s.m.fld (A.LOAM_MODE p.val) 1 0, plan) ∧ m.bit (A.MEM_CH_CTL ch.val) 0 = true)) ∧
  (∀ (mode : Nat) (g : MigPage) (r : List MigPage), s.m.chState ch = 4 → tfind s.m.mem.mig ch = some (mode, g :: r) → s.m.chOwner ch = some p.val →
    Gives (.retirePageDone ch) s (fun m => tfind m.mem.mig ch = some (mode, r) ∧
      m.fld (A.MEM_MIG_STS ch.val) 23 0 = min (s.m.fld (A.MEM_MIG_STS ch.val) 23 0 + 1) (2 ^ 24 - 1) ∧
      ∀ e ∈ m.mem.leaf, e ∈ s.m.mem.leaf ∧ ¬ (e.part = p.val ∧ e.va < g.va + lvlSpan g.lvl ∧ g.va < e.va + lvlSpan e.lvl))) ∧
  (∀ mode : Nat, s.m.chState ch = 4 → tfind s.m.mem.mig ch = some (mode, []) → s.m.chOwner ch = some p.val → mode < 4 → s.m.handles p = [] →
    Gives (.retireDone ch) s (fun m => m.chState ch = 5 ∧ m.fld (A.LOAM_MODE p.val) 1 0 = mode ∧ tfind m.mem.mig ch = none ∧
      m.bit (A.MEM_CH_CTL ch.val) 0 = false)) ∧
  (s.m.chState ch ≠ 0 → s.m.chState ch ≠ 5 → tget s.m.mem.scrubAt ch 0 + 1 < 2 ^ 27 →
    s.m.mem.poison.contains (ch.val * 2 ^ 27 + tget s.m.mem.scrubAt ch 0) = false →
    Gives (.scrubLine ch none false) s (fun m => tget m.mem.scrubAt ch 0 = tget s.m.mem.scrubAt ch 0 + 1 ∧ m.raised = s.m.raised ∧
      (∀ a, m.rd a = s.m.rd a) ∧ m.mem.cells = s.m.mem.cells) ∧
    Gives (.scrubLine ch none true) s (fun m => m.mem.poison.contains (ch.val * 2 ^ 27 + tget s.m.mem.scrubAt ch 0) = true ∧
      m.raised = s.m.raised ++ [(0x51, 0x80 + ch.val, (ch.val * 2 ^ 27 + tget s.m.mem.scrubAt ch 0) % 2 ^ 32)] ∧
      m.rd (A.MEM_UNCORR ch.val) = BitVec.ofNat 32 (min ((s.m.rd (A.MEM_UNCORR ch.val)).toNat + 1) (2 ^ 32 - 1)))) ∧
  (s.m.chState ch = 0 → Unmoved (.scrubLine ch none true) s)

/-! ### Partitions and the operator's debug window -/

/-- CREATE, GROW, DESTROY and service events (R528 to R532, R538, R562). -/
def Obligations.PartitionRowsComplete : Prop := ∀ (s : State) (who : Ident) (p : Fin 16) (v : Word),
  (s.m.writeOpen who A.ATT_CMD → s.m.bit A.ATT_RES 31 = true → s.m.fld A.ATT_SEL 3 0 = p.val →
    (v.toNat % 16 = 1 → s.m.createCheck p = none → Gives (.create who v) s (fun m => m = (s.m.create p).answered ∧
      (∀ t ∈ s.m.reqTiles p, m.tileOwner t = some p.val ∧ m.tile t = {}) ∧ (∀ t, t ∉ s.m.reqTiles p → m.tileOwner t = s.m.tileOwner t ∧ m.tile t = s.m.tile t) ∧
      (∀ c ∈ s.m.reqChans p, m.chOwner c = some p.val ∧ m.chState c = 1) ∧ p.val ∈ m.att.creating ∧
      m.fld (A.LOAM_MODE p.val) 1 0 = 1 ∧ m.bit A.ATT_RES 31 = false)) ∧
    (∀ c d, v.toNat % 16 = 1 → s.m.createCheck p = some (c, d) → Gives (.create who v) s (fun m => m = (s.m.attRes p c d true).answered)) ∧
    (v.toNat % 16 = 2 → s.m.partState p = 1 → s.m.reqKeys p = s.m.keysOf p → subset (s.m.tilesOf p) (s.m.reqTiles p) = true →
      subset (s.m.liveChans p) (s.m.reqChans p) = true → subset (s.m.waysOf p) (s.m.reqWays p) = true →
      s.m.resCheck p ((s.m.reqTiles p).filter (fun t => !(s.m.tilesOf p).contains t)) ((s.m.reqChans p).filter (fun c => !(s.m.liveChans p).contains c))
        ((s.m.reqWays p).filter (fun w => !(s.m.waysOf p).contains w)) none = none →
      Gives (.grow who v) s (fun m => m.resp = [(0, 0)] ∧ m.rd A.ATT_RES = BitVec.ofNat 32 (2 ^ 31 + p.val * 2 ^ 24) ∧
        (∀ t ∈ s.m.reqTiles p, m.tileOwner t = some p.val) ∧ ∀ w ∈ s.m.reqWays p, m.wayOwner w = some p.val)) ∧
    (v.toNat % 16 = 2 → s.m.partState p ≠ 1 → Gives (.grow who v) s (fun m => m = (s.m.attRes p 1 0 true).answered)) ∧
    (v.toNat % 16 = 3 → p.val ≠ 0 → s.m.partState p = 1 → Gives (.destroy who v) s (fun m => m = (s.m.destroyStart p).answered ∧
      m.rd A.ATT_RES = BitVec.ofNat 32 (p.val * 2 ^ 24))) ∧
    (v.toNat % 16 = 3 → p.val = 0 → Gives (.destroy who v) s (fun m => m = (s.m.attRes p 9 0 true).answered))) ∧
  (p.val ∈ s.m.att.creating → Gives (.partitionActive p) s (fun m => m.partState p = 1 ∧ p.val ∉ m.att.creating ∧
    m.rd A.ATT_RES = BitVec.ofNat 32 (2 ^ 31 + p.val * 2 ^ 24))) ∧
  (s.m.partState p = 2 → s.m.drained p = true → Gives (.destroyDrained p) s (fun m => m.partState p = 0 ∧
    m.rd A.ATT_RES = BitVec.ofNat 32 (2 ^ 31 + p.val * 2 ^ 24) ∧ (∀ t, m.tileOwner t ≠ some p.val) ∧ (∀ w, m.wayOwner w ≠ some p.val) ∧
    ∀ t, s.m.tileOwner t ≠ some p.val → m.tileOwner t = s.m.tileOwner t)) ∧
  (s.m.att.service = true → s.m.phs.slotEdge = true → Gives .serviceEvent s (fun m => m.att.service = false ∧ m = s.m.serviceEvent)) ∧
  (s.m.att.service = false → Unmoved .serviceEvent s)

/-- The debug window (R540 to R544, R565): HALT holds a tile that is not sealed, STEP lets a held tile issue once, and a read leaves its
record at DBG_OUT. -/
def Obligations.DebugRowsComplete : Prop := ∀ (s : State) (who : Ident) (t : Fin 80) (v : Word),
  (s.m.writeOpen who A.DBG_HALT → v.toNat % 128 = t.val → bitOf v.toNat 31 = true → s.m.tileSealed t = false →
    (bitOf v.toNat 30 = false → Gives (.dbgHalt who v) s (fun m => m.resp = [(0, 0)] ∧ (m.tile t).halted = true ∧ (m.tile t).step = false ∧
      m.fld A.DBG_HALT 6 0 = t.val ∧ m.bit A.DBG_HALT 31 = true)) ∧
    (bitOf v.toNat 30 = true → (s.m.tile t).halted = true → s.m.fld A.DBG_HALT 6 0 = t.val → Gives (.dbgStep who v) s (fun m =>
      m.resp = [(0, 0)] ∧ (m.tile t).halted = true ∧ (m.tile t).step = true ∧ ∀ u, u ≠ t.val → m.tile u = s.m.tile u))) ∧
  (s.m.writeOpen who A.DBG_HALT → v.toNat % 128 = t.val → bitOf v.toNat 31 = true → s.m.tileSealed t = true →
    Gives (.dbgHalt who v) s (fun m => m.fld A.DBG_RES 7 0 = 5 ∧ m.bit A.DBG_HALT 31 = false ∧ ∀ u, m.tile u = s.m.tile u)) ∧
  (s.m.writeOpen who A.DBG_CMD → v.toNat % 128 = 0x21 → bitsOf (s.m.rd64 A.DBG_SRC_LO) 38 32 = t.val → s.m.fld A.DBG_LEN 16 0 = 1024 →
    (s.m.tile t).halted = false → Gives (.dbgRead who v) s (fun m => m = (s.m.dbgRes 4 false false).answered)) ∧
  (∀ m2 : Mach, s.m.writeOpen who A.DBG_CMD → v.toNat % 128 = 0x21 → bitsOf (s.m.rd64 A.DBG_SRC_LO) 38 32 = t.val →
    s.m.fld A.DBG_LEN 16 0 = 1024 → (s.m.tile t).halted = true → s.m.tileSealed t = false → s.m.tileOwner t = none →
    ({ s.m with free := s.m.free + 1 } : Mach).vwrite ((Config.freeBits s.m.free).toNat % 8) 0
      (s.m.fld A.DBG_OUT_HI 15 0 * 2 ^ 32 + s.m.fld A.DBG_OUT_LO 31 6 * 64)
      (s.m.dumpHead 2 0 (s.m.rd64 A.DBG_SRC_LO) 1024 0 false false ++ s.m.stateBytes t) = (m2, none) →
    Gives (.dbgRead who v) s (fun m => m.mem = m2.mem ∧ m.rd A.DBG_RES = BitVec.ofNat 32 (2 ^ 31)))

/-! ### Keys and entropy -/

/-- The key window and the tag scan (R569 to R572, R576, R578, R581). -/
def Obligations.KeyRowsComplete : Prop := ∀ (s : State) (who : Ident) (v : Word),
  let k := s.m.fld A.KEY_SEL 8 0
  let attr := s.m.fld A.KEY_ATTR 7 0
  let l := s.m.bit A.KEY_ATTR 8
  let ps := s.m.fld A.KEY_SEL 24 16
  let res (code : Nat) : Word := BitVec.ofNat 32 (2 ^ 31 + k * 256 + code)
  (s.m.writeOpen who A.KEY_CMD →
    (v.toNat % 16 = 1 → s.m.keyOwner k = some 0 → s.m.slotFree k = true → attr.testBit 7 = false → attrOk attr l = true →
      s.m.fld A.SILT_STS 2 0 = 2 → Gives (.generate who v) s (fun m => m.resp = [(0, 0)] ∧ m.rd A.KEY_RES = res 0 ∧
        (m.slot k).state = 1 ∧ (m.slot k).attr = attr ∧ (m.slot k).pinned = false ∧ (m.slot k).value.length = (if l then 64 else 32) ∧
        ∀ j, j ≠ k → m.slot j = s.m.slot j)) ∧
    (v.toNat % 16 = 2 → s.m.keyOwner k = some 0 → s.m.slotFree k = true → (s.m.slot ps).state = 1 → (s.m.slot ps).tagOk = true →
      (s.m.slot ps).attr.testBit 6 = true → s.m.keyOwner ps = some 0 → attr &&& (s.m.slot ps).attr = attr → attrOk attr l = true →
      Gives (.derive who v) s (fun m => m.rd A.KEY_RES = res 0 ∧ (m.slot k).state = 1 ∧ (m.slot k).pinned = true ∧ (m.slot k).parent = ps ∧
        (m.slot k).value = deriveChild (s.m.slot ps).value s.m.keyLabel s.m.keyCtx 0 l ∧ ∀ j, j ≠ k → m.slot j = s.m.slot j)) ∧
    (v.toNat % 16 = 3 → s.m.keyOwner k = some 0 → s.m.slotInUse 0 k = false → Gives (.keyCmdErase who v) s (fun m => m.rd A.KEY_RES = res 0 ∧
      m.slot k = {} ∧ ∀ j, j ≠ k → m.slot j = s.m.slot j)) ∧
    (v.toNat % 16 = 4 → s.m.keyOwner k = some 0 → (s.m.slot k).tagOk = true → Gives (.check who v false) s (fun m =>
      m = (s.m.keyRes k 0).answered)) ∧
    (v.toNat % 16 = 4 → s.m.keyOwner k = some 0 → (s.m.slot k).state = 1 → (s.m.slot k).tagOk = false → Gives (.check who v false) s (fun m =>
      m.rd A.KEY_RES = res 6 ∧ (m.slot k).state = 2 ∧ (m.slot k).value = [] ∧ m.raised = s.m.raised ++ [(0x78, 0x131, k)])) ∧
    (s.m.keyOwner k ≠ some 0 → (v.toNat % 16 = 1 → Gives (.generate who v) s (fun m => m = (s.m.keyRes k 1).answered)) ∧
      (v.toNat % 16 = 2 → Gives (.derive who v) s (fun m => m = (s.m.keyRes k 1).answered)) ∧
      (v.toNat % 16 = 3 → Gives (.keyCmdErase who v) s (fun m => m = (s.m.keyRes k 1).answered)))) ∧
  (∀ j : Fin 512, s.m.phs.frameEdge = true → (s.m.slot j).state = 1 → (∀ i, i ≠ j.val → (s.m.slot i).tagOk = true) →
    Gives (.slotTagScan [j.val]) s (fun m => (m.slot j).state = 2 ∧ (m.slot j).value = [] ∧ m.raised = s.m.raised ++ [(0x78, 0x131, j.val)] ∧
      ∀ i, i ≠ j.val → m.slot i = s.m.slot i)) ∧
  (s.m.phs.frameEdge = false → Unmoved (.slotTagScan []) s)

/-- The entropy source (R254, R582 to R590, R596, R597). -/
def Obligations.SiltRowsComplete : Prop := ∀ (s : State) (who : Ident),
  (s.m.siltState = 0 → Gives (.siltStartupDone none) s (fun m => m.siltState = 1 ∧ m.bit A.SILT_CTL 0 = false ∧ m.silt.held = 0 ∧ m.silt.next = 0)) ∧
  (∀ i : Fin 38, s.m.siltState = 0 → Gives (.siltStartupDone (some i)) s (fun m => m.siltState = 4 ∧ m.bit (A.DRBG_STS i.val) 30 = true ∧
    m.raised = s.m.raised ++ [(0x21, 0x132, i.val)])) ∧
  (∀ (c : Fin 8) (apt : Bool), s.m.siltState ≠ 4 → s.m.bit A.SILT_CFG c = true → s.m.bit A.SILT_STS (24 + c.val) = false →
    Gives (.siltHealthFail c apt) s (fun m => m.bit A.SILT_STS (24 + c.val) = true ∧ m.silt.held = 0 ∧
      m.siltState = (if 2 ≤ s.m.fld A.SILT_FAILS 1 0 then 4 else 3) ∧ (∀ i : Fin 38, m.drbgOn i = false) ∧
      m.raised = s.m.raised ++ [(0x20, 0x132, c.val + 256 * b2n apt)])) ∧
  (s.m.siltState = 1 ∨ s.m.siltState = 2 → Gives .siltBlockComplete s (fun m => m.silt.held = s.m.silt.held + 1 ∧ m.siltState = s.m.siltState ∧
    m.silt.pool = s.m.silt.pool)) ∧
  (s.m.siltState = 2 → 0 < s.m.silt.held → Gives .siltBlockRelease s (fun m => m.silt.held = s.m.silt.held - 1 ∧ m.silt.pool = s.m.silt.pool + 1 ∧
    m.rd A.SILT_BLOCKS = BitVec.ofNat 32 (min ((s.m.rd A.SILT_BLOCKS).toNat + 1) (2 ^ 32 - 1)))) ∧
  (s.m.siltState = 1 → 0 < s.m.silt.held → s.m.silt.pool = 1 → 0 < s.m.silt.next → s.m.silt.next < 37 → s.m.silt.again = false →
    Gives .siltBlockRelease s (fun m => m.silt.pool = 0 ∧ m.silt.next = s.m.silt.next + 1 ∧ m.drbgOn s.m.silt.next = true ∧ m.siltState = 1)) ∧
  (∀ i : Fin 38, s.m.siltState = 2 → s.m.drbgOn i = true → 2 ≤ s.m.silt.pool → Gives (.drbgReseed i) s (fun m => m.silt.pool = s.m.silt.pool - 2 ∧
    m.fld (A.DRBG_STS i.val) 15 0 = min (s.m.fld (A.DRBG_STS i.val) 15 0 + 1) (2 ^ 16 - 1))) ∧
  (∀ v : Word, s.m.writeOpen who A.SILT_CTL → bitOf v.toNat 0 = true → s.m.siltState = 3 → Gives (.restart who v) s (fun m =>
    m.resp = [(0, 0)] ∧ m.siltState = 0 ∧ m.silt.again = true ∧ m.fld A.SILT_STS 31 24 = 0 ∧ m.bit A.SILT_CTL 0 = true)) ∧
  (∀ v : Word, s.m.writeOpen who A.SILT_CTL → bitOf v.toNat 0 = true → s.m.siltState ≠ 3 → Gives (.restart who v) s (fun m =>
    m = (s.m.putBit A.SILT_STS 7 true).answered)) ∧
  (∀ v : Word, s.m.writeOpen who A.SILT_CFG → s.m.siltState = 3 → 4 ≤ ((List.range 8).filter (fun c => v.toNat.testBit c)).length →
    Gives (.siltCfgWrite who v) s (fun m => m.resp = [(0, 0)] ∧ m.rd A.SILT_CFG = v &&& 0xFF)) ∧
  (∀ p : Fin 16, s.m.readOpen who (A.SILT_DATA p.val) → s.m.drbgOn (22 + p.val) = true → Gives (.siltDataRead who p) s (fun m =>
    m.resp = [(0, (Config.freeBits s.m.free).setWidth 32)] ∧ m.free = s.m.free + 1 ∧
    m.rd (A.SILT_DCNT p.val) = BitVec.ofNat 32 (min ((s.m.rd (A.SILT_DCNT p.val)).toNat + 1) (2 ^ 32 - 1)))) ∧
  (∀ p : Fin 16, s.m.readOpen who (A.SILT_DATA p.val) → s.m.drbgOn (22 + p.val) = false → Gives (.siltDataRead who p) s (fun m =>
    m.resp = [(0, 0)] ∧ m.bit (A.SILT_DSTS p.val) 31 = true)) ∧
  (s.m.readOpen who A.SILT_RAW → s.m.lcs = 1 → Gives (.siltRawRead who) s (fun m => m.resp = [(0, (Config.freeBits s.m.free).setWidth 32)])) ∧
  (s.m.readOpen who A.SILT_RAW → s.m.lcs ≠ 1 → Gives (.siltRawRead who) s (fun m => m.resp = [(0, 0)] ∧ ∀ a, m.rd a = s.m.rd a))

/-! ### Interrupts -/

/-- R601: a firing makes an IDLE source PENDING with COUNT 0, and counts where the source is PENDING or IN_SERVICE; a clear ends PENDING;
a completion leaves IDLE, or PENDING with one firing less. No other source moves. -/
def Obligations.SourceStates : Prop := ∀ (m : Mach) (x y : Fin 1024), x ≠ y →
  (m.srcState x = 0 → (m.fire x).srcState x = 1 ∧ (m.fire x).srcCount x = 0) ∧
  (m.srcState x = 1 → (m.fire x).srcState x = 1 ∧ (m.fire x).srcCount x = min (m.srcCount x + 1) 255) ∧
  (m.srcState x = 2 → (m.fire x).srcState x = 2 ∧ (m.fire x).srcCount x = min (m.srcCount x + 1) 255) ∧
  (m.srcState x = 1 → (m.pendClear x).srcState x = 0 ∧ (m.pendClear x).srcCount x = 0) ∧
  (m.srcState x ≠ 1 → m.pendClear x = m) ∧
  (m.srcCount x = 0 → (m.complete x).srcState x = 0) ∧
  (m.srcCount x ≠ 0 → (m.complete x).srcState x = 1 ∧ (m.complete x).srcCount x = m.srcCount x - 1) ∧
  (∀ f ∈ [Mach.fire, Mach.pendClear, Mach.complete], (f m x).srcState y = m.srcState y ∧ (f m x).srcCount y = m.srcCount y ∧
    (∀ z : Fin 1024, (f m x).rd (A.INT_CFG z) = m.rd (A.INT_CFG z)) ∧ (f m x).mem = m.mem)

/-- Routing, entry, exit and completion at the control cores, delivery to hosts, and wake (R602, R604 to R608, R612, R613, R618). -/
def Obligations.InterruptEventsComplete : Prop := ∀ (s : State) (c : Fin 8),
  (s.m.routable = [] → Gives .irqRoute s (fun m => m.irq = s.m.irq)) ∧
  (∀ x, s.m.routable = [x] → s.m.pickCore [] x = some c.val → Gives .irqRoute s (fun m => m.irq.transit = s.m.irq.transit ++ [(c.val, x)] ∧
    m.irq.stack = s.m.irq.stack ∧ ∀ a, m.rd a = s.m.rd a)) ∧
  (∀ x : Fin 512, s.m.irq.transit.find? (fun e => e.1 = c.val) = some (c.val, x.val) → s.m.srcState x = 1 → s.m.inExit c = false →
    s.m.coreRp c < s.m.srcPrio x + 1 → (tget s.m.irq.stack c []).length < 31 → Gives (.entry c) s (fun m => m.srcState x = 2 ∧ m.srcCount x = 0 ∧
      tget m.irq.stack c [] = (s.m.srcPrio x, x.val, s.m.srcCount x) :: tget s.m.irq.stack c [] ∧ m.fld (A.INT_SRC_STS x.val) 29 27 = c.val ∧
      m.bit (A.INT_SRC_STS x.val) 26 = false ∧ m.rd (A.CC_CUR c.val) = BitVec.ofNat 32 (2 ^ 31 + s.m.srcCount x * 2 ^ 16 + x.val) ∧
      m.fld (A.CC_STS c.val) 20 16 = (tget s.m.irq.stack c []).length + 1 ∧ m.fld (A.CC_STS c.val) 4 0 = s.m.srcPrio x)) ∧
  (s.m.irq.transit.find? (fun e => e.1 = c.val) = none → Unmoved (.entry c) s) ∧
  (tget s.m.irq.stack c [] ≠ [] → s.m.inExit c = false → Gives (.exit c) s (fun m => m.inExit c = true ∧ m.irq = s.m.irq)) ∧
  (tget s.m.irq.stack c [] ≠ [] → s.m.inExit c = true → Gives (.exit c) s (fun m => m.inExit c = false ∧
    tget m.irq.stack c [] = (tget s.m.irq.stack c []).tail)) ∧
  (tget s.m.irq.stack c [] = [] → Unmoved (.exit c) s) ∧
  (∀ src : BitVec 10, s.m.srcState src.toNat = 2 → s.m.bit (A.INT_SRC_STS src.toNat) 26 = false → s.m.fld (A.INT_SRC_STS src.toNat) 29 27 = c.val →
    Gives (.ccCmpl c src) s (fun m => m = s.m.complete src.toNat)) ∧
  (∀ src : BitVec 10, s.m.srcState src.toNat ≠ 2 → Gives (.ccCmpl c src) s (fun m => m = s.m.bump A.INT_SPURIOUS_CMPL)) ∧
  (∀ (src : BitVec 10) (p : Fin 16), s.m.deliverTo src.toNat = some p.val → Gives (.hostDelivery src) s (fun m => m.srcState src.toNat = 2 ∧
    m.srcCount src.toNat = 0 ∧ m.bit (A.INT_SRC_STS src.toNat) 26 = true ∧ tfind m.irq.host src.toNat = some p.val)) ∧
  (∀ src : BitVec 10, s.m.srcMasked src.toNat = true → Unmoved (.hostDelivery src) s) ∧
  (∀ p : Fin 16, s.m.qOcc (hostBlock p) ≠ 0 → Gives (.hostEventSend p) s (fun m => m = s.m.hostSend p)) ∧
  (∀ p : Fin 16, s.m.qOcc (hostBlock p) ≠ 0 → s.m.bit (A.INT_HDEST p.val) 31 = false → Gives (.hostEventSend p) s (fun m =>
    m.rd (A.INT_HLOST p.val) = BitVec.ofNat 32 (min ((s.m.rd (A.INT_HLOST p.val)).toNat + 1) (2 ^ 32 - 1)) ∧ m.net.txq = s.m.net.txq)) ∧
  (∀ (l : BitVec 4) (i : Fin 4), s.m.fld A.PWR_STS 1 0 = 1 → l.toNat.testBit i = true → s.m.srcState i = 0 → Gives (.wake l) s (fun m =>
    m.fld A.PWR_STS 1 0 = 0 ∧ m.fld A.INT_WAKE 3 0 = s.m.fld A.INT_WAKE 3 0 ||| l.toNat ∧ m.srcState i = 1 ∧ m.srcCount i = 0))

/-- Writes of the interrupt registers (R600 to R602, R611, R615 to R617, R622). -/
def Obligations.InterruptWritesComplete : Prop := ∀ (s : State) (who : Ident) (v : Word),
  let x := v.toNat % 1024
  (s.m.writeOpen who A.INT_DOORBELL → Gives (.intDoorbell who v) s (fun m => m = (s.m.fire x).answered ∧
    (s.m.srcState x = 0 → m.srcState x = 1))) ∧
  (s.m.writeOpen who A.INT_SW_PEND → x < 512 → Gives (.intSwPend who v) s (fun m => m = (s.m.fire x).answered)) ∧
  (s.m.writeOpen who A.INT_SW_PEND → 512 ≤ x → Gives (.intSwPend who v) s (fun m => m = s.m.answered)) ∧
  (s.m.writeOpen who A.INT_O_PCLR → x < 512 → s.m.srcState x = 1 → Gives (.intOPclr who v) s (fun m => m.resp = [(0, 0)] ∧ m.srcState x = 0)) ∧
  (∀ p : Fin 16, s.m.writeOpen who (A.INT_HCMPL p.val) → s.m.srcState x = 2 → s.m.bit (A.INT_SRC_STS x) 26 = true → tfind s.m.irq.host x = some p.val →
    Gives (.intHcmpl who p v) s (fun m => m = (s.m.complete x).answered)) ∧
  (∀ p : Fin 16, s.m.writeOpen who (A.INT_HCMPL p.val) → s.m.srcState x ≠ 2 → Gives (.intHcmpl who p v) s (fun m =>
    m = ((s.m.bump A.INT_SPURIOUS_CMPL).bump (A.INT_HSPUR p.val)).answered)) ∧
  (∀ (k : Fin 16) (i : Fin 32), v.toNat.testBit i = true → (who = .part 0 ∨ ∃ p : Fin 16, who = .part p ∧ s.m.srcOwner (512 + 32 * k.val + i.val) = some p.val) →
    (s.m.writeOpen who (A.T_MSET k.val) → Gives (.tMset who k v) s (fun m => m.resp = [(0, 0)] ∧ m.srcMasked (512 + 32 * k.val + i.val) = true)) ∧
    (s.m.writeOpen who (A.T_MCLR k.val) → Gives (.tMclr who k v) s (fun m => m.resp = [(0, 0)] ∧ m.srcMasked (512 + 32 * k.val + i.val) = false)) ∧
    (s.m.writeOpen who (A.T_PCLR k.val) → s.m.srcState (512 + 32 * k.val + i.val) = 1 → Gives (.tPclr who k v) s (fun m => m.resp = [(0, 0)] ∧
      m.srcState (512 + 32 * k.val + i.val) = 0))) ∧
  (∀ (k : Fin 16) (i : Fin 32) (p : Fin 16), p ≠ 0 → s.m.srcOwner (512 + 32 * k.val + i.val) ≠ some p.val → s.m.writeOpen (.part p) (A.T_MSET k.val) →
    Gives (.tMset (.part p) k v) s (fun m => m.srcMasked (512 + 32 * k.val + i.val) = s.m.srcMasked (512 + 32 * k.val + i.val))) ∧
  (∀ n : Fin 16, s.m.writeOpen who (A.INT_HV_OWN n.val) → (∀ y : Fin 1024, s.m.srcState y = 0) → Gives (.intOwnWrite who true n v) s (fun m =>
    m.resp = [(0, 0)] ∧ m.rd (A.INT_HV_OWN n.val) = v &&& 0x8F8F8F8F)) ∧
  (∀ n : Fin 16, s.m.writeOpen who (A.INT_T_OWN n.val) → (∀ y : Fin 1024, s.m.srcState y = 0) → Gives (.intOwnWrite who false n v) s (fun m =>
    m.resp = [(0, 0)] ∧ m.rd (A.INT_T_OWN n.val) = v &&& 0x8F8F8F8F)) ∧
  (∀ src : BitVec 10, src.toNat < 512 → s.m.writeOpen who (A.INT_CFG src.toNat) → (bitOf v.toNat 30 = true → s.m.vecOwner (bitsOf v.toNat 29 24) = some 0) →
    Gives (.intCfgWrite who src v) s (fun m => m.resp = [(0, 0)] ∧ m.rd (A.INT_CFG src.toNat) = v &&& 0xFFFF000F)) ∧
  (∀ src : BitVec 10, src.toNat < 512 → s.m.writeOpen who (A.INT_CFG src.toNat) → bitOf v.toNat 30 = true → s.m.vecOwner (bitsOf v.toNat 29 24) ≠ some 0 →
    Gives (.intCfgWrite who src v) s (fun m => m = (s.m.putBit A.INT_STS 30 true).answered)) ∧
  (∀ c : Fin 8, s.m.writeOpen who (A.CC_THRESH c.val) → Gives (.ccCtlThreshWrite who c true v) s (fun m => m.resp = [(0, 0)] ∧
    m.fld (A.CC_THRESH c.val) 3 0 = bitsOf v.toNat 3 0)) ∧
  (∀ c : Fin 8, s.m.writeOpen who (A.CC_CTL c.val) → Gives (.ccCtlThreshWrite who c false v) s (fun m => m.resp = [(0, 0)] ∧
    m.bit (A.CC_CTL c.val) 0 = bitOf v.toNat 0))

/-! ### Faults -/

/-- R630: the first fault of the device is recorded with its class, source, unit, DETAIL and phase; while a record stands, a further fault
is only marked in FLT_OVF, and merges into its unit's record.

What the handling of a fault counts, and its effect on the unit (R630, R632 to R634, R640). -/
def Obligations.FaultRecordsAndReactions : Prop :=
  (∀ (m : Mach) (src u cls detail : Nat) (inj : Bool), src < 256 → u < 2 ^ 12 → 1 ≤ cls → cls ≤ 5 →
  let r := m.latchFault src u cls detail inj
  (m.bit A.FLT_FIRST_STS 31 = false → r.2 = true ∧ r.1.bit A.FLT_FIRST_STS 31 = true ∧ r.1.bit A.FLT_FIRST_STS 30 = false ∧
    r.1.fld A.FLT_FIRST_STS 29 27 = cls ∧ r.1.fld A.FLT_FIRST_STS 23 16 = src ∧ r.1.fld A.FLT_FIRST_STS 11 0 = u ∧
    r.1.rd A.FLT_FIRST_DET = BitVec.ofNat 32 detail ∧ r.1.rd64 A.FLT_FIRST_PH_LO = m.phase ∧ r.1.rd A.FLT_OVF = BitVec.ofNat 32 (2 ^ cls)) ∧
  (m.bit A.FLT_FIRST_STS 31 = true → r.2 = false ∧ r.1.bit A.FLT_FIRST_STS 30 = true ∧ r.1.bit A.FLT_OVF cls = true ∧
    r.1.fld A.FLT_FIRST_STS 29 0 = m.fld A.FLT_FIRST_STS 29 0 ∧ r.1.rd A.FLT_FIRST_DET = m.rd A.FLT_FIRST_DET) ∧
  (tfind m.flt.units u = none → tfind r.1.flt.units u = some ⟨src, cls, detail, m.phase, false, inj⟩) ∧
  (∀ e, tfind m.flt.units u = some e → tfind r.1.flt.units u = some { e with merged := true }) ∧
  (∀ w, w ≠ u → tfind r.1.flt.units w = tfind m.flt.units w)) ∧
  (∀ (m : Mach) (src u cls detail : Nat) (inj : Bool), src ≠ 0x82 → src ≠ 0x84 → 1 ≤ cls → cls ≤ 5 →
  u < 0x150 → m.taken src u cls = 0 →
  (src ∉ [0x01, 0x02, 0x03, 0x04, 0x05, 0x30, 0x81, 0x90]) →
  (m.handleFault src u cls detail inj).rd (A.FLT_CNT cls) = BitVec.ofNat 32 (min ((m.rd (A.FLT_CNT cls)).toNat + 1) (2 ^ 32 - 1)) ∧
  (cls = 1 → (m.handleFault src u cls detail inj).unitState u = m.unitState u) ∧
  (cls = 2 → m.unitState u = 1 → (m.handleFault src u cls detail inj).unitState u = 2) ∧
  (m.handleFault src u cls detail inj).fld (A.FLT_USTS u) 15 0 = min (m.fld (A.FLT_USTS u) 15 0 + 1) (2 ^ 16 - 1) ∧
  (2 ≤ cls → (m.handleFault src u cls detail inj).rd A.FLT_RECOV = BitVec.ofNat 32 (min ((m.rd A.FLT_RECOV).toNat + 1) (2 ^ 32 - 1))) ∧
  (unitShared u = true → (m.handleFault src u cls detail inj).att.service = true) ∧
  (m.handleFault src u cls detail inj).mem = m.mem ∧ (m.handleFault src u cls detail inj).irq = m.irq)

/-- Fault inputs, the pin, mismatches, leases and saturated counters (R626, R630, R636, R637, R639, R640). -/
def Obligations.FaultEventsComplete : Prop := ∀ s : State,
  (∀ (src : Byte) (u : BitVec 16) (detail : Word) (cls : Nat), s.m.isGone everyTarget = false → srcClass src.toNat u.toNat = some cls →
    s.m.flt.inj.contains (src.toNat, u.toNat, detail.toNat) = false → s.m.raised.contains (src.toNat, u.toNat, detail.toNat) = true →
    Gives (.faultInput src u detail) s (fun m =>
      m = ({ s.m with raised := s.m.raised.erase (src.toNat, u.toNat, detail.toNat) } : Mach).handleFault src.toNat u.toNat cls detail.toNat false)) ∧
  (∀ (src : Byte) (u : BitVec 16) (detail : Word) (cls : Nat), s.m.isGone everyTarget = false → srcClass src.toNat u.toNat = some cls →
    s.m.flt.inj.contains (src.toNat, u.toNat, detail.toNat) = false → s.m.raised.contains (src.toNat, u.toNat, detail.toNat) = false →
    Gives (.faultInput src u detail) s (fun m => m = (s.m.detected src.toNat u.toNat detail.toNat).handleFault src.toNat u.toNat cls detail.toNat false)) ∧
  (∀ (src : Byte) (u : BitVec 16) (detail : Word), s.m.isGone everyTarget = false → srcClass src.toNat u.toNat = none → Unmoved (.faultInput src u detail) s) ∧
  (s.m.bit A.FLT_PIN 30 = true → s.m.bit A.FLT_PIN 3 = false → Gives .errnRelease s (fun m => m.bit A.FLT_PIN 30 = false ∧
    m.bit A.FLT_PIN 31 = false ∧ m.outputs.errN = true)) ∧
  (s.m.bit A.FLT_PIN 3 = true → Unmoved .errnRelease s) ∧
  (∀ (u : BitVec 16) (g : BitVec 3), s.m.phs.slotEdge = true → unitUsed u.toNat = true → s.m.unitState u.toNat ≠ g.toNat →
    Gives (.mgmtMismatch u g) s (fun m => m.raised = s.m.raised ++ [(0x90, u.toNat, g.toNat + 16 * s.m.unitState u.toNat)])) ∧
  (∀ (u : BitVec 16) (g : BitVec 3), s.m.unitState u.toNat = g.toNat → Unmoved (.mgmtMismatch u g) s) ∧
  (∀ (k : Fin 8) (u : BitVec 16), s.m.leaseDue k u.toNat = true → Gives (.leaseReclaim k u) s (fun m => (k.val, u.toNat) ∈ m.flt.reclaimed ∧
    (k = 5 → m.raised = s.m.raised ++ [(0x91, 0x14F, 5 + u.toNat * 2 ^ 16)]) ∧
    (k = 2 → ∀ e ∈ m.tiles, ∀ r ∈ e.2.inbox, (tget e.2.chTab r.ch (.none, .none)).1 ≠ .tile u.toNat))) ∧
  (∀ c : Fin 5, (s.m.rd (A.FLT_CNT (c.val + 1))).toNat = 2 ^ 32 - 1 → s.m.flt.satTold.contains (c.val + 1) = false → Gives (.cntSat c) s (fun m =>
    m.raised = s.m.raised ++ [(0x92, 0x14F, c.val + 1)] ∧ c.val + 1 ∈ m.flt.satTold)) ∧
  (∀ c : Fin 5, (s.m.rd (A.FLT_CNT (c.val + 1))).toNat < 2 ^ 32 - 1 → Unmoved (.cntSat c) s)

/-- Writes of the fault registers (R631, R633, R635, R642, R648). -/
def Obligations.FaultWritesComplete : Prop := ∀ (s : State) (who : Ident) (v : Word),
  (s.m.writeOpen who A.FLT_FIRST_STS → bitOf v.toNat 31 = true → Gives (.fltFirstClear who v) s (fun m => m.resp = [(0, 0)] ∧
    m.rd A.FLT_FIRST_STS = 0 ∧ m.rd A.FLT_FIRST_DET = 0 ∧ m.rd64 A.FLT_FIRST_PH_LO = 0 ∧ m.rd A.FLT_OVF = 0 ∧ m.flt = s.m.flt)) ∧
  (s.m.writeOpen who A.FLT_UCLR → Gives (.fltUclr who v) s (fun m => m.resp = [(0, 0)] ∧ tfind m.flt.units (v.toNat % 4096) = none ∧
    ∀ u, u ≠ v.toNat % 4096 → tfind m.flt.units u = tfind s.m.flt.units u)) ∧
  (s.m.writeOpen who A.FLT_QUIESCE → s.m.flt.dead = false → Gives (.fltQuiesceWrite who v) s (fun m => m.resp = [(0, 0)] ∧
    m.rd A.FLT_QUIESCE = s.m.rd A.FLT_QUIESCE &&& ~~~v)) ∧
  (s.m.writeOpen who A.FLT_QUIESCE → s.m.flt.dead = true → Gives (.fltQuiesceWrite who v) s (fun m => m = s.m.answered)) ∧
  (s.m.writeOpen who A.FLT_EGRESS → s.m.flt.dead = false → bitOf v.toNat 0 = true → Gives (.fltEgressWrite who v) s (fun m =>
    m.resp = [(0, 0)] ∧ m.bit A.FLT_EGRESS 0 = false)) ∧
  (s.m.writeOpen who A.FLT_EGRESS → s.m.flt.dead = true → Gives (.fltEgressWrite who v) s (fun m => m = s.m.answered)) ∧
  (∀ c : Fin 5, s.m.writeOpen who (A.FLT_REACT (c.val + 1)) → bitsOf v.toNat 21 12 < 512 → Gives (.fltReactWrite who c v) s (fun m =>
    m.resp = [(0, 0)] ∧ m.rd (A.FLT_REACT (c.val + 1)) = (v &&& 0x3FF0DE) ||| BitVec.ofNat 32 (fixedBits (c.val + 1)))) ∧
  (∀ c : Fin 5, s.m.writeOpen who (A.FLT_REACT (c.val + 1)) → 512 ≤ bitsOf v.toNat 21 12 → Gives (.fltReactWrite who c v) s (fun m => m = s.m.answered))

/-! ### Resets, boot and firmware -/

/-- What cold and warm resets leave (R651, R655, R656): every register of the tables at its reset value, but for the fused ones and those
that a warm reset keeps; keys zeroized; phase 0 in FREE; a warm reset ends the pass of its tick (R52).

Unit and ring resets, and the writes that ask for them (R93, R653, R654, R670). -/
def Obligations.ResetsComplete : Prop :=
  (∀ s : State,
  Gives .coldReset s (fun m => m = s.m.fresh ∧ m.keys = [] ∧ m.phase = 0 ∧ m.phsState = 0 ∧ m.net.sent = s.m.net.sent ∧ m.lcs = s.m.lcs ∧
    ∀ a, a ≠ A.GLB_STS → a ≠ A.LC_STS → a ≠ A.LC_SVN → a ≠ A.FW_ASEQ → m.rd a = BitVec.ofNat 32 (resetAt a)) ∧
  (s.m.resetAsked → Gives .warmReset s (fun m => m = s.m.warm ∧ m.keys = [] ∧ m.phase = 0 ∧ m.phsState = 0 ∧ m.warmReq = false ∧
    m.sys.lcReset = false ∧ m.isGone everyTarget = true ∧ m.lcs = s.m.lcs)) ∧
  (∀ (a : Nat) (w : Word), s.m.resetAsked → s.m.flt.dead = false → warmKept a = true → s.m.regs.act.filter (fun e => e.1 = a) = [(a, w)] →
    Gives .warmReset s (fun m => m.rd a = w)) ∧
  (s.m.resetAsked → s.m.flt.dead = true → Gives .warmReset s (fun m => m.rd A.FLT_QUIESCE = 0xFFFF ∧ m.bit A.FLT_EGRESS 0 = true)) ∧
  (¬ s.m.resetAsked → Unmoved .warmReset s)) ∧
  (∀ (s : State) (who : Ident) (v : Word) (u : BitVec 16),
  (s.m.writeOpen who A.GLB_RST → bitsOf v.toNat 31 16 = 0xD7A9 → bitOf v.toNat 0 = true → Gives (.glbRst who v) s (fun m =>
    m = ({ s.m with warmReq := true } : Mach).answered ∧ m.resetAsked)) ∧
  (s.m.writeOpen who A.GLB_RST → bitsOf v.toNat 31 16 ≠ 0xD7A9 → Gives (.glbRst who v) s (fun m => m = s.m.answered)) ∧
  (s.m.writeOpen who A.RST_UNIT → s.m.bit A.LC_RES 31 = true → bitOf v.toNat 31 = true → s.m.unitState (v.toNat % 4096) = 3 →
    resettable (v.toNat % 4096) = true → Gives (.rstUnit who v) s (fun m => m.resp = [(0, 0)] ∧ v.toNat % 4096 ∈ m.sys.resetting ∧
      m.bit A.RST_UNIT 31 = true ∧ m.fld A.RST_UNIT 11 0 = v.toNat % 4096 ∧ m.rd A.LC_RES = 0)) ∧
  (s.m.writeOpen who A.RST_UNIT → s.m.bit A.LC_RES 31 = true → bitOf v.toNat 31 = true → s.m.unitState (v.toNat % 4096) ≠ 3 →
    Gives (.rstUnit who v) s (fun m => m.resp = [(0, 0)] ∧ m.sys = s.m.sys ∧ m.rd A.LC_RES = 0x80000001)) ∧
  (s.m.writeOpen who A.RST_UNIT → s.m.bit A.LC_RES 31 = false → Gives (.rstUnit who v) s (fun m => m = s.m.answered)) ∧
  (∀ ok : Bool, s.m.sys.resetting.contains u.toNat = true → Gives (.unitResetDone u ok) s (fun m => m = s.m.unitResetDone u.toNat ok)) ∧
  (∀ t : Fin 80, s.m.sys.resetting.contains t.val = true → s.m.unitState t = 3 → (s.m.tile t).node = none → s.m.gateOn t = none →
    Gives (.unitResetDone (BitVec.ofNat 16 t.val) true) s (fun m => m.unitState t = 1 ∧ m.tile t = {} ∧ m.tileState t = 0 ∧ t.val ∉ m.sys.resetting ∧
      (s.m.bit A.RST_UNIT 31 = true → s.m.fld A.RST_UNIT 11 0 = t.val → m.bit A.RST_UNIT 31 = false ∧ m.rd A.LC_RES = 0x80000000))) ∧
  (s.m.sys.resetting.contains u.toNat = false → Unmoved (.unitResetDone u true) s) ∧
  (s.m.writeOpen who A.RST_RING → bitsOf v.toNat 31 16 = 0xD7A9 → Gives (.rstRing who v) s (fun m => m.resp = [(0, 0)] ∧ m.ringReq = true ∧
    m.fld A.RST_RING 15 0 = v.toNat % 65536)) ∧
  (s.m.writeOpen who A.RST_RING → bitsOf v.toNat 31 16 ≠ 0xD7A9 → Gives (.rstRing who v) s (fun m =>
    m = (s.m.put A.RST_RING 15 0 (v.toNat % 65536)).answered)) ∧
  (s.m.ringReq = true → (∀ p : Fin 16, p ≠ 0 → s.m.partState p = 0) → (∀ n : Fin 8, s.m.ringLive n = false) → Gives .ringReset s (fun m =>
    m.phase = 0 ∧ m.phsState = 0 ∧ m.ringReq = false ∧ m.isGone everyTarget = true ∧ (∀ c : Fin 64, m.bit (A.CMP_CTL c.val) 31 = false) ∧
    m.bit A.GLB_UPD_AT_CTL 31 = false ∧ m.mem = s.m.mem ∧ m.keys = s.m.keys)) ∧
  (s.m.ringReq = true → Gives .ringReset s (fun m => m = s.m.ringReset)) ∧
  (s.m.ringReq = false → Unmoved .ringReset s))

/-- Boot: the ROM's check of the banks, training, and READY (R657 to R660, R679). -/
def Obligations.BootComplete : Prop := ∀ (s : State) (b : Fin 2) (svn : BitVec 16),
  (s.m.bankTurn b = true → tfind s.m.sys.flash b = none → s.m.fld A.LC_SVN 15 0 ≤ svn.toNat → Gives (.imageVerified b 0 svn) s (fun m =>
    m.sys.verified = true ∧ m.bit A.LC_STS 8 = (b.val == 1) ∧ m.bit A.LC_STS 9 = !s.m.sys.tried.isEmpty ∧ m.fld A.LC_SVN 31 16 = svn.toNat ∧
    m.bit A.THERM_COOL 0 = true ∧ m.sys.tried = s.m.sys.tried ++ [b.val])) ∧
  (∀ code : Fin 16, 1 ≤ code.val → code.val < 8 → s.m.bankTurn b = true → tfind s.m.sys.flash b = none → Gives (.imageVerified b code svn) s (fun m =>
    m.sys.verified = s.m.sys.verified ∧ m.sys.tried = s.m.sys.tried ++ [b.val] ∧ m.fld A.LC_STS (8 * b + 23) (8 * b + 16) = code.val)) ∧
  (∀ img : List Byte, s.m.bankTurn b = true → tfind s.m.sys.flash b = some img → romCheck img (s.m.fld A.LC_SVN 15 0) = 0 →
    Gives (.imageVerified b 0 svn) s (fun m => m.sys.verified = true ∧ m.fld A.LC_SVN 31 16 = fieldAt img 8 2)) ∧
  (s.m.bankTurn b = false → Unmoved (.imageVerified b 0 svn) s) ∧
  (s.m.sys.verified = true → Gives .dramTrained s (fun m => m.sys.dram = true ∧ ∀ (k : Fin 8) (i : Fin 4), m.rd (A.STACK_ID k.val i.val) = Config.stackId k.val i.val)) ∧
  (s.m.sys.verified = false → Unmoved .dramTrained s) ∧
  (s.m.readyDue = true → Gives .ready s (fun m => m.bit A.GLB_STS 0 = true ∧ m.partState 0 = 1 ∧ m.bit (A.MMU_KEY 0) 31 = true ∧
    m.rd64 A.LC_NONCE_LO = (Config.freeBits s.m.free).toNat ∧ m.free = s.m.free + 1 ∧ m.lcs = s.m.lcs)) ∧
  (s.m.readyDue = false → Unmoved .ready s)

/-- Life-cycle transitions, staging, activation and COMMIT_SVN (R661 to R670). -/
def Obligations.LifeCycleComplete : Prop := ∀ (s : State) (who : Ident) (v : Word),
  let n := s.m.lcAsked v
  let open_ := s.m.writeOpen who A.LC_CMD ∧ s.m.bit A.LC_RES 31 = true ∧ bitsOf v.toNat 31 16 = 0x4C43
  (open_ → v.toNat % 16 = 1 → Gives (.transition who v) s (fun m => m = (n.lcTransition (bitsOf v.toNat 11 8)).answered)) ∧
  (open_ → v.toNat % 16 = 1 → lcTable n.lcs (bitsOf v.toNat 11 8) = none → Gives (.transition who v) s (fun m =>
    m.rd A.LC_RES = 0x80000003 ∧ m.lcs = n.lcs ∧ m.rd64 A.LC_NONCE_LO = (Config.freeBits n.free).toNat ∧ m.sys.lcReset = n.sys.lcReset)) ∧
  (open_ → v.toNat % 16 = 1 → n.lcs = 1 → bitsOf v.toNat 11 8 = 2 → n.fwState = 0 → (∀ p : Fin 16, p ≠ 0 → n.partState p = 0) →
    Gives (.transition who v) s (fun m => m.rd A.LC_RES = 0x80000000 ∧ m.lcs = 2 ∧ m.sys.lcReset = true ∧ m.resetAsked)) ∧
  (open_ → v.toNat % 16 = 1 → n.lcs = 2 → bitsOf v.toNat 11 8 = 3 → n.fwState = 0 → (∃ p : Fin 16, p ≠ 0 ∧ n.partState p ≠ 0) →
    Gives (.transition who v) s (fun m => m.rd A.LC_RES = 0x80000005 ∧ m.lcs = 2 ∧ m.sys.lcReset = n.sys.lcReset)) ∧
  (open_ → v.toNat % 16 = 2 → Gives (.fwStage who v) s (fun m => m = n.fwStage.answered)) ∧
  (∀ (m1 : Mach) (b : List Byte), open_ → v.toNat % 16 = 2 → n.fwState = 0 → n.vread 0 0 n.lcSrc (n.fld A.LC_LEN 24 0) = (m1, .ok b) →
    Gives (.fwStage who v) s (fun m => m.fwState = 1 ∧ m.sys.staging = some b ∧ m.rd A.LC_RES = 0)) ∧
  (∀ b : List Byte, s.m.sys.staging = some b → romCheck b (s.m.fld A.LC_SVN 15 0) = 0 → Gives .fwStageDone s (fun m => m.fwState = 2 ∧
    m.sys.staging = none ∧ tfind m.sys.flash s.m.otherBank = some b ∧ m.fld A.FW_STS 31 16 = fieldAt b 8 2 ∧ m.rd A.LC_RES = 0x80000000)) ∧
  (∀ b : List Byte, s.m.sys.staging = some b → romCheck b (s.m.fld A.LC_SVN 15 0) ≠ 0 → Gives .fwStageDone s (fun m => m.fwState = 6 ∧
    m.sys.staging = none ∧ m.rd A.LC_RES = 0x80000006)) ∧
  (s.m.sys.staging = none → Unmoved .fwStageDone s) ∧
  (open_ → v.toNat % 16 = 3 → n.fwState = 2 → Gives (.fwArm who v) s (fun m => m.fwState = 3 ∧ m.rd A.LC_RES = 0x80000000)) ∧
  (open_ → v.toNat % 16 = 3 → n.fwState ≠ 2 → Gives (.fwArm who v) s (fun m => m.fwState = n.fwState ∧ m.rd A.LC_RES = 0x80000003)) ∧
  (open_ → v.toNat % 16 = 4 → n.fwState = 3 → Gives (.fwDisarm who v) s (fun m => m.fwState = 2 ∧ m.rd A.LC_RES = 0x80000000)) ∧
  (open_ → v.toNat % 16 = 4 → n.fwState ≠ 3 → Gives (.fwDisarm who v) s (fun m => m.fwState = n.fwState ∧ m.rd A.LC_RES = 0x80000003)) ∧
  (open_ → v.toNat % 16 = 5 → n.fld A.LC_SVN 31 16 ≤ n.fld A.LC_SVN 15 0 → Gives (.commitSvn who v) s (fun m => m = (n.lcRes 0 true).answered)) ∧
  (open_ → v.toNat % 16 = 5 → n.fld A.LC_SVN 15 0 < n.fld A.LC_SVN 31 16 → Gives (.commitSvn who v) s (fun m =>
    m.rd A.LC_RES = (if (Config.freeBits n.free).toNat.testBit 0 then 0x80000008 else 0x80000000) ∧ m.free = n.free + 1 ∧
    m.fld A.LC_SVN 15 0 = (if (Config.freeBits n.free).toNat.testBit 0 then n.fld A.LC_SVN 15 0 else n.fld A.LC_SVN 31 16))) ∧
  (s.m.writeOpen who A.LC_CMD → s.m.bit A.LC_RES 31 = true → bitsOf v.toNat 31 16 ≠ 0x4C43 → v.toNat % 16 = 3 → Gives (.fwArm who v) s (fun m =>
    m.rd A.LC_RES = 0x80000002 ∧ m.fwState = n.fwState)) ∧
  (s.m.fwState = 3 → s.m.rd64 A.FW_AT_LO ≤ s.m.phase → Gives .fwActivate s (fun m => m.fwState = 4 ∧ ∀ c : Fin 8, c.val < 4 → m.coreOn c = false)) ∧
  (s.m.phase < s.m.rd64 A.FW_AT_LO → Unmoved .fwActivate s) ∧
  (s.m.fwState = 4 → s.m.halfIdle [0, 1, 2, 3] = true → Gives .halfADone s (fun m => m.fwState = 5 ∧ m.sys.reload = [4, 5, 6, 7] ∧
    m.sys.meas = s.m.measureStage 1)) ∧
  (s.m.fwState = 5 → s.m.halfIdle [4, 5, 6, 7] = true → s.m.fld A.FW_ASEQ (31 - 16 * s.m.otherBank) (16 - 16 * s.m.otherBank) < 65535 →
    Gives .halfBDone s (fun m => m.fwState = 0 ∧ m.sys.reload = [] ∧ m.sys.meas = s.m.measureStage 2 ∧ m.fld A.FW_ASEQ (16 * s.m.otherBank + 15) (16 * s.m.otherBank) =
      s.m.fld A.FW_ASEQ (31 - 16 * s.m.otherBank) (16 - 16 * s.m.otherBank) + 1)) ∧
  (s.m.fwState ≠ 5 → Unmoved .halfBDone s)

/-! ### Power, cooling and the management ports -/

/-- The power manager, cooling and telemetry (R59, R683 to R691, R698, R699, R701). -/
def Obligations.PowerComplete : Prop := ∀ (s : State) (who : Ident) (v : Word) (p : Fin 16),
  (∀ d : BitVec 32, s.m.phs.slotEdge = true → Gives (.gateStep p d) s (fun m =>
    m.gate p = gateNext (s.m.gate p) (s.m.share p) (s.m.tilesOf p).length d.toNat ∧ (∀ q : Fin 16, q ≠ p → m.gate q = s.m.gate q) ∧ m.phs = s.m.phs)) ∧
  (∀ d : BitVec 32, s.m.phs.slotEdge = false → Unmoved (.gateStep p d) s) ∧
  (∀ tj watts : BitVec 16, s.m.bit A.PWR_CFG 31 = true → Gives (.pmThrottle tj watts) s (fun m => m.fld A.THERM_MAX 7 0 = tj.toNat % 256 ∧
    m.fld A.PWR_AVG 15 0 = watts.toNat ∧ m.level = s.m.level ∧ (s.m.fld A.THERM_MAX 7 0 < 95 → 95 ≤ tj.toNat % 256 → m.bit A.MGT_ALERT 1 = true ∧
      (0x03, 0x139, tj.toNat % 256) ∈ m.raised) ∧
      (s.m.fld A.THERM_MAX 7 0 < 105 → 105 ≤ tj.toNat % 256 → (0x04, 0x139, tj.toNat % 256) ∈ m.raised))) ∧
  (∀ tj watts : BitVec 16, s.m.bit A.PWR_CFG 31 = false → (95 ≤ tj.toNat % 256 ∨ s.m.cap < watts.toNat) → Gives (.pmThrottle tj watts) s (fun m =>
    m = ((s.m.measured (tj.toNat % 256) watts.toNat).thermFaults (s.m.fld A.THERM_MAX 7 0)).stepLevel false)) ∧
  (∀ tj watts : BitVec 16, s.m.bit A.PWR_CFG 31 = false → tj.toNat % 256 < 90 → 100 * watts.toNat < 95 * s.m.cap → Gives (.pmThrottle tj watts) s (fun m =>
    m = ((s.m.measured (tj.toNat % 256) watts.toNat).thermFaults (s.m.fld A.THERM_MAX 7 0)).stepLevel true)) ∧
  (∀ tj watts : BitVec 16, 90 ≤ tj.toNat % 256 → tj.toNat % 256 < 95 → watts.toNat ≤ s.m.cap → Gives (.pmThrottle tj watts) s (fun m =>
    m.level = s.m.level ∧ m.raised = s.m.raised ∧ m.fld A.THERM_MAX 7 0 = tj.toNat % 256)) ∧
  Gives .coolantOkFall s (fun m => m.bit A.THERM_COOL 0 = false ∧ m.bit A.MGT_ALERT 2 = true) ∧
  (s.m.bit A.THERM_COOL 0 = false → Gives .coolant s (fun m => m = s.m.raiseFault 0x05 0x139 0)) ∧
  (s.m.bit A.THERM_COOL 0 = true → Unmoved .coolant s) ∧
  (s.m.writeOpen who A.PWR_CTL → bitOf v.toNat 3 = false → Gives (.pwrCtlLevel who v) s (fun m =>
    m = ((s.m.writeLevel v.toNat).putBit A.PWR_CTL 3 false).answered)) ∧
  (s.m.writeOpen who A.PWR_CTL → bitOf v.toNat 3 = true →
    let n := s.m.writeLevel v.toNat
    (n.maySleep = true → n.fld A.PWR_STS 1 0 = 0 → Gives (.sleep who v) s (fun m => m = n.sleep.answered ∧ m.fld A.PWR_STS 1 0 = 1 ∧ m.phase = 0)) ∧
    (n.maySleep = false → n.fld A.PWR_STS 1 0 = 0 → Gives (.sleep who v) s (fun m => m = (n.putBit A.PWR_STS 3 true).answered))) ∧
  (s.m.writeOpen who A.PWR_CFG → bitOf v.toNat 31 = false → Gives (.pwrFixWrite who v) s (fun m => m.resp = [(0, 0)] ∧
    m.bit A.PWR_CFG 31 = false ∧ m.fld A.PWR_CFG 11 0 = bitsOf v.toNat 11 0 ∧ m.fld A.PWR_TILEBUD 15 0 = m.tileBud)) ∧
  (s.m.writeOpen who A.PWR_CFG → bitOf v.toNat 31 = true →
    let n := s.m.put A.PWR_CFG 11 0 (bitsOf v.toNat 11 0)
    (n.oversub = false → Gives (.pwrFixWrite who v) s (fun m => m.bit A.PWR_CFG 31 = true ∧ m.bit A.PWR_STS 4 = s.m.bit A.PWR_STS 4)) ∧
    (n.oversub = true → Gives (.pwrFixWrite who v) s (fun m => m.bit A.PWR_STS 4 = true ∧ m.bit A.PWR_CFG 31 = s.m.bit A.PWR_CFG 31))) ∧
  (s.m.writeOpen who (A.PWR_SHARE p.val) → s.m.bit A.PWR_CFG 31 = false → Gives (.pwrShareWrite who p v) s (fun m => m.resp = [(0, 0)] ∧
    m.share p = bitsOf v.toNat 11 0 ∧ ∀ q : Fin 16, q ≠ p → m.share q = s.m.share q)) ∧
  (s.m.writeOpen who (A.PWR_SHARE p.val) → s.m.bit A.PWR_CFG 31 = true → s.m.oversubWith p (bitsOf v.toNat 11 0) = true →
    Gives (.pwrShareWrite who p v) s (fun m => m = s.m.answered)) ∧
  (s.m.phs.slotEdge = true → s.m.bit A.PWR_CFG 31 = true → s.m.oversub = true → Gives .fixlost s (fun m => m.bit A.PWR_CFG 31 = false ∧
    m.bit A.PWR_STS 4 = true)) ∧
  (s.m.oversub = false → Unmoved .fixlost s) ∧
  (s.m.telDue = true → Gives .telemetryItem s (fun m => m = s.m.telemetry ∧ m.sys.telCount = 0)) ∧
  (s.m.telDue = false → Unmoved .telemetryItem s) ∧
  (s.m.writeOpen who A.MGT_ALERT → Gives (.mgtAlertWrite who v) s (fun m => m.resp = [(0, 0)] ∧
    ∀ i : Fin 4, m.bit A.MGT_ALERT i = (s.m.bit A.MGT_ALERT i && !bitOf v.toNat i)))

/-- The I3C common command codes and the JTAG instructions (R693, R694); GETBCR, GETDCR and GETSTATUS answer values that the spec
does not give (log entry 9). -/
def Obligations.ManagementComplete : Prop := ∀ (s : State) (a static : BitVec 7) (ev : Byte) (bits : Nat),
  (s.m.bit A.MGT_I3C 31 = false → Gives (.entdaa a true) s (fun m => m.bit A.MGT_I3C 31 = true ∧ m.fld A.MGT_I3C 30 24 = a.toNat)) ∧
  Unmoved (.entdaa a false) s ∧
  (s.m.bit A.MGT_I3C 31 = true → Unmoved (.entdaa a true) s) ∧
  (s.m.bit A.MGT_I3C 31 = false → static.toNat = s.m.fld A.MGT_I3C 6 0 → Gives (.setdasa static a) s (fun m => m.bit A.MGT_I3C 31 = true ∧
    m.fld A.MGT_I3C 30 24 = a.toNat ∧ m.fld A.MGT_I3C 6 0 = static.toNat)) ∧
  (static.toNat ≠ s.m.fld A.MGT_I3C 6 0 → Unmoved (.setdasa static a) s) ∧
  Gives .rstdaa s (fun m => m.bit A.MGT_I3C 31 = false ∧ m.fld A.MGT_I3C 30 24 = 0 ∧ m.fld A.MGT_I3C 6 0 = s.m.fld A.MGT_I3C 6 0) ∧
  Gives (.enec ev) s (fun m => m.sys.events = s.m.sys.events ||| ev.toNat ∧ m.regs = s.m.regs) ∧
  Gives (.disec ev) s (fun m => m.sys.events = s.m.sys.events &&& (255 - ev.toNat) ∧ m.regs = s.m.regs) ∧
  Gives .getpid s (fun m => m = { s.m with resp := [(0, 0x2D3), (0, 0xA090)] }) ∧
  Gives .getbcr s (fun m => m = { s.m with resp := [(0, Config.i3cBcr.setWidth 32)] }) ∧
  Gives .getdcr s (fun m => m = { s.m with resp := [(0, Config.i3cDcr.setWidth 32)] }) ∧
  Gives .getstatus s (fun m => m.resp = [(0, BitVec.ofNat 32 ((Config.freeBits s.m.free).toNat % 2 ^ 16))] ∧ m.regs = s.m.regs ∧ m.free = s.m.free + 1) ∧
  Gives .tapReset s (fun m => m.sys.ir = 1 ∧ m.regs = s.m.regs) ∧
  Gives .idcode s (fun m => m.sys.ir = 1 ∧ m.resp = [(0, 0x1A0905A7)] ∧ m.regs = s.m.regs) ∧
  Gives .bypass s (fun m => m.sys.ir = 0xFF ∧ m.resp = [(0, 0)] ∧ m.regs = s.m.regs) ∧
  Gives (.samplePreload bits) s (fun m => m.sys.ir = 2 ∧ m.sys.boundary = bits ∧ m.regs = s.m.regs) ∧
  (s.m.lcs ≤ 1 → Gives (.extest bits) s (fun m => m.sys.ir = 0 ∧ m.sys.boundary = bits ∧ m.regs = s.m.regs)) ∧
  (1 < s.m.lcs → Gives (.extest bits) s (fun m => m.sys.ir = 0 ∧ m.sys.boundary = s.m.sys.boundary ∧ m.resp = [(0, 0)]))

/-! ### Attestation, sessions and imports -/

/-- Releases of reports and session answers, the end of AUTH, the time limit of a session, and weight imports (R546, R548 to R551,
R556, R558). -/
def Obligations.SessionReleasesComplete : Prop := ∀ (s : State) (p : Fin 16) (w : KaolinWork),
  (s.m.dueWork p [0] = some w → Gives (.attestRelease p) s (fun m => m = s.m.attestRelease p w ∧ tfind m.att.work p = none ∧
    m.rd A.ATT_SIGNED = BitVec.ofNat 32 (min ((s.m.rd A.ATT_SIGNED).toNat + 1) (2 ^ 32 - 1)))) ∧
  (s.m.dueWork p [0] = none → Unmoved (.attestRelease p) s) ∧
  (s.m.dueWork p [1, 3] = some w → w.kind = 1 → Gives (.sessionRelease p) s (fun m => m = s.m.sessionOpen p w ∧ tfind m.att.work p = none ∧
    m.fld (A.SESS_STS p.val) 1 0 = 1 ∧ m.fld (A.SESS_STS p.val) 15 8 = 0 ∧ m.rd (A.SESS_CTR p.val) = 0 ∧
    ∃ x, tfind m.att.sess p = some x ∧ x.init = w.req.pkt.payload ∧ x.ctr = 0 ∧ x.authing = false ∧ x.since = s.m.sys.slots)) ∧
  (∀ x, s.m.dueWork p [1, 3] = some w → w.kind = 3 → tfind s.m.att.sess p = some x → Gives (.sessionRelease p) s (fun m =>
    m = (((s.m.dropWork p).mark w.req.pkt).respondWith true w.req.ing w.req.pkt 0x54 x.rsp) ∧ tfind m.att.sess p = some x)) ∧
  (∀ x, s.m.dueWork p [2] = some w → tfind s.m.att.sess p = some x → w.ok = true → Gives (.authRelease p) s (fun m =>
    m.fld (A.SESS_STS p.val) 1 0 = 2 ∧ m.rd (A.SESS_CTR p.val) = BitVec.ofNat 32 (x.ctr + 1) ∧
    tfind m.att.sess p = some { x with ctr := x.ctr + 1, authing := false })) ∧
  (∀ x, s.m.dueWork p [2] = some w → tfind s.m.att.sess p = some x → w.ok = false → s.m.fld (A.SESS_STS p.val) 1 0 ≠ 0 →
    Gives (.authRelease p) s (fun m => m.fld (A.SESS_STS p.val) 1 0 = 0 ∧ m.fld (A.SESS_STS p.val) 23 16 = 3 ∧ tfind m.att.sess p = none)) ∧
  (s.m.dueWork p [2] = none → Unmoved (.authRelease p) s) ∧
  (s.m.sessionLate p = true → Gives (.sessionTimeout p) s (fun m => m.fld (A.SESS_STS p.val) 1 0 = 0 ∧ m.fld (A.SESS_STS p.val) 23 16 = 4 ∧
    m.rd (A.SESS_CTR p.val) = 0 ∧ tfind m.att.sess p = none)) ∧
  (s.m.sessionLate p = false → Unmoved (.sessionTimeout p) s) ∧
  (∀ i, tfind s.m.att.imports p = some i → Gives (.importDone p) s (fun m => m = s.m.importRun p i ∧ tfind m.att.imports p = none)) ∧
  (∀ (i : Import) (m1 : Mach), tfind s.m.att.imports p = some i → s.m.loadKey p i.slot 2 = (m1, none) → Gives (.importDone p) s (fun m =>
    m = m1.importEnd p i 1)) ∧
  (∀ (i : Import) (m1 m2 m3 : Mach) (key h b : List Byte) (r : Option Bytes), tfind s.m.att.imports p = some i →
    s.m.loadKey p i.slot 2 = (m1, some key) → m1.vread 3 p i.src 64 = (m2, .ok h) → weightHeadOk h = true →
    ¬ (i.src < i.dst + fieldAt h 8 8 ∧ i.dst < i.src + fieldAt h 8 8 + 80) → m2.vread 3 p (i.src + 64) (fieldAt h 8 8 + 16) = (m3, .ok b) →
    gcmOpen (toNats key) (toNats (slice h 0x10 12)) (toNats h) (toNats (b.take (fieldAt h 8 8))) (toNats (b.drop (fieldAt h 8 8))) = r →
    Gives (.importDone p) s (fun m => m =
      (let w := m3.vwrite 3 p i.dst (match r with | some pt => toBytes pt | none => List.replicate (fieldAt h 8 8) 0)
      w.1.importEnd p i (match w.2 with | some e => e.importCode | none => if r.isSome then 0 else 2)))) ∧
  (tfind s.m.att.imports p = none → Unmoved (.importDone p) s)

/-! ### Frames -/

/-- Commands of the phase unit, the power manager, the management ports, the life cycle and the interrupt controller leave everything
else of the device as it was. -/
def Obligations.ControlFrames : Prop := ∀ (s : State) (who : Ident) (v : Word) (p : Fin 16) (c : Fin 8) (src : BitVec 10) (a static : BitVec 7)
    (won : Bool) (ev : Byte) (bits : Nat) (d : BitVec 32) (tj watts : BitVec 16),
  (∀ cmd ∈ [Instr.epochAdvance, .phaseRefEdge, .phaseRefLost, .becomeMaster, .phaseLost, .throttleLevelChange, .gateStep p d, .pmThrottle tj watts,
      .coolantOkFall, .coolant, .fixlost, .entdaa a won, .setdasa static a, .rstdaa, .enec ev, .disec ev, .getpid, .getbcr, .getdcr, .getstatus,
      .tapReset, .idcode, .bypass, .samplePreload bits, .extest bits, .irqRoute, .entry c, .exit c, .ccCmpl c src, .fwActivate, .halfADone,
      .halfBDone, .dramTrained], Gives cmd s (fun m => m.controlOnly s.m)) ∧
  (s.m.writeOpen who A.PHS_CFG → Gives (.phsCfgWrite who v) s (fun m => m.controlOnly s.m)) ∧
  (s.m.writeOpen who A.PHS_CTL → Gives (.acq who v) s (fun m => m.controlOnly s.m)) ∧
  (s.m.writeOpen who A.PHS_EPOCH_SET → Gives (.phsEpochSet who v) s (fun m => m.controlOnly s.m)) ∧
  (∀ k : Fin 64, s.m.writeOpen who (A.CMP_CTL k.val) → Gives (.cmpCtlWrite who k v) s (fun m => m.controlOnly s.m)) ∧
  (s.m.writeOpen who A.GLB_RST → Gives (.glbRst who v) s (fun m => m.controlOnly s.m)) ∧
  (s.m.writeOpen who A.RST_UNIT → Gives (.rstUnit who v) s (fun m => m.controlOnly s.m)) ∧
  (s.m.writeOpen who A.PWR_CTL → Gives (.pwrCtlLevel who v) s (fun m => m.controlOnly s.m)) ∧
  (s.m.writeOpen who A.PWR_CFG → Gives (.pwrFixWrite who v) s (fun m => m.controlOnly s.m)) ∧
  (s.m.writeOpen who (A.PWR_SHARE p.val) → Gives (.pwrShareWrite who p v) s (fun m => m.controlOnly s.m)) ∧
  (s.m.writeOpen who A.MGT_ALERT → Gives (.mgtAlertWrite who v) s (fun m => m.controlOnly s.m)) ∧
  (s.m.writeOpen who A.INT_DOORBELL → Gives (.intDoorbell who v) s (fun m => m.controlOnly s.m)) ∧
  (s.m.writeOpen who A.INT_SW_PEND → Gives (.intSwPend who v) s (fun m => m.controlOnly s.m)) ∧
  (s.m.writeOpen who A.INT_O_PCLR → Gives (.intOPclr who v) s (fun m => m.controlOnly s.m)) ∧
  (∀ k : Fin 16, s.m.writeOpen who (A.INT_HCMPL k.val) → Gives (.intHcmpl who k v) s (fun m => m.controlOnly s.m)) ∧
  (∀ k : Fin 16, s.m.writeOpen who (A.T_MSET k.val) → Gives (.tMset who k v) s (fun m => m.controlOnly s.m)) ∧
  (∀ k : Fin 16, s.m.writeOpen who (A.T_MCLR k.val) → Gives (.tMclr who k v) s (fun m => m.controlOnly s.m)) ∧
  (∀ k : Fin 16, s.m.writeOpen who (A.T_PCLR k.val) → Gives (.tPclr who k v) s (fun m => m.controlOnly s.m)) ∧
  (s.m.writeOpen who (A.INT_CFG src.toNat) → src.toNat < 512 → Gives (.intCfgWrite who src v) s (fun m => m.controlOnly s.m))

/-! ### The whole block -/

/-- A step with command `c` at the front of the queue is `exec` of `c` on the state with the queue's rest, and that never looks at the
queue: whatever waits behind `c` stays as it was, in order. -/
def Obligations.StepRunsFrontCommand : Prop := ∀ (c : Instr) (rest other : List Instr) (s : State),
  step { s with pending := c :: rest } = exec c { s with pending := rest } ∧
  ∀ t, exec c { s with pending := rest } = .next t → t.pending = rest ∧
    exec c { s with pending := other } = .next { t with pending := other }

/-- No command stops the block: every step answers a next state, with the front command gone and the pins following the registers; with
no command waiting the block idles and nothing changes (the model's choice, log entry 1). -/
def Obligations.EveryStepAnswers : Prop := ∀ s : State, SafeStep s ∧ ∀ t, step s = .next t →
  t.pending = s.pending.tail ∧ (s.pending = [] → t = s) ∧ (s.pending ≠ [] → t.pins = t.m.outputs)

/-- What a cold reset leaves, in `State.reset` (R46, R67, R426, R443, R496, R527, R567, R582, R650, R656, R668): PHS is FREE at phase 0,
every slot is shared, no link is up, no partition exists, every channel is UNOWNED, every key slot is EMPTY, Silt is in STARTUP, no
fault stands, and the pins are released. -/
def Obligations.ColdResetState : Prop :=
  let m := State.reset.m
  State.reset.pending = [] ∧ m.phase = 0 ∧ m.phsState = 0 ∧ PinsFollow State.reset ∧
  State.reset.pins.errN = true ∧ State.reset.pins.alertN = true ∧ State.reset.pins.optics = false ∧
  (∀ (j : Fin 24) (i : Fin 64), m.rd (A.SLOT_TABLE j.val (4 * i.val)) = 0x10101010) ∧
  (∀ n : Fin 8, m.fld (A.BRL_PORT_STS n.val) 2 0 = 0) ∧ (∀ n : Fin 16, m.ethState n.val = 0) ∧
  (∀ p : Fin 16, m.partState p.val = 0) ∧ (∀ c : Fin 64, m.chState c.val = 0) ∧ (∀ k : Nat, m.slot k = {}) ∧ m.siltState = 0 ∧
  (∀ x : Fin 1024, m.srcState x.val = 0) ∧ m.bit A.FLT_FIRST_STS 31 = false ∧ m.bit A.GLB_STS 0 = false ∧ m.raised = [] ∧
  memWf m.mem.cells = true ∧ (∀ a, m.rd a = BitVec.ofNat 32 (resetAt a))

/-- From every state whose pins follow its registers, every step answers a state whose pins follow its registers (R639, R657, R700). -/
def Obligations.PinsFollowRegisters : Prop := ∀ s t : State, PinsFollow s → step s = .next t → PinsFollow t

/-- The queue is worked off, first in first out, by as many steps as it has commands, and no command of it stops the block; the run over
a queue is the run over its first part followed by the run over the rest. -/
def Obligations.QueueIsWorkedOff : Prop := ∀ (s : State) (a b : List Instr),
  (∃ t, runFor s.pending.length s = some t ∧ t.pending = [] ∧ (PinsFollow s → PinsFollow t)) ∧
  runFor (a ++ b).length { s with pending := a ++ b } =
    (runFor a.length { s with pending := a }).bind (fun t => runFor b.length { t with pending := b })
end

