-- ==== Sys2Proof/Laws/Table.lean ====
section
/-! SUPPORT. Sparse tables, byte stores and registers: what is read after what was written, and that every memory
operation keeps the canonical form. -/
namespace Sys2Proof.Machine

/-! ### Tables -/

theorem tfind_tset_same {α : Type} (t : Tab α) (k : Nat) (v : α) : tfind (tset t k v) k = some v := by
  induction t with
  | nil => simp [tset, tfind]
  | cons e r ih =>
    obtain ⟨j, w⟩ := e
    simp only [tset]
    split
    · simp [tfind]
    · split
      · simp [tfind]
      · rename_i h1 h2
        have : j ≠ k := fun h => h2 h.symm
        simp [tfind, this, ih]

theorem tfind_tset_other {α : Type} (t : Tab α) (k j : Nat) (v : α) (h : j ≠ k) : tfind (tset t k v) j = tfind t j := by
  induction t with
  | nil => simp [tset, tfind, Ne.symm h]
  | cons e r ih =>
    obtain ⟨i, w⟩ := e
    simp only [tset]
    split
    · simp [tfind, Ne.symm h]
    · split
      · rename_i h2
        subst h2
        simp [tfind, Ne.symm h]
      · simp only [tfind, ih]

@[simp] theorem tget_tset_same {α : Type} (t : Tab α) (k : Nat) (v d : α) : tget (tset t k v) k d = v := by
  simp [tget, tfind_tset_same]

theorem tget_tset_other {α : Type} (t : Tab α) (k j : Nat) (v d : α) (h : j ≠ k) : tget (tset t k v) j d = tget t j d := by
  simp [tget, tfind_tset_other t k j v h]

/-! ### Registers -/

@[simp] theorem Mach.rd_wr_same (m : Mach) (a : Nat) (w : Word) : (m.wr a w).rd a = w := by
  simp [Mach.rd, Mach.wr, tfind_tset_same]

theorem Mach.rd_wr_other (m : Mach) (a b : Nat) (w : Word) (h : b ≠ a) : (m.wr a w).rd b = m.rd b := by
  simp [Mach.rd, Mach.wr, tfind_tset_other _ a b w h]

theorem Mach.rd_put_other (m : Mach) (a b hi lo v : Nat) (h : b ≠ a) : (m.put a hi lo v).rd b = m.rd b :=
  m.rd_wr_other a b _ h

theorem Mach.rd_putBit_other (m : Mach) (a b i : Nat) (x : Bool) (h : b ≠ a) : (m.putBit a i x).rd b = m.rd b :=
  m.rd_put_other a b i i _ h

theorem Mach.rd_bumpF_other (m : Mach) (a b hi lo n : Nat) (h : b ≠ a) : (m.bumpF a hi lo n).rd b = m.rd b :=
  m.rd_put_other a b hi lo _ h

/-! ### Bit fields -/

theorem withBits_testBit (n hi lo v i : Nat) (h : lo ≤ hi) :
    (withBits n hi lo v).testBit i = if lo ≤ i ∧ i ≤ hi then v.testBit (i - lo) else n.testBit i := by
  simp only [withBits, Nat.testBit_or, Nat.testBit_shiftLeft, Nat.testBit_mod_two_pow, Nat.testBit_shiftRight]
  by_cases h1 : lo ≤ i
  · by_cases h2 : i ≤ hi
    · have h3 : ¬ (hi + 1 ≤ i) := by omega
      have h4 : i - lo < hi + 1 - lo := by omega
      have h5 : ¬ i < lo := by omega
      simp only [h1, h2, h3, h4, h5, ge_iff_le, decide_true, decide_false, Bool.false_and, Bool.true_and, Bool.false_or,
        Bool.or_false, and_self, if_true]
    · have h3 : hi + 1 ≤ i := by omega
      have h4 : ¬ (i - lo < hi + 1 - lo) := by omega
      have h5 : ¬ i < lo := by omega
      rw [show hi + 1 + (i - (hi + 1)) = i from by omega]
      simp only [h1, h2, h3, h4, h5, ge_iff_le, decide_true, decide_false, Bool.false_and, Bool.true_and, Bool.and_false, Bool.or_false,
        and_false, if_false]
  · have h3 : ¬ (hi + 1 ≤ i) := by omega
    have h5 : i < lo := by omega
    simp only [h1, h3, h5, ge_iff_le, decide_true, decide_false, Bool.false_and, Bool.true_and, Bool.false_or, false_and, if_false]

theorem bitsOf_testBit (n hi lo i : Nat) : (bitsOf n hi lo).testBit i = (decide (i < hi + 1 - lo) && n.testBit (lo + i)) := by
  simp [bitsOf, Nat.testBit_mod_two_pow, Nat.testBit_shiftRight]

/-! ### Byte stores in canonical form -/

/-- The addresses of `m` rise from above `lo`, and no entry is what an unlisted address reads as. -/
def memUp : Nat → List Host.Cell → Prop
  | _, [] => True
  | lo, (a, v) :: r => lo ≤ a ∧ v ≠ 0 ∧ memUp (a + 1) r

theorem memUp_weaken (lo lo' : Nat) (m : List Host.Cell) (h : lo' ≤ lo) (hm : memUp lo m) : memUp lo' m := by
  cases m with
  | nil => trivial
  | cons e r => exact ⟨le_trans h hm.1, hm.2⟩

theorem memWf_cons (a : Nat) (v : Byte) (m : List Host.Cell) (h : memWf ((a, v) :: m) = true) : v ≠ 0 ∧ memUp (a + 1) m := by
  induction m generalizing a v with
  | nil => simpa [memWf, memUp] using h
  | cons e r ih =>
    obtain ⟨b, w⟩ := e
    simp only [memWf, Bool.and_eq_true, decide_eq_true_eq] at h
    obtain ⟨h3, h4⟩ := ih b w h.2
    exact ⟨h.1.2, h.1.1, h3, h4⟩

theorem memWf_of_memUp (lo : Nat) (m : List Host.Cell) (h : memUp lo m) : memWf m = true := by
  induction m generalizing lo with
  | nil => rfl
  | cons e r ih =>
    obtain ⟨a, v⟩ := e
    cases r with
    | nil => simpa [memWf] using h.2.1
    | cons f q =>
      obtain ⟨b, w⟩ := f
      simp only [memWf, Bool.and_eq_true, decide_eq_true_eq]
      exact ⟨⟨h.2.2.1, h.2.1⟩, ih (a + 1) h.2.2⟩

theorem memWf_iff (m : List Host.Cell) : memWf m = true ↔ memUp 0 m := by
  constructor
  · intro h
    cases m with
    | nil => trivial
    | cons e r => obtain ⟨h1, h2⟩ := memWf_cons e.1 e.2 r h; exact ⟨Nat.zero_le _, h1, h2⟩
  · exact memWf_of_memUp 0 m

theorem memUp_memSet (lo : Nat) (m : List Host.Cell) (a : Nat) (v : Byte) (ha : lo ≤ a) (h : memUp lo m) : memUp lo (memSet m a v) := by
  induction m generalizing lo with
  | nil => simp only [memSet]; split <;> simp_all [memUp]
  | cons e r ih =>
    obtain ⟨j, w⟩ := e
    obtain ⟨h1, h2, h3⟩ := h
    simp only [memSet]
    split
    · split
      · exact ⟨h1, h2, h3⟩
      · exact ⟨ha, ‹_›, by omega, h2, h3⟩
    · split
      · rename_i h5
        subst h5
        split
        · exact memUp_weaken _ _ _ (by omega) h3
        · exact ⟨h1, ‹_›, h3⟩
      · exact ⟨h1, h2, ih (j + 1) (by omega) h3⟩

/-- A write of a byte keeps the canonical form. -/
theorem memSet_wf (m : List Host.Cell) (a : Nat) (v : Byte) (h : memWf m = true) : memWf (memSet m a v) = true := by
  rw [memWf_iff] at *; exact memUp_memSet 0 m a v (Nat.zero_le _) h

/-- A write of bytes keeps the canonical form. -/
theorem memWrite_wf (m : List Host.Cell) (a : Nat) (b : List Byte) (h : memWf m = true) : memWf (memWrite m a b) = true := by
  induction b generalizing m a with
  | nil => exact h
  | cons x r ih => exact ih _ _ (memSet_wf m a x h)

theorem memUp_filter (lo : Nat) (m : List Host.Cell) (p : Host.Cell → Bool) (h : memUp lo m) : memUp lo (m.filter p) := by
  induction m generalizing lo with
  | nil => trivial
  | cons e r ih =>
    obtain ⟨j, w⟩ := e
    simp only [List.filter]
    split
    · exact ⟨h.1, h.2.1, ih _ h.2.2⟩
    · exact memUp_weaken _ _ _ (by have := h.1; omega) (ih _ h.2.2)

/-- Zeroizing a range keeps the canonical form. -/
theorem memZero_wf (m : List Host.Cell) (a n : Nat) (h : memWf m = true) : memWf (memZero m a n) = true := by
  rw [memWf_iff] at *; exact memUp_filter 0 m _ h

theorem memGet_of_memUp (lo : Nat) (m : List Host.Cell) (a : Nat) (h : memUp lo m) (ha : a < lo) : memGet m a = 0 := by
  induction m generalizing lo with
  | nil => rfl
  | cons e r ih =>
    obtain ⟨j, w⟩ := e
    obtain ⟨h1, -, h3⟩ := h
    have hj : j ≠ a := by omega
    simp only [memGet, hj, if_false]
    exact ih (j + 1) h3 (by omega)

theorem memGet_memSet_up (lo : Nat) (m : List Host.Cell) (a b : Nat) (v : Byte) (h : memUp lo m) :
    memGet (memSet m a v) b = if b = a then v else memGet m b := by
  induction m generalizing lo with
  | nil =>
    simp only [memSet]
    split
    · rename_i hv; simp [hv, memGet]
    · by_cases hb : b = a
      · simp [memGet, hb]
      · simp [memGet, hb, Ne.symm hb]
  | cons e r ih =>
    obtain ⟨j, w⟩ := e
    obtain ⟨h1, h2, h3⟩ := h
    have hi := ih (j + 1) h3
    simp only [memSet]
    split
    · rename_i hlt
      split
      · rename_i hv
        subst hv
        by_cases hb : b = a
        · subst hb
          have : j ≠ b := by omega
          simp [memGet, this, memGet_of_memUp (j + 1) r b h3 (by omega)]
        · simp [hb]
      · by_cases hb : b = a
        · simp [memGet, hb]
        · simp [memGet, hb, Ne.symm hb]
    · split
      · rename_i hja
        subst hja
        split
        · rename_i hv
          subst hv
          by_cases hb : b = a
          · subst hb; simp [memGet_of_memUp (b + 1) r b h3 (by omega)]
          · simp [memGet, hb, Ne.symm hb]
        · by_cases hb : b = a
          · simp [memGet, hb]
          · simp [memGet, hb, Ne.symm hb]
      · rename_i hlt hja
        by_cases hjb : j = b
        · have : b ≠ a := by omega
          simp [memGet, hjb, this]
        · simp [memGet, hjb, hi]

/-- Reading after writing one byte. -/
theorem memGet_memSet (m : List Host.Cell) (a b : Nat) (v : Byte) (h : memWf m = true) :
    memGet (memSet m a v) b = if b = a then v else memGet m b :=
  memGet_memSet_up 0 m a b v ((memWf_iff m).1 h)

/-- Reading outside the bytes written. -/
theorem memGet_memWrite_other (m : List Host.Cell) (a b : Nat) (l : List Byte) (h : memWf m = true) (hb : b < a ∨ a + l.length ≤ b) :
    memGet (memWrite m a l) b = memGet m b := by
  induction l generalizing m a with
  | nil => rfl
  | cons x r ih =>
    simp only [List.length_cons] at hb
    have hne : b ≠ a := by omega
    rw [memWrite, ih (memSet m a x) (a + 1) (memSet_wf m a x h) (by omega), memGet_memSet m a b x h, if_neg hne]

/-- Reading a byte that was written. -/
theorem memGet_memWrite_at (m : List Host.Cell) (a i : Nat) (l : List Byte) (h : memWf m = true) (hi : i < l.length) :
    memGet (memWrite m a l) (a + i) = l.getD i 0 := by
  induction l generalizing m a i with
  | nil => simp at hi
  | cons x r ih =>
    rw [memWrite]
    cases i with
    | zero =>
      rw [memGet_memWrite_other _ _ _ _ (memSet_wf m a x h) (by omega), memGet_memSet m a _ x h]
      simp
    | succ k =>
      have := ih (memSet m a x) (a + 1) k (memSet_wf m a x h) (by simpa using hi)
      rw [show a + (k + 1) = a + 1 + k from by omega, this]
      simp

/-- Reading back what was written. -/
theorem memRead_memWrite (m : List Host.Cell) (a : Nat) (b : List Byte) (h : memWf m = true) : memRead (memWrite m a b) a b.length = b := by
  refine List.ext_getElem (by simp [memRead]) (fun i h1 h2 => ?_)
  simp only [memRead, List.getElem_map, List.getElem_range, memGet_memWrite_at m a i b h h2]
  exact List.getD_eq_getElem b 0 h2

/-- Zeroed bytes read 0, and every other byte reads as before. -/
theorem memGet_memZero (m : List Host.Cell) (a n k : Nat) : memGet (memZero m a n) k = if a ≤ k ∧ k < a + n then 0 else memGet m k := by
  unfold memZero
  induction m with
  | nil => simp [memGet]
  | cons e r ih =>
    obtain ⟨j, w⟩ := e
    rw [List.filter_cons]
    by_cases hj : (decide (j < a) || decide (a + n ≤ j)) = true
    · rw [if_pos hj]
      simp only [Bool.or_eq_true, decide_eq_true_eq] at hj
      simp only [memGet]
      by_cases hk : j = k
      · rw [if_pos hk, if_pos hk, if_neg (by omega)]
      · rw [if_neg hk, if_neg hk, ih]
    · rw [if_neg hj, ih]
      simp only [Bool.or_eq_true, decide_eq_true_eq] at hj
      simp only [memGet]
      split
      · rfl
      · rw [if_neg (by omega)]

/-- Memory lists nothing at reset. -/
theorem reset_mem_wf : memWf State.reset.m.mem.cells = true := rfl

end Sys2Proof.Machine
end

