-- ==== Sys2Proof/Laws/Regs.lean ====
section
/-! SUPPORT. Fields of registers: what a read of a field gives after a write of the same field, of another field of the
register, or of another register. -/
namespace Sys2Proof.Machine

theorem bitsOf_lt (n hi lo : Nat) : bitsOf n hi lo < 2 ^ (hi + 1 - lo) := Nat.mod_lt _ (by positivity)

theorem bitsOf_withBits_same (n hi lo v : Nat) (h : lo ≤ hi) : bitsOf (withBits n hi lo v) hi lo = v % 2 ^ (hi + 1 - lo) := by
  apply Nat.eq_of_testBit_eq
  intro i
  rw [bitsOf_testBit, withBits_testBit _ _ _ _ _ h, Nat.testBit_mod_two_pow]
  by_cases hi' : i < hi + 1 - lo
  · have : lo ≤ lo + i ∧ lo + i ≤ hi := by omega
    simp [hi', this.2]
  · simp [hi']

theorem bitsOf_withBits_disjoint (n hi lo v hi' lo' : Nat) (h : lo ≤ hi) (hd : hi' < lo ∨ hi < lo') :
    bitsOf (withBits n hi lo v) hi' lo' = bitsOf n hi' lo' := by
  apply Nat.eq_of_testBit_eq
  intro i
  rw [bitsOf_testBit, bitsOf_testBit, withBits_testBit _ _ _ _ _ h]
  by_cases hi'' : i < hi' + 1 - lo'
  · rw [if_neg (by omega)]
  · simp [hi'']

theorem bitsOf_mod32 (n hi lo : Nat) (h : hi < 32) : bitsOf (n % 2 ^ 32) hi lo = bitsOf n hi lo := by
  apply Nat.eq_of_testBit_eq
  intro i
  rw [bitsOf_testBit, bitsOf_testBit, Nat.testBit_mod_two_pow]
  by_cases hi' : i < hi + 1 - lo
  · have : lo + i < 32 := by omega
    simp [this]
  · simp [hi']

theorem bitOf_eq_bitsOf (n i : Nat) : bitOf n i = decide (bitsOf n i i = 1) := by
  simp [bitOf, bitsOf, Nat.testBit, Nat.and_comm, Nat.and_one_is_mod]

theorem b2n_mod_two (b : Bool) : b2n b % 2 = b2n b := by cases b <;> rfl

/-! ### Fields after a field write -/

theorem Mach.fld_wr_same (m : Mach) (a hi lo : Nat) (w : Word) : (m.wr a w).fld a hi lo = bitsOf w.toNat hi lo := by
  simp [Mach.fld]

theorem Mach.fld_wr_other (m : Mach) (a b hi lo : Nat) (w : Word) (h : b ≠ a) : (m.wr a w).fld b hi lo = m.fld b hi lo := by
  simp [Mach.fld, Mach.rd_wr_other _ _ _ _ h]

theorem Mach.fld_put_same (m : Mach) (a hi lo v : Nat) (h : lo ≤ hi) (h32 : hi < 32) :
    (m.put a hi lo v).fld a hi lo = v % 2 ^ (hi + 1 - lo) := by
  simp only [Mach.put, Mach.fld_wr_same, BitVec.toNat_ofNat, bitsOf_mod32 _ _ _ h32, bitsOf_withBits_same _ _ _ _ h]

theorem Mach.fld_put_disjoint (m : Mach) (a hi lo v hi' lo' : Nat) (h : lo ≤ hi) (h32 : hi' < 32) (hd : hi' < lo ∨ hi < lo') :
    (m.put a hi lo v).fld a hi' lo' = m.fld a hi' lo' := by
  simp only [Mach.put, Mach.fld_wr_same, BitVec.toNat_ofNat, bitsOf_mod32 _ _ _ h32, bitsOf_withBits_disjoint _ _ _ _ _ _ h hd]
  rfl

theorem Mach.fld_put_other (m : Mach) (a b hi lo v hi' lo' : Nat) (h : b ≠ a) :
    (m.put a hi lo v).fld b hi' lo' = m.fld b hi' lo' := m.fld_wr_other a b _ _ _ h

theorem Mach.bit_eq_fld (m : Mach) (a i : Nat) : m.bit a i = decide (m.fld a i i = 1) := bitOf_eq_bitsOf _ _

theorem Mach.bit_putBit_same (m : Mach) (a i : Nat) (b : Bool) (h32 : i < 32) : (m.putBit a i b).bit a i = b := by
  rw [Mach.bit_eq_fld, Mach.putBit, Mach.fld_put_same _ _ _ _ _ (le_refl i) h32]
  cases b <;> simp [b2n]

theorem Mach.bit_putBit_bit (m : Mach) (a i j : Nat) (b : Bool) (h32 : j < 32) (h : j ≠ i) : (m.putBit a i b).bit a j = m.bit a j := by
  rw [Mach.bit_eq_fld, Mach.bit_eq_fld, Mach.putBit, Mach.fld_put_disjoint _ _ _ _ _ _ _ (le_refl i) h32 (by omega)]

theorem Mach.bit_put_disjoint (m : Mach) (a hi lo v i : Nat) (hl : lo ≤ hi) (h32 : i < 32) (h : i < lo ∨ hi < i) :
    (m.put a hi lo v).bit a i = m.bit a i := by
  rw [Mach.bit_eq_fld, Mach.bit_eq_fld, Mach.fld_put_disjoint _ _ _ _ _ _ _ hl h32 (by omega)]

theorem Mach.fld_putBit_disjoint (m : Mach) (a i hi lo : Nat) (b : Bool) (h32 : hi < 32) (h : i < lo ∨ hi < i) :
    (m.putBit a i b).fld a hi lo = m.fld a hi lo := Mach.fld_put_disjoint _ _ _ _ _ _ _ (le_refl i) h32 (by omega)

theorem Mach.bit_wr_other (m : Mach) (a b i : Nat) (w : Word) (h : b ≠ a) : (m.wr a w).bit b i = m.bit b i := by
  simp [Mach.bit, Mach.rd_wr_other _ _ _ _ h]

theorem Mach.bit_put_other (m : Mach) (a b hi lo v i : Nat) (h : b ≠ a) : (m.put a hi lo v).bit b i = m.bit b i :=
  m.bit_wr_other a b i _ h

theorem Mach.bit_putBit_other (m : Mach) (a b i j : Nat) (x : Bool) (h : b ≠ a) : (m.putBit a i x).bit b j = m.bit b j :=
  m.bit_put_other a b i i _ j h

theorem Mach.fld_putBit_other (m : Mach) (a b i hi lo : Nat) (x : Bool) (h : b ≠ a) : (m.putBit a i x).fld b hi lo = m.fld b hi lo :=
  m.fld_put_other a b i i _ hi lo h

/-! ### The same over the table of active values, which is all that a read of a register looks at -/

/-- A register, a field and a bit as the table of active values gives them. -/
def rdT (t : Tab Word) (a : Nat) : Word := (tfind t a).getD (BitVec.ofNat 32 (resetAt a))
def fldT (t : Tab Word) (a hi lo : Nat) : Nat := bitsOf (rdT t a).toNat hi lo
def bitT (t : Tab Word) (a i : Nat) : Bool := bitOf (rdT t a).toNat i

/-- The table with a field of a register set. -/
def putT (t : Tab Word) (a hi lo v : Nat) : Tab Word := tset t a (BitVec.ofNat 32 (withBits (rdT t a).toNat hi lo v))
def putBitT (t : Tab Word) (a i : Nat) (b : Bool) : Tab Word := putT t a i i (b2n b)

theorem Mach.rd_eq (m : Mach) (a : Nat) : m.rd a = rdT m.regs.act a := rfl
theorem Mach.fld_eq (m : Mach) (a hi lo : Nat) : m.fld a hi lo = fldT m.regs.act a hi lo := rfl
theorem Mach.bit_eq (m : Mach) (a i : Nat) : m.bit a i = bitT m.regs.act a i := rfl
theorem Mach.wr_regs_act (m : Mach) (a : Nat) (w : Word) : (m.wr a w).regs.act = tset m.regs.act a w := rfl
theorem Mach.put_act (m : Mach) (a hi lo v : Nat) : (m.put a hi lo v).regs.act = putT m.regs.act a hi lo v := rfl
theorem Mach.putBit_act (m : Mach) (a i : Nat) (b : Bool) : (m.putBit a i b).regs.act = putBitT m.regs.act a i b := rfl
theorem Mach.bumpF_act (m : Mach) (a hi lo n : Nat) :
    (m.bumpF a hi lo n).regs.act = putT m.regs.act a hi lo (min (fldT m.regs.act a hi lo + n) (2 ^ (hi + 1 - lo) - 1)) := rfl

theorem rdT_tset_same (t : Tab Word) (a : Nat) (w : Word) : rdT (tset t a w) a = w := by simp [rdT, tfind_tset_same]
theorem rdT_tset_other (t : Tab Word) (a b : Nat) (w : Word) (h : b ≠ a) : rdT (tset t a w) b = rdT t b := by
  simp [rdT, tfind_tset_other _ a b w h]
theorem rdT_putT_other (t : Tab Word) (a b hi lo v : Nat) (h : b ≠ a) : rdT (putT t a hi lo v) b = rdT t b := rdT_tset_other t a b _ h
theorem rdT_putBitT_other (t : Tab Word) (a b i : Nat) (x : Bool) (h : b ≠ a) : rdT (putBitT t a i x) b = rdT t b :=
  rdT_tset_other t a b _ h

theorem fldT_tset_same (t : Tab Word) (a hi lo : Nat) (w : Word) : fldT (tset t a w) a hi lo = bitsOf w.toNat hi lo := by
  simp [fldT, rdT_tset_same]
theorem fldT_tset_other (t : Tab Word) (a b hi lo : Nat) (w : Word) (h : b ≠ a) : fldT (tset t a w) b hi lo = fldT t b hi lo := by
  simp [fldT, rdT_tset_other _ _ _ _ h]
theorem fldT_putT_same (t : Tab Word) (a hi lo v : Nat) (h : lo ≤ hi) (h32 : hi < 32) :
    fldT (putT t a hi lo v) a hi lo = v % 2 ^ (hi + 1 - lo) := by
  simp only [putT, fldT_tset_same, BitVec.toNat_ofNat, bitsOf_mod32 _ _ _ h32, bitsOf_withBits_same _ _ _ _ h]
theorem fldT_putT_disjoint (t : Tab Word) (a hi lo v hi' lo' : Nat) (h : lo ≤ hi) (h32 : hi' < 32) (hd : hi' < lo ∨ hi < lo') :
    fldT (putT t a hi lo v) a hi' lo' = fldT t a hi' lo' := by
  simp only [putT, fldT_tset_same, BitVec.toNat_ofNat, bitsOf_mod32 _ _ _ h32, bitsOf_withBits_disjoint _ _ _ _ _ _ h hd]
  rfl
theorem fldT_putT_other (t : Tab Word) (a b hi lo v hi' lo' : Nat) (h : b ≠ a) : fldT (putT t a hi lo v) b hi' lo' = fldT t b hi' lo' :=
  fldT_tset_other t a b _ _ _ h
theorem fldT_putBitT_disjoint (t : Tab Word) (a i hi lo : Nat) (x : Bool) (h32 : hi < 32) (hd : hi < i ∨ i < lo) :
    fldT (putBitT t a i x) a hi lo = fldT t a hi lo := fldT_putT_disjoint t a i i _ hi lo (le_refl i) h32 hd
theorem fldT_putBitT_other (t : Tab Word) (a b i hi lo : Nat) (x : Bool) (h : b ≠ a) : fldT (putBitT t a i x) b hi lo = fldT t b hi lo :=
  fldT_tset_other t a b _ _ _ h

theorem bitT_eq_fldT (t : Tab Word) (a i : Nat) : bitT t a i = decide (fldT t a i i = 1) := bitOf_eq_bitsOf _ _
theorem bitT_tset_same (t : Tab Word) (a i : Nat) (w : Word) : bitT (tset t a w) a i = bitOf w.toNat i := by
  simp [bitT, rdT_tset_same]
theorem bitT_tset_other (t : Tab Word) (a b i : Nat) (w : Word) (h : b ≠ a) : bitT (tset t a w) b i = bitT t b i := by
  simp [bitT, rdT_tset_other _ _ _ _ h]
theorem bitT_putBitT_same (t : Tab Word) (a i : Nat) (b : Bool) (h32 : i < 32) : bitT (putBitT t a i b) a i = b := by
  rw [bitT_eq_fldT, putBitT, fldT_putT_same _ _ _ _ _ (le_refl i) h32]
  cases b <;> simp [b2n]
theorem bitT_putT_same (t : Tab Word) (a i v : Nat) (h32 : i < 32) : bitT (putT t a i i v) a i = decide (v % 2 = 1) := by
  rw [bitT_eq_fldT, fldT_putT_same _ _ _ _ _ (le_refl i) h32]; simp
theorem bitT_putT_disjoint (t : Tab Word) (a hi lo v i : Nat) (hl : lo ≤ hi) (h32 : i < 32) (h : i < lo ∨ hi < i) :
    bitT (putT t a hi lo v) a i = bitT t a i := by
  rw [bitT_eq_fldT, bitT_eq_fldT, fldT_putT_disjoint _ _ _ _ _ _ _ hl h32 h]
theorem bitT_putBitT_disjoint (t : Tab Word) (a i j : Nat) (b : Bool) (h32 : j < 32) (h : j < i ∨ i < j) :
    bitT (putBitT t a i b) a j = bitT t a j := bitT_putT_disjoint t a i i _ j (le_refl i) h32 h
theorem bitT_putT_other (t : Tab Word) (a b hi lo v i : Nat) (h : b ≠ a) : bitT (putT t a hi lo v) b i = bitT t b i :=
  bitT_tset_other t a b _ _ h
theorem bitT_putBitT_other (t : Tab Word) (a b i j : Nat) (x : Bool) (h : b ≠ a) : bitT (putBitT t a i x) b j = bitT t b j :=
  bitT_tset_other t a b _ _ h

end Sys2Proof.Machine
end

