-- ==== Sys2Proof/Laws/Access.lean ====
section
/-! SUPPORT. What the register accesses can do: one lemma per outcome of the filter. -/
namespace Sys2Proof.Machine

theorem Mach.event_awake (m : Mach) (f : Mach → Mach) (h : m.isGone everyTarget = false) : m.event f = f m := by
  simp [Mach.event, h]

/-- A write that passes every filter, of a register that is a quantity of one word, commits that word and answers OK. -/
theorem Mach.writeCmd_open (m : Mach) (who : Ident) (off p o v : Nat) (r : RegRow)
    (hp : resolvePage (off / 0x1000 % 0x1000) = p) (ho : resolveOff p (off % 0x1000) = o) (hal : off % 4 = 0)
    (hh : 0x20 ≤ o) (hr : rowIn (pageRows p) o = some r) (hw : mwInfo p o r = (1, 0)) (ht : p < 0xF00) (hv : v < 2 ^ 32)
    (h : m.writeOpen who off) : m.writeCmd who off v = { m.commit who p [(o, v)] with resp := [(0, 0)] } := by
  simp only [Mach.writeOpen, hp, ho] at h
  obtain ⟨⟨ha, hg⟩, hre, hal', hl, hb⟩ := h
  have ho' : ¬ o < 32 := by omega
  have hd : dataMark p o = r.data := by simp [dataMark, hr, ho']
  rw [hd] at hal'
  have hv' : v &&& 4294967295 = v := by
    have := Nat.and_two_pow_sub_one_eq_mod v 32
    rw [show 2 ^ 32 - 1 = 4294967295 from rfl] at this
    rw [this, Nat.mod_eq_of_lt hv]
  have ht' : ¬ (3840 ≤ p) := by omega
  have hf : (m.regs.held.filter (fun e => !decide (latchKey who p o ≤ e.1) || !decide (e.1 < latchKey who p o))) = m.regs.held := by
    apply List.filter_eq_self.2
    intro e _
    by_cases h : latchKey who p o ≤ e.1
    · have : ¬ (e.1 < latchKey who p o) := by omega
      simp [this]
    · simp [h]
  simp only [Mach.writeCmd, ha, Mach.event_awake _ _ hg, Mach.regWrite, hp, ho, hre, hr, if_neg ho', hal', hal, hl, ht']
  simp [hv', Mach.writeRow, hw, hb, Mach.heldWords, Mach.dropHeld, hf]

/-- The register at byte offset `off` stands at offset `o` of page `p` and is a quantity of one word. -/
def oneWord (off p o : Nat) : Bool :=
  resolvePage (off / 0x1000 % 0x1000) = p && resolveOff p (off % 0x1000) = o && off % 4 = 0 && 0x20 ≤ o && p < 0xF00 &&
    (rowIn (pageRows p) o).any (fun r => mwInfo p o r = (1, 0))

theorem Mach.writeCmd_word (m : Mach) (who : Ident) (off p o v : Nat) (hr : oneWord off p o = true) (hv : v < 2 ^ 32)
    (h : m.writeOpen who off) : m.writeCmd who off v = { m.commit who p [(o, v)] with resp := [(0, 0)] } := by
  simp only [oneWord, Bool.and_eq_true, decide_eq_true_eq] at hr
  obtain ⟨⟨⟨⟨⟨hp, ho⟩, hal⟩, hh⟩, ht⟩, hr⟩ := hr
  cases hrow : rowIn (pageRows p) o with
  | none => simp [hrow] at hr
  | some r => exact m.writeCmd_open who off p o v r hp ho hal hh hrow (by simpa [hrow] using hr) ht hv h

/-- The filter turns a write away: denied, with nothing written but the record of the refusal. -/
theorem Mach.writeCmd_denied (m : Mach) (who : Ident) (off v : Nat) (h : m.writeDenied who off) :
    m.writeCmd who off v = { m.refuse who 0 off 1 with resp := [(1, 0)] } := by
  obtain ⟨⟨ha, hg⟩, hal, hw⟩ := h
  simp only [dataMark] at hw
  simp only [Mach.writeCmd, ha, Mach.event_awake _ _ hg, Mach.regWrite]
  generalize resolvePage (off / 4096 % 4096) = p at *
  generalize resolveOff p (off % 4096) = o at *
  rw [if_neg (by simp), if_pos (by
    simp only [Bool.or_eq_true, Bool.not_eq_true', decide_eq_true_eq]; exact Or.inl (Or.inr hw))]

end Sys2Proof.Machine
end

