-- ==== Sys2Proof/Laws/Memory.lean ====
section
/-! SUPPORT. What an access of translated memory can change: memory itself, the MMU's cache, the statistics and failure
records of MMU and channels, and the count of free values. -/
namespace Sys2Proof.Machine

/-- The registers that an access for partition `p` may change (R500, R511, R512, R523). -/
def memReg (p a : Nat) : Prop :=
  a = A.MMU_WALKS p ∨ a = A.MMU_WALKFAIL p ∨ a = A.MMU_FAULT p ∨ a = A.MMU_FAULT_VA_LO p ∨ a = A.MMU_FAULT_VA_LO p + 4 ∨
    ∃ ch, a = A.MEM_UNCORR ch ∨ a = A.MEM_POISON_RD ch ∨ a = A.MEM_ERR_PA_LO ch ∨ a = A.MEM_ERR_PA_LO ch + 4

/-- `n` is `m` after accesses for partition `p`. -/
def MemMoved (p : Nat) (m n : Mach) : Prop :=
  n = { m with regs := { m.regs with act := n.regs.act }, mem := n.mem, free := n.free } ∧ ∀ a, ¬ memReg p a → n.rd a = m.rd a

theorem MemMoved.refl (p : Nat) (m : Mach) : MemMoved p m m := ⟨rfl, fun _ _ => rfl⟩

theorem MemMoved.trans {p : Nat} {m n k : Mach} (h1 : MemMoved p m n) (h2 : MemMoved p n k) : MemMoved p m k := by
  refine ⟨?_, fun a h => (h2.2 a h).trans (h1.2 a h)⟩
  conv_lhs => rw [h2.1]
  conv_lhs => rw [h1.1]

theorem MemMoved.of_wr (p : Nat) (m : Mach) (a : Nat) (w : Word) (h : memReg p a) : MemMoved p m (m.wr a w) :=
  ⟨rfl, fun b hb => m.rd_wr_other a b w (fun e => hb (e ▸ h))⟩

theorem MemMoved.of_put (p : Nat) (m : Mach) (a hi lo v : Nat) (h : memReg p a) : MemMoved p m (m.put a hi lo v) :=
  MemMoved.of_wr p m a _ h

theorem MemMoved.of_bump (p : Nat) (m : Mach) (a : Nat) (h : memReg p a) : MemMoved p m (m.bump a) :=
  MemMoved.of_put p m a 31 0 _ h

theorem MemMoved.of_wr64 (p : Nat) (m : Mach) (a v : Nat) (h : memReg p a) (h4 : memReg p (a + 4)) : MemMoved p m (m.wr64 a v) :=
  (MemMoved.of_wr p m a _ h).trans (MemMoved.of_wr p _ (a + 4) _ h4)

theorem MemMoved.of_mem (p : Nat) (m : Mach) (x : MemSt) : MemMoved p m { m with mem := x } := ⟨rfl, fun _ _ => rfl⟩

theorem memReg_walks (p : Nat) : memReg p (A.MMU_WALKS p) := .inl rfl
theorem memReg_walkfail (p : Nat) : memReg p (A.MMU_WALKFAIL p) := .inr (.inl rfl)
theorem memReg_fault (p : Nat) : memReg p (A.MMU_FAULT p) := .inr (.inr (.inl rfl))
theorem memReg_va (p : Nat) : memReg p (A.MMU_FAULT_VA_LO p) := .inr (.inr (.inr (.inl rfl)))
theorem memReg_va4 (p : Nat) : memReg p (A.MMU_FAULT_VA_LO p + 4) := .inr (.inr (.inr (.inr (.inl rfl))))
theorem memReg_uncorr (p ch : Nat) : memReg p (A.MEM_UNCORR ch) := .inr (.inr (.inr (.inr (.inr ⟨ch, .inl rfl⟩))))
theorem memReg_poison (p ch : Nat) : memReg p (A.MEM_POISON_RD ch) := .inr (.inr (.inr (.inr (.inr ⟨ch, .inr (.inl rfl)⟩))))
theorem memReg_pa (p ch : Nat) : memReg p (A.MEM_ERR_PA_LO ch) := .inr (.inr (.inr (.inr (.inr ⟨ch, .inr (.inr (.inl rfl))⟩))))
theorem memReg_pa4 (p ch : Nat) : memReg p (A.MEM_ERR_PA_LO ch + 4) := .inr (.inr (.inr (.inr (.inr ⟨ch, .inr (.inr (.inr rfl))⟩))))

theorem Mach.errPa_moved (p : Nat) (m : Mach) (l : Nat) : MemMoved p m (m.errPa l) :=
  MemMoved.of_wr64 p m _ _ (memReg_pa p _) (memReg_pa4 p _)

/-- A read of a line changes statistics only. -/
theorem Mach.lineRead_moved (m : Mach) (p pa : Nat) : MemMoved p m (m.lineRead p pa).1 ∧ (m.lineRead p pa).1.mem = m.mem := by
  unfold Mach.lineRead
  dsimp only
  split_ifs
  · exact ⟨.refl p m, rfl⟩
  · exact ⟨.refl p m, rfl⟩
  · exact ⟨(MemMoved.of_bump p m _ (memReg_uncorr p _)).trans (Mach.errPa_moved p _ _), rfl⟩
  · exact ⟨(MemMoved.of_bump p m _ (memReg_poison p _)).trans (Mach.errPa_moved p _ _), rfl⟩
  · exact ⟨.refl p m, rfl⟩

/-- A full write of a line changes no byte by itself. -/
theorem Mach.lineFull_moved (m : Mach) (p pa : Nat) : MemMoved p m (m.lineFull p pa).1 ∧ (m.lineFull p pa).1.mem.cells = m.mem.cells := by
  unfold Mach.lineFull
  dsimp only
  split_ifs
  · exact ⟨.refl p m, rfl⟩
  · exact ⟨.refl p m, rfl⟩
  · exact ⟨(MemMoved.of_bump p m _ (memReg_uncorr p _)).trans (Mach.errPa_moved p _ _), rfl⟩
  · exact ⟨MemMoved.of_mem p m _, rfl⟩

theorem Mach.walkFrom_moved (p va : Nat) (lvls : List Nat) : ∀ (m : Mach) (t : Nat) (ptrs : List MmuEnt),
    MemMoved p m (m.walkFrom p va t ptrs lvls).1 ∧ (m.walkFrom p va t ptrs lvls).1.mem = m.mem := by
  induction lvls with
  | nil => intro m t ptrs; exact ⟨.refl p m, rfl⟩
  | cons lvl r ih =>
    intro m t ptrs
    unfold Mach.walkFrom
    dsimp only
    split_ifs
    · exact ⟨.refl p m, rfl⟩
    · obtain ⟨h1, h2⟩ := m.lineRead_moved p (t + 8 * lvlIndex lvl va)
      split
      · rename_i m' k hk; rw [hk] at h1 h2; exact ⟨h1, h2⟩
      · rename_i m' hk
        rw [hk] at h1 h2
        dsimp only at h1 h2
        split_ifs
        · exact ⟨h1, h2⟩
        · exact ⟨h1, h2⟩
        · exact ⟨h1, h2⟩
        · obtain ⟨h3, h4⟩ := ih m' (entryPa (leNat (memRead m'.mem.cells (t + 8 * lvlIndex lvl va) 8)))
            (ptrs ++ [{ part := p, lvl := lvl + 1, va := va / lvlSpan lvl * lvlSpan lvl, pa := entryPa (leNat (memRead m'.mem.cells (t + 8 * lvlIndex lvl va) 8)) }])
          exact ⟨h1.trans h3, h4.trans h2⟩

theorem Mach.walkFailed_moved (m : Mach) (src p va : Nat) (k : XKind) :
    MemMoved p m (m.walkFailed src p va k) ∧ (m.walkFailed src p va k).mem = m.mem := by
  unfold Mach.walkFailed
  dsimp only
  split_ifs
  · exact ⟨MemMoved.of_bump p m _ (memReg_walkfail p), rfl⟩
  · exact ⟨((MemMoved.of_bump p m _ (memReg_walkfail p)).trans (MemMoved.of_wr p _ _ _ (memReg_fault p))).trans
      (MemMoved.of_wr64 p _ _ _ (memReg_va p) (memReg_va4 p)), rfl⟩

theorem Mach.draw_moved (p : Nat) (m : Mach) : MemMoved p m m.draw.2 := ⟨rfl, fun _ _ => rfl⟩

/-- Translating one address moves the cache and the statistics, and no byte. -/
theorem Mach.xlateOne_moved (m : Mach) (src p va first : Nat) :
    MemMoved p m (m.xlateOne src p va first).1 ∧ (m.xlateOne src p va first).1.mem.cells = m.mem.cells := by
  unfold Mach.xlateOne
  split
  · exact ⟨.refl p m, rfl⟩
  · dsimp only
    have hb := MemMoved.of_bump p m _ (memReg_walks p)
    have key : ∀ (res : Mach × Except XKind (Nat × Nat × List MmuEnt)), MemMoved p (m.bump (A.MMU_WALKS p)) res.1 → res.1.mem = m.mem →
        MemMoved p m (match res with
          | (m, .error k) => (m.walkFailed src p first k, (.error { kind := k, va := first } : Except XFail (Nat × Nat)))
          | (m, .ok (pa, lvl, ptrs)) =>
            let (d, m) := m.draw
            let leaf := cacheAdd m.mem.leaf p 2048 d.toNat { part := p, lvl := lvl, va := va / lvlSpan lvl * lvlSpan lvl, pa := pa }
            let ptr := ptrs.foldl (fun l x => cacheAdd l p 512 (d.toNat / 2048) x) m.mem.ptr
            ({ m with mem := { m.mem with leaf := leaf, ptr := ptr } }, .ok (pa + va % lvlSpan lvl, lvlSpan lvl))).1 ∧
        (match res with
          | (m, .error k) => (m.walkFailed src p first k, (.error { kind := k, va := first } : Except XFail (Nat × Nat)))
          | (m, .ok (pa, lvl, ptrs)) =>
            let (d, m) := m.draw
            let leaf := cacheAdd m.mem.leaf p 2048 d.toNat { part := p, lvl := lvl, va := va / lvlSpan lvl * lvlSpan lvl, pa := pa }
            let ptr := ptrs.foldl (fun l x => cacheAdd l p 512 (d.toNat / 2048) x) m.mem.ptr
            ({ m with mem := { m.mem with leaf := leaf, ptr := ptr } }, .ok (pa + va % lvlSpan lvl, lvlSpan lvl))).1.mem.cells = m.mem.cells := by
      intro res h1 h2
      rcases res with ⟨n, k | ⟨pa, lvl, ptrs⟩⟩
      · obtain ⟨h3, h4⟩ := n.walkFailed_moved src p first k
        exact ⟨(hb.trans h1).trans h3, by rw [h4]; exact congrArg MemSt.cells h2⟩
      · exact ⟨((hb.trans h1).trans (n.draw_moved p)).trans (MemMoved.of_mem p _ _), (congrArg MemSt.cells (show n.mem = m.mem from h2) : n.mem.cells = m.mem.cells)⟩
    apply key
    · split
      · exact (Mach.walkFrom_moved p va _ _ _ _).1
      · split
        · exact (Mach.walkFrom_moved p va _ _ _ _).1
        · exact (Mach.walkFrom_moved p va _ _ _ _).1
    · split
      · exact (Mach.walkFrom_moved p va _ _ _ _).2
      · split
        · exact (Mach.walkFrom_moved p va _ _ _ _).2
        · exact (Mach.walkFrom_moved p va _ _ _ _).2

theorem Mach.xlateFrom_moved (src p va n : Nat) (fuel : Nat) : ∀ (m : Mach) (off : Nat) (acc : List Seg),
    MemMoved p m (m.xlateFrom src p va off n acc fuel).1 ∧ (m.xlateFrom src p va off n acc fuel).1.mem.cells = m.mem.cells := by
  induction fuel with
  | zero => intro m off acc; exact ⟨.refl p m, rfl⟩
  | succ k ih =>
    intro m off acc
    unfold Mach.xlateFrom
    split_ifs
    · exact ⟨.refl p m, rfl⟩
    · obtain ⟨h1, h2⟩ := m.xlateOne_moved src p ((va + off) % 2 ^ 48) ((va + off) % 2 ^ 48)
      split
      · rename_i m' e he; rw [he] at h1 h2; exact ⟨h1, h2⟩
      · rename_i m' pa size he
        rw [he] at h1 h2
        obtain ⟨h3, h4⟩ := ih m' (off + min (size - pa % size) (n - off)) (acc ++ [{ off := off, pa := pa, len := min (size - pa % size) (n - off) }])
        exact ⟨h1.trans h3, h4.trans h2⟩

theorem Mach.xlate_moved (m : Mach) (src p va n : Nat) :
    MemMoved p m (m.xlate src p va n).1 ∧ (m.xlate src p va n).1.mem.cells = m.mem.cells := Mach.xlateFrom_moved src p va n _ m 0 []

theorem Mach.checkLines_moved (p va : Nat) (l : List Seg) : ∀ m : Mach,
    MemMoved p m (m.checkLines p va l).1 ∧ (m.checkLines p va l).1.mem = m.mem := by
  induction l with
  | nil => intro m; exact ⟨.refl p m, rfl⟩
  | cons s r ih =>
    intro m
    unfold Mach.checkLines
    obtain ⟨h1, h2⟩ := m.lineRead_moved p s.pa
    split
    · rename_i m' k hk; rw [hk] at h1 h2; exact ⟨h1, h2⟩
    · rename_i m' hk
      rw [hk] at h1 h2
      exact ⟨h1.trans (ih m').1, (ih m').2.trans h2⟩

/-- A read of translated memory changes no byte. -/
theorem Mach.vread_moved (m : Mach) (src p va n : Nat) :
    MemMoved p m (m.vread src p va n).1 ∧ (m.vread src p va n).1.mem.cells = m.mem.cells := by
  unfold Mach.vread
  obtain ⟨h1, h2⟩ := m.xlate_moved src p va n
  split
  · rename_i m' e he; rw [he] at h1 h2; exact ⟨h1, h2⟩
  · rename_i m' segs he
    rw [he] at h1 h2
    obtain ⟨h3, h4⟩ := Mach.checkLines_moved p va (lineSegs segs) m'
    split
    · rename_i m2 e he2; rw [he2] at h3 h4; exact ⟨h1.trans h3, (congrArg MemSt.cells h4).trans h2⟩
    · rename_i m2 he2; rw [he2] at h3 h4; exact ⟨h1.trans h3, (congrArg MemSt.cells h4).trans h2⟩

theorem Mach.modLines_moved (p va : Nat) (full : Bool) (g : Nat → List Byte → List Byte) (l : List Seg) : ∀ m : Mach,
    MemMoved p m (m.modLines p va full g l).1 := by
  induction l with
  | nil => intro m; exact .refl p m
  | cons s r ih =>
    intro m
    unfold Mach.modLines
    have h1 : MemMoved p m (if full && s.len = 64 then m.lineFull p s.pa else m.lineRead p s.pa).1 := by
      split
      · exact (m.lineFull_moved p s.pa).1
      · exact (m.lineRead_moved p s.pa).1
    split
    · rename_i m' k hk; rw [hk] at h1; exact h1
    · rename_i m' hk
      rw [hk] at h1
      exact (h1.trans (MemMoved.of_mem p _ _)).trans (ih _)

/-- An update of translated memory changes memory and the access records only. -/
theorem Mach.vupdate_moved (m : Mach) (src p va n : Nat) (full : Bool) (g : Nat → List Byte → List Byte) :
    MemMoved p m (m.vupdate src p va n full g).1 := by
  unfold Mach.vupdate
  have h1 := (m.xlate_moved src p va n).1
  split
  · rename_i m' e he; rw [he] at h1; exact h1
  · rename_i m' segs he; rw [he] at h1; exact h1.trans (Mach.modLines_moved p va full g _ _)

/-- A write of translated memory changes memory and the access records only. -/
theorem Mach.vwrite_moved (m : Mach) (src p va : Nat) (b : List Byte) : MemMoved p m (m.vwrite src p va b).1 :=
  m.vupdate_moved src p va _ _ _

theorem Mach.modLines_wf (p va : Nat) (full : Bool) (g : Nat → List Byte → List Byte) (l : List Seg) : ∀ m : Mach,
    memWf m.mem.cells = true → memWf (m.modLines p va full g l).1.mem.cells = true := by
  induction l with
  | nil => intro m h; exact h
  | cons s r ih =>
    intro m h
    unfold Mach.modLines
    have h1 : (if full && s.len = 64 then m.lineFull p s.pa else m.lineRead p s.pa).1.mem.cells = m.mem.cells := by
      split
      · exact (m.lineFull_moved p s.pa).2
      · exact congrArg MemSt.cells (m.lineRead_moved p s.pa).2
    split
    · rename_i m' k hk; rw [hk] at h1; exact (congrArg memWf h1).trans h
    · rename_i m' hk
      rw [hk] at h1
      refine ih _ (memWrite_wf _ _ _ ?_)
      exact (congrArg memWf h1).trans h

/-- A write of translated memory keeps the canonical form. -/
theorem Mach.vwrite_wf (m : Mach) (src p va : Nat) (b : List Byte) (h : memWf m.mem.cells = true) :
    memWf (m.vwrite src p va b).1.mem.cells = true := by
  unfold Mach.vwrite Mach.vupdate
  have h1 := (m.xlate_moved src p va b.length).2
  split
  · rename_i m' e he; rw [he] at h1; exact (congrArg memWf h1).trans h
  · rename_i m' segs he; rw [he] at h1; exact Mach.modLines_wf p va _ _ _ _ ((congrArg memWf h1).trans h)

/-- A physical write keeps the canonical form. -/
theorem Mach.pwrite_wf (m : Mach) (pa : Nat) (b : List Byte) (h : memWf m.mem.cells = true) : memWf (m.pwrite pa b).mem.cells = true :=
  memWrite_wf _ pa b h

end Sys2Proof.Machine
end

