-- ==== Sys2Proof/Laws/Rows.lean ====
section
/-! SUPPORT. Which effect each register's write reaches, once every filter has let it through. -/
namespace Sys2Proof.Machine

variable (m : Mach) (who : Ident) (v : Nat)

theorem Mach.commit_PHS_CFG : m.commit who 0x010 [(0x20, v)] = m.writePhsCfg v := by
  simp [Mach.commit, queueBase, Mach.cellOf, Mach.writeGlbPhs, Mach.writeFltInt, Mach.writeKeyAtt, Mach.writeSlow, Mach.writeLoamAgg, Mach.writePorts, Mach.writeUnits]

theorem Mach.write_PHS_CFG (hv : v < 2 ^ 32) (h : m.writeOpen who A.PHS_CFG) :
    m.writeCmd who A.PHS_CFG v = ((m.writePhsCfg v).answered) := by
  rw [m.writeCmd_word who A.PHS_CFG 0x010 0x20 v (by decide) hv h, m.commit_PHS_CFG who v]; rfl

theorem Mach.commit_PHS_CTL : m.commit who 0x010 [(0x40, v)] = m.writeAcq v := by
  simp [Mach.commit, queueBase, Mach.cellOf, Mach.writeGlbPhs, Mach.writeFltInt, Mach.writeKeyAtt, Mach.writeSlow, Mach.writeLoamAgg, Mach.writePorts, Mach.writeUnits]

theorem Mach.write_PHS_CTL (hv : v < 2 ^ 32) (h : m.writeOpen who A.PHS_CTL) :
    m.writeCmd who A.PHS_CTL v = ((m.writeAcq v).answered) := by
  rw [m.writeCmd_word who A.PHS_CTL 0x010 0x40 v (by decide) hv h, m.commit_PHS_CTL who v]; rfl

theorem Mach.commit_PHS_EPOCH_SET : m.commit who 0x010 [(0x44, v)] = m.writeEpochSet v := by
  simp [Mach.commit, queueBase, Mach.cellOf, Mach.writeGlbPhs, Mach.writeFltInt, Mach.writeKeyAtt, Mach.writeSlow, Mach.writeLoamAgg, Mach.writePorts, Mach.writeUnits]

theorem Mach.write_PHS_EPOCH_SET (hv : v < 2 ^ 32) (h : m.writeOpen who A.PHS_EPOCH_SET) :
    m.writeCmd who A.PHS_EPOCH_SET v = ((m.writeEpochSet v).answered) := by
  rw [m.writeCmd_word who A.PHS_EPOCH_SET 0x010 0x44 v (by decide) hv h, m.commit_PHS_EPOCH_SET who v]; rfl

theorem row_CMP_CTL : ∀ (c : Fin 64), oneWord (A.CMP_CTL c.val) 0x011 (0x10C + 16 * c.val) = true := by decide

theorem Mach.commit_CMP_CTL (c : Fin 64) : m.commit who 0x011 [(0x10C + 16 * c.val, v)] = m.writeCmpCtl c.val v := by
  fin_cases c <;> simp [Mach.commit, queueBase, Mach.cellOf, Mach.writeGlbPhs, Mach.writeFltInt, Mach.writeKeyAtt, Mach.writeSlow, Mach.writeLoamAgg, Mach.writePorts, Mach.writeUnits]

theorem Mach.write_CMP_CTL (c : Fin 64) (hv : v < 2 ^ 32) (h : m.writeOpen who (A.CMP_CTL c.val)) :
    m.writeCmd who (A.CMP_CTL c.val) v = ((m.writeCmpCtl c.val v).answered) := by
  rw [m.writeCmd_word who (A.CMP_CTL c.val) 0x011 (0x10C + 16 * c.val) v (row_CMP_CTL c) hv h, m.commit_CMP_CTL who v c]; rfl

theorem row_PHS_CMP_OWN : ∀ (n : Fin 8), oneWord (A.PHS_CMP_OWN n.val) 0x010 (0x80 + 4 * n.val) = true := by decide

theorem Mach.commit_PHS_CMP_OWN (n : Fin 8) : m.commit who 0x010 [(0x80 + 4 * n.val, v)] = m.tracked (fun a => a.writeCmpOwn n.val v) := by
  fin_cases n <;> simp [Mach.commit, queueBase, Mach.cellOf, Mach.writeGlbPhs, Mach.writeFltInt, Mach.writeKeyAtt, Mach.writeSlow, Mach.writeLoamAgg, Mach.writePorts, Mach.writeUnits]

theorem Mach.write_PHS_CMP_OWN (n : Fin 8) (hv : v < 2 ^ 32) (h : m.writeOpen who (A.PHS_CMP_OWN n.val)) :
    m.writeCmd who (A.PHS_CMP_OWN n.val) v = ((m.tracked (fun a => a.writeCmpOwn n.val v)).answered) := by
  rw [m.writeCmd_word who (A.PHS_CMP_OWN n.val) 0x010 (0x80 + 4 * n.val) v (row_PHS_CMP_OWN n) hv h, m.commit_PHS_CMP_OWN who v n]; rfl

theorem Mach.commit_GLB_UPD : m.commit who 0x000 [(0x40, v)] = m.writeGlbUpd v := by
  simp [Mach.commit, queueBase, Mach.cellOf, Mach.writeGlbPhs, Mach.writeFltInt, Mach.writeKeyAtt, Mach.writeSlow, Mach.writeLoamAgg, Mach.writePorts, Mach.writeUnits]

theorem Mach.write_GLB_UPD (hv : v < 2 ^ 32) (h : m.writeOpen who A.GLB_UPD) :
    m.writeCmd who A.GLB_UPD v = ((m.writeGlbUpd v).answered) := by
  rw [m.writeCmd_word who A.GLB_UPD 0x000 0x40 v (by decide) hv h, m.commit_GLB_UPD who v]; rfl

theorem Mach.commit_GLB_RST : m.commit who 0x000 [(0x30, v)] = m.writeGlbRst v := by
  simp [Mach.commit, queueBase, Mach.cellOf, Mach.writeGlbPhs, Mach.writeFltInt, Mach.writeKeyAtt, Mach.writeSlow, Mach.writeLoamAgg, Mach.writePorts, Mach.writeUnits]

theorem Mach.write_GLB_RST (hv : v < 2 ^ 32) (h : m.writeOpen who A.GLB_RST) :
    m.writeCmd who A.GLB_RST v = ((m.writeGlbRst v).answered) := by
  rw [m.writeCmd_word who A.GLB_RST 0x000 0x30 v (by decide) hv h, m.commit_GLB_RST who v]; rfl

theorem row_HRMP_LKEY_CTL : ∀ (p : Fin 16), oneWord (A.HRMP_LKEY_CTL p.val) (0x390 + p.val) 0x28 = true := by decide

theorem Mach.commit_HRMP_LKEY_CTL (p : Fin 16) : m.commit who (0x390 + p.val) [(0x28, v)] = m.writeLkeyCtl p.val v := by
  fin_cases p <;> simp [Mach.commit, queueBase, Mach.cellOf, Mach.writeGlbPhs, Mach.writeFltInt, Mach.writeKeyAtt, Mach.writeSlow, Mach.writeLoamAgg, Mach.writePorts, Mach.writeUnits]

theorem Mach.write_HRMP_LKEY_CTL (p : Fin 16) (hv : v < 2 ^ 32) (h : m.writeOpen who (A.HRMP_LKEY_CTL p.val)) :
    m.writeCmd who (A.HRMP_LKEY_CTL p.val) v = ((m.writeLkeyCtl p.val v).answered) := by
  rw [m.writeCmd_word who (A.HRMP_LKEY_CTL p.val) (0x390 + p.val) 0x28 v (row_HRMP_LKEY_CTL p) hv h, m.commit_HRMP_LKEY_CTL who v p]; rfl

theorem row_HRMP_RXWAY : ∀ (p : Fin 16), oneWord (A.HRMP_RXWAY p.val) (0x390 + p.val) 0x2C = true := by decide

theorem Mach.commit_HRMP_RXWAY (p : Fin 16) : m.commit who (0x390 + p.val) [(0x2C, v)] = m.writeRxway p.val v := by
  fin_cases p <;> simp [Mach.commit, queueBase, Mach.cellOf, Mach.writeGlbPhs, Mach.writeFltInt, Mach.writeKeyAtt, Mach.writeSlow, Mach.writeLoamAgg, Mach.writePorts, Mach.writeUnits]

theorem Mach.write_HRMP_RXWAY (p : Fin 16) (hv : v < 2 ^ 32) (h : m.writeOpen who (A.HRMP_RXWAY p.val)) :
    m.writeCmd who (A.HRMP_RXWAY p.val) v = ((m.writeRxway p.val v).answered) := by
  rw [m.writeCmd_word who (A.HRMP_RXWAY p.val) (0x390 + p.val) 0x2C v (row_HRMP_RXWAY p) hv h, m.commit_HRMP_RXWAY who v p]; rfl

theorem row_HRMP_QOWN : ∀ (n : Fin 64), oneWord (A.HRMP_QOWN n.val) 0x380 (0x100 + 4 * n.val) = true := by decide

theorem Mach.commit_HRMP_QOWN (n : Fin 64) : m.commit who 0x380 [(0x100 + 4 * n.val, v)] = m.tracked (fun a => a.writeQown n.val v) := by
  fin_cases n <;> simp [Mach.commit, queueBase, Mach.cellOf, Mach.writeGlbPhs, Mach.writeFltInt, Mach.writeKeyAtt, Mach.writeSlow, Mach.writeLoamAgg, Mach.writePorts, Mach.writeUnits]

theorem Mach.write_HRMP_QOWN (n : Fin 64) (hv : v < 2 ^ 32) (h : m.writeOpen who (A.HRMP_QOWN n.val)) :
    m.writeCmd who (A.HRMP_QOWN n.val) v = ((m.tracked (fun a => a.writeQown n.val v)).answered) := by
  rw [m.writeCmd_word who (A.HRMP_QOWN n.val) 0x380 (0x100 + 4 * n.val) v (row_HRMP_QOWN n) hv h, m.commit_HRMP_QOWN who v n]; rfl

theorem row_HRMP_CBANK : ∀ (n : Fin 64), oneWord (A.HRMP_CBANK n.val) 0x380 (0x200 + 4 * n.val) = true := by decide

theorem Mach.commit_HRMP_CBANK (n : Fin 64) : m.commit who 0x380 [(0x200 + 4 * n.val, v)] = m.tracked (fun a => a.writeCbank n.val v) := by
  fin_cases n <;> simp [Mach.commit, queueBase, Mach.cellOf, Mach.writeGlbPhs, Mach.writeFltInt, Mach.writeKeyAtt, Mach.writeSlow, Mach.writeLoamAgg, Mach.writePorts, Mach.writeUnits]

theorem Mach.write_HRMP_CBANK (n : Fin 64) (hv : v < 2 ^ 32) (h : m.writeOpen who (A.HRMP_CBANK n.val)) :
    m.writeCmd who (A.HRMP_CBANK n.val) v = ((m.tracked (fun a => a.writeCbank n.val v)).answered) := by
  rw [m.writeCmd_word who (A.HRMP_CBANK n.val) 0x380 (0x200 + 4 * n.val) v (row_HRMP_CBANK n) hv h, m.commit_HRMP_CBANK who v n]; rfl

theorem Mach.commit_HRMP_CFG : m.commit who 0x380 [(0x20, v)] = m.writeHrmpCfg v := by
  simp [Mach.commit, queueBase, Mach.cellOf, Mach.writeGlbPhs, Mach.writeFltInt, Mach.writeKeyAtt, Mach.writeSlow, Mach.writeLoamAgg, Mach.writePorts, Mach.writeUnits]

theorem Mach.write_HRMP_CFG (hv : v < 2 ^ 32) (h : m.writeOpen who A.HRMP_CFG) :
    m.writeCmd who A.HRMP_CFG v = ((m.writeHrmpCfg v).answered) := by
  rw [m.writeCmd_word who A.HRMP_CFG 0x380 0x20 v (by decide) hv h, m.commit_HRMP_CFG who v]; rfl

theorem row_BRL_PORT_CTL : ∀ (n : Fin 8), oneWord (A.BRL_PORT_CTL n.val) (0x300 + 8 * n.val) 0x20 = true := by decide

theorem Mach.commit_BRL_PORT_CTL (n : Fin 8) : m.commit who (0x300 + 8 * n.val) [(0x20, v)] = m.writePortCtl n.val v := by
  fin_cases n <;> simp [Mach.commit, queueBase, Mach.cellOf, Mach.writeGlbPhs, Mach.writeFltInt, Mach.writeKeyAtt, Mach.writeSlow, Mach.writeLoamAgg, Mach.writePorts, Mach.writeUnits]

theorem Mach.write_BRL_PORT_CTL (n : Fin 8) (hv : v < 2 ^ 32) (h : m.writeOpen who (A.BRL_PORT_CTL n.val)) :
    m.writeCmd who (A.BRL_PORT_CTL n.val) v = ((m.writePortCtl n.val v).answered) := by
  rw [m.writeCmd_word who (A.BRL_PORT_CTL n.val) (0x300 + 8 * n.val) 0x20 v (row_BRL_PORT_CTL n) hv h, m.commit_BRL_PORT_CTL who v n]; rfl

theorem Mach.commit_BRL_NODE : m.commit who 0x305 [(0x20, v)] = m.writeNode v := by
  simp [Mach.commit, queueBase, Mach.cellOf, Mach.writeGlbPhs, Mach.writeFltInt, Mach.writeKeyAtt, Mach.writeSlow, Mach.writeLoamAgg, Mach.writePorts, Mach.writeUnits]

theorem Mach.write_BRL_NODE (hv : v < 2 ^ 32) (h : m.writeOpen who A.BRL_NODE) :
    m.writeCmd who A.BRL_NODE v = ((m.writeNode v).answered) := by
  rw [m.writeCmd_word who A.BRL_NODE 0x305 0x20 v (by decide) hv h, m.commit_BRL_NODE who v]; rfl

theorem row_BRL_SHARE : ∀ (n : Fin 8) (vc : Fin 2) (p : Fin 16), oneWord (shareAddr n.val vc.val p.val) (0x302 + 8 * n.val) (0x100 + 0x40 * vc.val + 4 * p.val) = true := by decide +kernel

theorem Mach.commit_BRL_SHARE (n : Fin 8) (vc : Fin 2) (p : Fin 16) :
    m.commit who (0x302 + 8 * n.val) [(0x100 + 0x40 * vc.val + 4 * p.val, v)] = m.tracked (fun a => a.writeShare n.val vc.val p.val v) := by
  have h1 : (0x100 + 0x40 * vc.val + 4 * p.val - 0x100) / 0x40 = vc.val := by omega
  have h2 : (0x100 + 0x40 * vc.val + 4 * p.val) % 0x40 / 4 = p.val := by omega
  have h3 : 0x100 ≤ 0x100 + 0x40 * vc.val + 4 * p.val := by omega
  generalize 0x100 + 0x40 * vc.val + 4 * p.val = o at *
  have h4 : ¬ o < 0xC0 := by omega
  have h5 : ¬ o < 64 := by omega
  have h6 : ¬ o < 32 := by omega
  fin_cases n <;> simp [Mach.commit, queueBase, Mach.cellOf, Mach.writePorts, h1, h2, h3, h4, h5, h6]

theorem Mach.write_BRL_SHARE (n : Fin 8) (vc : Fin 2) (p : Fin 16) (hv : v < 2 ^ 32) (h : m.writeOpen who (shareAddr n.val vc.val p.val)) :
    m.writeCmd who (shareAddr n.val vc.val p.val) v = ((m.tracked (fun a => a.writeShare n.val vc.val p.val v)).answered) := by
  rw [m.writeCmd_word who (shareAddr n.val vc.val p.val) (0x302 + 8 * n.val) (0x100 + 0x40 * vc.val + 4 * p.val) v (row_BRL_SHARE n vc p) hv h, m.commit_BRL_SHARE who v n vc p]; rfl

theorem row_AGG_OWN : ∀ (n : Fin 64), oneWord (A.AGG_OWN n.val) 0x200 (0x100 + 4 * n.val) = true := by decide

theorem Mach.commit_AGG_OWN (n : Fin 64) : m.commit who 0x200 [(0x100 + 4 * n.val, v)] = m.tracked (fun a => a.writeAggOwn n.val v) := by
  fin_cases n <;> simp [Mach.commit, queueBase, Mach.cellOf, Mach.writeGlbPhs, Mach.writeFltInt, Mach.writeKeyAtt, Mach.writeSlow, Mach.writeLoamAgg, Mach.writePorts, Mach.writeUnits]

theorem Mach.write_AGG_OWN (n : Fin 64) (hv : v < 2 ^ 32) (h : m.writeOpen who (A.AGG_OWN n.val)) :
    m.writeCmd who (A.AGG_OWN n.val) v = ((m.tracked (fun a => a.writeAggOwn n.val v)).answered) := by
  rw [m.writeCmd_word who (A.AGG_OWN n.val) 0x200 (0x100 + 4 * n.val) v (row_AGG_OWN n) hv h, m.commit_AGG_OWN who v n]; rfl

theorem row_AGG_WIN_CMD : ∀ (p : Fin 16), oneWord (A.AGG_WIN_CMD p.val) (0x210 + p.val) 0x2C = true := by decide

theorem Mach.commit_AGG_WIN_CMD (p : Fin 16) : m.commit who (0x210 + p.val) [(0x2C, v)] = m.writeAggCmd p.val v := by
  fin_cases p <;> simp [Mach.commit, queueBase, Mach.cellOf, Mach.writeGlbPhs, Mach.writeFltInt, Mach.writeKeyAtt, Mach.writeSlow, Mach.writeLoamAgg, Mach.writePorts, Mach.writeUnits]

theorem Mach.write_AGG_WIN_CMD (p : Fin 16) (hv : v < 2 ^ 32) (h : m.writeOpen who (A.AGG_WIN_CMD p.val)) :
    m.writeCmd who (A.AGG_WIN_CMD p.val) v = ((m.writeAggCmd p.val v).answered) := by
  rw [m.writeCmd_word who (A.AGG_WIN_CMD p.val) (0x210 + p.val) 0x2C v (row_AGG_WIN_CMD p) hv h, m.commit_AGG_WIN_CMD who v p]; rfl

theorem row_MSK_WIN_CMD : ∀ (p : Fin 16), oneWord (A.MSK_WIN_CMD p.val) (0x290 + p.val) 0x24 = true := by decide

theorem Mach.commit_MSK_WIN_CMD (p : Fin 16) : m.commit who (0x290 + p.val) [(0x24, v)] = m.writeMskCmd p.val v := by
  fin_cases p <;> simp [Mach.commit, queueBase, Mach.cellOf, Mach.writeGlbPhs, Mach.writeFltInt, Mach.writeKeyAtt, Mach.writeSlow, Mach.writeLoamAgg, Mach.writePorts, Mach.writeUnits]

theorem Mach.write_MSK_WIN_CMD (p : Fin 16) (hv : v < 2 ^ 32) (h : m.writeOpen who (A.MSK_WIN_CMD p.val)) :
    m.writeCmd who (A.MSK_WIN_CMD p.val) v = ((m.writeMskCmd p.val v).answered) := by
  rw [m.writeCmd_word who (A.MSK_WIN_CMD p.val) (0x290 + p.val) 0x24 v (row_MSK_WIN_CMD p) hv h, m.commit_MSK_WIN_CMD who v p]; rfl

theorem row_MSK_OWN : ∀ (n : Fin 4), oneWord (A.MSK_OWN n.val) 0x280 (0x30 + 4 * n.val) = true := by decide

theorem Mach.commit_MSK_OWN (n : Fin 4) : m.commit who 0x280 [(0x30 + 4 * n.val, v)] = m.tracked (fun a => a.writeMskOwn n.val v) := by
  fin_cases n <;> simp [Mach.commit, queueBase, Mach.cellOf, Mach.writeGlbPhs, Mach.writeFltInt, Mach.writeKeyAtt, Mach.writeSlow, Mach.writeLoamAgg, Mach.writePorts, Mach.writeUnits]

theorem Mach.write_MSK_OWN (n : Fin 4) (hv : v < 2 ^ 32) (h : m.writeOpen who (A.MSK_OWN n.val)) :
    m.writeCmd who (A.MSK_OWN n.val) v = ((m.tracked (fun a => a.writeMskOwn n.val v)).answered) := by
  rw [m.writeCmd_word who (A.MSK_OWN n.val) 0x280 (0x30 + 4 * n.val) v (row_MSK_OWN n) hv h, m.commit_MSK_OWN who v n]; rfl

theorem row_CLU_REMAP : ∀ (c : Fin 4), oneWord (A.CLU_REMAP c.val) (0xC00 + 16 * c.val) 0x64 = true := by decide

theorem Mach.commit_CLU_REMAP (c : Fin 4) : m.commit who (0xC00 + 16 * c.val) [(0x64, v)] = m.writeRemap c.val v := by
  fin_cases c <;> simp [Mach.commit, queueBase, Mach.cellOf, Mach.writeGlbPhs, Mach.writeFltInt, Mach.writeKeyAtt, Mach.writeSlow, Mach.writeLoamAgg, Mach.writePorts, Mach.writeUnits]

theorem Mach.write_CLU_REMAP (c : Fin 4) (hv : v < 2 ^ 32) (h : m.writeOpen who (A.CLU_REMAP c.val)) :
    m.writeCmd who (A.CLU_REMAP c.val) v = ((m.writeRemap c.val v).answered) := by
  rw [m.writeCmd_word who (A.CLU_REMAP c.val) (0xC00 + 16 * c.val) 0x64 v (row_CLU_REMAP c) hv h, m.commit_CLU_REMAP who v c]; rfl

theorem row_LOAM_CMD : ∀ (p : Fin 16), oneWord (A.LOAM_CMD p.val) (0x100 + p.val) 0x38 = true := by decide

theorem Mach.commit_LOAM_CMD (p : Fin 16) : m.commit who (0x100 + p.val) [(0x38, v)] = m.writeLoamCmd p.val v := by
  fin_cases p <;> simp [Mach.commit, queueBase, Mach.cellOf, Mach.writeGlbPhs, Mach.writeFltInt, Mach.writeKeyAtt, Mach.writeSlow, Mach.writeLoamAgg, Mach.writePorts, Mach.writeUnits]

theorem Mach.write_LOAM_CMD (p : Fin 16) (hv : v < 2 ^ 32) (h : m.writeOpen who (A.LOAM_CMD p.val)) :
    m.writeCmd who (A.LOAM_CMD p.val) v = ((m.writeLoamCmd p.val v).answered) := by
  rw [m.writeCmd_word who (A.LOAM_CMD p.val) (0x100 + p.val) 0x38 v (row_LOAM_CMD p) hv h, m.commit_LOAM_CMD who v p]; rfl

theorem row_LOAM_MODE : ∀ (p : Fin 16), oneWord (A.LOAM_MODE p.val) (0x100 + p.val) 0x20 = true := by decide

theorem Mach.commit_LOAM_MODE (p : Fin 16) : m.commit who (0x100 + p.val) [(0x20, v)] = m.writeLoamMode who p.val v := by
  fin_cases p <;> simp [Mach.commit, queueBase, Mach.cellOf, Mach.writeGlbPhs, Mach.writeFltInt, Mach.writeKeyAtt, Mach.writeSlow, Mach.writeLoamAgg, Mach.writePorts, Mach.writeUnits]

theorem Mach.write_LOAM_MODE (p : Fin 16) (hv : v < 2 ^ 32) (h : m.writeOpen who (A.LOAM_MODE p.val)) :
    m.writeCmd who (A.LOAM_MODE p.val) v = ((m.writeLoamMode who p.val v).answered) := by
  rw [m.writeCmd_word who (A.LOAM_MODE p.val) (0x100 + p.val) 0x20 v (row_LOAM_MODE p) hv h, m.commit_LOAM_MODE who v p]; rfl

theorem row_LOAM_CTR_VAL : ∀ (p : Fin 16), oneWord (A.LOAM_CTR_VAL p.val) (0x100 + p.val) 0x44 = true := by decide

theorem Mach.commit_LOAM_CTR_VAL (p : Fin 16) : m.commit who (0x100 + p.val) [(0x44, v)] = m.writeCtrVal p.val v := by
  fin_cases p <;> simp [Mach.commit, queueBase, Mach.cellOf, Mach.writeGlbPhs, Mach.writeFltInt, Mach.writeKeyAtt, Mach.writeSlow, Mach.writeLoamAgg, Mach.writePorts, Mach.writeUnits]

theorem Mach.write_LOAM_CTR_VAL (p : Fin 16) (hv : v < 2 ^ 32) (h : m.writeOpen who (A.LOAM_CTR_VAL p.val)) :
    m.writeCmd who (A.LOAM_CTR_VAL p.val) v = ((m.writeCtrVal p.val v).answered) := by
  rw [m.writeCmd_word who (A.LOAM_CTR_VAL p.val) (0x100 + p.val) 0x44 v (row_LOAM_CTR_VAL p) hv h, m.commit_LOAM_CTR_VAL who v p]; rfl

theorem row_LOAM_QB : ∀ (p : Fin 16), oneWord (A.LOAM_QB p.val) (0x100 + p.val) 0x4C = true := by decide

theorem Mach.commit_LOAM_QB (p : Fin 16) : m.commit who (0x100 + p.val) [(0x4C, v)] = m.writeQb p.val v := by
  fin_cases p <;> simp [Mach.commit, queueBase, Mach.cellOf, Mach.writeGlbPhs, Mach.writeFltInt, Mach.writeKeyAtt, Mach.writeSlow, Mach.writeLoamAgg, Mach.writePorts, Mach.writeUnits]

theorem Mach.write_LOAM_QB (p : Fin 16) (hv : v < 2 ^ 32) (h : m.writeOpen who (A.LOAM_QB p.val)) :
    m.writeCmd who (A.LOAM_QB p.val) v = ((m.writeQb p.val v).answered) := by
  rw [m.writeCmd_word who (A.LOAM_QB p.val) (0x100 + p.val) 0x4C v (row_LOAM_QB p) hv h, m.commit_LOAM_QB who v p]; rfl

theorem row_LOAM_SNAP_SIZE : ∀ (p : Fin 16), oneWord (A.LOAM_SNAP_SIZE p.val) (0x100 + p.val) 0x30 = true := by decide

theorem Mach.commit_LOAM_SNAP_SIZE (p : Fin 16) : m.commit who (0x100 + p.val) [(0x30, v)] = m.writeSnapSize who p.val v := by
  fin_cases p <;> simp [Mach.commit, queueBase, Mach.cellOf, Mach.writeGlbPhs, Mach.writeFltInt, Mach.writeKeyAtt, Mach.writeSlow, Mach.writeLoamAgg, Mach.writePorts, Mach.writeUnits]

theorem Mach.write_LOAM_SNAP_SIZE (p : Fin 16) (hv : v < 2 ^ 32) (h : m.writeOpen who (A.LOAM_SNAP_SIZE p.val)) :
    m.writeCmd who (A.LOAM_SNAP_SIZE p.val) v = ((m.writeSnapSize who p.val v).answered) := by
  rw [m.writeCmd_word who (A.LOAM_SNAP_SIZE p.val) (0x100 + p.val) 0x30 v (row_LOAM_SNAP_SIZE p) hv h, m.commit_LOAM_SNAP_SIZE who v p]; rfl

theorem row_TRACE_CFG : ∀ (p : Fin 16), oneWord (A.TRACE_CFG p.val) (0x100 + p.val) 0x58 = true := by decide

theorem Mach.commit_TRACE_CFG (p : Fin 16) : m.commit who (0x100 + p.val) [(0x58, v)] = m.writeTraceCfg p.val v := by
  fin_cases p <;> simp [Mach.commit, queueBase, Mach.cellOf, Mach.writeGlbPhs, Mach.writeFltInt, Mach.writeKeyAtt, Mach.writeSlow, Mach.writeLoamAgg, Mach.writePorts, Mach.writeUnits]

theorem Mach.write_TRACE_CFG (p : Fin 16) (hv : v < 2 ^ 32) (h : m.writeOpen who (A.TRACE_CFG p.val)) :
    m.writeCmd who (A.TRACE_CFG p.val) v = ((m.writeTraceCfg p.val v).answered) := by
  rw [m.writeCmd_word who (A.TRACE_CFG p.val) (0x100 + p.val) 0x58 v (row_TRACE_CFG p) hv h, m.commit_TRACE_CFG who v p]; rfl

theorem row_MMU_KEY : ∀ (p : Fin 16), oneWord (A.MMU_KEY p.val) (0x480 + p.val) 0x20 = true := by decide

theorem Mach.commit_MMU_KEY (p : Fin 16) : m.commit who (0x480 + p.val) [(0x20, v)] = m.writeMmuKey p.val v := by
  fin_cases p <;> simp [Mach.commit, queueBase, Mach.cellOf, Mach.writeGlbPhs, Mach.writeFltInt, Mach.writeKeyAtt, Mach.writeSlow, Mach.writeLoamAgg, Mach.writePorts, Mach.writeUnits]

theorem Mach.write_MMU_KEY (p : Fin 16) (hv : v < 2 ^ 32) (h : m.writeOpen who (A.MMU_KEY p.val)) :
    m.writeCmd who (A.MMU_KEY p.val) v = ((m.writeMmuKey p.val v).answered) := by
  rw [m.writeCmd_word who (A.MMU_KEY p.val) (0x480 + p.val) 0x20 v (row_MMU_KEY p) hv h, m.commit_MMU_KEY who v p]; rfl

theorem row_MMU_INV_CTL : ∀ (p : Fin 16), oneWord (A.MMU_INV_CTL p.val) (0x480 + p.val) 0x38 = true := by decide

theorem Mach.commit_MMU_INV_CTL (p : Fin 16) : m.commit who (0x480 + p.val) [(0x38, v)] = m.writeMmuInv p.val v := by
  fin_cases p <;> simp [Mach.commit, queueBase, Mach.cellOf, Mach.writeGlbPhs, Mach.writeFltInt, Mach.writeKeyAtt, Mach.writeSlow, Mach.writeLoamAgg, Mach.writePorts, Mach.writeUnits]

theorem Mach.write_MMU_INV_CTL (p : Fin 16) (hv : v < 2 ^ 32) (h : m.writeOpen who (A.MMU_INV_CTL p.val)) :
    m.writeCmd who (A.MMU_INV_CTL p.val) v = ((m.writeMmuInv p.val v).answered) := by
  rw [m.writeCmd_word who (A.MMU_INV_CTL p.val) (0x480 + p.val) 0x38 v (row_MMU_INV_CTL p) hv h, m.commit_MMU_INV_CTL who v p]; rfl

theorem row_MEM_CH_CTL : ∀ (ch : Fin 64), oneWord (A.MEM_CH_CTL ch.val) (0x400 + 2 * ch.val) 0x24 = true := by decide

theorem Mach.commit_MEM_CH_CTL (ch : Fin 64) : m.commit who (0x400 + 2 * ch.val) [(0x24, v)] = (if bitOf v 0 then m.retire ch.val else m) := by
  fin_cases ch <;> simp [Mach.commit, queueBase, Mach.cellOf, Mach.writeGlbPhs, Mach.writeFltInt, Mach.writeKeyAtt, Mach.writeSlow, Mach.writeLoamAgg, Mach.writePorts, Mach.writeUnits]

theorem Mach.write_MEM_CH_CTL (ch : Fin 64) (hv : v < 2 ^ 32) (h : m.writeOpen who (A.MEM_CH_CTL ch.val)) :
    m.writeCmd who (A.MEM_CH_CTL ch.val) v = (((if bitOf v 0 then m.retire ch.val else m)).answered) := by
  rw [m.writeCmd_word who (A.MEM_CH_CTL ch.val) (0x400 + 2 * ch.val) 0x24 v (row_MEM_CH_CTL ch) hv h, m.commit_MEM_CH_CTL who v ch]; rfl

theorem Mach.commit_ATT_CMD : m.commit who 0x060 [(0x24, v)] = m.writeAttCmd v := by
  simp [Mach.commit, queueBase, Mach.cellOf, Mach.writeGlbPhs, Mach.writeFltInt, Mach.writeKeyAtt, Mach.writeSlow, Mach.writeLoamAgg, Mach.writePorts, Mach.writeUnits]

theorem Mach.write_ATT_CMD (hv : v < 2 ^ 32) (h : m.writeOpen who A.ATT_CMD) :
    m.writeCmd who A.ATT_CMD v = ((m.writeAttCmd v).answered) := by
  rw [m.writeCmd_word who A.ATT_CMD 0x060 0x24 v (by decide) hv h, m.commit_ATT_CMD who v]; rfl

theorem Mach.commit_DBG_HALT : m.commit who 0x068 [(0x20, v)] = m.writeDbgHalt v := by
  simp [Mach.commit, queueBase, Mach.cellOf, Mach.writeGlbPhs, Mach.writeFltInt, Mach.writeKeyAtt, Mach.writeSlow, Mach.writeLoamAgg, Mach.writePorts, Mach.writeUnits]

theorem Mach.write_DBG_HALT (hv : v < 2 ^ 32) (h : m.writeOpen who A.DBG_HALT) :
    m.writeCmd who A.DBG_HALT v = ((m.writeDbgHalt v).answered) := by
  rw [m.writeCmd_word who A.DBG_HALT 0x068 0x20 v (by decide) hv h, m.commit_DBG_HALT who v]; rfl

theorem Mach.commit_DBG_CMD : m.commit who 0x068 [(0x3C, v)] = m.writeDbgCmd v := by
  simp [Mach.commit, queueBase, Mach.cellOf, Mach.writeGlbPhs, Mach.writeFltInt, Mach.writeKeyAtt, Mach.writeSlow, Mach.writeLoamAgg, Mach.writePorts, Mach.writeUnits]

theorem Mach.write_DBG_CMD (hv : v < 2 ^ 32) (h : m.writeOpen who A.DBG_CMD) :
    m.writeCmd who A.DBG_CMD v = ((m.writeDbgCmd v).answered) := by
  rw [m.writeCmd_word who A.DBG_CMD 0x068 0x3C v (by decide) hv h, m.commit_DBG_CMD who v]; rfl

theorem Mach.commit_KEY_CMD : m.commit who 0x040 [(0x44, v)] = m.writeKeyCmd v := by
  simp [Mach.commit, queueBase, Mach.cellOf, Mach.writeGlbPhs, Mach.writeFltInt, Mach.writeKeyAtt, Mach.writeSlow, Mach.writeLoamAgg, Mach.writePorts, Mach.writeUnits]

theorem Mach.write_KEY_CMD (hv : v < 2 ^ 32) (h : m.writeOpen who A.KEY_CMD) :
    m.writeCmd who A.KEY_CMD v = ((m.writeKeyCmd v).answered) := by
  rw [m.writeCmd_word who A.KEY_CMD 0x040 0x44 v (by decide) hv h, m.commit_KEY_CMD who v]; rfl

theorem Mach.commit_SILT_CTL : m.commit who 0x050 [(0x20, v)] = m.writeSiltCtl v := by
  simp [Mach.commit, queueBase, Mach.cellOf, Mach.writeGlbPhs, Mach.writeFltInt, Mach.writeKeyAtt, Mach.writeSlow, Mach.writeLoamAgg, Mach.writePorts, Mach.writeUnits]

theorem Mach.write_SILT_CTL (hv : v < 2 ^ 32) (h : m.writeOpen who A.SILT_CTL) :
    m.writeCmd who A.SILT_CTL v = ((m.writeSiltCtl v).answered) := by
  rw [m.writeCmd_word who A.SILT_CTL 0x050 0x20 v (by decide) hv h, m.commit_SILT_CTL who v]; rfl

theorem Mach.commit_SILT_CFG : m.commit who 0x050 [(0x24, v)] = m.writeSiltCfg v := by
  simp [Mach.commit, queueBase, Mach.cellOf, Mach.writeGlbPhs, Mach.writeFltInt, Mach.writeKeyAtt, Mach.writeSlow, Mach.writeLoamAgg, Mach.writePorts, Mach.writeUnits]

theorem Mach.write_SILT_CFG (hv : v < 2 ^ 32) (h : m.writeOpen who A.SILT_CFG) :
    m.writeCmd who A.SILT_CFG v = ((m.writeSiltCfg v).answered) := by
  rw [m.writeCmd_word who A.SILT_CFG 0x050 0x24 v (by decide) hv h, m.commit_SILT_CFG who v]; rfl

theorem Mach.commit_INT_DOORBELL : m.commit who 0x030 [(0x100, v)] = m.writeDoorbell v := by
  simp [Mach.commit, queueBase, Mach.cellOf, Mach.writeGlbPhs, Mach.writeFltInt, Mach.writeKeyAtt, Mach.writeSlow, Mach.writeLoamAgg, Mach.writePorts, Mach.writeUnits]

theorem Mach.write_INT_DOORBELL (hv : v < 2 ^ 32) (h : m.writeOpen who A.INT_DOORBELL) :
    m.writeCmd who A.INT_DOORBELL v = ((m.writeDoorbell v).answered) := by
  rw [m.writeCmd_word who A.INT_DOORBELL 0x030 0x100 v (by decide) hv h, m.commit_INT_DOORBELL who v]; rfl

theorem row_INT_HCMPL : ∀ (p : Fin 16), oneWord (A.INT_HCMPL p.val) 0x037 (0x104 + 0x40 * p.val) = true := by decide

theorem Mach.commit_INT_HCMPL (p : Fin 16) : m.commit who 0x037 [(0x104 + 0x40 * p.val, v)] = m.writeHcmpl p.val v := by
  fin_cases p <;> simp [Mach.commit, queueBase, Mach.cellOf, Mach.writeGlbPhs, Mach.writeFltInt, Mach.writeKeyAtt, Mach.writeSlow, Mach.writeLoamAgg, Mach.writePorts, Mach.writeUnits]

theorem Mach.write_INT_HCMPL (p : Fin 16) (hv : v < 2 ^ 32) (h : m.writeOpen who (A.INT_HCMPL p.val)) :
    m.writeCmd who (A.INT_HCMPL p.val) v = ((m.writeHcmpl p.val v).answered) := by
  rw [m.writeCmd_word who (A.INT_HCMPL p.val) 0x037 (0x104 + 0x40 * p.val) v (row_INT_HCMPL p) hv h, m.commit_INT_HCMPL who v p]; rfl

theorem Mach.commit_INT_SW_PEND : m.commit who 0x030 [(0x20, v)] = m.writeSwPend v := by
  simp [Mach.commit, queueBase, Mach.cellOf, Mach.writeGlbPhs, Mach.writeFltInt, Mach.writeKeyAtt, Mach.writeSlow, Mach.writeLoamAgg, Mach.writePorts, Mach.writeUnits]

theorem Mach.write_INT_SW_PEND (hv : v < 2 ^ 32) (h : m.writeOpen who A.INT_SW_PEND) :
    m.writeCmd who A.INT_SW_PEND v = ((m.writeSwPend v).answered) := by
  rw [m.writeCmd_word who A.INT_SW_PEND 0x030 0x20 v (by decide) hv h, m.commit_INT_SW_PEND who v]; rfl

theorem Mach.commit_INT_O_PCLR : m.commit who 0x030 [(0x24, v)] = m.writeOPclr v := by
  simp [Mach.commit, queueBase, Mach.cellOf, Mach.writeGlbPhs, Mach.writeFltInt, Mach.writeKeyAtt, Mach.writeSlow, Mach.writeLoamAgg, Mach.writePorts, Mach.writeUnits]

theorem Mach.write_INT_O_PCLR (hv : v < 2 ^ 32) (h : m.writeOpen who A.INT_O_PCLR) :
    m.writeCmd who A.INT_O_PCLR v = ((m.writeOPclr v).answered) := by
  rw [m.writeCmd_word who A.INT_O_PCLR 0x030 0x24 v (by decide) hv h, m.commit_INT_O_PCLR who v]; rfl

theorem row_T_MSET : ∀ (k : Fin 16), oneWord (A.T_MSET k.val) 0x036 (0x100 + 4 * k.val) = true := by decide

theorem Mach.commit_T_MSET (k : Fin 16) : m.commit who 0x036 [(0x100 + 4 * k.val, v)] = m.writeTMset who k.val v := by
  fin_cases k <;> simp [Mach.commit, queueBase, Mach.cellOf, Mach.writeGlbPhs, Mach.writeFltInt, Mach.writeKeyAtt, Mach.writeSlow, Mach.writeLoamAgg, Mach.writePorts, Mach.writeUnits]

theorem Mach.write_T_MSET (k : Fin 16) (hv : v < 2 ^ 32) (h : m.writeOpen who (A.T_MSET k.val)) :
    m.writeCmd who (A.T_MSET k.val) v = ((m.writeTMset who k.val v).answered) := by
  rw [m.writeCmd_word who (A.T_MSET k.val) 0x036 (0x100 + 4 * k.val) v (row_T_MSET k) hv h, m.commit_T_MSET who v k]; rfl

theorem row_T_MCLR : ∀ (k : Fin 16), oneWord (A.T_MCLR k.val) 0x036 (0x140 + 4 * k.val) = true := by decide

theorem Mach.commit_T_MCLR (k : Fin 16) : m.commit who 0x036 [(0x140 + 4 * k.val, v)] = m.writeTMclr who k.val v := by
  fin_cases k <;> simp [Mach.commit, queueBase, Mach.cellOf, Mach.writeGlbPhs, Mach.writeFltInt, Mach.writeKeyAtt, Mach.writeSlow, Mach.writeLoamAgg, Mach.writePorts, Mach.writeUnits]

theorem Mach.write_T_MCLR (k : Fin 16) (hv : v < 2 ^ 32) (h : m.writeOpen who (A.T_MCLR k.val)) :
    m.writeCmd who (A.T_MCLR k.val) v = ((m.writeTMclr who k.val v).answered) := by
  rw [m.writeCmd_word who (A.T_MCLR k.val) 0x036 (0x140 + 4 * k.val) v (row_T_MCLR k) hv h, m.commit_T_MCLR who v k]; rfl

theorem row_T_PCLR : ∀ (k : Fin 16), oneWord (A.T_PCLR k.val) 0x036 (0x180 + 4 * k.val) = true := by decide

theorem Mach.commit_T_PCLR (k : Fin 16) : m.commit who 0x036 [(0x180 + 4 * k.val, v)] = m.writeTPclr who k.val v := by
  fin_cases k <;> simp [Mach.commit, queueBase, Mach.cellOf, Mach.writeGlbPhs, Mach.writeFltInt, Mach.writeKeyAtt, Mach.writeSlow, Mach.writeLoamAgg, Mach.writePorts, Mach.writeUnits]

theorem Mach.write_T_PCLR (k : Fin 16) (hv : v < 2 ^ 32) (h : m.writeOpen who (A.T_PCLR k.val)) :
    m.writeCmd who (A.T_PCLR k.val) v = ((m.writeTPclr who k.val v).answered) := by
  rw [m.writeCmd_word who (A.T_PCLR k.val) 0x036 (0x180 + 4 * k.val) v (row_T_PCLR k) hv h, m.commit_T_PCLR who v k]; rfl

theorem row_INT_HV_OWN : ∀ (n : Fin 16), oneWord (A.INT_HV_OWN n.val) 0x030 (0x40 + 4 * n.val) = true := by decide

theorem Mach.commit_INT_HV_OWN (n : Fin 16) : m.commit who 0x030 [(0x40 + 4 * n.val, v)] = m.tracked (fun a => a.writeHvOwn n.val v) := by
  fin_cases n <;> simp [Mach.commit, queueBase, Mach.cellOf, Mach.writeGlbPhs, Mach.writeFltInt, Mach.writeKeyAtt, Mach.writeSlow, Mach.writeLoamAgg, Mach.writePorts, Mach.writeUnits]

theorem Mach.write_INT_HV_OWN (n : Fin 16) (hv : v < 2 ^ 32) (h : m.writeOpen who (A.INT_HV_OWN n.val)) :
    m.writeCmd who (A.INT_HV_OWN n.val) v = ((m.tracked (fun a => a.writeHvOwn n.val v)).answered) := by
  rw [m.writeCmd_word who (A.INT_HV_OWN n.val) 0x030 (0x40 + 4 * n.val) v (row_INT_HV_OWN n) hv h, m.commit_INT_HV_OWN who v n]; rfl

theorem row_INT_T_OWN : ∀ (n : Fin 16), oneWord (A.INT_T_OWN n.val) 0x030 (0x80 + 4 * n.val) = true := by decide

theorem Mach.commit_INT_T_OWN (n : Fin 16) : m.commit who 0x030 [(0x80 + 4 * n.val, v)] = m.tracked (fun a => a.writeTOwn n.val v) := by
  fin_cases n <;> simp [Mach.commit, queueBase, Mach.cellOf, Mach.writeGlbPhs, Mach.writeFltInt, Mach.writeKeyAtt, Mach.writeSlow, Mach.writeLoamAgg, Mach.writePorts, Mach.writeUnits]

theorem Mach.write_INT_T_OWN (n : Fin 16) (hv : v < 2 ^ 32) (h : m.writeOpen who (A.INT_T_OWN n.val)) :
    m.writeCmd who (A.INT_T_OWN n.val) v = ((m.tracked (fun a => a.writeTOwn n.val v)).answered) := by
  rw [m.writeCmd_word who (A.INT_T_OWN n.val) 0x030 (0x80 + 4 * n.val) v (row_INT_T_OWN n) hv h, m.commit_INT_T_OWN who v n]; rfl

theorem row_CC_THRESH : ∀ (c : Fin 8), oneWord (A.CC_THRESH c.val) 0x031 (0x104 + 32 * c.val) = true := by decide

theorem Mach.commit_CC_THRESH (c : Fin 8) : m.commit who 0x031 [(0x104 + 32 * c.val, v)] = m.plainWords 0x031 [(0x104 + 32 * c.val, v)] := by
  fin_cases c <;> simp [Mach.commit, queueBase, Mach.cellOf, Mach.writeGlbPhs, Mach.writeFltInt, Mach.writeKeyAtt, Mach.writeSlow, Mach.writeLoamAgg, Mach.writePorts, Mach.writeUnits]

theorem Mach.write_CC_THRESH (c : Fin 8) (hv : v < 2 ^ 32) (h : m.writeOpen who (A.CC_THRESH c.val)) :
    m.writeCmd who (A.CC_THRESH c.val) v = ((m.plainWords 0x031 [(0x104 + 32 * c.val, v)]).answered) := by
  rw [m.writeCmd_word who (A.CC_THRESH c.val) 0x031 (0x104 + 32 * c.val) v (row_CC_THRESH c) hv h, m.commit_CC_THRESH who v c]; rfl

theorem row_CC_CTL : ∀ (c : Fin 8), oneWord (A.CC_CTL c.val) 0x031 (0x100 + 32 * c.val) = true := by decide

theorem Mach.commit_CC_CTL (c : Fin 8) : m.commit who 0x031 [(0x100 + 32 * c.val, v)] = m.plainWords 0x031 [(0x100 + 32 * c.val, v)] := by
  fin_cases c <;> simp [Mach.commit, queueBase, Mach.cellOf, Mach.writeGlbPhs, Mach.writeFltInt, Mach.writeKeyAtt, Mach.writeSlow, Mach.writeLoamAgg, Mach.writePorts, Mach.writeUnits]

theorem Mach.write_CC_CTL (c : Fin 8) (hv : v < 2 ^ 32) (h : m.writeOpen who (A.CC_CTL c.val)) :
    m.writeCmd who (A.CC_CTL c.val) v = ((m.plainWords 0x031 [(0x100 + 32 * c.val, v)]).answered) := by
  rw [m.writeCmd_word who (A.CC_CTL c.val) 0x031 (0x100 + 32 * c.val) v (row_CC_CTL c) hv h, m.commit_CC_CTL who v c]; rfl

theorem Mach.commit_FLT_FIRST_STS : m.commit who 0x020 [(0x20, v)] = m.writeFirst v := by
  simp [Mach.commit, queueBase, Mach.cellOf, Mach.writeGlbPhs, Mach.writeFltInt, Mach.writeKeyAtt, Mach.writeSlow, Mach.writeLoamAgg, Mach.writePorts, Mach.writeUnits]

theorem Mach.write_FLT_FIRST_STS (hv : v < 2 ^ 32) (h : m.writeOpen who A.FLT_FIRST_STS) :
    m.writeCmd who A.FLT_FIRST_STS v = ((m.writeFirst v).answered) := by
  rw [m.writeCmd_word who A.FLT_FIRST_STS 0x020 0x20 v (by decide) hv h, m.commit_FLT_FIRST_STS who v]; rfl

theorem Mach.commit_FLT_UCLR : m.commit who 0x020 [(0x5C, v)] = m.writeUclr v := by
  simp [Mach.commit, queueBase, Mach.cellOf, Mach.writeGlbPhs, Mach.writeFltInt, Mach.writeKeyAtt, Mach.writeSlow, Mach.writeLoamAgg, Mach.writePorts, Mach.writeUnits]

theorem Mach.write_FLT_UCLR (hv : v < 2 ^ 32) (h : m.writeOpen who A.FLT_UCLR) :
    m.writeCmd who A.FLT_UCLR v = ((m.writeUclr v).answered) := by
  rw [m.writeCmd_word who A.FLT_UCLR 0x020 0x5C v (by decide) hv h, m.commit_FLT_UCLR who v]; rfl

theorem Mach.commit_FLT_QUIESCE : m.commit who 0x020 [(0x58, v)] = m.writeQuiesce v := by
  simp [Mach.commit, queueBase, Mach.cellOf, Mach.writeGlbPhs, Mach.writeFltInt, Mach.writeKeyAtt, Mach.writeSlow, Mach.writeLoamAgg, Mach.writePorts, Mach.writeUnits]

theorem Mach.write_FLT_QUIESCE (hv : v < 2 ^ 32) (h : m.writeOpen who A.FLT_QUIESCE) :
    m.writeCmd who A.FLT_QUIESCE v = ((m.writeQuiesce v).answered) := by
  rw [m.writeCmd_word who A.FLT_QUIESCE 0x020 0x58 v (by decide) hv h, m.commit_FLT_QUIESCE who v]; rfl

theorem Mach.commit_FLT_EGRESS : m.commit who 0x020 [(0x60, v)] = m.writeEgress v := by
  simp [Mach.commit, queueBase, Mach.cellOf, Mach.writeGlbPhs, Mach.writeFltInt, Mach.writeKeyAtt, Mach.writeSlow, Mach.writeLoamAgg, Mach.writePorts, Mach.writeUnits]

theorem Mach.write_FLT_EGRESS (hv : v < 2 ^ 32) (h : m.writeOpen who A.FLT_EGRESS) :
    m.writeCmd who A.FLT_EGRESS v = ((m.writeEgress v).answered) := by
  rw [m.writeCmd_word who A.FLT_EGRESS 0x020 0x60 v (by decide) hv h, m.commit_FLT_EGRESS who v]; rfl

theorem row_FLT_REACT : ∀ (c : Fin 5), oneWord (A.FLT_REACT (c.val + 1)) 0x021 (0x20 + 4 * c.val) = true := by decide

theorem Mach.commit_FLT_REACT (c : Fin 5) : m.commit who 0x021 [(0x20 + 4 * c.val, v)] = m.writeReact (c.val + 1) v := by
  fin_cases c <;> simp [Mach.commit, queueBase, Mach.cellOf, Mach.writeGlbPhs, Mach.writeFltInt, Mach.writeKeyAtt, Mach.writeSlow, Mach.writeLoamAgg, Mach.writePorts, Mach.writeUnits]

theorem Mach.write_FLT_REACT (c : Fin 5) (hv : v < 2 ^ 32) (h : m.writeOpen who (A.FLT_REACT (c.val + 1))) :
    m.writeCmd who (A.FLT_REACT (c.val + 1)) v = ((m.writeReact (c.val + 1) v).answered) := by
  rw [m.writeCmd_word who (A.FLT_REACT (c.val + 1)) 0x021 (0x20 + 4 * c.val) v (row_FLT_REACT c) hv h, m.commit_FLT_REACT who v c]; rfl

theorem Mach.commit_RST_UNIT : m.commit who 0x06F [(0x50, v)] = m.writeRstUnit v := by
  simp [Mach.commit, queueBase, Mach.cellOf, Mach.writeGlbPhs, Mach.writeFltInt, Mach.writeKeyAtt, Mach.writeSlow, Mach.writeLoamAgg, Mach.writePorts, Mach.writeUnits]

theorem Mach.write_RST_UNIT (hv : v < 2 ^ 32) (h : m.writeOpen who A.RST_UNIT) :
    m.writeCmd who A.RST_UNIT v = ((m.writeRstUnit v).answered) := by
  rw [m.writeCmd_word who A.RST_UNIT 0x06F 0x50 v (by decide) hv h, m.commit_RST_UNIT who v]; rfl

theorem Mach.commit_RST_RING : m.commit who 0x06F [(0x54, v)] = m.writeRstRing v := by
  simp [Mach.commit, queueBase, Mach.cellOf, Mach.writeGlbPhs, Mach.writeFltInt, Mach.writeKeyAtt, Mach.writeSlow, Mach.writeLoamAgg, Mach.writePorts, Mach.writeUnits]

theorem Mach.write_RST_RING (hv : v < 2 ^ 32) (h : m.writeOpen who A.RST_RING) :
    m.writeCmd who A.RST_RING v = ((m.writeRstRing v).answered) := by
  rw [m.writeCmd_word who A.RST_RING 0x06F 0x54 v (by decide) hv h, m.commit_RST_RING who v]; rfl

theorem Mach.commit_LC_CMD : m.commit who 0x06F [(0x3C, v)] = (m.plainWords 0x06F [(0x3C, v)]).writeLcCmd v := by
  simp [Mach.commit, queueBase, Mach.cellOf, Mach.writeGlbPhs, Mach.writeFltInt, Mach.writeKeyAtt, Mach.writeSlow, Mach.writeLoamAgg, Mach.writePorts, Mach.writeUnits]

theorem Mach.write_LC_CMD (hv : v < 2 ^ 32) (h : m.writeOpen who A.LC_CMD) :
    m.writeCmd who A.LC_CMD v = (((m.plainWords 0x06F [(0x3C, v)]).writeLcCmd v).answered) := by
  rw [m.writeCmd_word who A.LC_CMD 0x06F 0x3C v (by decide) hv h, m.commit_LC_CMD who v]; rfl

theorem Mach.commit_PWR_CTL : m.commit who 0x080 [(0x28, v)] = m.writePwrCtl v := by
  simp [Mach.commit, queueBase, Mach.cellOf, Mach.writeGlbPhs, Mach.writeFltInt, Mach.writeKeyAtt, Mach.writeSlow, Mach.writeLoamAgg, Mach.writePorts, Mach.writeUnits]

theorem Mach.write_PWR_CTL (hv : v < 2 ^ 32) (h : m.writeOpen who A.PWR_CTL) :
    m.writeCmd who A.PWR_CTL v = ((m.writePwrCtl v).answered) := by
  rw [m.writeCmd_word who A.PWR_CTL 0x080 0x28 v (by decide) hv h, m.commit_PWR_CTL who v]; rfl

theorem Mach.commit_PWR_CFG : m.commit who 0x080 [(0x24, v)] = m.writePwrCfg v := by
  simp [Mach.commit, queueBase, Mach.cellOf, Mach.writeGlbPhs, Mach.writeFltInt, Mach.writeKeyAtt, Mach.writeSlow, Mach.writeLoamAgg, Mach.writePorts, Mach.writeUnits]

theorem Mach.write_PWR_CFG (hv : v < 2 ^ 32) (h : m.writeOpen who A.PWR_CFG) :
    m.writeCmd who A.PWR_CFG v = ((m.writePwrCfg v).answered) := by
  rw [m.writeCmd_word who A.PWR_CFG 0x080 0x24 v (by decide) hv h, m.commit_PWR_CFG who v]; rfl

theorem row_PWR_SHARE : ∀ (p : Fin 16), oneWord (A.PWR_SHARE p.val) 0x081 (0x40 + 4 * p.val) = true := by decide

theorem Mach.commit_PWR_SHARE (p : Fin 16) : m.commit who 0x081 [(0x40 + 4 * p.val, v)] = m.writeShareW p.val v := by
  fin_cases p <;> simp [Mach.commit, queueBase, Mach.cellOf, Mach.writeGlbPhs, Mach.writeFltInt, Mach.writeKeyAtt, Mach.writeSlow, Mach.writeLoamAgg, Mach.writePorts, Mach.writeUnits]

theorem Mach.write_PWR_SHARE (p : Fin 16) (hv : v < 2 ^ 32) (h : m.writeOpen who (A.PWR_SHARE p.val)) :
    m.writeCmd who (A.PWR_SHARE p.val) v = ((m.writeShareW p.val v).answered) := by
  rw [m.writeCmd_word who (A.PWR_SHARE p.val) 0x081 (0x40 + 4 * p.val) v (row_PWR_SHARE p) hv h, m.commit_PWR_SHARE who v p]; rfl

theorem Mach.commit_MGT_ALERT : m.commit who 0x090 [(0x24, v)] = m.writeAlert v := by
  simp [Mach.commit, queueBase, Mach.cellOf, Mach.writeGlbPhs, Mach.writeFltInt, Mach.writeKeyAtt, Mach.writeSlow, Mach.writeLoamAgg, Mach.writePorts, Mach.writeUnits]

theorem Mach.write_MGT_ALERT (hv : v < 2 ^ 32) (h : m.writeOpen who A.MGT_ALERT) :
    m.writeCmd who A.MGT_ALERT v = ((m.writeAlert v).answered) := by
  rw [m.writeCmd_word who A.MGT_ALERT 0x090 0x24 v (by decide) hv h, m.commit_MGT_ALERT who v]; rfl

end Sys2Proof.Machine
end

