-- ==== Sys2Proof/Laws/State.lean ====
section
/-! SUPPORT. What each basic update leaves as it was, field by field, and what it sets: true by unfolding, for `simp`. -/
namespace Sys2Proof.Machine

variable (m : Mach)

@[simp] theorem Mach.wr_phs (a : Nat) (w : Word) : (m.wr a w).phs = m.phs := rfl
@[simp] theorem Mach.wr_net (a : Nat) (w : Word) : (m.wr a w).net = m.net := rfl
@[simp] theorem Mach.wr_keys (a : Nat) (w : Word) : (m.wr a w).keys = m.keys := rfl
@[simp] theorem Mach.wr_mem (a : Nat) (w : Word) : (m.wr a w).mem = m.mem := rfl
@[simp] theorem Mach.wr_own (a : Nat) (w : Word) : (m.wr a w).own = m.own := rfl
@[simp] theorem Mach.wr_agg (a : Nat) (w : Word) : (m.wr a w).agg = m.agg := rfl
@[simp] theorem Mach.wr_tiles (a : Nat) (w : Word) : (m.wr a w).tiles = m.tiles := rfl
@[simp] theorem Mach.wr_gates (a : Nat) (w : Word) : (m.wr a w).gates = m.gates := rfl
@[simp] theorem Mach.wr_shards (a : Nat) (w : Word) : (m.wr a w).shards = m.shards := rfl
@[simp] theorem Mach.wr_loam (a : Nat) (w : Word) : (m.wr a w).loam = m.loam := rfl
@[simp] theorem Mach.wr_silt (a : Nat) (w : Word) : (m.wr a w).silt = m.silt := rfl
@[simp] theorem Mach.wr_att (a : Nat) (w : Word) : (m.wr a w).att = m.att := rfl
@[simp] theorem Mach.wr_irq (a : Nat) (w : Word) : (m.wr a w).irq = m.irq := rfl
@[simp] theorem Mach.wr_flt (a : Nat) (w : Word) : (m.wr a w).flt = m.flt := rfl
@[simp] theorem Mach.wr_sys (a : Nat) (w : Word) : (m.wr a w).sys = m.sys := rfl
@[simp] theorem Mach.wr_ctrs (a : Nat) (w : Word) : (m.wr a w).ctrs = m.ctrs := rfl
@[simp] theorem Mach.wr_nodeRes (a : Nat) (w : Word) : (m.wr a w).nodeRes = m.nodeRes := rfl
@[simp] theorem Mach.wr_qitems (a : Nat) (w : Word) : (m.wr a w).qitems = m.qitems := rfl
@[simp] theorem Mach.wr_slotOwn (a : Nat) (w : Word) : (m.wr a w).slotOwn = m.slotOwn := rfl
@[simp] theorem Mach.wr_ringReq (a : Nat) (w : Word) : (m.wr a w).ringReq = m.ringReq := rfl
@[simp] theorem Mach.wr_free (a : Nat) (w : Word) : (m.wr a w).free = m.free := rfl
@[simp] theorem Mach.wr_raised (a : Nat) (w : Word) : (m.wr a w).raised = m.raised := rfl
@[simp] theorem Mach.wr_gone (a : Nat) (w : Word) : (m.wr a w).gone = m.gone := rfl
@[simp] theorem Mach.wr_warmReq (a : Nat) (w : Word) : (m.wr a w).warmReq = m.warmReq := rfl
@[simp] theorem Mach.wr_resp (a : Nat) (w : Word) : (m.wr a w).resp = m.resp := rfl

@[simp] theorem Mach.put_phs (a hi lo v : Nat) : (m.put a hi lo v).phs = m.phs := rfl
@[simp] theorem Mach.put_net (a hi lo v : Nat) : (m.put a hi lo v).net = m.net := rfl
@[simp] theorem Mach.put_keys (a hi lo v : Nat) : (m.put a hi lo v).keys = m.keys := rfl
@[simp] theorem Mach.put_mem (a hi lo v : Nat) : (m.put a hi lo v).mem = m.mem := rfl
@[simp] theorem Mach.put_own (a hi lo v : Nat) : (m.put a hi lo v).own = m.own := rfl
@[simp] theorem Mach.put_agg (a hi lo v : Nat) : (m.put a hi lo v).agg = m.agg := rfl
@[simp] theorem Mach.put_tiles (a hi lo v : Nat) : (m.put a hi lo v).tiles = m.tiles := rfl
@[simp] theorem Mach.put_gates (a hi lo v : Nat) : (m.put a hi lo v).gates = m.gates := rfl
@[simp] theorem Mach.put_shards (a hi lo v : Nat) : (m.put a hi lo v).shards = m.shards := rfl
@[simp] theorem Mach.put_loam (a hi lo v : Nat) : (m.put a hi lo v).loam = m.loam := rfl
@[simp] theorem Mach.put_silt (a hi lo v : Nat) : (m.put a hi lo v).silt = m.silt := rfl
@[simp] theorem Mach.put_att (a hi lo v : Nat) : (m.put a hi lo v).att = m.att := rfl
@[simp] theorem Mach.put_irq (a hi lo v : Nat) : (m.put a hi lo v).irq = m.irq := rfl
@[simp] theorem Mach.put_flt (a hi lo v : Nat) : (m.put a hi lo v).flt = m.flt := rfl
@[simp] theorem Mach.put_sys (a hi lo v : Nat) : (m.put a hi lo v).sys = m.sys := rfl
@[simp] theorem Mach.put_ctrs (a hi lo v : Nat) : (m.put a hi lo v).ctrs = m.ctrs := rfl
@[simp] theorem Mach.put_nodeRes (a hi lo v : Nat) : (m.put a hi lo v).nodeRes = m.nodeRes := rfl
@[simp] theorem Mach.put_qitems (a hi lo v : Nat) : (m.put a hi lo v).qitems = m.qitems := rfl
@[simp] theorem Mach.put_slotOwn (a hi lo v : Nat) : (m.put a hi lo v).slotOwn = m.slotOwn := rfl
@[simp] theorem Mach.put_ringReq (a hi lo v : Nat) : (m.put a hi lo v).ringReq = m.ringReq := rfl
@[simp] theorem Mach.put_free (a hi lo v : Nat) : (m.put a hi lo v).free = m.free := rfl
@[simp] theorem Mach.put_raised (a hi lo v : Nat) : (m.put a hi lo v).raised = m.raised := rfl
@[simp] theorem Mach.put_gone (a hi lo v : Nat) : (m.put a hi lo v).gone = m.gone := rfl
@[simp] theorem Mach.put_warmReq (a hi lo v : Nat) : (m.put a hi lo v).warmReq = m.warmReq := rfl
@[simp] theorem Mach.put_resp (a hi lo v : Nat) : (m.put a hi lo v).resp = m.resp := rfl

@[simp] theorem Mach.putBit_phs (a i : Nat) (b : Bool) : (m.putBit a i b).phs = m.phs := rfl
@[simp] theorem Mach.putBit_net (a i : Nat) (b : Bool) : (m.putBit a i b).net = m.net := rfl
@[simp] theorem Mach.putBit_keys (a i : Nat) (b : Bool) : (m.putBit a i b).keys = m.keys := rfl
@[simp] theorem Mach.putBit_mem (a i : Nat) (b : Bool) : (m.putBit a i b).mem = m.mem := rfl
@[simp] theorem Mach.putBit_own (a i : Nat) (b : Bool) : (m.putBit a i b).own = m.own := rfl
@[simp] theorem Mach.putBit_agg (a i : Nat) (b : Bool) : (m.putBit a i b).agg = m.agg := rfl
@[simp] theorem Mach.putBit_tiles (a i : Nat) (b : Bool) : (m.putBit a i b).tiles = m.tiles := rfl
@[simp] theorem Mach.putBit_gates (a i : Nat) (b : Bool) : (m.putBit a i b).gates = m.gates := rfl
@[simp] theorem Mach.putBit_shards (a i : Nat) (b : Bool) : (m.putBit a i b).shards = m.shards := rfl
@[simp] theorem Mach.putBit_loam (a i : Nat) (b : Bool) : (m.putBit a i b).loam = m.loam := rfl
@[simp] theorem Mach.putBit_silt (a i : Nat) (b : Bool) : (m.putBit a i b).silt = m.silt := rfl
@[simp] theorem Mach.putBit_att (a i : Nat) (b : Bool) : (m.putBit a i b).att = m.att := rfl
@[simp] theorem Mach.putBit_irq (a i : Nat) (b : Bool) : (m.putBit a i b).irq = m.irq := rfl
@[simp] theorem Mach.putBit_flt (a i : Nat) (b : Bool) : (m.putBit a i b).flt = m.flt := rfl
@[simp] theorem Mach.putBit_sys (a i : Nat) (b : Bool) : (m.putBit a i b).sys = m.sys := rfl
@[simp] theorem Mach.putBit_ctrs (a i : Nat) (b : Bool) : (m.putBit a i b).ctrs = m.ctrs := rfl
@[simp] theorem Mach.putBit_nodeRes (a i : Nat) (b : Bool) : (m.putBit a i b).nodeRes = m.nodeRes := rfl
@[simp] theorem Mach.putBit_qitems (a i : Nat) (b : Bool) : (m.putBit a i b).qitems = m.qitems := rfl
@[simp] theorem Mach.putBit_slotOwn (a i : Nat) (b : Bool) : (m.putBit a i b).slotOwn = m.slotOwn := rfl
@[simp] theorem Mach.putBit_ringReq (a i : Nat) (b : Bool) : (m.putBit a i b).ringReq = m.ringReq := rfl
@[simp] theorem Mach.putBit_free (a i : Nat) (b : Bool) : (m.putBit a i b).free = m.free := rfl
@[simp] theorem Mach.putBit_raised (a i : Nat) (b : Bool) : (m.putBit a i b).raised = m.raised := rfl
@[simp] theorem Mach.putBit_gone (a i : Nat) (b : Bool) : (m.putBit a i b).gone = m.gone := rfl
@[simp] theorem Mach.putBit_warmReq (a i : Nat) (b : Bool) : (m.putBit a i b).warmReq = m.warmReq := rfl
@[simp] theorem Mach.putBit_resp (a i : Nat) (b : Bool) : (m.putBit a i b).resp = m.resp := rfl

@[simp] theorem Mach.bumpF_phs (a hi lo n : Nat) : (m.bumpF a hi lo n).phs = m.phs := rfl
@[simp] theorem Mach.bumpF_net (a hi lo n : Nat) : (m.bumpF a hi lo n).net = m.net := rfl
@[simp] theorem Mach.bumpF_keys (a hi lo n : Nat) : (m.bumpF a hi lo n).keys = m.keys := rfl
@[simp] theorem Mach.bumpF_mem (a hi lo n : Nat) : (m.bumpF a hi lo n).mem = m.mem := rfl
@[simp] theorem Mach.bumpF_own (a hi lo n : Nat) : (m.bumpF a hi lo n).own = m.own := rfl
@[simp] theorem Mach.bumpF_agg (a hi lo n : Nat) : (m.bumpF a hi lo n).agg = m.agg := rfl
@[simp] theorem Mach.bumpF_tiles (a hi lo n : Nat) : (m.bumpF a hi lo n).tiles = m.tiles := rfl
@[simp] theorem Mach.bumpF_gates (a hi lo n : Nat) : (m.bumpF a hi lo n).gates = m.gates := rfl
@[simp] theorem Mach.bumpF_shards (a hi lo n : Nat) : (m.bumpF a hi lo n).shards = m.shards := rfl
@[simp] theorem Mach.bumpF_loam (a hi lo n : Nat) : (m.bumpF a hi lo n).loam = m.loam := rfl
@[simp] theorem Mach.bumpF_silt (a hi lo n : Nat) : (m.bumpF a hi lo n).silt = m.silt := rfl
@[simp] theorem Mach.bumpF_att (a hi lo n : Nat) : (m.bumpF a hi lo n).att = m.att := rfl
@[simp] theorem Mach.bumpF_irq (a hi lo n : Nat) : (m.bumpF a hi lo n).irq = m.irq := rfl
@[simp] theorem Mach.bumpF_flt (a hi lo n : Nat) : (m.bumpF a hi lo n).flt = m.flt := rfl
@[simp] theorem Mach.bumpF_sys (a hi lo n : Nat) : (m.bumpF a hi lo n).sys = m.sys := rfl
@[simp] theorem Mach.bumpF_ctrs (a hi lo n : Nat) : (m.bumpF a hi lo n).ctrs = m.ctrs := rfl
@[simp] theorem Mach.bumpF_nodeRes (a hi lo n : Nat) : (m.bumpF a hi lo n).nodeRes = m.nodeRes := rfl
@[simp] theorem Mach.bumpF_qitems (a hi lo n : Nat) : (m.bumpF a hi lo n).qitems = m.qitems := rfl
@[simp] theorem Mach.bumpF_slotOwn (a hi lo n : Nat) : (m.bumpF a hi lo n).slotOwn = m.slotOwn := rfl
@[simp] theorem Mach.bumpF_ringReq (a hi lo n : Nat) : (m.bumpF a hi lo n).ringReq = m.ringReq := rfl
@[simp] theorem Mach.bumpF_free (a hi lo n : Nat) : (m.bumpF a hi lo n).free = m.free := rfl
@[simp] theorem Mach.bumpF_raised (a hi lo n : Nat) : (m.bumpF a hi lo n).raised = m.raised := rfl
@[simp] theorem Mach.bumpF_gone (a hi lo n : Nat) : (m.bumpF a hi lo n).gone = m.gone := rfl
@[simp] theorem Mach.bumpF_warmReq (a hi lo n : Nat) : (m.bumpF a hi lo n).warmReq = m.warmReq := rfl
@[simp] theorem Mach.bumpF_resp (a hi lo n : Nat) : (m.bumpF a hi lo n).resp = m.resp := rfl

@[simp] theorem Mach.bump_phs (a : Nat) : (m.bump a).phs = m.phs := rfl
@[simp] theorem Mach.bump_net (a : Nat) : (m.bump a).net = m.net := rfl
@[simp] theorem Mach.bump_keys (a : Nat) : (m.bump a).keys = m.keys := rfl
@[simp] theorem Mach.bump_mem (a : Nat) : (m.bump a).mem = m.mem := rfl
@[simp] theorem Mach.bump_own (a : Nat) : (m.bump a).own = m.own := rfl
@[simp] theorem Mach.bump_agg (a : Nat) : (m.bump a).agg = m.agg := rfl
@[simp] theorem Mach.bump_tiles (a : Nat) : (m.bump a).tiles = m.tiles := rfl
@[simp] theorem Mach.bump_gates (a : Nat) : (m.bump a).gates = m.gates := rfl
@[simp] theorem Mach.bump_shards (a : Nat) : (m.bump a).shards = m.shards := rfl
@[simp] theorem Mach.bump_loam (a : Nat) : (m.bump a).loam = m.loam := rfl
@[simp] theorem Mach.bump_silt (a : Nat) : (m.bump a).silt = m.silt := rfl
@[simp] theorem Mach.bump_att (a : Nat) : (m.bump a).att = m.att := rfl
@[simp] theorem Mach.bump_irq (a : Nat) : (m.bump a).irq = m.irq := rfl
@[simp] theorem Mach.bump_flt (a : Nat) : (m.bump a).flt = m.flt := rfl
@[simp] theorem Mach.bump_sys (a : Nat) : (m.bump a).sys = m.sys := rfl
@[simp] theorem Mach.bump_ctrs (a : Nat) : (m.bump a).ctrs = m.ctrs := rfl
@[simp] theorem Mach.bump_nodeRes (a : Nat) : (m.bump a).nodeRes = m.nodeRes := rfl
@[simp] theorem Mach.bump_qitems (a : Nat) : (m.bump a).qitems = m.qitems := rfl
@[simp] theorem Mach.bump_slotOwn (a : Nat) : (m.bump a).slotOwn = m.slotOwn := rfl
@[simp] theorem Mach.bump_ringReq (a : Nat) : (m.bump a).ringReq = m.ringReq := rfl
@[simp] theorem Mach.bump_free (a : Nat) : (m.bump a).free = m.free := rfl
@[simp] theorem Mach.bump_raised (a : Nat) : (m.bump a).raised = m.raised := rfl
@[simp] theorem Mach.bump_gone (a : Nat) : (m.bump a).gone = m.gone := rfl
@[simp] theorem Mach.bump_warmReq (a : Nat) : (m.bump a).warmReq = m.warmReq := rfl
@[simp] theorem Mach.bump_resp (a : Nat) : (m.bump a).resp = m.resp := rfl

@[simp] theorem Mach.wr64_phs (a v : Nat) : (m.wr64 a v).phs = m.phs := rfl
@[simp] theorem Mach.wr64_net (a v : Nat) : (m.wr64 a v).net = m.net := rfl
@[simp] theorem Mach.wr64_keys (a v : Nat) : (m.wr64 a v).keys = m.keys := rfl
@[simp] theorem Mach.wr64_mem (a v : Nat) : (m.wr64 a v).mem = m.mem := rfl
@[simp] theorem Mach.wr64_own (a v : Nat) : (m.wr64 a v).own = m.own := rfl
@[simp] theorem Mach.wr64_agg (a v : Nat) : (m.wr64 a v).agg = m.agg := rfl
@[simp] theorem Mach.wr64_tiles (a v : Nat) : (m.wr64 a v).tiles = m.tiles := rfl
@[simp] theorem Mach.wr64_gates (a v : Nat) : (m.wr64 a v).gates = m.gates := rfl
@[simp] theorem Mach.wr64_shards (a v : Nat) : (m.wr64 a v).shards = m.shards := rfl
@[simp] theorem Mach.wr64_loam (a v : Nat) : (m.wr64 a v).loam = m.loam := rfl
@[simp] theorem Mach.wr64_silt (a v : Nat) : (m.wr64 a v).silt = m.silt := rfl
@[simp] theorem Mach.wr64_att (a v : Nat) : (m.wr64 a v).att = m.att := rfl
@[simp] theorem Mach.wr64_irq (a v : Nat) : (m.wr64 a v).irq = m.irq := rfl
@[simp] theorem Mach.wr64_flt (a v : Nat) : (m.wr64 a v).flt = m.flt := rfl
@[simp] theorem Mach.wr64_sys (a v : Nat) : (m.wr64 a v).sys = m.sys := rfl
@[simp] theorem Mach.wr64_ctrs (a v : Nat) : (m.wr64 a v).ctrs = m.ctrs := rfl
@[simp] theorem Mach.wr64_nodeRes (a v : Nat) : (m.wr64 a v).nodeRes = m.nodeRes := rfl
@[simp] theorem Mach.wr64_qitems (a v : Nat) : (m.wr64 a v).qitems = m.qitems := rfl
@[simp] theorem Mach.wr64_slotOwn (a v : Nat) : (m.wr64 a v).slotOwn = m.slotOwn := rfl
@[simp] theorem Mach.wr64_ringReq (a v : Nat) : (m.wr64 a v).ringReq = m.ringReq := rfl
@[simp] theorem Mach.wr64_free (a v : Nat) : (m.wr64 a v).free = m.free := rfl
@[simp] theorem Mach.wr64_raised (a v : Nat) : (m.wr64 a v).raised = m.raised := rfl
@[simp] theorem Mach.wr64_gone (a v : Nat) : (m.wr64 a v).gone = m.gone := rfl
@[simp] theorem Mach.wr64_warmReq (a v : Nat) : (m.wr64 a v).warmReq = m.warmReq := rfl
@[simp] theorem Mach.wr64_resp (a v : Nat) : (m.wr64 a v).resp = m.resp := rfl

@[simp] theorem Mach.countDiscard_phs : (m.countDiscard).phs = m.phs := rfl
@[simp] theorem Mach.countDiscard_net : (m.countDiscard).net = m.net := rfl
@[simp] theorem Mach.countDiscard_keys : (m.countDiscard).keys = m.keys := rfl
@[simp] theorem Mach.countDiscard_mem : (m.countDiscard).mem = m.mem := rfl
@[simp] theorem Mach.countDiscard_own : (m.countDiscard).own = m.own := rfl
@[simp] theorem Mach.countDiscard_agg : (m.countDiscard).agg = m.agg := rfl
@[simp] theorem Mach.countDiscard_tiles : (m.countDiscard).tiles = m.tiles := rfl
@[simp] theorem Mach.countDiscard_gates : (m.countDiscard).gates = m.gates := rfl
@[simp] theorem Mach.countDiscard_shards : (m.countDiscard).shards = m.shards := rfl
@[simp] theorem Mach.countDiscard_loam : (m.countDiscard).loam = m.loam := rfl
@[simp] theorem Mach.countDiscard_silt : (m.countDiscard).silt = m.silt := rfl
@[simp] theorem Mach.countDiscard_att : (m.countDiscard).att = m.att := rfl
@[simp] theorem Mach.countDiscard_irq : (m.countDiscard).irq = m.irq := rfl
@[simp] theorem Mach.countDiscard_flt : (m.countDiscard).flt = m.flt := rfl
@[simp] theorem Mach.countDiscard_sys : (m.countDiscard).sys = m.sys := rfl
@[simp] theorem Mach.countDiscard_ctrs : (m.countDiscard).ctrs = m.ctrs := rfl
@[simp] theorem Mach.countDiscard_nodeRes : (m.countDiscard).nodeRes = m.nodeRes := rfl
@[simp] theorem Mach.countDiscard_qitems : (m.countDiscard).qitems = m.qitems := rfl
@[simp] theorem Mach.countDiscard_slotOwn : (m.countDiscard).slotOwn = m.slotOwn := rfl
@[simp] theorem Mach.countDiscard_ringReq : (m.countDiscard).ringReq = m.ringReq := rfl
@[simp] theorem Mach.countDiscard_free : (m.countDiscard).free = m.free := rfl
@[simp] theorem Mach.countDiscard_raised : (m.countDiscard).raised = m.raised := rfl
@[simp] theorem Mach.countDiscard_gone : (m.countDiscard).gone = m.gone := rfl
@[simp] theorem Mach.countDiscard_warmReq : (m.countDiscard).warmReq = m.warmReq := rfl
@[simp] theorem Mach.countDiscard_resp : (m.countDiscard).resp = m.resp := rfl

@[simp] theorem Mach.setTileState_phs (t st : Nat) : (m.setTileState t st).phs = m.phs := rfl
@[simp] theorem Mach.setTileState_net (t st : Nat) : (m.setTileState t st).net = m.net := rfl
@[simp] theorem Mach.setTileState_keys (t st : Nat) : (m.setTileState t st).keys = m.keys := rfl
@[simp] theorem Mach.setTileState_mem (t st : Nat) : (m.setTileState t st).mem = m.mem := rfl
@[simp] theorem Mach.setTileState_own (t st : Nat) : (m.setTileState t st).own = m.own := rfl
@[simp] theorem Mach.setTileState_agg (t st : Nat) : (m.setTileState t st).agg = m.agg := rfl
@[simp] theorem Mach.setTileState_tiles (t st : Nat) : (m.setTileState t st).tiles = m.tiles := rfl
@[simp] theorem Mach.setTileState_gates (t st : Nat) : (m.setTileState t st).gates = m.gates := rfl
@[simp] theorem Mach.setTileState_shards (t st : Nat) : (m.setTileState t st).shards = m.shards := rfl
@[simp] theorem Mach.setTileState_loam (t st : Nat) : (m.setTileState t st).loam = m.loam := rfl
@[simp] theorem Mach.setTileState_silt (t st : Nat) : (m.setTileState t st).silt = m.silt := rfl
@[simp] theorem Mach.setTileState_att (t st : Nat) : (m.setTileState t st).att = m.att := rfl
@[simp] theorem Mach.setTileState_irq (t st : Nat) : (m.setTileState t st).irq = m.irq := rfl
@[simp] theorem Mach.setTileState_flt (t st : Nat) : (m.setTileState t st).flt = m.flt := rfl
@[simp] theorem Mach.setTileState_sys (t st : Nat) : (m.setTileState t st).sys = m.sys := rfl
@[simp] theorem Mach.setTileState_ctrs (t st : Nat) : (m.setTileState t st).ctrs = m.ctrs := rfl
@[simp] theorem Mach.setTileState_nodeRes (t st : Nat) : (m.setTileState t st).nodeRes = m.nodeRes := rfl
@[simp] theorem Mach.setTileState_qitems (t st : Nat) : (m.setTileState t st).qitems = m.qitems := rfl
@[simp] theorem Mach.setTileState_slotOwn (t st : Nat) : (m.setTileState t st).slotOwn = m.slotOwn := rfl
@[simp] theorem Mach.setTileState_ringReq (t st : Nat) : (m.setTileState t st).ringReq = m.ringReq := rfl
@[simp] theorem Mach.setTileState_free (t st : Nat) : (m.setTileState t st).free = m.free := rfl
@[simp] theorem Mach.setTileState_raised (t st : Nat) : (m.setTileState t st).raised = m.raised := rfl
@[simp] theorem Mach.setTileState_gone (t st : Nat) : (m.setTileState t st).gone = m.gone := rfl
@[simp] theorem Mach.setTileState_warmReq (t st : Nat) : (m.setTileState t st).warmReq = m.warmReq := rfl
@[simp] theorem Mach.setTileState_resp (t st : Nat) : (m.setTileState t st).resp = m.resp := rfl

@[simp] theorem Mach.setTilePc_phs (t pc : Nat) : (m.setTilePc t pc).phs = m.phs := rfl
@[simp] theorem Mach.setTilePc_net (t pc : Nat) : (m.setTilePc t pc).net = m.net := rfl
@[simp] theorem Mach.setTilePc_keys (t pc : Nat) : (m.setTilePc t pc).keys = m.keys := rfl
@[simp] theorem Mach.setTilePc_mem (t pc : Nat) : (m.setTilePc t pc).mem = m.mem := rfl
@[simp] theorem Mach.setTilePc_own (t pc : Nat) : (m.setTilePc t pc).own = m.own := rfl
@[simp] theorem Mach.setTilePc_agg (t pc : Nat) : (m.setTilePc t pc).agg = m.agg := rfl
@[simp] theorem Mach.setTilePc_tiles (t pc : Nat) : (m.setTilePc t pc).tiles = m.tiles := rfl
@[simp] theorem Mach.setTilePc_gates (t pc : Nat) : (m.setTilePc t pc).gates = m.gates := rfl
@[simp] theorem Mach.setTilePc_shards (t pc : Nat) : (m.setTilePc t pc).shards = m.shards := rfl
@[simp] theorem Mach.setTilePc_loam (t pc : Nat) : (m.setTilePc t pc).loam = m.loam := rfl
@[simp] theorem Mach.setTilePc_silt (t pc : Nat) : (m.setTilePc t pc).silt = m.silt := rfl
@[simp] theorem Mach.setTilePc_att (t pc : Nat) : (m.setTilePc t pc).att = m.att := rfl
@[simp] theorem Mach.setTilePc_irq (t pc : Nat) : (m.setTilePc t pc).irq = m.irq := rfl
@[simp] theorem Mach.setTilePc_flt (t pc : Nat) : (m.setTilePc t pc).flt = m.flt := rfl
@[simp] theorem Mach.setTilePc_sys (t pc : Nat) : (m.setTilePc t pc).sys = m.sys := rfl
@[simp] theorem Mach.setTilePc_ctrs (t pc : Nat) : (m.setTilePc t pc).ctrs = m.ctrs := rfl
@[simp] theorem Mach.setTilePc_nodeRes (t pc : Nat) : (m.setTilePc t pc).nodeRes = m.nodeRes := rfl
@[simp] theorem Mach.setTilePc_qitems (t pc : Nat) : (m.setTilePc t pc).qitems = m.qitems := rfl
@[simp] theorem Mach.setTilePc_slotOwn (t pc : Nat) : (m.setTilePc t pc).slotOwn = m.slotOwn := rfl
@[simp] theorem Mach.setTilePc_ringReq (t pc : Nat) : (m.setTilePc t pc).ringReq = m.ringReq := rfl
@[simp] theorem Mach.setTilePc_free (t pc : Nat) : (m.setTilePc t pc).free = m.free := rfl
@[simp] theorem Mach.setTilePc_raised (t pc : Nat) : (m.setTilePc t pc).raised = m.raised := rfl
@[simp] theorem Mach.setTilePc_gone (t pc : Nat) : (m.setTilePc t pc).gone = m.gone := rfl
@[simp] theorem Mach.setTilePc_warmReq (t pc : Nat) : (m.setTilePc t pc).warmReq = m.warmReq := rfl
@[simp] theorem Mach.setTilePc_resp (t pc : Nat) : (m.setTilePc t pc).resp = m.resp := rfl

@[simp] theorem Mach.countIns_phs (t : Nat) : (m.countIns t).phs = m.phs := rfl
@[simp] theorem Mach.countIns_net (t : Nat) : (m.countIns t).net = m.net := rfl
@[simp] theorem Mach.countIns_keys (t : Nat) : (m.countIns t).keys = m.keys := rfl
@[simp] theorem Mach.countIns_mem (t : Nat) : (m.countIns t).mem = m.mem := rfl
@[simp] theorem Mach.countIns_own (t : Nat) : (m.countIns t).own = m.own := rfl
@[simp] theorem Mach.countIns_agg (t : Nat) : (m.countIns t).agg = m.agg := rfl
@[simp] theorem Mach.countIns_tiles (t : Nat) : (m.countIns t).tiles = m.tiles := rfl
@[simp] theorem Mach.countIns_gates (t : Nat) : (m.countIns t).gates = m.gates := rfl
@[simp] theorem Mach.countIns_shards (t : Nat) : (m.countIns t).shards = m.shards := rfl
@[simp] theorem Mach.countIns_loam (t : Nat) : (m.countIns t).loam = m.loam := rfl
@[simp] theorem Mach.countIns_silt (t : Nat) : (m.countIns t).silt = m.silt := rfl
@[simp] theorem Mach.countIns_att (t : Nat) : (m.countIns t).att = m.att := rfl
@[simp] theorem Mach.countIns_irq (t : Nat) : (m.countIns t).irq = m.irq := rfl
@[simp] theorem Mach.countIns_flt (t : Nat) : (m.countIns t).flt = m.flt := rfl
@[simp] theorem Mach.countIns_sys (t : Nat) : (m.countIns t).sys = m.sys := rfl
@[simp] theorem Mach.countIns_ctrs (t : Nat) : (m.countIns t).ctrs = m.ctrs := rfl
@[simp] theorem Mach.countIns_nodeRes (t : Nat) : (m.countIns t).nodeRes = m.nodeRes := rfl
@[simp] theorem Mach.countIns_qitems (t : Nat) : (m.countIns t).qitems = m.qitems := rfl
@[simp] theorem Mach.countIns_slotOwn (t : Nat) : (m.countIns t).slotOwn = m.slotOwn := rfl
@[simp] theorem Mach.countIns_ringReq (t : Nat) : (m.countIns t).ringReq = m.ringReq := rfl
@[simp] theorem Mach.countIns_free (t : Nat) : (m.countIns t).free = m.free := rfl
@[simp] theorem Mach.countIns_raised (t : Nat) : (m.countIns t).raised = m.raised := rfl
@[simp] theorem Mach.countIns_gone (t : Nat) : (m.countIns t).gone = m.gone := rfl
@[simp] theorem Mach.countIns_warmReq (t : Nat) : (m.countIns t).warmReq = m.warmReq := rfl
@[simp] theorem Mach.countIns_resp (t : Nat) : (m.countIns t).resp = m.resp := rfl

@[simp] theorem Mach.setTile_phs (t : Nat) (x : Tile) : (m.setTile t x).phs = m.phs := rfl
@[simp] theorem Mach.setTile_regs (t : Nat) (x : Tile) : (m.setTile t x).regs = m.regs := rfl
@[simp] theorem Mach.setTile_net (t : Nat) (x : Tile) : (m.setTile t x).net = m.net := rfl
@[simp] theorem Mach.setTile_keys (t : Nat) (x : Tile) : (m.setTile t x).keys = m.keys := rfl
@[simp] theorem Mach.setTile_mem (t : Nat) (x : Tile) : (m.setTile t x).mem = m.mem := rfl
@[simp] theorem Mach.setTile_own (t : Nat) (x : Tile) : (m.setTile t x).own = m.own := rfl
@[simp] theorem Mach.setTile_agg (t : Nat) (x : Tile) : (m.setTile t x).agg = m.agg := rfl
@[simp] theorem Mach.setTile_gates (t : Nat) (x : Tile) : (m.setTile t x).gates = m.gates := rfl
@[simp] theorem Mach.setTile_shards (t : Nat) (x : Tile) : (m.setTile t x).shards = m.shards := rfl
@[simp] theorem Mach.setTile_loam (t : Nat) (x : Tile) : (m.setTile t x).loam = m.loam := rfl
@[simp] theorem Mach.setTile_silt (t : Nat) (x : Tile) : (m.setTile t x).silt = m.silt := rfl
@[simp] theorem Mach.setTile_att (t : Nat) (x : Tile) : (m.setTile t x).att = m.att := rfl
@[simp] theorem Mach.setTile_irq (t : Nat) (x : Tile) : (m.setTile t x).irq = m.irq := rfl
@[simp] theorem Mach.setTile_flt (t : Nat) (x : Tile) : (m.setTile t x).flt = m.flt := rfl
@[simp] theorem Mach.setTile_sys (t : Nat) (x : Tile) : (m.setTile t x).sys = m.sys := rfl
@[simp] theorem Mach.setTile_ctrs (t : Nat) (x : Tile) : (m.setTile t x).ctrs = m.ctrs := rfl
@[simp] theorem Mach.setTile_nodeRes (t : Nat) (x : Tile) : (m.setTile t x).nodeRes = m.nodeRes := rfl
@[simp] theorem Mach.setTile_qitems (t : Nat) (x : Tile) : (m.setTile t x).qitems = m.qitems := rfl
@[simp] theorem Mach.setTile_slotOwn (t : Nat) (x : Tile) : (m.setTile t x).slotOwn = m.slotOwn := rfl
@[simp] theorem Mach.setTile_ringReq (t : Nat) (x : Tile) : (m.setTile t x).ringReq = m.ringReq := rfl
@[simp] theorem Mach.setTile_free (t : Nat) (x : Tile) : (m.setTile t x).free = m.free := rfl
@[simp] theorem Mach.setTile_raised (t : Nat) (x : Tile) : (m.setTile t x).raised = m.raised := rfl
@[simp] theorem Mach.setTile_gone (t : Nat) (x : Tile) : (m.setTile t x).gone = m.gone := rfl
@[simp] theorem Mach.setTile_warmReq (t : Nat) (x : Tile) : (m.setTile t x).warmReq = m.warmReq := rfl
@[simp] theorem Mach.setTile_resp (t : Nat) (x : Tile) : (m.setTile t x).resp = m.resp := rfl

@[simp] theorem Mach.raiseFault_phs (src u d : Nat) : (m.raiseFault src u d).phs = m.phs := rfl
@[simp] theorem Mach.raiseFault_regs (src u d : Nat) : (m.raiseFault src u d).regs = m.regs := rfl
@[simp] theorem Mach.raiseFault_net (src u d : Nat) : (m.raiseFault src u d).net = m.net := rfl
@[simp] theorem Mach.raiseFault_keys (src u d : Nat) : (m.raiseFault src u d).keys = m.keys := rfl
@[simp] theorem Mach.raiseFault_mem (src u d : Nat) : (m.raiseFault src u d).mem = m.mem := rfl
@[simp] theorem Mach.raiseFault_own (src u d : Nat) : (m.raiseFault src u d).own = m.own := rfl
@[simp] theorem Mach.raiseFault_agg (src u d : Nat) : (m.raiseFault src u d).agg = m.agg := rfl
@[simp] theorem Mach.raiseFault_tiles (src u d : Nat) : (m.raiseFault src u d).tiles = m.tiles := rfl
@[simp] theorem Mach.raiseFault_gates (src u d : Nat) : (m.raiseFault src u d).gates = m.gates := rfl
@[simp] theorem Mach.raiseFault_shards (src u d : Nat) : (m.raiseFault src u d).shards = m.shards := rfl
@[simp] theorem Mach.raiseFault_loam (src u d : Nat) : (m.raiseFault src u d).loam = m.loam := rfl
@[simp] theorem Mach.raiseFault_silt (src u d : Nat) : (m.raiseFault src u d).silt = m.silt := rfl
@[simp] theorem Mach.raiseFault_att (src u d : Nat) : (m.raiseFault src u d).att = m.att := rfl
@[simp] theorem Mach.raiseFault_irq (src u d : Nat) : (m.raiseFault src u d).irq = m.irq := rfl
@[simp] theorem Mach.raiseFault_flt (src u d : Nat) : (m.raiseFault src u d).flt = m.flt := rfl
@[simp] theorem Mach.raiseFault_sys (src u d : Nat) : (m.raiseFault src u d).sys = m.sys := rfl
@[simp] theorem Mach.raiseFault_ctrs (src u d : Nat) : (m.raiseFault src u d).ctrs = m.ctrs := rfl
@[simp] theorem Mach.raiseFault_nodeRes (src u d : Nat) : (m.raiseFault src u d).nodeRes = m.nodeRes := rfl
@[simp] theorem Mach.raiseFault_qitems (src u d : Nat) : (m.raiseFault src u d).qitems = m.qitems := rfl
@[simp] theorem Mach.raiseFault_slotOwn (src u d : Nat) : (m.raiseFault src u d).slotOwn = m.slotOwn := rfl
@[simp] theorem Mach.raiseFault_ringReq (src u d : Nat) : (m.raiseFault src u d).ringReq = m.ringReq := rfl
@[simp] theorem Mach.raiseFault_free (src u d : Nat) : (m.raiseFault src u d).free = m.free := rfl
@[simp] theorem Mach.raiseFault_gone (src u d : Nat) : (m.raiseFault src u d).gone = m.gone := rfl
@[simp] theorem Mach.raiseFault_warmReq (src u d : Nat) : (m.raiseFault src u d).warmReq = m.warmReq := rfl
@[simp] theorem Mach.raiseFault_resp (src u d : Nat) : (m.raiseFault src u d).resp = m.resp := rfl

@[simp] theorem Mach.markGone_phs (c : Nat) : (m.markGone c).phs = m.phs := rfl
@[simp] theorem Mach.markGone_regs (c : Nat) : (m.markGone c).regs = m.regs := rfl
@[simp] theorem Mach.markGone_net (c : Nat) : (m.markGone c).net = m.net := rfl
@[simp] theorem Mach.markGone_keys (c : Nat) : (m.markGone c).keys = m.keys := rfl
@[simp] theorem Mach.markGone_mem (c : Nat) : (m.markGone c).mem = m.mem := rfl
@[simp] theorem Mach.markGone_own (c : Nat) : (m.markGone c).own = m.own := rfl
@[simp] theorem Mach.markGone_agg (c : Nat) : (m.markGone c).agg = m.agg := rfl
@[simp] theorem Mach.markGone_tiles (c : Nat) : (m.markGone c).tiles = m.tiles := rfl
@[simp] theorem Mach.markGone_gates (c : Nat) : (m.markGone c).gates = m.gates := rfl
@[simp] theorem Mach.markGone_shards (c : Nat) : (m.markGone c).shards = m.shards := rfl
@[simp] theorem Mach.markGone_loam (c : Nat) : (m.markGone c).loam = m.loam := rfl
@[simp] theorem Mach.markGone_silt (c : Nat) : (m.markGone c).silt = m.silt := rfl
@[simp] theorem Mach.markGone_att (c : Nat) : (m.markGone c).att = m.att := rfl
@[simp] theorem Mach.markGone_irq (c : Nat) : (m.markGone c).irq = m.irq := rfl
@[simp] theorem Mach.markGone_flt (c : Nat) : (m.markGone c).flt = m.flt := rfl
@[simp] theorem Mach.markGone_sys (c : Nat) : (m.markGone c).sys = m.sys := rfl
@[simp] theorem Mach.markGone_ctrs (c : Nat) : (m.markGone c).ctrs = m.ctrs := rfl
@[simp] theorem Mach.markGone_nodeRes (c : Nat) : (m.markGone c).nodeRes = m.nodeRes := rfl
@[simp] theorem Mach.markGone_qitems (c : Nat) : (m.markGone c).qitems = m.qitems := rfl
@[simp] theorem Mach.markGone_slotOwn (c : Nat) : (m.markGone c).slotOwn = m.slotOwn := rfl
@[simp] theorem Mach.markGone_ringReq (c : Nat) : (m.markGone c).ringReq = m.ringReq := rfl
@[simp] theorem Mach.markGone_free (c : Nat) : (m.markGone c).free = m.free := rfl
@[simp] theorem Mach.markGone_raised (c : Nat) : (m.markGone c).raised = m.raised := rfl
@[simp] theorem Mach.markGone_warmReq (c : Nat) : (m.markGone c).warmReq = m.warmReq := rfl
@[simp] theorem Mach.markGone_resp (c : Nat) : (m.markGone c).resp = m.resp := rfl

@[simp] theorem Mach.ctrAdd_phs (p c n : Nat) : (m.ctrAdd p c n).phs = m.phs := rfl
@[simp] theorem Mach.ctrAdd_regs (p c n : Nat) : (m.ctrAdd p c n).regs = m.regs := rfl
@[simp] theorem Mach.ctrAdd_net (p c n : Nat) : (m.ctrAdd p c n).net = m.net := rfl
@[simp] theorem Mach.ctrAdd_keys (p c n : Nat) : (m.ctrAdd p c n).keys = m.keys := rfl
@[simp] theorem Mach.ctrAdd_mem (p c n : Nat) : (m.ctrAdd p c n).mem = m.mem := rfl
@[simp] theorem Mach.ctrAdd_own (p c n : Nat) : (m.ctrAdd p c n).own = m.own := rfl
@[simp] theorem Mach.ctrAdd_agg (p c n : Nat) : (m.ctrAdd p c n).agg = m.agg := rfl
@[simp] theorem Mach.ctrAdd_tiles (p c n : Nat) : (m.ctrAdd p c n).tiles = m.tiles := rfl
@[simp] theorem Mach.ctrAdd_gates (p c n : Nat) : (m.ctrAdd p c n).gates = m.gates := rfl
@[simp] theorem Mach.ctrAdd_shards (p c n : Nat) : (m.ctrAdd p c n).shards = m.shards := rfl
@[simp] theorem Mach.ctrAdd_loam (p c n : Nat) : (m.ctrAdd p c n).loam = m.loam := rfl
@[simp] theorem Mach.ctrAdd_silt (p c n : Nat) : (m.ctrAdd p c n).silt = m.silt := rfl
@[simp] theorem Mach.ctrAdd_att (p c n : Nat) : (m.ctrAdd p c n).att = m.att := rfl
@[simp] theorem Mach.ctrAdd_irq (p c n : Nat) : (m.ctrAdd p c n).irq = m.irq := rfl
@[simp] theorem Mach.ctrAdd_flt (p c n : Nat) : (m.ctrAdd p c n).flt = m.flt := rfl
@[simp] theorem Mach.ctrAdd_sys (p c n : Nat) : (m.ctrAdd p c n).sys = m.sys := rfl
@[simp] theorem Mach.ctrAdd_nodeRes (p c n : Nat) : (m.ctrAdd p c n).nodeRes = m.nodeRes := rfl
@[simp] theorem Mach.ctrAdd_qitems (p c n : Nat) : (m.ctrAdd p c n).qitems = m.qitems := rfl
@[simp] theorem Mach.ctrAdd_slotOwn (p c n : Nat) : (m.ctrAdd p c n).slotOwn = m.slotOwn := rfl
@[simp] theorem Mach.ctrAdd_ringReq (p c n : Nat) : (m.ctrAdd p c n).ringReq = m.ringReq := rfl
@[simp] theorem Mach.ctrAdd_free (p c n : Nat) : (m.ctrAdd p c n).free = m.free := rfl
@[simp] theorem Mach.ctrAdd_raised (p c n : Nat) : (m.ctrAdd p c n).raised = m.raised := rfl
@[simp] theorem Mach.ctrAdd_gone (p c n : Nat) : (m.ctrAdd p c n).gone = m.gone := rfl
@[simp] theorem Mach.ctrAdd_warmReq (p c n : Nat) : (m.ctrAdd p c n).warmReq = m.warmReq := rfl
@[simp] theorem Mach.ctrAdd_resp (p c n : Nat) : (m.ctrAdd p c n).resp = m.resp := rfl

@[simp] theorem Mach.wr_act (a : Nat) (w : Word) : (m.wr a w).regs.act = tset m.regs.act a w := rfl
@[simp] theorem Mach.wr_shadow (a : Nat) (w : Word) : (m.wr a w).regs.shadow = m.regs.shadow := rfl
@[simp] theorem Mach.setTile_tiles (t : Nat) (x : Tile) : (m.setTile t x).tiles = tset m.tiles t x := rfl
@[simp] theorem Mach.raiseFault_raised (src u d : Nat) : (m.raiseFault src u d).raised = m.raised ++ [(src, u, d)] := rfl
@[simp] theorem Mach.markGone_gone (c : Nat) : (m.markGone c).gone = c :: m.gone := rfl

@[simp] theorem Mach.draw_phs : m.draw.2.phs = m.phs := rfl
@[simp] theorem Mach.draw_regs : m.draw.2.regs = m.regs := rfl
@[simp] theorem Mach.draw_net : m.draw.2.net = m.net := rfl
@[simp] theorem Mach.draw_keys : m.draw.2.keys = m.keys := rfl
@[simp] theorem Mach.draw_mem : m.draw.2.mem = m.mem := rfl
@[simp] theorem Mach.draw_own : m.draw.2.own = m.own := rfl
@[simp] theorem Mach.draw_agg : m.draw.2.agg = m.agg := rfl
@[simp] theorem Mach.draw_tiles : m.draw.2.tiles = m.tiles := rfl
@[simp] theorem Mach.draw_gates : m.draw.2.gates = m.gates := rfl
@[simp] theorem Mach.draw_shards : m.draw.2.shards = m.shards := rfl
@[simp] theorem Mach.draw_loam : m.draw.2.loam = m.loam := rfl
@[simp] theorem Mach.draw_silt : m.draw.2.silt = m.silt := rfl
@[simp] theorem Mach.draw_att : m.draw.2.att = m.att := rfl
@[simp] theorem Mach.draw_irq : m.draw.2.irq = m.irq := rfl
@[simp] theorem Mach.draw_flt : m.draw.2.flt = m.flt := rfl
@[simp] theorem Mach.draw_sys : m.draw.2.sys = m.sys := rfl
@[simp] theorem Mach.draw_ctrs : m.draw.2.ctrs = m.ctrs := rfl
@[simp] theorem Mach.draw_nodeRes : m.draw.2.nodeRes = m.nodeRes := rfl
@[simp] theorem Mach.draw_qitems : m.draw.2.qitems = m.qitems := rfl
@[simp] theorem Mach.draw_slotOwn : m.draw.2.slotOwn = m.slotOwn := rfl
@[simp] theorem Mach.draw_ringReq : m.draw.2.ringReq = m.ringReq := rfl
@[simp] theorem Mach.draw_raised : m.draw.2.raised = m.raised := rfl
@[simp] theorem Mach.draw_gone : m.draw.2.gone = m.gone := rfl
@[simp] theorem Mach.draw_warmReq : m.draw.2.warmReq = m.warmReq := rfl
@[simp] theorem Mach.draw_resp : m.draw.2.resp = m.resp := rfl
@[simp] theorem Mach.draw_value : m.draw.1 = Config.freeBits m.free := rfl
@[simp] theorem Mach.draw_free : m.draw.2.free = m.free + 1 := rfl

@[simp] theorem Mach.drawBytes_phs (n : Nat) : (m.drawBytes n).2.phs = m.phs := rfl
@[simp] theorem Mach.drawBytes_regs (n : Nat) : (m.drawBytes n).2.regs = m.regs := rfl
@[simp] theorem Mach.drawBytes_net (n : Nat) : (m.drawBytes n).2.net = m.net := rfl
@[simp] theorem Mach.drawBytes_keys (n : Nat) : (m.drawBytes n).2.keys = m.keys := rfl
@[simp] theorem Mach.drawBytes_mem (n : Nat) : (m.drawBytes n).2.mem = m.mem := rfl
@[simp] theorem Mach.drawBytes_own (n : Nat) : (m.drawBytes n).2.own = m.own := rfl
@[simp] theorem Mach.drawBytes_agg (n : Nat) : (m.drawBytes n).2.agg = m.agg := rfl
@[simp] theorem Mach.drawBytes_tiles (n : Nat) : (m.drawBytes n).2.tiles = m.tiles := rfl
@[simp] theorem Mach.drawBytes_gates (n : Nat) : (m.drawBytes n).2.gates = m.gates := rfl
@[simp] theorem Mach.drawBytes_shards (n : Nat) : (m.drawBytes n).2.shards = m.shards := rfl
@[simp] theorem Mach.drawBytes_loam (n : Nat) : (m.drawBytes n).2.loam = m.loam := rfl
@[simp] theorem Mach.drawBytes_silt (n : Nat) : (m.drawBytes n).2.silt = m.silt := rfl
@[simp] theorem Mach.drawBytes_att (n : Nat) : (m.drawBytes n).2.att = m.att := rfl
@[simp] theorem Mach.drawBytes_irq (n : Nat) : (m.drawBytes n).2.irq = m.irq := rfl
@[simp] theorem Mach.drawBytes_flt (n : Nat) : (m.drawBytes n).2.flt = m.flt := rfl
@[simp] theorem Mach.drawBytes_sys (n : Nat) : (m.drawBytes n).2.sys = m.sys := rfl
@[simp] theorem Mach.drawBytes_ctrs (n : Nat) : (m.drawBytes n).2.ctrs = m.ctrs := rfl
@[simp] theorem Mach.drawBytes_nodeRes (n : Nat) : (m.drawBytes n).2.nodeRes = m.nodeRes := rfl
@[simp] theorem Mach.drawBytes_qitems (n : Nat) : (m.drawBytes n).2.qitems = m.qitems := rfl
@[simp] theorem Mach.drawBytes_slotOwn (n : Nat) : (m.drawBytes n).2.slotOwn = m.slotOwn := rfl
@[simp] theorem Mach.drawBytes_ringReq (n : Nat) : (m.drawBytes n).2.ringReq = m.ringReq := rfl
@[simp] theorem Mach.drawBytes_raised (n : Nat) : (m.drawBytes n).2.raised = m.raised := rfl
@[simp] theorem Mach.drawBytes_gone (n : Nat) : (m.drawBytes n).2.gone = m.gone := rfl
@[simp] theorem Mach.drawBytes_warmReq (n : Nat) : (m.drawBytes n).2.warmReq = m.warmReq := rfl
@[simp] theorem Mach.drawBytes_resp (n : Nat) : (m.drawBytes n).2.resp = m.resp := rfl

/-! ### The next state of a meaning -/

@[simp] theorem State.after_m (s : State) : (s.after m).m = m := rfl
@[simp] theorem State.after_pending (s : State) : (s.after m).pending = s.pending := rfl
@[simp] theorem State.after_pins (s : State) : (s.after m).pins = m.outputs := rfl
theorem State.onMach_eq (s : State) (f : Mach → Mach) : s.onMach f = .next (s.after (f s.m)) := rfl

end Sys2Proof.Machine
end

