-- ==== Sys2Proof/Laws/Tile.lean ====
section
/-! SUPPORT. What issuing a kernel instruction comes to: in sequence, at a target, or a kernel fault. -/
namespace Sys2Proof.Machine

theorem loopNext_pair (pc : Nat) (l : List (Nat × Nat × Nat)) : loopNext pc l = ((loopNext pc l).1, (loopNext pc l).2) := rfl

theorem Mach.tile_setTile_same (m : Mach) (t : Nat) (x : Tile) : (m.setTile t x).tile t = x := by
  simp [Mach.tile, Mach.setTile]

theorem Mach.tile_setTile_other (m : Mach) (t u : Nat) (x : Tile) (h : u ≠ t) : (m.setTile t x).tile u = m.tile u := by
  simp [Mach.tile, Mach.setTile, tget_tset_other _ t u _ _ h]

theorem tset_tset {α : Type} (t : Tab α) (k : Nat) (v w : α) : tset (tset t k v) k w = tset t k w := by
  induction t with
  | nil => simp [tset]
  | cons e r ih =>
    obtain ⟨j, u⟩ := e
    simp only [tset]
    split
    · simp [tset]
    · split
      · simp [tset]
      · rename_i h1 h2
        simp [tset, h1, h2, ih]

theorem Mach.setTile_setTile (m : Mach) (t : Nat) (x y : Tile) : (m.setTile t x).setTile t y = m.setTile t y := by
  unfold Mach.setTile; simp only [tset_tset]

theorem Mach.issues_use {m : Mach} {t c : Nat} (h : m.issues t c) : (opUse (m.fetch t).cls (m.fetch t).op).isNone = false := by
  obtain ⟨-, -, h, -⟩ := h
  unfold TIns.legal at h
  cases h2 : opUse (m.fetch t).cls (m.fetch t).op with
  | none => rw [h2] at h; cases h
  | some u => rfl

/-- Issue of a ready instruction is what its meaning makes of it. -/
theorem Mach.issue_ready {m : Mach} {t c : Nat} {cs : List Nat} {f : Mach → Tile → TIns → TRes} (h : m.issues t c)
    (hc : c ∈ cs) : m.issue t cs f = (match f m (m.tile t) (m.fetch t) with
      | .seq m' => (((m'.setTile t { m'.tile t with loops := (loopNext (m.tilePc t) (m'.tile t).loops).2 }).setTilePc t
          (loopNext (m.tilePc t) (m'.tile t).loops).1).countIns t).stepped t
      | .jump m' pc => (if (m'.tile t).pcOk pc then (m'.setTilePc t pc).countIns t else m'.kfault t 5 pc (m.tilePc t)).stepped t
      | .stop m' => (m'.countIns t).stepped t
      | .fault cause d => (m.kfault t cause d (m.tilePc t)).stepped t
      | .wait m' => m') := by
  have hu := m.issues_use h
  obtain ⟨h1, h2, h3, h4⟩ := h
  unfold Mach.issue
  have hc' : cs.contains (m.fetch t).code = true := by rw [h4]; simpa using hc
  simp only [h1, h2, h3, hu, hc', Bool.not_true, Bool.false_eq_true, if_false]
  cases f m (m.tile t) (m.fetch t) <;> rfl

theorem Mach.stepped_regs (m : Mach) (t : Nat) : (m.stepped t).regs = m.regs := by unfold Mach.stepped; split <;> rfl

theorem Mach.stepped_tile_other (m : Mach) (t u : Nat) (h : u ≠ t) : (m.stepped t).tile u = m.tile u := by
  unfold Mach.stepped; split
  · exact m.tile_setTile_other t u _ h
  · rfl

theorem Mach.stepped_tile (m : Mach) (t : Nat) : (m.stepped t).tile t = { m.tile t with step := (m.tile t).step && !(m.tile t).halted } := by
  unfold Mach.stepped
  split
  · rename_i h; rw [m.tile_setTile_same, h]; simp
  · rename_i h; simp only [Bool.not_eq_true] at h; rw [h]; simp

theorem Mach.stepped_frame (m : Mach) (t : Nat) : m.stepped t = { m with tiles := (m.stepped t).tiles } := by
  unfold Mach.stepped; split <;> rfl

/-- The sticky flags stand for themselves and change no other register (R224). -/
theorem Mach.stickFlags_rd (m : Mach) (t a : Nat) (dz ov : Bool) (h : a ≠ A.TILE_SFLAGS t) : (m.stickFlags t dz ov).rd a = m.rd a := by
  unfold Mach.stickFlags
  cases dz <;> cases ov <;> simp [Mach.rd_putBit_other _ _ _ _ _ h]

theorem Mach.stickFlags_bits (m : Mach) (t : Nat) (dz ov : Bool) :
    (m.stickFlags t dz ov).bit (A.TILE_SFLAGS t) 0 = (m.bit (A.TILE_SFLAGS t) 0 || dz) ∧
    (m.stickFlags t dz ov).bit (A.TILE_SFLAGS t) 1 = (m.bit (A.TILE_SFLAGS t) 1 || ov) := by
  unfold Mach.stickFlags
  cases dz <;> cases ov <;> simp [Mach.bit_putBit_same, Mach.bit_putBit_bit]

theorem Mach.stickFlags_frame (m : Mach) (t : Nat) (dz ov : Bool) :
    m.stickFlags t dz ov = { m with regs := { m.regs with act := (m.stickFlags t dz ov).regs.act } } := by
  unfold Mach.stickFlags; cases dz <;> cases ov <;> rfl

theorem rd64_wr64 (m : Mach) (a v : Nat) (h : v < 2 ^ 64) : (m.wr64 a v).rd64 a = v := by
  unfold Mach.rd64 Mach.wr64
  rw [Mach.rd_wr_same, Mach.rd_wr_other _ _ _ _ (by omega : a ≠ a + 4), Mach.rd_wr_same]
  simp only [BitVec.toNat_ofNat, Nat.shiftRight_eq_div_pow]
  omega

theorem frame_trans {m n k : Mach} (h1 : n = { m with tiles := n.tiles, regs := { m.regs with act := n.regs.act } })
    (h2 : k = { n with tiles := k.tiles }) : k = { m with tiles := k.tiles, regs := { m.regs with act := k.regs.act } } := by
  have hr : k.regs = n.regs := by rw [h2]
  conv_lhs => rw [h2, h1]
  rw [hr]

/-- An instruction that leaves the tile as `x` and goes to `pc`: the tile, its counters and flags, and nothing else. -/
theorem Mach.moved (m : Mach) (t : Nat) (x : Tile) (pc : Nat) (loops : List (Nat × Nat × Nat)) (dz ov : Bool) :
    m.movesTo t x pc loops dz ov (((((m.stickFlags t dz ov).setTile t { x with loops := loops }).setTilePc t pc).countIns t).stepped t) := by
  have e1 : A.TILE_PC t ≠ A.TILE_SFLAGS t := by simp only [A.TILE_PC, A.TILE_SFLAGS]; omega
  have e2 : A.TILE_PC t ≠ A.CNT_INSTR_LO t := by simp only [A.TILE_PC, A.CNT_INSTR_LO]; omega
  have e3 : A.TILE_PC t ≠ A.CNT_INSTR_LO t + 4 := by simp only [A.TILE_PC, A.CNT_INSTR_LO]; omega
  have e4 : A.TILE_SFLAGS t ≠ A.CNT_INSTR_LO t := by simp only [A.TILE_SFLAGS, A.CNT_INSTR_LO]; omega
  have e5 : A.TILE_SFLAGS t ≠ A.CNT_INSTR_LO t + 4 := by simp only [A.TILE_SFLAGS, A.CNT_INSTR_LO]; omega
  set n := ((m.stickFlags t dz ov).setTile t { x with loops := loops }).setTilePc t pc with hn
  have hact : (n.countIns t).regs.act = tset (tset (putT (m.stickFlags t dz ov).regs.act (A.TILE_PC t) 23 0 pc) (A.CNT_INSTR_LO t)
      (BitVec.ofNat 32 (min (n.rd64 (A.CNT_INSTR_LO t) + 1) (2 ^ 64 - 1)))) (A.CNT_INSTR_LO t + 4)
      (BitVec.ofNat 32 (min (n.rd64 (A.CNT_INSTR_LO t) + 1) (2 ^ 64 - 1) >>> 32)) := rfl
  have hsf : ∀ a, rdT (m.stickFlags t dz ov).regs.act a = (m.stickFlags t dz ov).rd a := fun _ => rfl
  have hrd : ∀ a, a ≠ A.TILE_PC t → a ≠ A.CNT_INSTR_LO t → a ≠ A.CNT_INSTR_LO t + 4 →
      (n.countIns t).rd a = (m.stickFlags t dz ov).rd a := fun a h1 h2 h3 => by
    rw [Mach.rd_eq, hact, rdT_tset_other _ _ _ _ h3, rdT_tset_other _ _ _ _ h2, rdT_putT_other _ _ _ _ _ _ h1]
    rfl
  have hn64 : n.rd64 (A.CNT_INSTR_LO t) = m.rd64 (A.CNT_INSTR_LO t) := by
    have h : ∀ a, a ≠ A.TILE_PC t → a ≠ A.TILE_SFLAGS t → n.rd a = m.rd a := fun a h1 h2 => by
      rw [← m.stickFlags_rd t a dz ov h2]
      exact Mach.rd_put_other _ _ _ _ _ _ h1
    unfold Mach.rd64
    rw [h _ (Ne.symm e2) (Ne.symm e4), h _ (Ne.symm e3) (Ne.symm e5)]
  have hbit : ∀ k, ((n.countIns t).stepped t).bit (A.TILE_SFLAGS t) k = (m.stickFlags t dz ov).bit (A.TILE_SFLAGS t) k := fun k => by
    unfold Mach.bit
    rw [Mach.rd_eq, Mach.stepped_regs, ← Mach.rd_eq, hrd _ (Ne.symm e1) e4 e5]
  have hfr : (m.stickFlags t dz ov).tiles = m.tiles := by rw [m.stickFlags_frame]
  refine ⟨?_, ?_, ?_, ?_, ?_, ?_, ?_, ?_⟩
  · rw [Mach.stepped_tile]
    have h1 : (n.countIns t).tile t = { x with loops := loops } := by
      show ((m.stickFlags t dz ov).setTile t _).tile t = _
      exact Mach.tile_setTile_same _ _ _
    rw [h1]
  · show fldT ((n.countIns t).stepped t).regs.act (A.TILE_PC t) 23 0 = _
    rw [Mach.stepped_regs, hact, fldT_tset_other _ _ _ _ _ _ e3, fldT_tset_other _ _ _ _ _ _ e2, fldT_putT_same _ _ _ _ _ (by omega) (by omega)]
  · have h1 : ((n.countIns t).stepped t).rd64 (A.CNT_INSTR_LO t) = (n.countIns t).rd64 (A.CNT_INSTR_LO t) := by
      simp only [Mach.rd64, Mach.rd_eq, Mach.stepped_regs]
    rw [h1]
    show (n.wr64 _ _).rd64 _ = _
    rw [rd64_wr64 _ _ _ (by omega), hn64]
  · rw [hbit, (m.stickFlags_bits t dz ov).1]
  · rw [hbit, (m.stickFlags_bits t dz ov).2]
  · intro u h
    rw [Mach.stepped_tile_other _ _ _ h]
    show ((m.stickFlags t dz ov).setTile t _).tile u = _
    rw [Mach.tile_setTile_other _ _ _ _ h]
    simp only [Mach.tile, hfr]
  · intro a h1 h2 h3 h4
    rw [Mach.rd_eq, Mach.stepped_regs, ← Mach.rd_eq, hrd a h1 h3 h4, m.stickFlags_rd t a dz ov h2]
  · have h1 : n.countIns t = { m with tiles := (n.countIns t).tiles, regs := { m.regs with act := (n.countIns t).regs.act } } := by
      rw [hn]
      unfold Mach.countIns Mach.setTilePc Mach.setTile
      rw [m.stickFlags_frame]
      rfl
    exact frame_trans h1 (Mach.stepped_frame _ _)

/-- A ready instruction whose meaning goes on in sequence with the tile `x`. -/
theorem Mach.issue_seq {m : Mach} {t c : Nat} {cs : List Nat} {f : Mach → Tile → TIns → TRes} (x : Tile) (dz ov : Bool)
    (h : m.issues t c) (hc : c ∈ cs) (hf : f m (m.tile t) (m.fetch t) = .seq ((m.stickFlags t dz ov).setTile t x)) :
    m.stepsTo t x dz ov (m.issue t cs f) := by
  rw [m.issue_ready h hc, hf]
  simp only [Mach.tile_setTile_same, Mach.setTile_setTile]
  exact m.moved t x _ _ dz ov

/-- A ready instruction whose meaning goes to a target in the code region with the tile `x`. -/
theorem Mach.issue_jump {m : Mach} {t c : Nat} {cs : List Nat} {f : Mach → Tile → TIns → TRes} (x : Tile) (pc : Nat)
    (h : m.issues t c) (hc : c ∈ cs) (hf : f m (m.tile t) (m.fetch t) = .jump (m.setTile t x) pc) (hp : x.pcOk pc = true) :
    m.jumpsTo t x pc (m.issue t cs f) := by
  rw [m.issue_ready h hc, hf]
  simp only [Mach.tile_setTile_same, hp, if_true]
  exact m.moved t x _ _ false false

/-- A ready instruction that meets a kernel fault (R242). -/
theorem Mach.issue_fault {m : Mach} {t c : Nat} {cs : List Nat} {f : Mach → Tile → TIns → TRes} (cause d : Nat)
    (h : m.issues t c) (hc : c ∈ cs) (hf : f m (m.tile t) (m.fetch t) = .fault cause d) :
    m.faultsWith t cause d (m.issue t cs f) := by
  rw [m.issue_ready h hc, hf]
  obtain ⟨h1, -⟩ := h
  have hno : (m.tile t).fault = none := by
    unfold Mach.canIssue at h1
    simp only [Bool.and_eq_true, Option.isNone_iff_eq_none] at h1
    exact h1.1.1.2
  have ht : (m.kfault t cause d (m.tilePc t)).tile t = { m.tile t with fault := some (cause, d % 2 ^ 64, m.tilePc t) } := by
    unfold Mach.kfault
    show (m.setTile t _).tile t = _
    rw [m.tile_setTile_same, hno]
    rfl
  refine ⟨?_, ?_, ?_, ?_⟩
  · rw [Mach.stepped_tile, ht]
  · show fldT ((m.kfault t cause d (m.tilePc t)).stepped t).regs.act (A.TILE_STS t) 3 0 = 3
    rw [Mach.stepped_regs]
    exact fldT_putT_same _ _ _ _ _ (by omega) (by omega)
  · intro u hu
    rw [Mach.stepped_tile_other _ _ _ hu]
    exact m.tile_setTile_other t u _ hu
  · intro a ha
    rw [Mach.rd_eq, Mach.stepped_regs]
    exact rdT_putT_other _ _ _ _ _ _ ha

/-- A ready instruction that waits leaves the machine as its meaning says. -/
theorem Mach.issue_wait {m n : Mach} {t c : Nat} {cs : List Nat} {f : Mach → Tile → TIns → TRes} (h : m.issues t c) (hc : c ∈ cs)
    (hf : f m (m.tile t) (m.fetch t) = .wait n) : m.issue t cs f = n := by
  rw [m.issue_ready h hc, hf]

end Sys2Proof.Machine
end

