-- ==== Sys2Proof/Laws/Tracked.lean ====
section
/-! SUPPORT. What `Mach.tracked` adds to the change it wraps: counts in PART_STS, and nothing else. -/
namespace Sys2Proof.Machine

/-- A fold whose steps only count in PART_STS of some partition keeps what such a count keeps. -/
theorem foldl_keeps {α β : Type} (l : List α) (g : Mach → α → Mach) (F : Mach → β) (h : ∀ (m : Mach), ∀ a ∈ l, F (g m a) = F m) (m : Mach) :
    F (l.foldl g m) = F m := by
  induction l generalizing m with
  | nil => rfl
  | cons a r ih =>
    rw [List.foldl_cons, ih (fun m b hb => h m b (List.mem_cons_of_mem _ hb)), h m a List.mem_cons_self]

theorem Mach.tracked_keeps {β : Type} (m : Mach) (f : Mach → Mach) (F : Mach → β)
    (h : ∀ (a : Mach), ∀ p < 16, F (a.bumpF (partReg A.PART_STS p) 31 16 1) = F a) : F (m.tracked f) = F (f m) := by
  unfold Mach.tracked
  apply foldl_keeps
  intro a p hp
  split
  · rfl
  · exact h a p (List.mem_range.1 hp)

theorem Mach.tracked_rd (m : Mach) (f : Mach → Mach) (b : Nat) (h : ∀ p < 16, b ≠ partReg A.PART_STS p) :
    (m.tracked f).rd b = (f m).rd b :=
  m.tracked_keeps f (fun a => a.rd b) (fun a p hp => a.rd_bumpF_other _ b 31 16 1 (h p hp))

theorem Mach.tracked_fld (m : Mach) (f : Mach → Mach) (b hi lo : Nat) (h : ∀ p < 16, b ≠ partReg A.PART_STS p) :
    (m.tracked f).fld b hi lo = (f m).fld b hi lo := by simp only [Mach.fld, m.tracked_rd f b h]

theorem Mach.tracked_bit (m : Mach) (f : Mach → Mach) (b i : Nat) (h : ∀ p < 16, b ≠ partReg A.PART_STS p) :
    (m.tracked f).bit b i = (f m).bit b i := by simp only [Mach.bit, m.tracked_rd f b h]

@[simp] theorem Mach.tracked_phs (m : Mach) (f : Mach → Mach) : (m.tracked f).phs = (f m).phs := m.tracked_keeps f (fun a => a.phs) (fun _ _ _ => rfl)
@[simp] theorem Mach.tracked_net (m : Mach) (f : Mach → Mach) : (m.tracked f).net = (f m).net := m.tracked_keeps f (fun a => a.net) (fun _ _ _ => rfl)
@[simp] theorem Mach.tracked_keys (m : Mach) (f : Mach → Mach) : (m.tracked f).keys = (f m).keys := m.tracked_keeps f (fun a => a.keys) (fun _ _ _ => rfl)
@[simp] theorem Mach.tracked_mem (m : Mach) (f : Mach → Mach) : (m.tracked f).mem = (f m).mem := m.tracked_keeps f (fun a => a.mem) (fun _ _ _ => rfl)
@[simp] theorem Mach.tracked_own (m : Mach) (f : Mach → Mach) : (m.tracked f).own = (f m).own := m.tracked_keeps f (fun a => a.own) (fun _ _ _ => rfl)
@[simp] theorem Mach.tracked_agg (m : Mach) (f : Mach → Mach) : (m.tracked f).agg = (f m).agg := m.tracked_keeps f (fun a => a.agg) (fun _ _ _ => rfl)
@[simp] theorem Mach.tracked_tiles (m : Mach) (f : Mach → Mach) : (m.tracked f).tiles = (f m).tiles := m.tracked_keeps f (fun a => a.tiles) (fun _ _ _ => rfl)
@[simp] theorem Mach.tracked_gates (m : Mach) (f : Mach → Mach) : (m.tracked f).gates = (f m).gates := m.tracked_keeps f (fun a => a.gates) (fun _ _ _ => rfl)
@[simp] theorem Mach.tracked_shards (m : Mach) (f : Mach → Mach) : (m.tracked f).shards = (f m).shards := m.tracked_keeps f (fun a => a.shards) (fun _ _ _ => rfl)
@[simp] theorem Mach.tracked_loam (m : Mach) (f : Mach → Mach) : (m.tracked f).loam = (f m).loam := m.tracked_keeps f (fun a => a.loam) (fun _ _ _ => rfl)
@[simp] theorem Mach.tracked_silt (m : Mach) (f : Mach → Mach) : (m.tracked f).silt = (f m).silt := m.tracked_keeps f (fun a => a.silt) (fun _ _ _ => rfl)
@[simp] theorem Mach.tracked_att (m : Mach) (f : Mach → Mach) : (m.tracked f).att = (f m).att := m.tracked_keeps f (fun a => a.att) (fun _ _ _ => rfl)
@[simp] theorem Mach.tracked_irq (m : Mach) (f : Mach → Mach) : (m.tracked f).irq = (f m).irq := m.tracked_keeps f (fun a => a.irq) (fun _ _ _ => rfl)
@[simp] theorem Mach.tracked_flt (m : Mach) (f : Mach → Mach) : (m.tracked f).flt = (f m).flt := m.tracked_keeps f (fun a => a.flt) (fun _ _ _ => rfl)
@[simp] theorem Mach.tracked_sys (m : Mach) (f : Mach → Mach) : (m.tracked f).sys = (f m).sys := m.tracked_keeps f (fun a => a.sys) (fun _ _ _ => rfl)
@[simp] theorem Mach.tracked_ctrs (m : Mach) (f : Mach → Mach) : (m.tracked f).ctrs = (f m).ctrs := m.tracked_keeps f (fun a => a.ctrs) (fun _ _ _ => rfl)
@[simp] theorem Mach.tracked_nodeRes (m : Mach) (f : Mach → Mach) : (m.tracked f).nodeRes = (f m).nodeRes := m.tracked_keeps f (fun a => a.nodeRes) (fun _ _ _ => rfl)
@[simp] theorem Mach.tracked_qitems (m : Mach) (f : Mach → Mach) : (m.tracked f).qitems = (f m).qitems := m.tracked_keeps f (fun a => a.qitems) (fun _ _ _ => rfl)
@[simp] theorem Mach.tracked_slotOwn (m : Mach) (f : Mach → Mach) : (m.tracked f).slotOwn = (f m).slotOwn := m.tracked_keeps f (fun a => a.slotOwn) (fun _ _ _ => rfl)
@[simp] theorem Mach.tracked_ringReq (m : Mach) (f : Mach → Mach) : (m.tracked f).ringReq = (f m).ringReq := m.tracked_keeps f (fun a => a.ringReq) (fun _ _ _ => rfl)
@[simp] theorem Mach.tracked_free (m : Mach) (f : Mach → Mach) : (m.tracked f).free = (f m).free := m.tracked_keeps f (fun a => a.free) (fun _ _ _ => rfl)
@[simp] theorem Mach.tracked_raised (m : Mach) (f : Mach → Mach) : (m.tracked f).raised = (f m).raised := m.tracked_keeps f (fun a => a.raised) (fun _ _ _ => rfl)
@[simp] theorem Mach.tracked_gone (m : Mach) (f : Mach → Mach) : (m.tracked f).gone = (f m).gone := m.tracked_keeps f (fun a => a.gone) (fun _ _ _ => rfl)
@[simp] theorem Mach.tracked_warmReq (m : Mach) (f : Mach → Mach) : (m.tracked f).warmReq = (f m).warmReq := m.tracked_keeps f (fun a => a.warmReq) (fun _ _ _ => rfl)
@[simp] theorem Mach.tracked_resp (m : Mach) (f : Mach → Mach) : (m.tracked f).resp = (f m).resp := m.tracked_keeps f (fun a => a.resp) (fun _ _ _ => rfl)
@[simp] theorem Mach.tracked_shadow (m : Mach) (f : Mach → Mach) : (m.tracked f).regs.shadow = (f m).regs.shadow := m.tracked_keeps f (fun a => a.regs.shadow) (fun _ _ _ => rfl)
@[simp] theorem Mach.tracked_posted (m : Mach) (f : Mach → Mach) : (m.tracked f).regs.posted = (f m).regs.posted := m.tracked_keeps f (fun a => a.regs.posted) (fun _ _ _ => rfl)
@[simp] theorem Mach.tracked_latch (m : Mach) (f : Mach → Mach) : (m.tracked f).regs.latch = (f m).regs.latch := m.tracked_keeps f (fun a => a.regs.latch) (fun _ _ _ => rfl)
@[simp] theorem Mach.tracked_held (m : Mach) (f : Mach → Mach) : (m.tracked f).regs.held = (f m).regs.held := m.tracked_keeps f (fun a => a.regs.held) (fun _ _ _ => rfl)
@[simp] theorem Mach.tracked_updNext (m : Mach) (f : Mach → Mach) : (m.tracked f).regs.updNext = (f m).regs.updNext := m.tracked_keeps f (fun a => a.regs.updNext) (fun _ _ _ => rfl)
@[simp] theorem Mach.tracked_updNow (m : Mach) (f : Mach → Mach) : (m.tracked f).regs.updNow = (f m).regs.updNow := m.tracked_keeps f (fun a => a.regs.updNow) (fun _ _ _ => rfl)

end Sys2Proof.Machine
end

