-- ==== Sys2Proof/WellFormed.lean ====
section
/-! DEFINITION. What a command must be for the block to be sent it: the bounds of the spec that the types of the operands do not
already give. -/
namespace Sys2Proof

/-- A packet as a port hands it on holds at most the payload that PLEN can name and a tag of 16 bytes (R96, R97). -/
def Pkt.wf (k : Pkt) : Bool := k.payload.length ≤ 16 * 65535 && k.tag.length ≤ 16

/-- The command is one that the block can be sent. -/
def Instr.wf (i : Instr) : Bool :=
  match i with
  | .tickEdge => true
  | .phsCfgWrite _ _ => true
  | .acq _ _ => true
  | .phsEpochSet _ _ => true
  | .epochAdvance => true
  | .phaseRefEdge => true
  | .phaseRefLost => true
  | .beaconEmit => true
  | .phaseBeacon _ k _ => k.wf
  | .becomeMaster => true
  | .phaseLost => true
  | .comparatorFire _ => true
  | .throttleLevelChange => true
  | .cmpCtlWrite _ _ _ => true
  | .phsCmpOwnWrite _ _ _ => true
  | .glbUpd _ _ => true
  | .groupApply => true
  | .pageUpd _ _ _ => true
  | .glbUpdAtFire => true
  | .glbRst _ _ => true
  | .postedWriteLand _ => true
  | .registerWrite _ _ _ => true
  | .multiwordLoRead _ _ => true
  | .rcRead _ _ => true
  | .regRd _ k => k.wf
  | .regWr _ k => k.wf
  | .i3cWriteTransfer _ data => 1 ≤ data.length && data.length ≤ 16
  | .i3cReadTransfer _ n => 1 ≤ n && n ≤ 16
  | .memWr _ k => k.wf
  | .memRd _ k => k.wf
  | .vaddZ32 _ k => k.wf
  | .vaddZ64 _ k => k.wf
  | .aadd _ k => k.wf
  | .cas _ k => k.wf
  | .graphSubmit _ k => k.wf
  | .snapshotDone _ _ => true
  | .graphSubmitTimeout _ _ => true
  | .doorbell _ k => k.wf
  | .intMsg _ k => k.wf
  | .shareDeliver _ k => k.wf
  | .keyDeliver _ k => k.wf
  | .attestReq _ k => k.wf
  | .attestRelease _ => true
  | .sessionInit _ k => k.wf
  | .sessionRelease _ => true
  | .authRelease _ => true
  | .sessionTimeout _ => true
  | .auth _ k => k.wf
  | .memKey _ k => k.wf
  | .linkKey _ k => k.wf
  | .debugKey _ k => k.wf
  | .modelKey _ k => k.wf
  | .tripleKey _ k => k.wf
  | .seedKey _ k => k.wf
  | .erase _ k => k.wf
  | .importKey _ k => k.wf
  | .close _ k => k.wf
  | .importDone _ => true
  | .ack _ k => k.wf
  | .nak _ k => k.wf
  | .retransmitTimeout _ _ => true
  | .rnrRetry _ _ => true
  | .ringCtlReset _ k => k.wf
  | .linkDown _ k => k.wf
  | .linkUp _ k => k.wf
  | .echo _ k => k.wf
  | .echoRsp _ k => k.wf
  | .ringFault _ k => k.wf
  | .ethFrameDrop _ _ => true
  | .ethShareRelease _ => true
  | .ethTxStart _ _ => true
  | .ethPortDown _ _ => true
  | .ethLaserFail _ _ => true
  | .ethLight _ => true
  | .ethTrainDone _ => true
  | .swap _ _ _ => true
  | .lkeyGraceEnd _ => true
  | .hrmpRxwayWrite _ _ _ => true
  | .hrmpQownWrite _ _ _ => true
  | .hrmpCbankWrite _ _ _ => true
  | .hrmpCfgWrite _ _ => true
  | .flush _ _ _ => true
  | .flushDone _ sel => sel < 2 ^ 14
  | .qPtrRdWrite _ _ _ => true
  | .lossyMarker _ => true
  | .hostEventSend _ => true
  | .brlTransit _ frs _ => 1 ≤ frs.length && frs.length ≤ 1025 && frs.all (fun f => f.body.length = 64)
  | .brlFrameStart _ _ _ => true
  | .ctlSend _ => true
  | .credit _ _ _ _ => true
  | .train _ _ _ _ _ sizes => sizes.length = 34 && sizes.all (· ≤ 16384)
  | .lanes _ _ => true
  | .down _ => true
  | .brlLos _ _ => true
  | .brlUncLimit _ _ => true
  | .brlLaserFail _ _ => true
  | .brlLaneRetrainDone _ _ => true
  | .brlLight _ => true
  | .brlTrainDone _ es => es.length = 16
  | .brlTrainOverrun _ => true
  | .brlTrainRetry _ => true
  | .brlPortCtlTrain _ _ _ => true
  | .revert _ _ _ => true
  | .forceDown _ _ _ => true
  | .brlNodeWrite _ _ => true
  | .brlShareWrite _ _ _ _ _ => true
  | .aggOwnWrite _ _ _ => true
  | .aggArm _ _ => true
  | .armingDone _ => true
  | .aggOpen _ _ => true
  | .aggClose _ _ => true
  | .aggEndRecovery _ _ => true
  | .aggRelease _ _ => true
  | .aggAbort _ _ => true
  | .ctxPhOpen _ => true
  | .ctxPhClose _ => true
  | .ctxPhDeadline _ => true
  | .commitDone _ _ => true
  | .slotReclaim _ => true
  | .drainDone _ => true
  | .abortDrainDone _ => true
  | .recWayAcquired _ => true
  | .censusDone _ => true
  | .secretReconstructed _ _ => true
  | .agreementDone _ => true
  | .xofPassStart _ => true
  | .xofPassDone _ => true
  | .expansionStart _ => true
  | .expansionDone _ => true
  | .recoveryDone _ => true
  | .finish _ _ => true
  | .mskOwnWrite _ _ _ => true
  | .add _ => true
  | .sub _ => true
  | .mul _ => true
  | .mulhu _ => true
  | .mulhs _ => true
  | .divu _ => true
  | .divs _ => true
  | .remu _ => true
  | .rems _ => true
  | .tileAnd _ => true
  | .tileOr _ => true
  | .tileXor _ => true
  | .shl _ => true
  | .shr _ => true
  | .sar _ => true
  | .neg _ => true
  | .min _ => true
  | .max _ => true
  | .minu _ => true
  | .maxu _ => true
  | .slt _ => true
  | .sltu _ => true
  | .seq _ => true
  | .popc _ => true
  | .clz _ => true
  | .movhi _ => true
  | .addq _ => true
  | .mulq _ => true
  | .rdflag _ => true
  | .clrflag _ => true
  | .rand _ => true
  | .rdph _ => true
  | .ld8 _ => true
  | .ld16 _ => true
  | .ld32 _ => true
  | .ld64 _ => true
  | .lds8 _ => true
  | .lds16 _ => true
  | .lds32 _ => true
  | .st8 _ => true
  | .st16 _ => true
  | .st32 _ => true
  | .st64 _ => true
  | .vld _ => true
  | .vst _ => true
  | .vmov _ => true
  | .vset _ => true
  | .vget _ => true
  | .br _ => true
  | .beq _ => true
  | .bne _ => true
  | .blt _ => true
  | .bge _ => true
  | .bltu _ => true
  | .bgeu _ => true
  | .call _ => true
  | .ret _ => true
  | .jr _ => true
  | .loop _ => true
  | .trap _ => true
  | .endKernel _ => true
  | .kernelReport _ => true
  | .kernelFaultRecord _ => true
  | .copy _ => true
  | .gather _ => true
  | .scatter _ => true
  | .scatterAdd _ => true
  | .dmaTransferDone _ => true
  | .mma _ => true
  | .mmaDone _ => true
  | .accclr _ => true
  | .accstat _ => true
  | .accout _ => true
  | .setmode _ => true
  | .bntt _ => true
  | .bintt _ => true
  | .bmul _ => true
  | .bmac _ => true
  | .badd _ => true
  | .bsub _ => true
  | .bdec _ => true
  | .brot _ => true
  | .bext _ => true
  | .bks _ => true
  | .bboot _ => true
  | .bmodsw _ => true
  | .sexp _ => true
  | .noise _ => true
  | .bronzeDone _ _ => true
  | .waitdma _ => true
  | .waitarr _ => true
  | .waitbr _ => true
  | .waitall _ => true
  | .fence _ => true
  | .signal _ => true
  | .tileDoorbell _ => true
  | .tbar _ => true
  | .waitctr _ => true
  | .chsend _ => true
  | .chrecv _ => true
  | .chpass _ => true
  | .chainRegionArrive _ _ link => link < 5
  | .loadImageDone _ _ _ => true
  | .migrationDone _ bad => bad.all (· < 0x20000) && decide bad.Nodup
  | .cluRemap _ _ _ => true
  | .bronzeLevelStart _ => true
  | .bronzeLevelCopyDone _ => true
  | .exchRecordRead _ => true
  | .tripleBatchRead _ => true
  | .a2s _ => true
  | .s2c _ => true
  | .w2s _ => true
  | .s2w _ => true
  | .shareAddSub _ => true
  | .cmul _ => true
  | .cadd _ => true
  | .shareMul _ => true
  | .sqsum _ => true
  | .sign _ => true
  | .lt _ => true
  | .shareMax _ => true
  | .relu _ => true
  | .thresh _ => true
  | .clip _ => true
  | .topk _ => true
  | .genA _ => true
  | .genB _ => true
  | .sessionDeadline _ => true
  | .sessionEnd _ => true
  | .loamStart _ _ _ => true
  | .loamAbort _ _ _ => true
  | .loamRelease _ _ _ => true
  | .loamStep _ _ => true
  | .startPhaseReached _ _ => true
  | .loamDispatch _ => true
  | .tileKernel _ _ _ => true
  | .bronzeKernel _ _ _ => true
  | .dma _ _ _ => true
  | .aggOp _ _ _ => true
  | .mskOp _ _ _ => true
  | .ringXfer _ _ _ => true
  | .hrmpSend _ _ _ => true
  | .waitPhase _ _ _ => true
  | .waitCount _ _ _ => true
  | .barrier _ _ _ => true
  | .hostNotify _ _ _ => true
  | .loadImage _ _ _ => true
  | .waitPhaseReached _ _ _ => true
  | .waitCountMet _ _ _ => true
  | .nodeComplete _ _ _ => true
  | .graphDrained _ _ => true
  | .loamModeWrite _ _ _ => true
  | .loamCtrValWrite _ _ _ => true
  | .loamQbWrite _ _ _ => true
  | .loamSnapWrite _ _ _ _ => true
  | .traceCfgWrite _ _ _ => true
  | .mmuKeyWrite _ _ _ => true
  | .channelInitDone _ => true
  | .mmuInvAll _ _ _ => true
  | .mmuInvRange _ _ _ => true
  | .mmuInvDone _ => true
  | .mmuRootHiWrite _ _ _ => true
  | .retire _ _ _ => true
  | .retirePageDone _ => true
  | .retireDone _ => true
  | .scrubLine _ _ _ => true
  | .create _ _ => true
  | .partitionActive _ => true
  | .grow _ _ => true
  | .destroy _ _ => true
  | .destroyDrained _ => true
  | .serviceEvent => true
  | .dbgHalt _ _ => true
  | .dbgStep _ _ => true
  | .dbgRead _ _ => true
  | .generate _ _ => true
  | .derive _ _ => true
  | .keyCmdErase _ _ => true
  | .check _ _ _ => true
  | .slotTagScan upset => upset.all (· < 512) && decide upset.Nodup
  | .siltStartupDone _ => true
  | .siltHealthFail _ _ => true
  | .siltBlockRelease => true
  | .drbgReseed _ => true
  | .restart _ _ => true
  | .siltCfgWrite _ _ => true
  | .siltDataRead _ _ => true
  | .intDoorbell _ _ => true
  | .irqRoute => true
  | .entry _ => true
  | .exit _ => true
  | .ccCmpl _ _ => true
  | .intHcmpl _ _ _ => true
  | .hostDelivery _ => true
  | .intSwPend _ _ => true
  | .intOPclr _ _ => true
  | .tMset _ _ _ => true
  | .tMclr _ _ _ => true
  | .tPclr _ _ _ => true
  | .intOwnWrite _ _ _ _ => true
  | .intCfgWrite _ _ _ => true
  | .ccCtlThreshWrite _ _ _ _ => true
  | .wake _ => true
  | .faultInput _ _ _ => true
  | .errnRelease => true
  | .fltFirstClear _ _ => true
  | .fltUclr _ _ => true
  | .fltQuiesceWrite _ _ => true
  | .fltEgressWrite _ _ => true
  | .fltReactWrite _ _ _ => true
  | .mgmtMismatch _ _ => true
  | .leaseReclaim _ _ => true
  | .cntSat _ => true
  | .pageInj _ _ _ => true
  | .coldReset => true
  | .warmReset => true
  | .rstUnit _ _ => true
  | .unitResetDone _ _ => true
  | .rstRing _ _ => true
  | .ringReset => true
  | .imageVerified _ _ _ => true
  | .dramTrained => true
  | .ready => true
  | .transition _ _ => true
  | .fwStage _ _ => true
  | .fwStageDone => true
  | .fwArm _ _ => true
  | .fwDisarm _ _ => true
  | .fwActivate => true
  | .halfADone => true
  | .halfBDone => true
  | .commitSvn _ _ => true
  | .coolant => true
  | .gateStep _ _ => true
  | .pmThrottle _ _ => true
  | .pwrCtlLevel _ _ => true
  | .sleep _ _ => true
  | .pwrFixWrite _ _ => true
  | .pwrShareWrite _ _ _ => true
  | .fixlost => true
  | .telemetryItem => true
  | .mgtAlertWrite _ _ => true
  | .entdaa _ _ => true
  | .setdasa _ _ => true
  | .rstdaa => true
  | .enec _ => true
  | .disec _ => true
  | .getpid => true
  | .getbcr => true
  | .getdcr => true
  | .getstatus => true
  | .tapReset => true
  | .extest _ => true
  | .idcode => true
  | .samplePreload _ => true
  | .hcpacc _ _ _ => true
  | .bypass => true
  | .coolantOkFall => true
  | .siltBlockComplete => true
  | .siltRawRead _ => true
  | .reservedOpcode _ _ k => k.wf
  | .unmatchedResponse _ _ k => k.wf

end Sys2Proof
end

