-- ==== Sys2Proof/Tests/Slice0.lean ====
section
/-! SUPPORT. Small tests: ill-formed commands are refused, results that the spec works out by hand, and for each statement for the
provers a state and operands that meet its hypotheses. -/
set_option maxRecDepth 20000
set_option synthInstance.maxSize 1000

namespace Sys2Proof.Machine

/-! ### Helpers -/

/-- The data of the block after reset. -/
abbrev atReset : Mach := State.reset.m

/-- A state with data half `m` and no command waiting. -/
def stateOf (m : Mach) : State := { State.reset with m := m }

/-- A packet of partition 0 from node 5 with no payload. -/
def emptyPkt : Pkt := ⟨1, 0, 0, 0, 0, 0, 0, 0, 5, 0, 0, 0, 0, 0, 0, [], []⟩

/-- The machine that a tile finds itself in with a kernel running: one word at its code address, at local address 0x800000. -/
def kernelAt (t w : Nat) (f : Tile → Tile) : Mach :=
  let x : Tile := { cbase := 0x800000, clen := 64, node := some (0, 0, 0), target := [t],
                    mem := memWrite [] 0x800000 (leBytes 8 w) }
  ((atReset.setTile t (f x)).setTileState t 2).setTilePc t 0x800000

/-- The word of an instruction (R221): class, operation, D, A, B, X and IMM. -/
def insWord (cls op d a b x imm : Nat) : Nat := cls * 2 ^ 60 + op * 2 ^ 54 + d * 2 ^ 49 + a * 2 ^ 44 + b * 2 ^ 39 + x * 2 ^ 32 + imm

/-! ### Ill-formed commands -/

theorem test_wf_refuses_long_payload : ∀ n, 16 * 65535 < n →
    (Instr.memWr (.ring 0) { emptyPkt with payload := List.replicate n 0 }).wf = false := by
  intro n h
  simp only [Instr.wf, Pkt.wf, List.length_replicate, Bool.and_eq_false_iff, decide_eq_false_iff_not]
  omega
theorem test_wf_refuses_long_tag : (Instr.memWr (.ring 0) { emptyPkt with tag := List.replicate 17 0 }).wf = false := by decide
theorem test_wf_accepts_packet : (Instr.memWr (.ring 0) { emptyPkt with tag := List.replicate 16 0 }).wf = true := by decide
theorem test_wf_i3c_write : (Instr.i3cWriteTransfer 0 []).wf = false ∧ (Instr.i3cWriteTransfer 0 (List.replicate 17 0)).wf = false ∧
    (Instr.i3cWriteTransfer 0 (List.replicate 16 0)).wf = true := by decide
theorem test_wf_i3c_read : (Instr.i3cReadTransfer 0 0).wf = false ∧ (Instr.i3cReadTransfer 0 17).wf = false := by decide
theorem test_wf_flush : (Instr.flushDone 0 (2 ^ 14)).wf = false := by decide
theorem test_wf_fragments : (Instr.brlTransit 0 [] 0).wf = false ∧ (Instr.brlTransit 0 [⟨0, false, 0, []⟩] 0).wf = false := by decide
theorem test_wf_train : (Instr.train 0 1 0 0 0 []).wf = false ∧ (Instr.train 0 1 0 0 0 (List.replicate 34 16385)).wf = false := by decide
theorem test_wf_train_done : (Instr.brlTrainDone 0 []).wf = false := by decide
theorem test_wf_chain_link : (Instr.chainRegionArrive 0 0 5).wf = false := by decide
theorem test_wf_migration : (Instr.migrationDone 0 [0x20000]).wf = false ∧ (Instr.migrationDone 0 [1, 1]).wf = false := by decide
theorem test_wf_tag_scan : (Instr.slotTagScan [512]).wf = false ∧ (Instr.slotTagScan [3, 3]).wf = false := by decide

/-! ### Published algorithms that the spec names, on published vectors -/

theorem test_sha384_of_nothing : sha384' [] =
    leBytes 48 0x5bb99848f1d21ad5fb656fe7bfde4e27dae1f663bfc70c4c4307be1411b7fd216ae3b1b17e32d94c3896ac51a760b038 := by decide +kernel

theorem test_sha256_of_nothing : toBytes (sha256 []) =
    leBytes 32 0x55b852781b9995a44c939b64e441ae2724b96f99c8f4fb9a141cfc9842c4b0e3 := by decide +kernel

theorem test_gcm_of_nothing : (gcmSeal (List.replicate 32 0) (List.replicate 12 0) [] []) =
    ([], [0x53, 0x0f, 0x8a, 0xfb, 0xc7, 0x45, 0x36, 0xb9, 0xa9, 0x63, 0xb4, 0xf1, 0xc4, 0xcb, 0x73, 0x8b]) := by decide +kernel

/-! ### Writes that pass every filter -/

theorem witness_ControlFrames : ∀ off ∈ [A.PHS_CFG, A.PHS_CTL, A.PHS_EPOCH_SET, A.CMP_CTL 0, A.CMP_CTL 63, A.PHS_CMP_OWN 0, A.GLB_UPD, A.GLB_RST,
    A.KEY_SEL, A.MGT_ALERT_EN, A.AGG_WIN_CMD 3, A.LOAM_CMD 0, A.MMU_KEY 15, A.KEY_CMD, A.ATT_CMD, A.INT_DOORBELL, A.INT_SW_PEND, A.FLT_UCLR,
    A.FLT_REACT 1, A.FLT_REACT 5, A.LC_CMD, A.RST_UNIT, A.PWR_CTL, A.PWR_CFG, A.PWR_SHARE 15, A.MGT_ALERT, A.SILT_CTL, A.BRL_NODE,
    A.INT_O_PCLR, A.INT_HCMPL 15, A.T_MSET 15, A.T_MCLR 15, A.T_PCLR 15, A.INT_CFG 511],
    atReset.writeOpen .kaolin off := by
  unfold Mach.writeOpen Mach.awake; decide

/-! ### Witnesses: the hypotheses of the statements are met -/

theorem witness_PhaseEventsComplete :
    (let m := { atReset with phs := { atReset.phs with frameEdge := true } }
     let n := (m.put A.PHS_EPOCH_SET 15 0 5).putBit A.PHS_EPOCH_SET 31 true
     (n.put A.PHS_STS 2 0 4).epochDue = true ∧ (n.put A.PHS_STS 2 0 4).phsState = 4 ∧ (n.put A.PHS_STS 2 0 4).phase / 2 ^ 48 < 5 ∧
     n.epochDue = true ∧ n.phsState ≠ 4) ∧
    (let m := ((atReset.put A.PHS_STS 2 0 4).putBit A.PHS_CFG 8 true).putBit A.PHS_STS 4 true
     m.phsState = 4 ∧ m.bit A.PHS_CFG 8 = true ∧ m.beaconDue = true ∧ ({ m with phs := { m.phs with edges := 10 ^ 9 } } : Mach).refLostDue = true) ∧
    (let m := { atReset with phs := { atReset.phs with edges := 2048 } }
     ((m.put A.PHS_STS 2 0 1).putBit A.PHS_CFG 4 true).electionDue = true ∧ (m.put A.PHS_STS 2 0 2).phaseLostDue = true) := by decide

theorem witness_PhaseDevRule : ∃ m : Mach, ∃ k k' : Pkt, m.phsState = 2 ∧ m.phs.devArmed = true ∧ m.fld A.PHS_CFG 31 24 = 1 ∧
    ((m.expectedPhase 0 k : Int) - (m.phase : Int)).natAbs = 1 ∧ ((m.expectedPhase 0 k' : Int) - (m.phase : Int)).natAbs = 2 ∧
    bitOf (fieldAt k'.payload 6 1) 2 = false :=
  ⟨(atReset.put A.PHS_STS 2 0 2).put A.PHS_CFG 31 24 1, { emptyPkt with phase := 1, payload := List.replicate 16 0 },
    { emptyPkt with phase := 2, payload := List.replicate 16 0 }, by decide⟩

theorem witness_PhaseWritesComplete : (atReset.phsState = 0 ∧ ∃ v : Word, bitOf v.toNat 0 = true) ∧
    (∃ v : Word, bitOf v.toNat 31 = true ∧ (atReset.put A.PHS_STS 2 0 4).phase / 2 ^ 48 < bitsOf v.toNat 15 0) ∧
    (∃ v : Word, bitOf v.toNat 31 = true ∧ bitsOf v.toNat 15 0 ≤ atReset.phase / 2 ^ 48) ∧
    (∃ v : Word, bitsOf v.toNat 31 16 = 0xD7A9 ∧ bitOf v.toNat 0 = true) :=
  ⟨⟨by decide, 1, by decide⟩, ⟨0x80000001, by decide⟩, ⟨0x80000000, by decide⟩, 0xD7A90001, by decide⟩

theorem witness_StrobesAndComparatorsComplete :
    (let m := (atReset.put A.PHS_STS 2 0 4).putBit A.GLB_UPD_AT_CTL 31 true
     m.updAtDue = true ∧ m.noGlbShadow) ∧
    (let m := { atReset with sys := { atReset.sys with wantL := some 7, sinceL := 16 }, phs := { atReset.phs with slotEdge := true } }
     m.levelReady = true) ∧
    (let m := (atReset.put A.PHS_STS 2 0 4).putBit (A.CMP_CTL 63) 31 true
     m.cmpDue 63 = true ∧ m.fld (A.CMP_ACTION 63) 31 28 = 0 ∧ m.fld (A.CMP_CTL 63) 15 0 = 0) ∧
    (let m := ((atReset.put A.PHS_STS 2 0 4).putBit (A.CMP_CTL 0) 31 true).put (A.CMP_CTL 0) 15 0 1
     m.cmpDue 0 = true ∧ (m.phase - m.rd64 (A.CMP_TARGET_LO 0)) / 1024 + 1 = 1) ∧
    (let m := atReset.put A.GLB_STS 7 4 1
     m.lcs = 1 ∧ pageUnit 0x400 = some 0x80 ∧ (srcClass 0x50 0x80).isSome = true ∧ m.writeOpen .kaolin (0x1000 * 0x400 + 0x14)) := by
  refine ⟨⟨by decide, fun e he => by cases he⟩, by decide, by decide, by decide, by decide, by decide, by decide, ?_⟩
  unfold Mach.writeOpen Mach.awake; decide

theorem witness_RegisterAccessesComplete : atReset.readOpen .kaolin A.PHS_NOW_LO ∧ atReset.readOpen (.part 0) A.PHS_NOW_LO ∧
    atReset.readOpen .kaolin A.PHS_DISCARD ∧ atReset.awake ∧ atReset.fld A.PWR_STS 1 0 = 0 ∧ atReset.pageBusy 0x090 = false ∧
    atReset.bit 0x090004 1 = false ∧
    tfind ({ atReset with regs := { atReset.regs with posted := [(0x090, [(0x28, 5)])] } } : Mach).regs.posted 0x090 = some [(0x28, 5)] := by
  unfold Mach.readOpen Mach.awake; decide

theorem witness_RefusedAndLockedAccesses : atReset.awake ∧ resolvePage (A.KEY_SEL / 0x1000) < 0xF00 ∧
    (let pg := resolvePage (A.KEY_SEL / 0x1000)
     let o := resolveOff pg (A.KEY_SEL % 0x1000)
     atReset.allowed (.part 3) pg o (dataMark pg o) true = false ∧ atReset.allowed (.part 3) pg o (dataMark pg o) false = false ∧
     (let m := atReset.putBit (0x1000 * pg + 4) 1 true
      m.reach 0 pg = 1 ∧ m.allowed (.part 0) pg o (dataMark pg o) true = true ∧ (rowIn (pageRows pg) o).isSome = true ∧ 0x20 ≤ o)) := by
  unfold Mach.awake; decide

/-- A machine with its image verified, node number 3, ring ports 0 and 1 and ingest port 0 up, and a route to node 7 over port 1. -/
def linked : Mach :=
  let m := { atReset with sys := { atReset.sys with verified := true } }
  let m := ((m.put A.BRL_NODE 19 0 3).put (A.BRL_PORT_STS 0) 2 0 2).put (A.BRL_PORT_STS 1) 2 0 2
  let m := (m.put (A.BRL_PORT_STS 0) 20 16 16).put (A.ETH_STS 0) 2 0 2
  let m := (m.wr (routeAddr 0 0) 0x81000007).wr (routeAddr 0 0 + 4) 7
  (m.wr (routeAddr 8 0) 0x81000007).wr (routeAddr 8 0 + 4) 7

/-- A frame that waits at egress `port`. -/
def frameAt (port vc : Nat) : TxFrame := ⟨port, vc, 0x71, { emptyPkt with vc := BitVec.ofNat 2 vc }, none, none, false⟩

/-- A whole packet for node 7 in one fragment on VC2 (R424, R427). -/
def fragFor7 : Frag :=
  let body := hdrBytes 0x42 { emptyPkt with dst := 7, vc := 2 } ++ List.replicate 32 0
  let t := 1 + 16 + 32 + 2 * 64 + 32 * 1024
  ⟨0, false, BitVec.ofNat 32 (t + 2 ^ 16 * crc16 (leBytes 2 t ++ body)), body⟩

/-- RING_CTL for node 3 with operation `op`. -/
def ringCtl3 (op : Nat) : Pkt :=
  { emptyPkt with flags := 0x93, vc := 3, dst := 3, plen := 1, payload := leBytes 1 op ++ List.replicate 15 0 }

theorem witness_RingPacketsComplete : linked.ringUp 0 = true ∧
    ({ linked with net := { linked.net with txq := [frameAt 0 3], crSize := [(crKey 0 3 0, 100)] } } : Mach).nextRingFrame 0 none 0 = some (frameAt 0 3) ∧
    (let x := fragFor7
     x.typ = 1 ∧ x.first = true ∧ x.last = true ∧ x.crcOk = true ∧ x.vc = 2 ∧
     (tget linked.net.asm (4 * 0 + x.vc) {}).isOpen = false ∧ (parsePkt (x.body.take x.nbytes)).2.dst = 7 ∧
     (parsePkt (x.body.take x.nbytes)).2.vc = 2 ∧ fragsOf 0 false = 1 ∧ linked.route 0 7 = some 1) ∧
    (∀ op ∈ [1, 2, 3, 4, 5, 6], ringCtlOk (ringCtl3 op) op = true ∧ (ringCtl3 op).dst.toNat = linked.node) := by decide

theorem witness_RingLinkStates : linked.ringLive 0 = true ∧ tfind [(0, 3)] 0 = some 3 ∧ linked.ringUp 0 = true ∧ linked.fld (A.BRL_PORT_STS 1) 20 16 < 8 ∧
    linked.fld (A.BRL_PORT_CFG 0) 31 16 < 2 ^ 16 ∧
    linked.bit (A.BRL_OPT_SPARE 0) 31 = false ∧ (linked.putBit (A.BRL_OPT_SPARE 0) 31 true).bit (A.BRL_OPT_SPARE 0) 31 = true ∧
    linked.mayTrain 2 = true ∧ (linked.putBit (A.BRL_PORT_CFG 2) 0 true).bit (A.BRL_PORT_CFG 2) 0 = true ∧
    (linked.put (A.BRL_PORT_STS 2) 2 0 1).fld (A.BRL_PORT_STS 2) 2 0 = 1 ∧ linked.node ≠ 5 := by decide

theorem witness_IngestPortsComplete : linked.ethUp 0 = true ∧ linked.ethState 1 = 0 ∧
    (let m := (linked.putBit (A.ETH_CFG 1) 2 true).putBit (A.ETH_CFG 1) 0 false
     m.bit (A.ETH_CFG 1) 2 = true ∧ m.bit (A.ETH_CFG 1) 0 = false ∧ m.ethLanesLost 1 = 0 ∧ m.fld (A.FLT_USTS (0xD0 + 1)) 31 29 < 3 ∧ m.opticsOn = true) ∧
    ({ linked with net := { linked.net with txq := [frameAt 8 3] } } : Mach).nextEthFrame 8 0 = some (frameAt 8 3) := by decide

theorem witness_PortWritesComplete :
    ((linked.putBit (A.BRL_PORT_CTL 2) 1 false).mayTrain 2 = true ∧ linked.fld (A.BRL_PORT_STS 0) 2 0 ≠ 0 ∧ linked.bit (A.BRL_PORT_CTL 0) 1 = false ∧
      ∃ v : Word, bitOf v.toNat 0 = false ∧ bitOf v.toNat 1 = true ∧ bitOf v.toNat 2 = false) ∧
    (∀ n < 8, atReset.fld (A.BRL_PORT_STS n) 2 0 = 0) ∧
    ((List.range 16).foldl (fun t q => t + if q = 0 then 0 else linked.fld (shareAddr 2 0 q) 15 0) 0 ≤ 16384 ∧
      (let m := (List.range 16).foldl (fun a q => a.wr (shareAddr 2 1 q) 0) linked
       (List.range 16).foldl (fun t q => t + if q = 15 then 16384 else m.fld (shareAddr 2 1 q) 15 0) 0 ≤ 16384)) ∧
    (let m := atReset.wr (A.HRMP_LKEY_ALT 0) 0x80000005
     m.bit (A.HRMP_LKEY_ALT 0) 31 = true ∧ m.bit (A.HRMP_LKEY_ALT 0) 30 = false) ∧
    (let m := { atReset with own := { atReset.own with ways := [(15, 0)] } }
     m.wayOwner 15 = some 0 ∧ m.fld (A.FLT_USTS (0x110 + 15)) 31 29 < 3 ∧ m.wayIsRec 0 15 = false) ∧
    (∀ e ∈ atReset.net.wins, e.held = [] ∧ e.pinned = false) ∧
    (let m := { atReset with net := { atReset.net with gaps := [(fltLog, (1, 0))] } }
     tfind m.net.gaps fltLog = some (1, 0) ∧ m.qRoom fltLog = true ∧
     (0 + 1024 - m.fld (A.Q_PTR fltLog) 15 0 % 1024) % 1024 ≤ m.qOcc fltLog) := by
  refine ⟨⟨by decide, by decide, by decide, 2, by decide⟩, by decide, by decide, by decide, by decide, by decide, by decide⟩

/-- A local descriptor (R226). -/
def descOf (base cols rows fmt : Nat) : Nat := base + cols * 8 * 2 ^ 48 + cols * 2 ^ 72 + rows * 2 ^ 88 + fmt * 2 ^ 122

/-- Tile 0 with a word whose operands name vector registers 1, 2 and 3 as A, B and D, which hold these descriptors. -/
def vecAt (cls op x va vb vd : Nat) : Mach :=
  kernelAt 0 (insWord cls op 3 1 2 x 0) (fun y => { y with v := [(1, va), (2, vb), (3, vd)] })

theorem test_add_wraps : (kernelAt 0 (insWord 0 0 1 2 3 0 0) (fun x => { x with s := [(2, BitVec.allOnes 64), (3, 2)] })).issues 0 0 ∧
    ((match exec (.add 0) (stateOf (kernelAt 0 (insWord 0 0 1 2 3 0 0) (fun x => { x with s := [(2, BitVec.allOnes 64), (3, 2)] }))) with
      | .next t => ((t.m.tile 0).sreg 1, t.m.tilePc 0)
      | _ => (0, 0)) = (1, 0x800008)) := by
  unfold Mach.issues; decide

theorem test_divs_of_min : (match exec (.divs 0) (stateOf (kernelAt 0 (insWord 0 6 1 2 3 0 0)
      (fun x => { x with s := [(2, BitVec.intMin 64), (3, BitVec.allOnes 64)] }))) with
      | .next t => ((t.m.tile 0).sreg 1, t.m.bit (A.TILE_SFLAGS 0) 1)
      | _ => (0, false)) = (2 ^ 63, true) := by decide

theorem test_loop_body_repeats : loopNext 0x800010 [(0x800008, 0x800010, 2)] = (0x800008, [(0x800008, 0x800010, 1)]) ∧
    loopNext 0x800010 [(0x800008, 0x800010, 1)] = (0x800018, []) := by decide

theorem witness_ScalarArithmetic : ∀ op ∈ List.range 0x20,
    (op ≠ 0x19 → (kernelAt 0 (insWord 0 op 0 0 0 0 0) id).issues 0 op) ∧ (kernelAt 0 (insWord 1 op 0 0 0 0 0) id).issues 0 (64 + op) := by
  unfold Mach.issues; decide

theorem witness_LoadsAndStores : (∀ op ∈ [0, 1, 2, 3, 4, 5, 6, 8, 9, 10, 11, 0x10, 0x11, 0x12, 0x13, 0x14],
      (kernelAt 0 (insWord 2 op 0 0 0 0 0) id).issues 0 (128 + op)) ∧
    (∀ a ∈ [0, 0x83FFF8], a % 8 = 0 ∧ a < 0x840000 ∧ (({} : Tile).poisonIn a 8) = none ∧ ({} : Tile).barred 9 [(a, a + 8)] [] = false) ∧
    (({ poison := [0] } : Tile).poisonIn 0 8).isSome = true ∧ ({ poison := [0] } : Tile).barred 9 [(0, 8)] [] = false ∧ ({} : Tile).barred 9 [] [(0x7FFFF8, 0x800000)] = false ∧
    descField 7 = some (120, 120) ∧ descField 8 = none := by
  unfold Mach.issues; decide

theorem witness_StoreFrame : memWf ({} : Tile).mem = true := by decide

theorem witness_ControlTransfers : (∀ op ∈ [0, 1, 2, 3, 4, 5, 6, 8, 9, 10, 11, 14, 15], (kernelAt 0 (insWord 3 op 0 0 0 0 0) id).issues 0 (192 + op)) ∧
    (let x := (kernelAt 0 0 id).tile 0
     x.pcOk 0x800000 = true ∧ x.pcOk 0x800038 = true ∧ x.pcOk 0x800040 = false ∧ x.link.length < 16 ∧ x.loops.length < 4 ∧ x.link = []) := by
  unfold Mach.issues; decide

theorem witness_Synchronisation : (∀ op ∈ [0, 1, 2, 3, 4, 5, 6, 7, 8], (kernelAt 0 (insWord 7 op 0 0 0 0 0) id).issues 0 (448 + op)) ∧
    (let x := (kernelAt 0 0 id).tile 0
     x.dma = [] ∧ x.arr = [] ∧ x.brz = [] ∧ x.drained = true ∧ x.fenced = true ∧ x.tbarNow = false ∧ ∀ u ∈ x.target, u = 0) ∧
    (({ dma := [{ code := 256, x := 3 }] } : Tile).drained = false ∧ (2 ^ 3).testBit 3 = true) ∧
    (let m := { kernelAt 0 (insWord 7 6 0 0 0 0 512) id with own := { atReset.own with tiles := [(0, 5)] } }
     let n := m.wr (A.INT_T_OWN 0) 0x8F8F8F85
     n.issues 0 454 ∧ n.srcOwner 512 = some (n.tilePart 0)) := by
  unfold Mach.issues; decide

theorem witness_EngineIssue :
    (let m := vecAt 4 0 0 (descOf 0 8 2 0) (descOf 4096 8 2 0) 0
     let x := m.tile 0
     let i := m.fetch 0
     (kernelAt 0 (insWord 4 0 0 1 2 0 0) id).issues 0 256 ∧ firstKF (copyChecks i (x.vreg 1) (x.vreg 2)) = none ∧ (x.queue 1).length < queueCap 1 ∧
     x.inFlight < 32 ∧ x.barred 1 (foot (x.vreg 1)) (foot (x.vreg 2)) = false) ∧
    (firstKF (copyChecks ⟨0, 0⟩ (descOf 0 8 0 0) (descOf 4096 8 2 0))).isSome = true ∧
    (∀ op ∈ [0, 2, 3, 4, 5], (kernelAt 0 (insWord 5 op 0 0 0 0 0) id).canIssue 0 = true) ∧
    firstKF (mmaChecks 1 2 (descOf 0 1 1 0) (descOf 64 1 1 0) false) = none ∧
    (let va := descOf 0 1024 1 2
     let vb := descOf 65536 1024 1 2
     let vd := descOf 131072 1024 1 2
     firstKF (chkNtt ⟨0, 0⟩ va vb vd) = none ∧ firstKF (chkElem true ⟨0, 0⟩ va vb vd) = none) := by
  unfold Mach.issues; decide

theorem witness_ChainOperations :
    (let m := kernelAt 0 (insWord 8 0 0 1 0 0 0) (fun y => { y with v := [(1, descOf 0 8 1 0)], chTab := [(0, (.none, .tile 1))] })
     let x := m.tile 0
     m.issues 0 512 ∧ checkDesc 1 (x.vreg 1) false = none ∧ dSpace (x.vreg 1) = 0 ∧ (x.ends 0).2 = .tile 1 ∧ x.chain = [] ∧
     x.barred 5 (foot (x.vreg 1)) [] = false ∧ x.poisonDesc (x.vreg 1) = none) ∧
    (let m := kernelAt 0 (insWord 8 1 1 0 0 4 0) (fun y => { y with v := [(1, descOf 0 8 1 0)], chTab := [(0, (.tile 1, .none))] })
     m.issues 0 513 ∧ ((m.tile 0).ends 0).1 ≠ .none ∧ (m.fetch 0).x.testBit 2 = true) ∧
    (let x : Tile := { v := [(1, descOf 0 8 1 0)], chTab := [(0, (.tile 1, .none))], chain := [{ code := 513, x := 4, vD := descOf 0 8 1 0 }],
                       inbox := [⟨0, 0, 32, [List.replicate 32 1]⟩] }
     (x.ends 0).1 = .tile 1 ∧ tget x.chGot 0 0 = 0 ∧ rowBytes (descOf 0 8 1 0) = 32 ∧ storedRows (descOf 0 8 1 0) = 1) := by
  unfold Mach.issues; decide

theorem witness_EngineCompletions :
    (let x : Tile := { arr := [{ code := 320, vA := descOf 0 1 1 0, vB := descOf 64 1 1 0 }], dma := [{ code := 256, vA := descOf 0 8 1 0, vB := descOf 4096 8 1 0 }] }
     x.poisonDesc (descOf 0 1 1 0) = none ∧ dRows (descOf 0 1 1 0) = 1 ∧ dCols (descOf 0 1 1 0) = 1 ∧ dBs (descOf 0 1 1 0) = false ∧
     memWf x.mem = true ∧ storedRows (descOf 0 8 1 0) = 1 ∧ x.poisonIn 0 32 = none) ∧
    (let m := ((kernelAt 0 0 (fun y => { y with fault := some (5, 0, 0x800000) })).setTileState 0 3)
     m.tileState 0 = 3 ∧ (m.tile 0).fault = some (5, 0, 0x800000) ∧ (m.tile 0).drained = true ∧ m.bit (A.TILE_KFAULT 0) 31 = false) ∧
    (let m := ((kernelAt 0 0 (fun y => { y with ended := true })).setTileState 0 3)
     m.tileState 0 = 3 ∧ (m.tile 0).ended = true ∧ (m.tile 0).dmaFail = [] ∧ (m.tile 0).fault = none) := by decide

/-- Memory of partition `p`: channel 0 is ACTIVE, and the translation cache maps its first pages to it. -/
def mapped (p : Nat) (m : Mach) : Mach :=
  let n := (m.wr (A.MEM_CH_STS 0) (BitVec.ofNat 32 (3 + 2 ^ 27 + p * 2 ^ 28))).putBit (A.MMU_KEY p) 31 true
  { n with mem := { n.mem with leaf := [⟨p, 1, 0, 0⟩] } }

/-- A machine that takes packets of partition 0 on queue 0 from node 5: a receive way, a cache bank, a window that expects SEQ 0. -/
def receiving : Mach :=
  let m := ((linked.wr (A.HRMP_RXWAY 0) 0x80).wr (A.HRMP_CBANK 0) 0x80).put (A.HRMP_Q_CFG 0) 15 0 64
  let m := (m.wr (routeAddr 8 0) 0x81000005).wr (routeAddr 8 0 + 4) 5
  let m := m.wr (A.TRACE_QRANGE 0) 0x20001
  { m with net := { m.net with wins := [{ part := 0, src := 5, queue := 0, set := 0, e := 0 }] } }

/-- A DOORBELL packet for node 3. -/
def bell : Pkt := { emptyPkt with flags := 0x07, vc := 2, dst := 3 }

theorem witness_PacketsComplete : receiving.admits (.ring 0) 0x31 bell bell ∧ receiving.proceeds 0x31 bell ∧ receiving.reachable (.ring 0) 0x31 bell ∧
    ((0 : Nat) < receiving.fld (A.TRACE_QRANGE 0) 29 16) ∧ bell.ackReq = true := by
  refine ⟨?_, ?_, ?_, by decide, by decide⟩
  · unfold Mach.admits Mach.portTakes; decide
  · refine ⟨by decide, ⟨{ part := 0, src := 5, queue := 0, set := 0, e := 0 }, by decide⟩, by decide, by decide, by decide, .inl ⟨by decide, fun o h => by cases h⟩⟩
  · unfold Mach.reachable; decide

/-- An atomic ADD of 1 to the 8 bytes at address 64, with its result record at 4096 (R478). -/
def addPkt : Pkt := { emptyPkt with flags := 0x07, vc := 0, dst := 3, plen := 1, payload := leBytes 8 64 ++ leBytes 8 1 }

theorem witness_RequestEffects :
    (let m := mapped 0 receiving
     (m.vwrite 0 0 0 [1, 2]).2 = none ∧ (m.vread 0 0 0 16).2.toOption.map List.length = some 16 ∧
     fieldAt addPkt.payload 0 8 % 8 = 0 ∧ (m.wr (A.HRMP_Q_ATOM_LO 0) 4096).atomVa 0 ≠ 0 ∧
     fieldAt (leBytes 8 4) 0 8 % 8 ≠ 0 ∧ (bell.part = 0) ∧ (3 : Fin 16) ≠ 0) := by decide

theorem witness_SequenceWindows : receiving.banks 0 ≠ [] ∧ receiving.winOf 0 5 0 = some { part := 0, src := 5, queue := 0, set := 0, e := 0 } ∧
    (∀ d ∈ [0, 1, 63, 64, 2 ^ 31 - 1, 2 ^ 31, 2 ^ 32 - 1], (d + 2 ^ 32 - 0) % 2 ^ 32 = d) ∧ bell.cls = 0 ∧
    ({ bell with flags := 0x47 } : Pkt).cls = 1 := by decide

theorem witness_ResponsesComplete :
    (let k : Pkt := { emptyPkt with flags := 0x93, vc := 1, dst := 3, plen := 1, payload := List.replicate 16 7, operand := 9 }
     let r : Req := ⟨0x31, { bell with seq := 9 }, 0, none, none, 0, 0, false⟩
     receiving.admits (.ring 0) 0x60 { k with payload := List.replicate 16 0 } { k with payload := List.replicate 16 0 } ∧
     receiving.admits (.ring 0) 0x61 k k ∧
     [r].find? (fun r => r.is k.queue.toNat k.operand.toNat) = some r ∧ r.rnrs < receiving.fld A.HRMP_TMR 23 16 ∧
     r.timeouts < receiving.fld A.HRMP_TMR 31 24 ∧ fieldAt k.payload 0 1 = 7 ∧ vcOf 0x00 = none ∧ receiving.hasKey 0 = false ∧
     (receiving.route 8 5).isSome = true) ∧
    (let k : Pkt := { emptyPkt with flags := 0x93, vc := 1, dst := 3, plen := 1, payload := List.replicate 16 0 }
     hdrCheck 0x52 k = none ∧ k.whole = true ∧ receiving.queueOwner 0 = some 0) ∧
    (let w : Nat × HeldPkt := (0, ⟨0x31, bell, .eth 0 false 0 0 0⟩)
     ({ receiving with net := { receiving.net with wait := [w] } } : Mach).nextWaiting 0 = some w) := by
  refine ⟨⟨?_, ?_, by decide⟩, by decide, by decide⟩ <;> (unfold Mach.admits Mach.portTakes; decide)

/-- A descriptor image (R134): partition 3, four contributors with two neighbours each, threshold 2, 64 elements, two slots. -/
def smallDesc : List Byte :=
  leBytes 8 0x03010000 ++ leBytes 8 64 ++ leBytes 4 4 ++ leBytes 2 2 ++ leBytes 2 2 ++ leBytes 1 6 ++ leBytes 1 2 ++ leBytes 30 0 ++
  leBytes 8 0x10000 ++ leBytes 8 0x20000 ++ leBytes 8 0x30000 ++ leBytes 8 0x40000 ++ leBytes 48 0 ++
  leBytes 8 0x50000 ++ leBytes 8 0x60000 ++ leBytes 8 0x70000 ++ leBytes 32 15

/-- Context 5 of partition 3 in state `st`, with its descriptor in memory at 0x1000. -/
def contextIn (st : Nat) : Mach :=
  let m := mapped 3 { linked with own := { linked.own with ways := [(15, 3)] } }
  let m := ((m.wr (A.AGG_OWN 0) 0x83).wr (A.MSK_OWN 0) 0x83).put (A.CTX_STS 5) 3 0 st
  let m := (m.put (A.AGG_WIN_SEL 3) 11 0 5).wr (A.AGG_WIN_DESC_LO 3) 0x1000
  let m := (m.put A.PHS_STS 2 0 2).putBit (A.AGG_WIN_RES 3) 31 true
  let m := (m.put (A.MSK_WIN_SEL 3) 11 0 5).putBit (A.MSK_WIN_RES 3) 31 true
  { m with agg := [(5, { desc := smallDesc, descVa := 0x1000, part := 3, ats := [0, 0, 0, 0, 0] })]
           mem := { m.mem with cells := memWrite [] 0x1000 smallDesc } }

theorem witness_ContextEntry : (contextIn 1).running = true ∧ (((contextIn 1).ctx 5).ats.length = 5) ∧ (1 : Nat) ≤ 2 := by decide

theorem witness_AggCommandsComplete : (contextIn 0).writeOpen .kaolin (A.AGG_WIN_CMD 3) ∧ (contextIn 0).ctxOwner 5 = some 3 ∧
    (contextIn 0).bit (A.AGG_WIN_RES 3) 31 = true ∧ (contextIn 0).fld (A.AGG_WIN_SEL 3) 11 0 = 5 ∧
    (∀ st ∈ [1, 2, 3, 4, 5, 6, 7], (contextIn st).ctxState 5 = st) ∧ (contextIn 1).ctxInUse 5 = true ∧ (contextIn 4).ctxInUse 5 = true ∧
    (contextIn 2).ctxOwner 70 ≠ some 3 ∧ (∀ e ∈ ((contextIn 2).ctx 5).slots, e.2.committing = true) := by
  unfold Mach.writeOpen Mach.awake; decide

theorem witness_aggArm_accepted :
    (let m := contextIn 0
     let x : AggCtx := { desc := smallDesc, descVa := 0x1000, part := 3 }
     m.ctxArming 5 = false ∧ m.bit (A.CTX_STS 5) 31 = false ∧ (m.armRead 3 0x1000).2.toOption = some smallDesc ∧ descCheck x 3 0x1000 = none ∧
     (m.armRead 3 0x1000).1.maskCheck x 3 0x1000 = none ∧ ((m.armRead 3 0x1000).1.armXlate 3 x.armRanges).2 = none) := by decide

theorem witness_ContextEventsComplete :
    (let m := contextIn 1
     let x := m.ctx 5
     let at1 (n : Mach) : Mach := n.setCtx 5 { x with desc := leBytes 32 (0x03010000 + 2 ^ 64 * 64 + 2 ^ 128 * 4) ++ leBytes 8 1 ++ leBytes 8 1 ++ leBytes 8 1 ++ x.desc.drop 56 }
     let n := { at1 m with phs := { m.phs with phase := 1 } }
     n.ctxState 5 = 1 ∧ n.ctxPhaseDue 5 0 = true ∧ n.ctxPhaseDue 5 1 = true ∧ n.ctxPhaseDue 5 2 = true ∧ m.ctxPhaseDue 5 0 = false ∧
     (at1 m).ctxPhaseDue 5 0 = false) ∧
    (let m := contextIn 3
     (m.ctx 5).slots = [] ∧ m.fld (A.CTX_COMMITTED 5) 22 0 < (m.ctx 5).t ∧
     ((m.put (A.CTX_COMMITTED 5) 22 0 2).ctx 5).t ≤ (m.put (A.CTX_COMMITTED 5) 22 0 2).fld (A.CTX_COMMITTED 5) 22 0) ∧
    (let m := (contextIn 2).setCtx 5 { (contextIn 2).ctx 5 with slots := [(1, ⟨3, 0, true⟩)] }
     (m.vread 2 3 (0x40000 + 4096 * 2 + 1 * 4096) 256).2.toOption.map List.length = some 256) ∧
    (let x := { (contextIn 2).ctx 5 with slots := [(1, ⟨3, 0, false⟩)] }
     let m := (contextIn 2).setCtx 5 { x with desc := smallDesc.take 0x1A ++ leBytes 2 1 ++ smallDesc.drop 0x1C }
     ({ m with sys := { m.sys with slots := 1 } } : Mach).reclaimDue 5 = [(1, ⟨3, 0, false⟩)]) ∧
    (∀ i < 64, atReset.ctxActive i = false) ∧ (contextIn 1).ctxActive 5 = true := by decide

theorem witness_RecoveryComplete :
    (let m := (contextIn 4).setCtx 5 { (contextIn 4).ctx 5 with recov := some { wait := true } }
     m.ctxState 5 = 4 ∧ (m.recov 5).wait = true ∧ m.wayHeld 15 5 = false) ∧
    (let m := (contextIn 4).setCtx 5 { (contextIn 4).ctx 5 with recov := some {} }
     m.inRecovery 5 = true ∧ m.freeUnit 3 = some 0 ∧ ((m.pubKey 5 1).2.toOption.map List.length = some 32) ∧ (m.ctx 5).lwr = false ∧
     (m.recov 5).finished = false ∧ m.writeOpen .kaolin (A.MSK_WIN_CMD 3) ∧ m.bit (A.MSK_WIN_RES 3) 31 = true ∧ m.ctxOwner 5 = some 3 ∧
     ∀ k < 4, atReset.bit A.MSK_STS k = false) ∧
    (let m := (contextIn 4).setCtx 5 { (contextIn 4).ctx 5 with recov := some { entries := [⟨true, List.replicate 32 0⟩] } }
     (m.recov 5).pass = none ∧ (m.recov 5).entries ≠ []) ∧
    (let m := (contextIn 4).setCtx 5 { (contextIn 4).ctx 5 with recov := some { shares := [(2, [⟨0, List.replicate 8 1, []⟩, ⟨1, List.replicate 8 1, []⟩])] } }
     m.reconDue 5 2 = true ∧ (reconstruct (tget (m.recov 5).shares 2 [])).isSome = true) := by
  refine ⟨by decide, ?_, by decide, by decide⟩
  unfold Mach.writeOpen Mach.awake; decide

/-- A graph image with one node of kind `k`: start mode 2 at phase 0, no edges. -/
def oneNode (k : Nat) (rest : List Byte) : List Byte :=
  leBytes 4 0x4C394648 ++ leBytes 2 1 ++ leBytes 2 2 ++ leBytes 4 1 ++ leBytes 4 128 ++ List.replicate 48 0 ++
  (leBytes 1 k ++ rest ++ List.replicate (63 - rest.length) 0)

/-- Partition 0 holds a graph in state `st` at handle 1 with image `b`, whose node 0 is as `y` says. -/
def graphAt (st : Nat) (b : List Byte) (y : GNode) : Mach :=
  let m := mapped 0 linked
  let m := (m.put A.PHS_STS 2 0 2).setGrState 0 1 st
  let m := m.setGraph 0 1 { img := b, nodes := [(0, y)], whole := true }
  (m.putBit (A.LOAM_RES 0) 31 true).putBit (A.DRBG_STS 0) 31 true

/-- A node in state `st`. -/
def nodeSt (st : Nat) : GNode := { deps := 0, armed := true, st := st }

theorem witness_LoamWindowComplete : atReset.writeOpen .kaolin (A.LOAM_CMD 15) ∧ (atReset.putBit (A.LOAM_RES 15) 31 true).bit (A.LOAM_RES 15) 31 = true ∧
    (∀ st ∈ List.range 8, (graphAt st (oneNode 10 []) (nodeSt 0)).grState 0 1 = st) ∧
    atReset.writeOpen .kaolin (A.LOAM_MODE 15) ∧ atReset.writeOpen (.part 0) (A.LOAM_MODE 0) ∧ (atReset.put (A.LOAM_MODE 0) 1 0 0).fld (A.LOAM_MODE 0) 1 0 = 0 ∧ atReset.handles 0 = [] ∧
    (graphAt 3 (oneNode 10 []) (nodeSt 0)).handles 0 = [1] ∧ atReset.writeOpen .kaolin (A.LOAM_CTR_VAL 0) ∧ atReset.writeOpen .kaolin (A.LOAM_QB 0) ∧
    receiving.queueOwner 0 = some 0 ∧ (receiving.wr (A.HRMP_QOWN 0) 0).queueOwner 0 ≠ some 0 ∧ atReset.writeOpen (.part 0) (A.LOAM_SNAP_SIZE 0) ∧
    atReset.writeOpen .kaolin (A.TRACE_CFG 15) := by
  unfold Mach.writeOpen Mach.awake; decide

theorem witness_NodeWorkAndKernelEntry :
    (∀ k ∈ [1, 2, 3, 4, 5, 6, 7, 8, 9, 10, 11, 12], (graphAt 3 (oneNode k []) (nodeSt 1)).gnode 0 1 0 = some (nodeSt 1) ∧
      nKind ((graphAt 3 (oneNode k []) (nodeSt 1)).gimg 0 1) 0 = k) ∧
    nf (oneNode 1 (List.replicate 27 0 ++ [0x80])) 0 0x1C 1 = 0x80 ∧ (graphAt 3 (oneNode 1 []) (nodeSt 1)).drbgOn 0 = true ∧
    (let b := oneNode 3 (List.replicate 31 0 ++ leBytes 8 0x1000 ++ leBytes 8 0x2000 ++ leBytes 4 64)
     let m := graphAt 3 b (nodeSt 1)
     nf b 0 0x1C 1 = 0 ∧ nf b 0 0x30 4 = 64 ∧ (m.vread 4 0 0x1000 64).2.toOption.map List.length = some 64 ∧ (m.vwrite 4 0 0x2000 [1]).2 = none) ∧
    nf (oneNode 3 (List.replicate 27 0 ++ [1])) 0 0x1C 1 = 1 ∧
    ((graphAt 3 (oneNode 4 (List.replicate 27 0 ++ [1])) (nodeSt 1)).aggCommand 0 0 1 0 none).2.isSome = true ∧
    (let m := (graphAt 3 (oneNode 11 []) (nodeSt 1)).wr (A.INT_HV_OWN 0) 0x80
     m.vecOwner 0 = some 0 ∧ (graphAt 3 (oneNode 11 []) (nodeSt 1)).vecOwner 0 ≠ some 0) ∧
    nf (oneNode 12 (List.replicate 31 0 ++ leBytes 8 1)) 0 0x20 8 % 64 ≠ 0 := by decide

/-- A kernel image of one instruction word at 0x1000: header and body (R215, R216). -/
def smallImage (d : List Byte) : List Byte :=
  leBytes 4 0x4B394648 ++ leBytes 2 1 ++ leBytes 2 0 ++ leBytes 4 8 ++ List.replicate 20 0 ++ d ++ leBytes 8 0

theorem witness_NodeWorkBegins_load :
    (let b := oneNode 12 (List.replicate 31 0 ++ leBytes 8 0x1000)
     let m := graphAt 3 b (nodeSt 1)
     let m := { m with mem := { m.mem with cells := memWrite [] 0x1000 (smallImage (List.replicate 32 0)) } }
     nf b 0 0x20 8 % 64 = 0 ∧ (m.vread 4 0 0x1000 64).2.toOption.map (fun h => imageHead h 0) = some none ∧
     (m.vread 4 0 0x1040 8).2.toOption = some (List.replicate 8 0)) := by decide

theorem witness_GraphEventsComplete :
    (let m := graphAt 2 (oneNode 10 []) (nodeSt 0)
     m.grState 0 1 = 2 ∧ gStart (m.gimg 0 1) = 2 ∧ gStartPhase (m.gimg 0 1) ≤ m.phase ∧ m.running = true ∧ m.pageOn 0x100 = true ∧
     tfind m.loam.lastPass 0 ≠ some m.phs.edges ∧ m.readyNodes 0 = [] ∧ m.fld (A.LOAM_MODE 0) 1 0 ≠ 2 ∧ m.loam.step = [] ∧
     (m.put (A.LOAM_MODE 0) 1 0 2).fld (A.LOAM_MODE 0) 1 0 = 2) ∧
    (let m := graphAt 3 (oneNode 10 []) { nodeSt 0 with ready := some 0 }
     m.readyNodes 0 = [(1, 0, 0, 0, 0)] ∧ m.grState 0 1 = 3 ∧ (m.gnode 0 1 0).isSome = true ∧ nTarget (m.gimg 0 1) 0 = [] ∧
     nKind (m.gimg 0 1) 0 ≠ 6 ∧ nKind (m.gimg 0 1) 0 ≠ 7) ∧
    (let m := graphAt 3 (oneNode 8 []) (nodeSt 2)
     let n := { m with phs := { m.phs with edges := 1 } }
     n.running = true ∧ nf (n.gimg 0 1) 0 0x20 8 ≤ n.phase ∧ nf (n.gimg 0 1) 0 0x20 4 ≤ n.ctr 0 (nf (n.gimg 0 1) 0 0x1E 2)) ∧
    (let m := graphAt 3 (oneNode 12 []) { nodeSt 2 with data := [0], tiles := [0] }
     m.tileState 0 = 0 ∧ (m.setTileState 0 1).tileState 0 = 1 ∧ (m.setTileState 0 1).loadWaits 0 0 [0] = false) ∧
    (let m := { graphAt 3 (oneNode 3 []) (nodeSt 2) with nodeRes := [((0, 1, 0), 0, 0)] }
     m.nodeRes = [((0, 1, 0), 0, 0)] ∧ nKind (m.gimg 0 1) 0 = 3) ∧
    (let m := (graphAt 3 (oneNode 1 []) { nodeSt 2 with tiles := [4] }).setTile 4 { node := some (0, 1, 0), report := some true }
     (m.tile 4).node = some (0, 1, 0) ∧ (m.tile 4).report = some true ∧ nf (m.gimg 0 1) 0 0x1C 1 ≠ 0x80) ∧
    (let m := graphAt 7 (oneNode 10 []) (nodeSt 3)
     m.grState 0 1 = 7 ∧ (nodeSt 3).live = false ∧ gAutoRel (m.gimg 0 1) = false ∧ (fieldAt (m.gimg 0 1) 0x32 1).testBit 7 = false) := by decide

theorem witness_GraphEventsComplete_snapshot :
    (let m := (graphAt 1 [] (nodeSt 0)).setGraph 0 1 { img := [], whole := false, lastSlot := 0 }
     let m := { m with phs := { m.phs with edges := 65537 } }
     m.grState 0 1 = 1 ∧ 64 * 1024 < m.phs.edges - 0) ∧
    (let m := (graphAt 1 [] (nodeSt 0)).setGraph 0 1 { img := [], whole := true, sub := some ⟨0x70, bell, .ring 0⟩ }
     (m.graph 0 1).map (fun x => (x.whole, x.sub.isSome)) = some (true, true)) := by decide

/-- A graph of two nodes, the first with the second as its successor. -/
def twoNodes : List Byte :=
  leBytes 16 0 ++ leBytes 4 192 ++ leBytes 44 0 ++ (leBytes 12 10 ++ leBytes 52 1) ++ (leBytes 64 10) ++ leBytes 4 1

theorem witness_NodeCompletion :
    (let m := graphAt 3 (oneNode 10 []) (nodeSt 2)
     doneCtr (nf (m.gimg 0 1) 0 0xE 2) = none ∧ m.bit (A.TRACE_CFG 0) 31 = false ∧ gAutoRel (m.gimg 0 1) = false ∧ nSucc (m.gimg 0 1) 0 = [] ∧
     ∀ z ∈ [(0, nodeSt 2)], z.1 = 0 ∨ z.2.st = 3) ∧
    nSucc twoNodes 0 = [1] ∧ gAutoRel twoNodes = false ∧ doneCtr (nf twoNodes 0 0xE 2) = none := by decide

theorem witness_SubmissionRefusals : headCheck (leBytes 64 0) = some (1, 0) ∧ headCheck (oneNode 10 []) = none ∧
    atReset.takeSpace 0 128 = .error (6, 0) ∧ (let k := { bell with payload := leBytes 64 0 }; k.isFirst = true ∧ 64 ≤ k.payload.length) ∧
    (let k := { bell with operand := 1, payload := leBytes 8 0x1000 ++ leBytes 8 64 }
     k.operand.toNat.testBit 0 = true ∧ 64 ≤ fieldAt k.payload 8 4 ∧ ((mapped 0 receiving).vread 4 0 0x1000 64).2.toOption = some (leBytes 64 0)) := by
  refine ⟨by decide, by decide, by decide, by decide, by decide⟩

theorem witness_GateAndSpareEvents :
    (let h : GateRun := { node := (0, 1, 0), header := leBytes 256 0, keyset := [], tiles := [0], groups := [], levels := [1, 1] }
     let m := { ((mapped 0 linked).setTileState 0 2) with gates := [h] }
     m.gateOn 0 = some h ∧ m.gateReady h = true ∧ h.level + 1 < h.levels.length ∧ (m.copyStage 0 0 0 0 0 []).2 = none) ∧
    (let m := (atReset.setTileState 0 5).setTile 0 { migFrom := some 0 }
     m.tileState 0 = 5 ∧ (m.tile 0).migFrom = some 0) ∧
    atReset.tileState 0 ≠ 5 ∧ atReset.writeOpen .kaolin (A.CLU_REMAP 3) ∧ bitOf (0x80000000 : Word).toNat 31 = true ∧
    atReset.bit (A.CLU_REMAP 3) 31 = false ∧ atReset.spareUsed 3 = false ∧ atReset.tileLost 60 = false := by
  unfold Mach.writeOpen Mach.awake; decide

/-- A session of partition 3 on tile 4 with role `r`, between rounds, whose program is the one op `c` on no vectors. -/
def sessionAt (r c : Nat) : Session :=
  { node := (3, 1, 0), desc := leBytes 6 0 ++ leBytes 1 r ++ leBytes 0x61 0 ++ leBytes 8 100 ++ leBytes 16 0, round := 1, tiles := [4]
    prog := leBytes 16 1 ++ (leBytes 1 c ++ leBytes 1 0 ++ leBytes 6 (2 ^ 48 - 1) ++ leBytes 24 0) }

/-- A machine on which session `x` runs. -/
def inSession (x : Session) : Mach :=
  let m := ((mapped 3 linked).wr (A.MSK_OWN 0) 0x83).putBit (A.DRBG_STS 2) 31 true
  { m.put A.PHS_STS 2 0 2 with loam := { m.loam with sessions := [x] } }

theorem witness_SessionOperations : (∀ c ∈ [0x01, 0x02, 0x03, 0x04, 0x10, 0x11, 0x12, 0x20, 0x21, 0x30, 0x31, 0x32, 0x33, 0x34, 0x35, 0x36, 0x40, 0x41],
    let x := sessionAt 0 c
    (inSession x).sessionOn 4 = some x ∧ x.state = 1 ∧ x.op < x.ops ∧ x.began = false ∧ x.rnd = 0 ∧ x.outq = [] ∧ 0 < x.round ∧ x.opc = c ∧
    (0 ∈ (inSession x).mskUnits x.part ∧ (inSession x).drbgOn 2 = true) ∧ x.cur 2 2 = 0xFFFF ∧ x.cur 4 2 = 0xFFFF) ∧
    (∀ (m : Mach) (x : Session), m.getVec x 0xFFFF = (m, some [])) ∧ ({ sessionAt 0 0x20 with phase := 1 } : Session).opc = 0x20 ∧
    (sessionAt 1 0x12).role = 1 := ⟨by decide, fun _ _ => rfl, by decide, by decide⟩

theorem witness_SessionOperations_results : (let x := { sessionAt 0 0x11 with ins := [[5], []] }; x.opc = 0x11 ∧ x.ins = [[5], []]) ∧
    (let x : Session := { sessionAt 0 0x11 with prog := leBytes 16 1 ++ (leBytes 6 0x11 ++ leBytes 2 0xFFFF ++ leBytes 24 0) }
     x.cur 6 2 = 0xFFFF ∧ (((inSession x).putVec x (x.cur 6 2) []).2.toOption).isSome = true) ∧
    ((inSession (sessionAt 0 1)).writeStatus (sessionAt 0 1)).2 = none := by decide

theorem witness_SharesMultiply : (30 + 5) % 2 ^ 64 = (3 + 4) * (2 + 3) % 2 ^ 64 ∧ (1 + 0) % 2 = (1 + 0) * (0 + 1) % 2 := by decide

theorem witness_SessionEventsComplete :
    (let x := { sessionAt 0 0x20 with rnd := 2, sentRec := true }
     let m := (inSession x).ctrAdd 3 0 1
     m.sessionOn 4 = some x ∧ x.recs < m.ctr x.part x.exchCtr ∧ x.batches < m.ctr x.part x.tripleCtr ∧ ({ x with sentRec := false } : Session).rnd = 2) ∧
    (let x := sessionAt 0 0x20
     x.desc ≠ [] ∧ x.d 0x68 8 = 100 ∧ ({ (inSession x) with phs := { (inSession x).phs with phase := 100 } } : Mach).running = true ∧
     (inSession x).phase < x.d 0x68 8) ∧
    (let x := { sessionAt 0 0x20 with op := 1 }
     x.op = x.ops ∧ x.ops ≠ 0 ∧ 0 < x.round) ∧ ({ sessionAt 0 0x20 with state := 3 } : Session).state = 3 ∧
    (let x := sessionAt 0 0x20
     let m := inSession x
     let m := { m with mem := { m.mem with cells := memWrite [] 0 (leBytes 8 7 ++ leBytes 8 1) } }
     (m.vread 5 3 ((x.d 0x30 8 + x.round % 2 * x.d 0x70 4) % 2 ^ 48) 64).2.toOption.map (fun h => (fieldAt h 8 4, fieldAt h 0 8)) = some (1, 7) ∧
     x.round = 1 ∧ x.d 8 8 ≠ 7) := by decide

theorem witness_SealedOpens : (List.replicate 32 (0 : Nat)).length = 32 ∧ (List.replicate 12 (0 : Nat)).length = 12 ∧
    ∃ tag : Bytes, tag ≠ (gcmSeal (List.replicate 32 0) (List.replicate 12 0) [] []).2 :=
  ⟨by decide, by decide, 0 :: (gcmSeal (List.replicate 32 0) (List.replicate 12 0) [] []).2, fun h => by
    have := congrArg List.length h
    rw [List.length_cons] at this
    omega⟩

/-- A slot that is LOADED with attributes `attr`. -/
def loadedSlot (attr : Nat) : KeySlot := { state := 1, attr := attr, value := List.replicate 32 7 }

/-- Partition 0 holds slots 0 to 7, of which slots 0 and 1 are LOADED; Silt is OPERATING, and commands may be given. -/
def keyed : Mach :=
  let m := ((atReset.put A.SILT_STS 2 0 2).putBit A.KEY_RES 31 true).putBit (A.DRBG_STS 22) 31 true
  { m with own := { m.own with keys := [(0, (0, 8))] }, keys := [(0, { loadedSlot 0x42 with len512 := true }), (1, loadedSlot 0x42)] }

theorem witness_MemoryOperations : memWf (mapped 0 atReset).mem.cells = true ∧
    ((mapped 0 atReset).xlate 4 0 0x1000 3).2.toOption = some [⟨0, 0x1000, 3⟩] ∧ ((mapped 0 atReset).vwrite 4 0 0x1000 [1, 2, 3]).2 = none ∧
    ((mapped 0 atReset).xlate 4 1 0x1000 3).2.toOption = none := by decide

theorem witness_MemoryRowsComplete :
    (atReset.writeOpen .kaolin (A.MMU_KEY 15) ∧ atReset.bit (A.MMU_KEY 15) 31 = false ∧ keyed.xtsSlot 0 0 = true ∧ keyed.writeOpen (.part 0) (A.MMU_KEY 0)) ∧
    (keyed.putBit (A.MMU_KEY 0) 31 true).bit (A.MMU_KEY 0) 31 = true ∧ (∀ st < 6, (atReset.setChState 63 st).chState 63 = st) ∧
    (atReset.writeOpen .kaolin (A.MMU_INV_CTL 15) ∧ atReset.retiring 15 = false ∧ atReset.writeOpen .kaolin (A.MMU_ROOT_HI 0) ∧
      ((mapped 0 atReset).setChState 0 4).retiring 0 = true) ∧
    (atReset.writeOpen .kaolin (A.MEM_CH_CTL 63) ∧ atReset.chOwner 63 = none) := by
  unfold Mach.writeOpen Mach.awake; decide

theorem witness_MemoryRowsComplete_retire :
    (let m := (mapped 0 atReset).wr (A.MEM_CH_STS 1) (BitVec.ofNat 32 (3 + 2 ^ 27))
     m.chOwner 1 = some 0 ∧ m.chState 1 = 3 ∧ m.retiring 0 = false ∧ ((m.channelsOf 0).filter (fun c => m.chState c ≠ 5)).length = 2 ∧
     m.fld (A.LOAM_MODE 0) 1 0 < 2 ∧ m.snapLen 0 = 0 ∧ (m.tree 0).1 = [] ∧ tablesIn (m.tree 0).2 1 = false ∧
     (m.reserveList 0).2.toOption = some [] ∧ assignReserve [] [] = some []) ∧
    (let m := (mapped 0 atReset).setChState 0 4
     let m := { m with mem := { m.mem with mig := [(0, (1, [⟨0, 3, 64, 0, 0x10000⟩]))] } }
     m.chState 0 = 4 ∧ tfind m.mem.mig 0 = some (1, [⟨0, 3, 64, 0, 0x10000⟩]) ∧ m.handles 0 = []) ∧
    ((mapped 0 atReset).chState 0 ≠ 0 ∧ tget (mapped 0 atReset).mem.scrubAt 0 0 + 1 < 2 ^ 27 ∧ (mapped 0 atReset).mem.poison = []) := by decide

/-- Partition 3 is asked for with tile 5, channel 1, way 2 and eight slots. -/
def asked : Mach :=
  let m := (atReset.putBit A.GLB_STS 0 true).putBit A.ATT_RES 31 true
  let m := ((m.put A.ATT_SEL 3 0 3).wr (partReg A.PART_TILES0 3) 32).wr (partReg A.PART_CHAN_LO 3) 2
  ((m.wr (partReg A.PART_WAYS 3) 4).wr (partReg A.PART_KEYS 3) 0x80010).wr (partReg (A.PART_OWNER 0) 3) 1

theorem witness_PartitionRowsComplete : asked.writeOpen .kaolin A.ATT_CMD ∧ asked.bit A.ATT_RES 31 = true ∧ asked.fld A.ATT_SEL 3 0 = 3 ∧
    asked.createCheck 3 = none ∧ asked.partState 3 ≠ 1 ∧ asked.createCheck 0 = some (9, 0) ∧
    (let m := { asked.setPartState 3 1 with own := { asked.own with keys := [(3, (16, 8))] } }
     m.reqKeys 3 = m.keysOf 3 ∧ m.partState 3 = 1 ∧ subset (m.tilesOf 3) (m.reqTiles 3) = true ∧ subset (m.liveChans 3) (m.reqChans 3) = true ∧
     subset (m.waysOf 3) (m.reqWays 3) = true ∧ m.resCheck 3 (m.reqTiles 3) (m.reqChans 3) (m.reqWays 3) none = none) ∧
    (let m := asked.setPartState 3 2
     m.partState 3 = 2 ∧ m.drained 3 = true) ∧
    ({ asked with phs := { asked.phs with slotEdge := true }, att := { asked.att with service := true } } : Mach).att.service = true ∧
    ({ asked with att := { asked.att with creating := [3] } } : Mach).att.creating = [3] := by
  unfold Mach.writeOpen Mach.awake; decide

theorem witness_DebugRowsComplete : atReset.writeOpen .kaolin A.DBG_HALT ∧ atReset.writeOpen .kaolin A.DBG_CMD ∧ atReset.tileSealed 79 = false ∧
    (inSession (sessionAt 0 1)).tileSealed 4 = true ∧ (let v : Word := 0xC000004F; v.toNat % 128 = 79 ∧ bitOf v.toNat 31 = true ∧ bitOf v.toNat 30 = true) ∧
    (let m := ((mapped 0 atReset).wr A.DBG_SRC_HI 4).wr A.DBG_LEN 1024
     let m := (m.setTile 4 { halted := true }).wr A.DBG_OUT_LO 0x1000
     bitsOf (m.rd64 A.DBG_SRC_LO) 38 32 = 4 ∧ m.fld A.DBG_LEN 16 0 = 1024 ∧ (m.tile 4).halted = true ∧ m.tileSealed 4 = false ∧ m.tileOwner 4 = none ∧
     (∀ src < 8, (m.vwrite src 0 0x1000 [1]).2 = none) ∧ (m.tile 5).halted = false) := by
  unfold Mach.writeOpen Mach.awake; decide

theorem witness_KeyRowsComplete : keyed.writeOpen .kaolin A.KEY_CMD ∧ keyed.keyOwner 0 = some 0 ∧ (keyed.put A.KEY_SEL 8 0 7).slotFree 7 = true ∧ attrOk 0x40 true = true ∧
    keyed.fld A.SILT_STS 2 0 = 2 ∧ ((keyed.slot 0).state = 1 ∧ (keyed.slot 0).tagOk = true ∧ (keyed.slot 0).attr.testBit 6 = true) ∧
    0x40 &&& (keyed.slot 0).attr = 0x40 ∧ keyed.slotInUse 0 7 = false ∧ keyed.keyOwner 8 ≠ some 0 ∧
    (let m := { keyed with keys := [(3, { loadedSlot 2 with tagOk := false })], phs := { keyed.phs with frameEdge := true } }
     (m.slot 3).state = 1 ∧ (m.slot 3).tagOk = false ∧ ∀ i < 512, i ≠ 3 → (m.slot i).tagOk = true) := by
  unfold Mach.writeOpen Mach.awake; decide

theorem witness_SiltRowsComplete : atReset.siltState = 0 ∧ (∀ st ∈ [1, 2, 3, 4], (atReset.put A.SILT_STS 2 0 st).siltState = st) ∧
    (∀ c : Fin 8, atReset.bit A.SILT_CFG c = true ∧ atReset.bit A.SILT_STS (24 + c.val) = false) ∧
    (let m := { atReset.put A.SILT_STS 2 0 1 with silt := { atReset.silt with held := 1, pool := 1, next := 36 } }
     0 < m.silt.held ∧ m.silt.pool = 1 ∧ 0 < m.silt.next ∧ m.silt.next < 37 ∧ m.silt.again = false) ∧
    (keyed.drbgOn 22 = true ∧ ({ keyed with silt := { keyed.silt with pool := 2 } } : Mach).silt.pool = 2) ∧
    (atReset.writeOpen .kaolin A.SILT_CTL ∧ atReset.writeOpen .kaolin A.SILT_CFG ∧ 4 ≤ ((List.range 8).filter (fun c => (0x0F : Nat).testBit c)).length) ∧
    (atReset.readOpen .kaolin (A.SILT_DATA 15) ∧ atReset.drbgOn 37 = false ∧ atReset.readOpen .kaolin A.SILT_RAW ∧ (atReset.put A.GLB_STS 7 4 1).lcs = 1 ∧
      atReset.lcs ≠ 1) := by
  unfold Mach.readOpen Mach.writeOpen Mach.awake; decide

/-- A machine with source `x` in state `st` with priority 9, which core 0 accepts. -/
def irqAt (x st : Nat) : Mach :=
  let m := (linked.put (A.INT_SRC_STS x) 31 30 st).wr (A.INT_CFG x) 0x10009
  m.putBit (A.CC_CTL 0) 0 true

theorem witness_SourceStates : (∀ st ∈ [0, 1, 2], (irqAt 1023 st).srcState 1023 = st) ∧ atReset.srcCount 0 = 0 ∧
    ((irqAt 5 2).put (A.INT_SRC_STS 5) 7 0 3).srcCount 5 ≠ 0 := by decide

theorem witness_InterruptEventsComplete_route : atReset.routable = [] ∧ (irqAt 5 1).routable = [5] ∧ (irqAt 5 1).pickCore [] 5 = some 0 := by
  have h : (irqAt 5 1).routable = ([5] : List Nat).mergeSort (fun a b => (irqAt 5 1).srcPrio a > (irqAt 5 1).srcPrio b || ((irqAt 5 1).srcPrio a = (irqAt 5 1).srcPrio b && a ≤ b)) :=
    congrArg (fun l : List Nat => l.mergeSort _) (by decide)
  have h0 : atReset.routable = ([] : List Nat).mergeSort (fun a b => atReset.srcPrio a > atReset.srcPrio b || (atReset.srcPrio a = atReset.srcPrio b && a ≤ b)) :=
    congrArg (fun l : List Nat => l.mergeSort _) (by decide)
  exact ⟨h0.trans (List.mergeSort_nil), h.trans (List.mergeSort_singleton _), by decide⟩

theorem witness_InterruptEventsComplete :
    (let m := { irqAt 5 1 with irq := { (irqAt 5 1).irq with transit := [(0, 5)] } }
     m.irq.transit.find? (fun e => e.1 = 0) = some (0, 5) ∧ m.srcState 5 = 1 ∧ m.inExit 0 = false ∧ m.coreRp 0 < m.srcPrio 5 + 1 ∧
     (tget m.irq.stack 0 []).length < 31) ∧
    (let m := { irqAt 5 2 with irq := { (irqAt 5 2).irq with stack := [(0, [(9, 5, 0)])] } }
     tget m.irq.stack 0 [] ≠ [] ∧ m.inExit 0 = false ∧ (m.putBit (A.CC_STS 0) 6 true).inExit 0 = true ∧ m.srcState 5 = 2 ∧
     m.bit (A.INT_SRC_STS 5) 26 = false ∧ m.fld (A.INT_SRC_STS 5) 29 27 = 0) ∧
    (let m := ((irqAt 600 1).wr (A.INT_HV_OWN 0) 0x80).wr (A.INT_T_OWN 2) 0x80808080
     m.deliverTo 600 = some 0 ∧ (m.putBit (A.INT_CFG 600) 31 true).srcMasked 600 = true) ∧
    (let m := atReset.put (A.Q_PTR (hostBlock 3)) 31 16 1
     m.qOcc (hostBlock 3) ≠ 0 ∧ m.bit (A.INT_HDEST 3) 31 = false) ∧
    ((atReset.put A.PWR_STS 1 0 1).fld A.PWR_STS 1 0 = 1 ∧ (8 : BitVec 4).toNat.testBit 3 = true) := by decide

theorem witness_InterruptWritesComplete :
    (∀ off ∈ [A.INT_DOORBELL, A.INT_SW_PEND, A.INT_O_PCLR, A.INT_HCMPL 15, A.T_MSET 15, A.T_MCLR 15, A.T_PCLR 15, A.INT_HV_OWN 15, A.INT_T_OWN 15, A.INT_CFG 511,
      A.CC_THRESH 7, A.CC_CTL 7], atReset.writeOpen .kaolin off) ∧
    (∀ off ∈ [A.T_MSET 0, A.T_MCLR 15, A.T_PCLR 7], atReset.writeOpen (.part 0) off ∧ atReset.writeOpen (.part 3) off) ∧
    (irqAt 511 1).srcState 511 = 1 ∧
    (let m := { (irqAt 600 2).putBit (A.INT_SRC_STS 600) 26 true with irq := { atReset.irq with host := [(600, 3)] } }
     m.srcState 600 = 2 ∧ m.bit (A.INT_SRC_STS 600) 26 = true ∧ tfind m.irq.host 600 = some 3) ∧
    (atReset.wr (A.INT_T_OWN 15) 0x83000000).srcOwner 1023 = some 3 ∧ atReset.srcOwner 1023 ≠ some 3 ∧ (∀ y : Fin 1024, atReset.srcState y = 0) ∧
    (atReset.wr (A.INT_HV_OWN 15) 0x80000000).vecOwner 63 = some 0 ∧ (atReset.wr (A.INT_HV_OWN 15) 0x81000000).vecOwner 63 ≠ some 0 := by
  unfold Mach.writeOpen Mach.awake; decide

theorem witness_FaultRecordsAndReactions : atReset.bit A.FLT_FIRST_STS 31 = false ∧ (atReset.putBit A.FLT_FIRST_STS 31 true).bit A.FLT_FIRST_STS 31 = true ∧
    tfind atReset.flt.units 0x14F = none ∧ (∀ cls ∈ [1, 2, 3, 4, 5], atReset.taken 0x50 0x80 cls = 0 ∨ cls ≠ 1) ∧ atReset.taken 0x50 0x80 1 = 0 ∧
    (atReset.put (A.FLT_USTS 0x80) 31 29 1).unitState 0x80 = 1 ∧ (∃ u, unitShared u = true) :=
  ⟨by decide, by decide, by decide, by decide, by decide, by decide, 0x100, by decide⟩

theorem witness_FaultEventsComplete : atReset.isGone everyTarget = false ∧ srcClass 0x50 0x80 = some 1 ∧ srcClass 0x50 0 = none ∧
    atReset.flt.inj = [] ∧ atReset.raised = [] ∧ ({ atReset with raised := [(0x50, 0x80, 7)] } : Mach).raised = [(0x50, 0x80, 7)] ∧
    (let m := atReset.putBit A.FLT_PIN 30 true; m.bit A.FLT_PIN 30 = true ∧ m.bit A.FLT_PIN 3 = false ∧ (m.putBit A.FLT_PIN 3 true).bit A.FLT_PIN 3 = true) ∧
    ({ atReset with phs := { atReset.phs with slotEdge := true } } : Mach).phs.slotEdge = true ∧ unitUsed 0x100 = true ∧
    (∃ g : BitVec 3, atReset.unitState 0x100 ≠ g.toNat) ∧ (∃ g : BitVec 3, atReset.unitState 0x100 = g.toNat) ∧
    ((atReset.wr (A.FLT_CNT 5) 0xFFFFFFFF).rd (A.FLT_CNT 5)).toNat = 2 ^ 32 - 1 ∧ atReset.flt.satTold = [] ∧ (atReset.rd (A.FLT_CNT 1)).toNat < 2 ^ 32 - 1 := by
  refine ⟨by decide, by decide, by decide, by decide, by decide, by decide, by decide, by decide, by decide, ⟨7, by decide⟩, ⟨?_, ?_⟩, by decide, by decide, by decide⟩
  · exact BitVec.ofNat 3 (atReset.unitState 0x100)
  · decide

theorem witness_FaultWritesComplete : (∀ off ∈ [A.FLT_FIRST_STS, A.FLT_UCLR, A.FLT_QUIESCE, A.FLT_EGRESS, A.FLT_REACT 1, A.FLT_REACT 5],
      atReset.writeOpen .kaolin off) ∧ atReset.flt.dead = false ∧ ({ atReset with flt := { atReset.flt with dead := true } } : Mach).flt.dead = true ∧
    (∃ v : Word, bitOf v.toNat 31 = true ∧ bitOf v.toNat 0 = true ∧ bitsOf v.toNat 21 12 < 512) ∧ (∃ v : Word, 512 ≤ bitsOf v.toNat 21 12) := by
  refine ⟨?_, by decide, by decide, ⟨0x80000001, by decide⟩, ⟨0x200000, by decide⟩⟩
  unfold Mach.writeOpen Mach.awake; decide

/-- The machine with a command of the life-cycle window under way to be taken. -/
def lcReady : Mach := (mapped 0 atReset).putBit A.LC_RES 31 true

theorem witness_ResetsComplete : ({ atReset with warmReq := true } : Mach).resetAsked ∧ ¬ atReset.resetAsked ∧
    warmKept A.FLT_FIRST_DET = true ∧ (atReset.wr A.FLT_FIRST_DET 5).regs.act.filter (fun e => e.1 = A.FLT_FIRST_DET) = [(A.FLT_FIRST_DET, 5)] ∧
    atReset.flt.dead = false ∧
    (∀ off ∈ [A.GLB_RST, A.RST_UNIT, A.RST_RING], atReset.writeOpen .kaolin off) ∧ lcReady.bit A.LC_RES 31 = true ∧
    (lcReady.put (A.FLT_USTS 0xDF) 31 29 3).unitState 0xDF = 3 ∧ resettable 0xDF = true ∧ atReset.unitState 0xDF ≠ 3 ∧
    ({ atReset with sys := { atReset.sys with resetting := [79] } } : Mach).sys.resetting.contains 79 = true ∧
    (atReset.setUnit 79 3).unitState 79 = 3 ∧ (atReset.tile 79).node = none ∧
    atReset.gateOn 79 = none ∧ (∀ p : Fin 16, atReset.partState p = 0) ∧ (∀ n : Fin 8, atReset.ringLive n = false) := by
  refine ⟨.inl rfl, ?_, by decide, by decide, by decide, ?_, by decide, by decide, by decide, by decide, by decide, by decide, by decide, by decide, by decide, by decide⟩
  · unfold Mach.resetAsked; decide
  · unfold Mach.writeOpen Mach.awake; decide

theorem witness_BootComplete : (let m := atReset
      m.bankTurn 0 = true ∧ tfind m.sys.flash 0 = none ∧ m.fld A.LC_SVN 15 0 ≤ (0xFFFF : BitVec 16).toNat ∧ m.bankTurn 1 = false) ∧
    linked.sys.verified = true ∧ atReset.sys.verified = false ∧ atReset.readyDue = false ∧
    (let m := (((linked.put A.PHS_STS 2 0 2).put A.SILT_STS 2 0 2).put A.GLB_STS 7 4 3)
     let m := (List.range 8).foldl (fun a c => a.putBit (A.CC_CTL c) 0 true) m
     ({ m with sys := { m.sys with dram := true } } : Mach).readyDue = true) := by
  decide

theorem witness_LifeCycleComplete :
    (lcReady.writeOpen .kaolin A.LC_CMD ∧ lcReady.bit A.LC_RES 31 = true ∧ bitsOf (0x4C43F301 : Word).toNat 31 16 = 0x4C43 ∧ (0x4C430005 : Word).toNat % 16 = 5) ∧
    (let v : Word := 0x4C430201
     let n := (lcReady.put A.GLB_STS 7 4 1).lcAsked v
     n.lcs = 1 ∧ bitsOf v.toNat 11 8 = 2 ∧ n.fwState = 0 ∧ (∀ p : Fin 16, n.partState p = 0)) ∧
    (let v : Word := 0x4C430301
     let n := ((lcReady.put A.GLB_STS 7 4 2).setPartState 3 1).lcAsked v
     n.lcs = 2 ∧ bitsOf v.toNat 11 8 = 3 ∧ n.partState 3 ≠ 0 ∧ lcTable n.lcs 0 = none) ∧
    (let n := ((lcReady.wr A.LC_SRC_LO 0x1000).put A.LC_LEN 24 0 16).lcAsked 0x4C430002
     (n.vread 0 0 n.lcSrc (n.fld A.LC_LEN 24 0)).2.toOption.map List.length = some 16) ∧
    romCheck [] 0 ≠ 0 ∧ (∀ st < 7, (lcReady.put A.FW_STS 2 0 st).fwState = st) ∧ lcReady.fld A.LC_SVN 31 16 ≤ lcReady.fld A.LC_SVN 15 0 ∧
    (let m := lcReady.put A.LC_SVN 31 16 1; m.fld A.LC_SVN 15 0 < m.fld A.LC_SVN 31 16) ∧
    lcReady.rd64 A.FW_AT_LO ≤ lcReady.phase ∧ lcReady.phase < (lcReady.wr A.FW_AT_LO 1).rd64 A.FW_AT_LO ∧
    lcReady.halfIdle [0, 1, 2, 3] = true ∧ lcReady.halfIdle [4, 5, 6, 7] = true ∧
    lcReady.fld A.FW_ASEQ (31 - 16 * lcReady.otherBank) (16 - 16 * lcReady.otherBank) < 65535 := by
  unfold Mach.writeOpen Mach.awake; decide

/-- Work of kind `k` for partition 3 that is due. -/
def workAt (k : Nat) (ok : Bool) : KaolinWork := { kind := k, req := ⟨0x50, bell, .ring 0⟩, slot := 0, data := [], phase := 0, ok := ok }

/-- A machine at a slot boundary on which that work is due, with a session open. -/
def working (k : Nat) (ok : Bool) : Mach :=
  let m := atReset.put (A.SESS_STS 3) 1 0 1
  { m with att := { m.att with work := [(3, workAt k ok)], sess := [(3, {})] }
           phs := { m.phs with slotEdge := true }, sys := { m.sys with slots := 100000 } }

theorem witness_PowerComplete :
    ({ atReset with phs := { atReset.phs with slotEdge := true } } : Mach).phs.slotEdge = true ∧ (atReset.putBit A.PWR_CFG 31 true).bit A.PWR_CFG 31 = true ∧
    atReset.bit A.PWR_CFG 31 = false ∧ atReset.fld A.THERM_MAX 7 0 < 95 ∧ atReset.cap < (0xFFFF : BitVec 16).toNat ∧ (atReset.putBit A.THERM_COOL 0 true).bit A.THERM_COOL 0 = true ∧
    atReset.bit A.THERM_COOL 0 = false ∧
    (∀ off ∈ [A.PWR_CTL, A.PWR_CFG, A.PWR_SHARE 15, A.MGT_ALERT], atReset.writeOpen .kaolin off) ∧
    (atReset.writeLevel 8).maySleep = true ∧ (atReset.writeLevel 8).fld A.PWR_STS 1 0 = 0 ∧ ((asked.setPartState 3 1).writeLevel 8).maySleep = false ∧
    atReset.oversub = false ∧ (atReset.put (A.PWR_SHARE 15) 11 0 4095).oversub = true ∧ atReset.oversubWith 15 4095 = true ∧ atReset.telDue = false ∧
    (let m := (atReset.putBit A.MGT_TEL_CFG 31 true).put A.MGT_TEL_CFG 15 0 1
     ({ m with phs := { m.phs with slotEdge := true }, sys := { m.sys with telCount := 1 } } : Mach).telDue = true) := by
  unfold Mach.writeOpen Mach.awake; decide

theorem witness_ManagementComplete : atReset.bit A.MGT_I3C 31 = false ∧ (atReset.setDyn 9).bit A.MGT_I3C 31 = true ∧
    (∃ st : BitVec 7, st.toNat = atReset.fld A.MGT_I3C 6 0) ∧ atReset.lcs ≤ 1 ∧ 1 < (atReset.put A.GLB_STS 7 4 3).lcs := by
  refine ⟨by decide, by decide, ⟨BitVec.ofNat 7 (atReset.fld A.MGT_I3C 6 0), by decide⟩, by decide, by decide⟩

theorem witness_SessionReleasesComplete : (∀ k < 4, ∀ ok, (working k ok).dueWork 3 [k] = some (workAt k ok)) ∧ (working 1 true).dueWork 3 [0] = none ∧
    tfind (working 2 true).att.sess 3 = some {} ∧ (working 2 true).fld (A.SESS_STS 3) 1 0 ≠ 0 ∧
    (working 2 true).sessionLate 3 = true ∧ atReset.sessionLate 3 = false ∧
    (let m := { mapped 3 keyed with att := { atReset.att with imports := [(3, ⟨9, 0, 0x1000, 0x9000, 0x2000⟩)] } }
     tfind m.att.imports 3 = some ⟨9, 0, 0x1000, 0x9000, 0x2000⟩ ∧ (m.loadKey 3 9 2).2 = none) ∧
    (let hd := leBytes 4 0x57394648 ++ leBytes 60 1
     let m := mapped 3 keyed
     let m := { m with own := { m.own with keys := [(3, (8, 8))] }, keys := [(9, loadedSlot 4)], mem := { m.mem with cells := memWrite [] 0x1000 hd } }
     (m.loadKey 3 9 2).2 = some (List.replicate 32 7) ∧ (m.vread 3 3 0x1000 64).2.toOption = some hd ∧ weightHeadOk hd = true ∧
     ¬ (0x1000 < 0x9000 + fieldAt hd 8 8 ∧ 0x9000 < 0x1000 + fieldAt hd 8 8 + 80) ∧
     (m.vread 3 3 0x1040 16).2.toOption.map List.length = some 16) ∧ tfind atReset.att.imports 3 = none := by decide

theorem witness_PinsFollowRegisters : PinsFollow State.reset ∧ PinsFollow { State.reset with m := linked, pins := linked.outputs } := by decide

theorem witness_QueueIsWorkedOff : ([.getpid, .tapReset] : List Instr).length = 2 ∧ PinsFollow { State.reset with pending := [.getpid, .tapReset] } := by decide

theorem witness_EveryStepAnswers : (∃ t, step State.reset = .next t) ∧ ∃ t, exec .getpid { State.reset with pending := [.rstdaa] } = .next t :=
  ⟨⟨_, rfl⟩, _, rfl⟩

end Sys2Proof.Machine
end

namespace Sys2Proof.Machine

/-! ### How a command is shown to give its outcome -/

/-- A command whose meaning is `f` gives whatever `f` leaves. -/
theorem gives_onMach {c : Instr} {s : State} {f : Mach → Mach} {P : Mach → Prop} (hx : exec c s = s.onMach f) (hp : P (f s.m)) :
    Gives c s P := ⟨f s.m, hx, hp⟩

/-- An event that is due takes place. -/
theorem gives_due {c : Instr} {s : State} (p : Mach → Prop) [DecidablePred p] {f : Mach → Mach} {P : Mach → Prop}
    (hx : exec c s = s.onMach (fun m => if p m then f m else m)) (hd : p s.m) (hp : P (f s.m)) : Gives c s P :=
  gives_onMach hx (by rwa [if_pos hd])

/-- An event that is not due leaves the data as it was (log entry 1). -/
theorem unmoved_not_due {c : Instr} {s : State} (p : Mach → Prop) [DecidablePred p] {f : Mach → Mach}
    (hx : exec c s = s.onMach (fun m => if p m then f m else m)) (hd : ¬ p s.m) : Unmoved c s := by
  simp only [Unmoved, hx, State.onMach_eq, if_neg hd]

/-! ### Registers that an update of other fields leaves -/

theorem Mach.rd_of_act {m n : Mach} (h : m.regs.act = n.regs.act) (a : Nat) : m.rd a = n.rd a := by simp only [Mach.rd, h]
theorem Mach.bit_of_act {m n : Mach} (h : m.regs.act = n.regs.act) (a i : Nat) : m.bit a i = n.bit a i := by
  simp only [Mach.bit, Mach.rd_of_act h]
theorem Mach.fld_of_act {m n : Mach} (h : m.regs.act = n.regs.act) (a hi lo : Nat) : m.fld a hi lo = n.fld a hi lo := by
  simp only [Mach.fld, Mach.rd_of_act h]

theorem Mach.bit_bumpF_other (m : Mach) (a b hi lo n i : Nat) (h : b ≠ a) : (m.bumpF a hi lo n).bit b i = m.bit b i :=
  m.bit_put_other a b hi lo _ i h
theorem Mach.fld_bumpF_other (m : Mach) (a b hi lo n hi' lo' : Nat) (h : b ≠ a) : (m.bumpF a hi lo n).fld b hi' lo' = m.fld b hi' lo' :=
  m.fld_put_other a b hi lo _ hi' lo' h

/-! ### The tick edge -/

theorem Mach.phase_lt (m : Mach) : m.phase < 2 ^ 64 := m.phs.phase.isLt

theorem Mach.phase_congr {m n : Mach} (h : m.phs.phase = n.phs.phase) : m.phase = n.phase := congrArg BitVec.toNat h

/-- A phase is loaded whole where it does not exceed the greatest one (R36). -/
theorem toNat_phase {v : Nat} (h : v ≤ 2 ^ 64 - 1) : (BitVec.ofNat 64 v).toNat = v := by
  rw [BitVec.toNat_ofNat]; omega

/-- What a tick edge makes of everything but the owners in force, the slot counts and the active registers. -/
theorem Mach.tickEdge_frame (m : Mach) :
    m.tickEdge.phase = min (m.phase + m.phs.corr.step) (2 ^ 64 - 1) ∧ m.tickEdge.phs.corr = .none ∧
    m.tickEdge.phs.edges = m.phs.edges + 1 ∧ m.tickEdge.gone = [] ∧ m.tickEdge.regs.updNow = m.regs.updNext := by
  have hp := toNat_phase (Nat.min_le_right (m.phase + m.phs.corr.step) (2 ^ 64 - 1))
  unfold Mach.tickEdge
  dsimp only
  split_ifs <;> exact ⟨hp, rfl, rfl, rfl, rfl⟩

/-- The missed beacons that an edge counts and the slot that it begins leave PHS_STS as it was. -/
theorem Mach.bit_edgeEnd (n : Mach) (i : Nat) :
    (let c := if (n.phs.edges - n.phs.lastAcc) % 256 = 0 then n.bumpF A.PHS_MISS 15 0 1 else n
     if c.phs.slotEdge then c.latchSlots.countSlot else c).bit A.PHS_STS i = n.bit A.PHS_STS i := by
  have hm : (n.bumpF A.PHS_MISS 15 0 1).bit A.PHS_STS i = n.bit A.PHS_STS i := n.bit_bumpF_other _ _ _ _ _ _ (by decide)
  dsimp only
  split_ifs
  · exact hm
  · exact hm
  · rfl
  · rfl

/-- The phase at its greatest value shows in PHS_STS (R36). -/
theorem Mach.tickEdge_saturated (m : Mach) (h : m.tickEdge.phase = 2 ^ 64 - 1) : m.tickEdge.bit A.PHS_STS 7 = true := by
  have hs : min (m.phase + m.phs.corr.step) (2 ^ 64 - 1) = 2 ^ 64 - 1 := m.tickEdge_frame.1 ▸ h
  refine (Mach.bit_edgeEnd _ 7).trans ?_
  rw [if_pos hs]
  exact Mach.bit_putBit_same _ _ 7 true (by decide)

/-! ### The epoch advance -/


theorem Mach.loadPhase_phase (m : Mach) (v : Nat) : (m.loadPhase v).phase = min v (2 ^ 64 - 1) :=
  toNat_phase (Nat.min_le_right v (2 ^ 64 - 1))

/-- The current epoch is the top 16 bits of the phase (R14). -/
theorem Mach.epoch_eq (m : Mach) : bitsOf m.phase 63 48 = m.phase / 2 ^ 48 := by
  have := m.phase_lt
  simp only [bitsOf, Nat.shiftRight_eq_div_pow]
  omega

/-- PHS_EPOCH_SET.ARM cleared, as the advance finds the rest. -/
theorem Mach.disarm_eqs (m : Mach) : (m.putBit A.PHS_EPOCH_SET 31 false).phsState = m.phsState ∧
    (m.putBit A.PHS_EPOCH_SET 31 false).bit A.PHS_EPOCH_SET 31 = false :=
  ⟨m.fld_putBit_other _ _ _ _ _ _ (by decide), m.bit_putBit_same _ _ _ (by decide)⟩

/-- The phase loaded by an epoch advance, which the next beacon tells (R47). -/
def Mach.takeEpoch (m : Mach) (v : Nat) : Mach :=
  { m.uncountSlot.loadPhase v with phs := { (m.uncountSlot.loadPhase v).phs with advFlag := true } }

theorem Mach.takeEpoch_phase (m : Mach) (v : Nat) (h : v ≤ 2 ^ 64 - 1) : (m.takeEpoch v).phase = v :=
  (m.uncountSlot.loadPhase_phase v).trans (Nat.min_eq_left h)
theorem Mach.takeEpoch_act (m : Mach) (v : Nat) : (m.takeEpoch v).regs.act = m.regs.act := rfl
theorem Mach.takeEpoch_advFlag (m : Mach) (v : Nat) : (m.takeEpoch v).phs.advFlag = true := rfl

/-- The two outcomes of an advance: taken by a master whose epoch rises, and refused (R47). -/
theorem Mach.epochAdvance_eq (m : Mach) : m.epochAdvance =
    if m.phsState = 4 ∧ m.phase / 2 ^ 48 < m.fld A.PHS_EPOCH_SET 15 0 then
      (m.putBit A.PHS_EPOCH_SET 31 false).takeEpoch (m.fld A.PHS_EPOCH_SET 15 0 * 2 ^ 48)
    else (m.putBit A.PHS_EPOCH_SET 31 false).putBit A.PHS_STS 5 true := by
  have hp : (m.putBit A.PHS_EPOCH_SET 31 false).phase = m.phase := rfl
  rw [← m.disarm_eqs.1, ← m.epoch_eq, ← hp]
  unfold Mach.epochAdvance Mach.takeEpoch
  simp only [Bool.and_eq_true, decide_eq_true_eq]

/-- The master takes the new epoch (R47). -/
theorem Mach.epochAdvance_taken (m : Mach) (hs : m.phsState = 4) (he : m.phase / 2 ^ 48 < m.fld A.PHS_EPOCH_SET 15 0) :
    m.epochAdvance.phase = m.fld A.PHS_EPOCH_SET 15 0 * 2 ^ 48 ∧ m.epochAdvance.bit A.PHS_EPOCH_SET 31 = false ∧
    m.epochAdvance.phs.advFlag = true := by
  have hlt : m.fld A.PHS_EPOCH_SET 15 0 < 2 ^ 16 := bitsOf_lt _ 15 0
  rw [m.epochAdvance_eq, if_pos ⟨hs, he⟩]
  refine ⟨Mach.takeEpoch_phase _ _ (by omega), ?_, Mach.takeEpoch_advFlag _ _⟩
  rw [Mach.bit_of_act (Mach.takeEpoch_act _ _), m.disarm_eqs.2]

/-- A node that is not master, or an epoch that is not above the current one: the advance is refused (R47). -/
theorem Mach.epochAdvance_refused (m : Mach) (h : m.phsState ≠ 4 ∨ m.fld A.PHS_EPOCH_SET 15 0 ≤ m.phase / 2 ^ 48) :
    m.epochAdvance.phase = m.phase ∧ m.epochAdvance.bit A.PHS_EPOCH_SET 31 = false ∧ m.epochAdvance.bit A.PHS_STS 5 = true := by
  rw [m.epochAdvance_eq, if_neg (by omega)]
  refine ⟨rfl, ?_, Mach.bit_putBit_same _ _ _ _ (by decide)⟩
  rw [Mach.bit_putBit_other _ _ _ _ _ _ (by decide), m.disarm_eqs.2]

/-! ### PHASE_REF -/

/-- The check of the deviation raises at most a fault and moves its own latch: registers and phase stand (R45). -/
theorem Mach.checkDev_frame (m : Mach) (d : Int) : (m.checkDev d).regs = m.regs ∧
    ∃ b, (m.checkDev d).phs = { m.phs with devArmed := b } := by
  unfold Mach.checkDev
  split_ifs
  · exact ⟨rfl, _, rfl⟩
  · exact ⟨rfl, _, rfl⟩
  · exact ⟨rfl, _, rfl⟩

theorem Mach.alignTicks_frame (m : Mach) (t : Nat) : (m.alignTicks t).regs = m.regs ∧ (m.alignTicks t).phs.lastRef = m.phs.lastRef := by
  unfold Mach.alignTicks
  dsimp only
  split_ifs
  · exact ⟨rfl, rfl⟩
  · exact ⟨rfl, rfl⟩

/-- An edge of PHASE_REF as every branch of its meaning finds it: latched, with REFOK set (R40, log entry 24). -/
def Mach.refSeen (m : Mach) : Mach := ({ m with phs := { m.phs with lastRef := some m.phs.edges } } : Mach).putBit A.PHS_STS 4 true

theorem Mach.refSeen_bit (m : Mach) : m.refSeen.bit A.PHS_STS 4 = true := Mach.bit_putBit_same _ _ 4 true (by decide)

/-- How far the tick count is from the nearest multiple of PHS_REF_PER (R40). -/
def Mach.refOff (m : Mach) : Int := (nearestMultiple m.refPer m.ticks m.phs.edges : Int) - (m.ticks : Int)

/-- After the first beacon the edge corrects by at most one tick (R40). -/
theorem Mach.phaseRefEdge_beaconed (m : Mach) (h : m.phs.beaconed = true) : m.phaseRefEdge =
    { m.refSeen.checkDev m.refOff with phs := { (m.refSeen.checkDev m.refOff).phs with corr := corrOf m.refOff } } := by
  unfold Mach.phaseRefEdge
  exact if_pos h

/-- Before the first beacon the edge aligns the tick count, or only is seen (R40). -/
theorem Mach.phaseRefEdge_silent (m : Mach) (h : m.phs.beaconed = false) :
    m.phaseRefEdge = m.refSeen ∨ ∃ t, m.phaseRefEdge = m.refSeen.alignTicks t := by
  have hb : ¬ m.refSeen.phs.beaconed = true := by rw [show m.refSeen.phs.beaconed = m.phs.beaconed from rfl, h]; decide
  have he : m.phaseRefEdge = if m.phs.lastRef = some (m.phs.edges - m.refPer) && m.refPer ≤ m.phs.edges then
      m.refSeen.alignTicks (cdiv m.refSeen.ticks m.refPer * m.refPer) else m.refSeen := by
    unfold Mach.phaseRefEdge
    exact if_neg hb
  rw [he]
  split_ifs
  · exact .inr ⟨_, rfl⟩
  · exact .inl rfl

theorem Mach.phaseRefEdge_corrects (m : Mach) (h : m.phs.beaconed = true) :
    m.phaseRefEdge.phase = m.phase ∧ m.phaseRefEdge.phs.corr = corrOf m.refOff := by
  obtain ⟨-, b, hp⟩ := m.refSeen.checkDev_frame m.refOff
  rw [m.phaseRefEdge_beaconed h]
  exact ⟨by simp only [Mach.phase, hp]; rfl, rfl⟩

/-- Every edge is remembered and sets REFOK (R40, log entry 24). -/
theorem Mach.phaseRefEdge_seen (m : Mach) : m.phaseRefEdge.bit A.PHS_STS 4 = true ∧ m.phaseRefEdge.phs.lastRef = some m.phs.edges := by
  cases hb : m.phs.beaconed with
  | true =>
    obtain ⟨hr, b, hp⟩ := m.refSeen.checkDev_frame m.refOff
    rw [m.phaseRefEdge_beaconed hb]
    exact ⟨(Mach.bit_of_act (congrArg Regs.act hr) _ _).trans m.refSeen_bit, by simp only [hp]; rfl⟩
  | false =>
    rcases m.phaseRefEdge_silent hb with h | ⟨t, h⟩
    · rw [h]; exact ⟨m.refSeen_bit, rfl⟩
    · obtain ⟨hr, hl⟩ := m.refSeen.alignTicks_frame t
      rw [h]; exact ⟨(Mach.bit_of_act (congrArg Regs.act hr) _ _).trans m.refSeen_bit, hl⟩

/-! ### Beacons, election and loss of lock -/

@[simp] theorem Mach.enqueue_txq (m : Mach) (f : TxFrame) : (m.enqueue f).net.txq = m.net.txq ++ [f] := rfl

/-- A frame on each port of a list that is up: the frames wait in the list's order, and registers and phase stand. -/
theorem Mach.foldl_enqueue (l : List Nat) (F : Nat → TxFrame) (m : Mach) :
    let n := l.foldl (fun a i => if a.ringUp i then a.enqueue (F i) else a) m
    n.net.txq = m.net.txq ++ (l.filter m.ringUp).map F ∧ n.regs = m.regs ∧ n.phs = m.phs := by
  induction l generalizing m with
  | nil => simp
  | cons i r ih =>
    rw [List.foldl_cons, List.filter_cons]
    by_cases hu : m.ringUp i = true
    · obtain ⟨h1, h2, h3⟩ := ih (m.enqueue (F i))
      have hf : (m.enqueue (F i)).ringUp = m.ringUp := rfl
      rw [if_pos hu, if_pos hu]
      exact ⟨by rw [h1, hf]; simp, h2, h3⟩
    · rw [if_neg hu, if_neg hu]
      exact ih m

/-- The beacon that this master sends (R42). -/
def Mach.ownBeacon (m : Mach) : Pkt :=
  m.mkPkt 0x93 2 0 0xFFFFF 0 0 0
    (beaconPayload 0 0 (m.fld A.PHS_CFG 1 0) m.phs.advFlag (m.bit A.PHS_CFG 8 && m.bit A.PHS_STS 4))

theorem Mach.beaconEmit_outcome (m : Mach) : m.beaconEmit.phs.beaconed = true ∧ m.beaconEmit.phs.emittedAt = some m.phase ∧
    m.beaconEmit.phs.advFlag = false ∧
    m.beaconEmit.net.txq = m.net.txq ++ ((List.range 8).filter m.ringUp).map (fun n => beaconFrame n m.ownBeacon) := by
  obtain ⟨hq, -, hp⟩ := Mach.foldl_enqueue (List.range 8) (fun n => beaconFrame n m.ownBeacon) m
  unfold Mach.beaconEmit Mach.ownBeacon at *
  dsimp only at *
  generalize List.foldl _ m (List.range 8) = n at *
  exact ⟨rfl, by simp only [Mach.phase, hp], rfl, hq⟩

theorem Mach.setPhsState_state (m : Mach) (st : Nat) (h : st < 8) : (m.setPhsState st).phsState = st := by
  unfold Mach.setPhsState Mach.phsState
  rw [Mach.fld_putBit_other _ _ _ _ _ _ _ (by decide), Mach.fld_put_same _ _ _ _ _ (by decide) (by decide)]
  exact Nat.mod_eq_of_lt h


theorem Mach.becomeMaster_outcome (m : Mach) : m.becomeMaster.phsState = 4 ∧ m.becomeMaster.phase = m.phase ∧
    m.becomeMaster.rd A.PHS_MASTER = BitVec.ofNat 32 m.node ∧ m.becomeMaster.phs.beaconed = false := by
  have hnode : ∀ st, (m.setPhsState st).node = m.node := fun st => by
    unfold Mach.node Mach.setPhsState
    rw [Mach.fld_putBit_other _ _ _ _ _ _ _ (by decide), Mach.fld_put_other _ _ _ _ _ _ _ _ (by decide)]
  refine ⟨(Mach.fld_wr_other _ _ _ _ _ _ (by decide)).trans (Mach.setPhsState_state _ 4 (by decide)), rfl, ?_, rfl⟩
  refine (Mach.rd_wr_same _ _ _).trans (congrArg _ (hnode 4))

theorem Mach.phaseLost_outcome (m : Mach) : m.phaseLost.phsState = 3 ∧ m.phaseLost.phase = m.phase ∧
    m.phaseLost.raised = m.raised ++ [(0x71, 0x125, m.fld A.PHS_MISS 15 0)] :=
  ⟨(Mach.fld_bumpF_other _ _ _ _ _ _ _ _ (by decide)).trans (m.setPhsState_state 3 (by decide)), rfl, rfl⟩

/-- Settles O1: each clause by the outcome of its event. -/
theorem phaseEventsComplete : Obligations.PhaseEventsComplete := by
  intro s
  refine ⟨fun h => ?_, fun hd hs he => gives_due (fun m => m.epochDue = true) rfl hd (s.m.epochAdvance_taken hs he),
    fun hd h => gives_due (fun m => m.epochDue = true) rfl hd (s.m.epochAdvance_refused h), fun hs hr => ?_,
    fun hd => gives_due (fun m => m.refLostDue = true) rfl hd ⟨Mach.bit_putBit_same _ _ _ _ (by decide), rfl, rfl⟩,
    fun hd => gives_due (fun m => m.beaconDue = true) rfl hd s.m.beaconEmit_outcome,
    fun hd => gives_due (fun m => m.electionDue = true) rfl hd s.m.becomeMaster_outcome,
    fun hd => gives_due (fun m => m.phaseLostDue = true) rfl hd s.m.phaseLost_outcome⟩
  · obtain ⟨hp, hc, he, hg, hu⟩ := s.m.tickEdge_frame
    refine ⟨s.m.tickEdge, ?_, hp, hc, he, s.m.tickEdge_saturated, hg, hu⟩
    exact congrArg (fun m => Host.Outcome.next (s.after m)) (if_neg h)
  · obtain ⟨hb, hl⟩ := s.m.phaseRefEdge_seen
    exact gives_due (fun m => (decide (m.phsState = 4) && m.bit A.PHS_CFG 8) = true) rfl (by simp [hs, hr])
      ⟨hb, hl, s.m.phaseRefEdge_corrects⟩

/-! ### The deviation of a beacon (R45) -/

/-- |d| beyond MAXDEV raises PHASE_DEV once: the latch falls and only a return arms it again (R45). -/
theorem Mach.checkDev_cases (m : Mach) (d : Int) :
    (m.fld A.PHS_CFG 31 24 < d.natAbs → m.phs.devArmed = true →
      (m.checkDev d).raised = m.raised ++ [(0x72, 0x125, (BitVec.ofInt 32 d).toNat)] ∧ (m.checkDev d).phs.devArmed = false) ∧
    (m.fld A.PHS_CFG 31 24 < d.natAbs → m.phs.devArmed = false →
      (m.checkDev d).raised = m.raised ∧ (m.checkDev d).phs.devArmed = false) ∧
    (d.natAbs ≤ m.fld A.PHS_CFG 31 24 → (m.checkDev d).raised = m.raised ∧ (m.checkDev d).phs.devArmed = true) := by
  unfold Mach.checkDev
  refine ⟨fun hd ha => ?_, fun hd ha => ?_, fun hd => ?_⟩
  · rw [if_pos hd, if_pos ha]; exact ⟨rfl, rfl⟩
  · rw [if_pos hd, if_neg (by simp [ha])]; exact ⟨rfl, ha⟩
  · rw [if_neg (Nat.not_lt.2 hd)]; exact ⟨rfl, rfl⟩

/-- The difference d of a beacon (R44). -/
def Mach.beaconOff (m : Mach) (n : Nat) (k : Pkt) : Int := (m.expectedPhase n k : Int) - (m.phase : Int)

/-- An accepted beacon in LOCKED or HOLDOVER, recorded, before it corrects or loads the phase (R44, R46). -/
def Mach.locked23 (m : Mach) (n : Nat) (k : Pkt) : Mach :=
  ((m.checkDev (m.beaconOff n k)).acceptRecord k (m.beaconOff n k)).setPhsState 2

theorem Mach.acceptBeacon_running (m : Mach) (n : Nat) (k : Pkt) (h : m.phsState = 2 ∨ m.phsState = 3) : m.acceptBeacon n k =
    if bitOf (fieldAt k.payload 6 1) 2 then (m.locked23 n k).adopt (m.expectedPhase n k)
    else { m.locked23 n k with phs := { (m.locked23 n k).phs with corr := corrOf (m.beaconOff n k) } } := by
  unfold Mach.acceptBeacon
  rcases h with h | h
  · rw [h]; rfl
  · rw [h]; rfl

/-- Recording, correcting and loading leave what the check of the deviation has done. -/
theorem Mach.acceptBeacon_dev (m : Mach) (n : Nat) (k : Pkt) (h : m.phsState = 2 ∨ m.phsState = 3) :
    (m.acceptBeacon n k).raised = (m.checkDev (m.beaconOff n k)).raised ∧
    (m.acceptBeacon n k).phs.devArmed = (m.checkDev (m.beaconOff n k)).phs.devArmed := by
  rw [m.acceptBeacon_running n k h]
  split_ifs
  · exact ⟨rfl, rfl⟩
  · exact ⟨rfl, rfl⟩

/-- A beacon without EPOCH_ADV only corrects (R44, R45). -/
theorem Mach.acceptBeacon_corrects (m : Mach) (n : Nat) (k : Pkt) (h : m.phsState = 2 ∨ m.phsState = 3)
    (he : bitOf (fieldAt k.payload 6 1) 2 = false) :
    (m.acceptBeacon n k).phase = m.phase ∧ (m.acceptBeacon n k).phs.corr = corrOf (m.beaconOff n k) := by
  obtain ⟨-, b, hp⟩ := m.checkDev_frame (m.beaconOff n k)
  rw [m.acceptBeacon_running n k h, if_neg (by simp [he])]
  have hc : (m.checkDev (m.beaconOff n k)).phs.phase = m.phs.phase := by rw [hp]
  exact ⟨Mach.phase_congr hc, rfl⟩

/-- Settles O2, by the check of the deviation, which a beacon in LOCKED or HOLDOVER always meets. -/
theorem phaseDevRule : Obligations.PhaseDevRule := by
  intro m n k hs
  obtain ⟨hr, ha⟩ := m.acceptBeacon_dev n k hs
  obtain ⟨hraise, hstay, hback⟩ := m.checkDev_cases (m.beaconOff n k)
  rw [← hr, ← ha] at hraise hstay hback
  exact ⟨by decide, hraise, hstay, hback, m.acceptBeacon_corrects n k hs⟩

end Sys2Proof.Machine

namespace Sys2Proof.Machine

/-! ### The cold reset state -/

theorem reset_rd (a : Nat) : State.reset.m.rd a = BitVec.ofNat 32 (resetAt a) := rfl

/-- A field of a register at reset is that of its reset value. -/
theorem reset_fld (a hi lo : Nat) : State.reset.m.fld a hi lo = bitsOf (BitVec.ofNat 32 (resetAt a)).toNat hi lo := rfl

theorem resetAt_SLOT_TABLE : ∀ (j : Fin 24) (i : Fin 64), resetAt (A.SLOT_TABLE j.val (4 * i.val)) = 0x10101010 := by decide +kernel
theorem resetAt_BRL_PORT_STS : ∀ n : Fin 8, resetAt (A.BRL_PORT_STS n.val) = 0 := by decide +kernel
theorem resetAt_ETH_STS : ∀ n : Fin 16, resetAt (A.ETH_STS n.val) = 0 := by decide +kernel
theorem resetAt_PART_STS : ∀ p : Fin 16, resetAt (partReg A.PART_STS p.val) = 0 := by decide +kernel
theorem resetAt_MEM_CH_STS : ∀ c : Fin 64, resetAt (A.MEM_CH_STS c.val) = 0 := by decide +kernel

/-- A source is IDLE at reset, whatever its class puts in the other fields. -/
theorem resetAt_INT_SRC_STS_state : ∀ x : Fin 1024, bitsOf (BitVec.ofNat 32 (resetAt (A.INT_SRC_STS x.val))).toNat 31 30 = 0 := by
  decide +kernel

/-- A field of a register whose reset value is 0 reads 0 at reset. -/
theorem reset_fld_zero {a : Nat} (h : resetAt a = 0) (hi lo : Nat) : State.reset.m.fld a hi lo = 0 := by
  rw [reset_fld, h]
  simp [bitsOf]

/-- Settles O58: nothing is listed at reset, so every register reads its reset value. -/
theorem coldResetState : Obligations.ColdResetState := by
  unfold Obligations.ColdResetState
  refine ⟨rfl, rfl, by decide, by decide, by decide, by decide, by decide, ?_, ?_, ?_, ?_, ?_, fun _ => rfl, by decide, ?_, by decide,
    by decide, rfl, rfl, reset_rd⟩
  · intro j i
    rw [reset_rd, resetAt_SLOT_TABLE]
    rfl
  · exact fun n => reset_fld_zero (resetAt_BRL_PORT_STS n) 2 0
  · exact fun n => reset_fld_zero (resetAt_ETH_STS n) 2 0
  · exact fun p => reset_fld_zero (resetAt_PART_STS p) 1 0
  · exact fun c => reset_fld_zero (resetAt_MEM_CH_STS c) 2 0
  · exact resetAt_INT_SRC_STS_state

end Sys2Proof.Machine

namespace Sys2Proof.Machine

/-! ### Packets that reach the hub on a ring port -/

/-- A whole packet that the table of its port sends to the hub enters the receive checks (R126, R439). -/
theorem Mach.packet_ring (m : Mach) (n : Fin 8) (opc : BitVec 8) (k : Pkt) (ha : m.asleep = false) (hu : m.ringUp n.val = true)
    (hw : k.whole = true) (hr : k.dst.toNat = 0xFFFFF ∨ m.route n.val k.dst.toNat = some 8) :
    m.packet (.ring n) opc k = m.recv handler Mach.response (.ring n) opc k := by
  have hf : m.forHub (.ring n) k = true := by simpa [Mach.forHub] using hr
  simp [Mach.packet, Mach.arrive, ha, hf, hu, hw]

/-- A packet for this node is local by every table (R439). -/
theorem Mach.route_own (m : Mach) (t : Nat) : m.route t m.node = some 8 := if_pos rfl

/-- The opcode of a response is neither that of a beacon nor that of a RING_CTL packet (R108). -/
theorem isResponse_not_ctl {o : Nat} (h : isResponse o = true) : (o = 0x70 || o = 0x71) = false := by
  simp only [isResponse, List.contains_eq_mem, List.mem_cons, List.not_mem_nil, decide_eq_true_eq, or_false] at h
  simp only [Bool.or_eq_false_iff, decide_eq_false_iff_not]
  omega

/-- A response that passes steps 2 to 9 is matched with the requests of this H9 (R107, R128). -/
theorem Mach.recv_response (m : Mach) (ing : Ingress) (opc : BitVec 8) (k0 k : Pkt) (hresp : isResponse opc.toNat = true)
    (hver : k0.ver = 1) (hq : m.queueOwner k0.queue.toNat = some k0.part.val) (ho : m.openPkt opc k0 = some k)
    (hvc : vcOf opc.toNat = some k.vc.toNat) (hh : hdrCheck opc.toNat k = none) (hd : k.dst.toNat = m.node)
    (hp : k.plen.toNat ≤ m.maxPlen ing k.enc) (hl : lenOkFor opc.toNat (m.maxPlen ing k.enc) k = true) :
    m.recv handler Mach.response ing opc k0 = m.response opc k := by
  have hc := isResponse_not_ctl hresp
  simp only [Bool.or_eq_false_iff, decide_eq_false_iff_not] at hc
  have hp' : ¬ m.maxPlen ing k.enc < k.plen.toNat := Nat.not_lt.2 hp
  simp [Mach.recv, hver, hq, ho, hvc, hh, hd, hp', hl, hresp, hc]

/-- The same of a packet that is admitted on a ring port. -/
theorem Mach.packet_response (m : Mach) (ing : Ingress) (opc : BitVec 8) (k0 k : Pkt) (hresp : isResponse opc.toNat = true)
    (h : m.admits ing opc k0 k) (hring : ing.isRing = true) : m.packet ing opc k0 = m.response opc k := by
  obtain ⟨ha, ht, hw, hver, hq, ho, hvc, hh, hd, hp, hl⟩ := h
  cases ing with
  | ring n =>
    rw [m.packet_ring n opc k0 ha ht.1 hw ht.2]
    exact m.recv_response _ opc k0 k hresp hver hq ho hvc hh hd hp hl
  | eth _ _ _ _ _ => cases hring

/-! ### What a response does (R107, R469) -/

section
variable (m : Mach) (k : Pkt)

/-- The machine that has dropped a packet with no response. -/
def Mach.droppedOne (m : Mach) : Mach := { m with net := { m.net with dropped := m.net.dropped + 1 } }

theorem Mach.response_unmatched (opc : BitVec 8) (h : m.reqOf k = none) : m.response opc k = m.droppedOne := by
  simp [Mach.response, h, Mach.droppedOne]

/-- A response of a kind that no request of the H9 draws is dropped, matched or not (R107). -/
theorem Mach.response_other (opc : BitVec 8) (h60 : opc ≠ 0x60) (h61 : opc ≠ 0x61) : m.response opc k = m.droppedOne := by
  unfold Mach.response Mach.droppedOne
  cases m.reqOf k with
  | none => rfl
  | some r => exact (if_neg h60).trans (if_neg h61)

/-- An ACK ends a request that belongs to no graph node. -/
theorem Mach.response_ack (r : Req) (h : m.reqOf k = some r) (hn : r.node = none) :
    m.response 0x60 k = m.dropReq r.pkt.queue.toNat r.pkt.seq.toNat := by
  simp [Mach.response, h, hn, Mach.reqAcked]

/-- An RNR within the limit starts a back-off. -/
theorem Mach.response_rnr (r : Req) (h : m.reqOf k = some r) (h7 : fieldAt k.payload 0 1 = 7) (hl : r.rnrs < m.fld A.HRMP_TMR 23 16) :
    m.response 0x61 k = m.putReq { r with rnrs := r.rnrs + 1, backoff := true } := by
  have hl' : ¬ m.fld A.HRMP_TMR 23 16 ≤ r.rnrs := Nat.not_le.2 hl
  simp [Mach.response, h, Mach.reqNak, h7, hl']

end

/-! ### Packets in the clear -/

/-- A packet in the clear is taken as it is where its opcode, or partition 0 without a key, asks for no key (R125). -/
theorem Mach.openPkt_clear (m : Mach) (opc : BitVec 8) (k : Pkt) (henc : k.enc = false)
    (h : (0x50 ≤ opc.toNat ∧ opc.toNat ≤ 0x54) ∨ (k.part.val = 0 ∧ m.hasKey 0 = false)) : m.openPkt opc k = some k := by
  unfold Mach.openPkt
  rcases h with h | ⟨hp, hk⟩
  · simp [h, henc]
  · simp [hp, hk, henc]

/-- Partition 0 without a link key sends nothing sealed (R125, R480). -/
theorem Mach.sealPkt_clear (m : Mach) (opc : BitVec 8) (k : Pkt) (hk : m.hasKey k.part.val = false) : m.sealPkt opc k = k := by
  have : m.linkKey k.part.val = none := by simpa [Mach.hasKey] using hk
  simp [Mach.sealPkt, this]

/-- A packet of the hub that has a route waits behind those that wait (R439). -/
theorem Mach.sendRing_routed (m : Mach) (opc : BitVec 8) (k : Pkt) (rcv : Bool) (hr : (m.route 8 k.dst.toNat).isSome = true) :
    ∃ g, m.sendRing opc k rcv = m.enqueue
      { port := g, vc := k.vc.toNat, opc := opc, pkt := k, dest := none, transit := none, recovery := rcv } := by
  obtain ⟨g, hg⟩ := Option.isSome_iff_exists.1 hr
  exact ⟨if g = 8 then 31 else g, by simp [Mach.sendRing, hg]⟩

/-- The header of a response before it is sealed (R107). -/
def Mach.rspPkt (m : Mach) (k : Pkt) (b : List Byte) : Pkt :=
  m.mkPkt 0x93 1 k.part.val k.src.toNat k.queue.toNat (tget m.net.rspCtr k.queue.toNat 0) k.seq.toNat b

/-- The response counter of a queue has moved on (R107). -/
def Mach.countRsp (m : Mach) (k : Pkt) : Mach :=
  { m with net := { m.net with rspCtr := tset m.net.rspCtr k.queue.toNat (tget m.net.rspCtr k.queue.toNat 0 + 1) } }

/-- A response of partition 0 without a link key leaves in the clear, whatever its opcode. -/
theorem Mach.respondWith_operator (m : Mach) (clear : Bool) (ing : Ingress) (k : Pkt) (opc : BitVec 8) (b : List Byte)
    (hp : k.part = 0) (hk : m.hasKey 0 = false) : m.respondWith clear ing k opc b = (m.countRsp k).sendTo ing opc (m.rspPkt k b) := by
  have hs : m.sealPkt opc (m.rspPkt k b) = m.rspPkt k b := m.sealPkt_clear opc _ (by
    rw [show (m.rspPkt k b).part = Fin.ofNat 16 k.part.val from rfl, hp]; exact hk)
  unfold Mach.respondWith
  dsimp only
  rw [if_neg (by simp [hp])]
  change (m.countRsp k).sendTo ing opc (if clear = true then m.rspPkt k b else m.sealPkt opc (m.rspPkt k b)) = _
  rw [hs, ite_self]

/-- On the ring it is one frame more that waits, and memory and registers stand. -/
theorem Mach.respondWith_ring (m : Mach) (clear : Bool) (n : Fin 8) (k : Pkt) (opc : BitVec 8) (b : List Byte) (hp : k.part = 0)
    (hk : m.hasKey 0 = false) (hr : (m.route 8 k.src.toNat).isSome = true) :
    (m.respondWith clear (.ring n) k opc b).responded m k opc ∧ (m.respondWith clear (.ring n) k opc b).mem = m.mem ∧
    (m.respondWith clear (.ring n) k opc b).regs = m.regs := by
  have hd : (m.rspPkt k b).dst = k.src := BitVec.ofNat_toNat _ _
  have hr' : ((m.countRsp k).route 8 (m.rspPkt k b).dst.toNat).isSome = true := by rw [hd]; exact hr
  obtain ⟨g, hg⟩ := (m.countRsp k).sendRing_routed opc (m.rspPkt k b) false hr'
  rw [m.respondWith_operator clear _ k opc b hp hk, show (m.countRsp k).sendTo (.ring n) opc (m.rspPkt k b) = _ from hg]
  exact ⟨⟨_, rfl, rfl, rfl, hd, BitVec.ofNat_toNat _ _, BitVec.ofNat_toNat _ _⟩, rfl, rfl⟩

/-- Every response has a virtual channel (R108). -/
theorem not_isResponse_of_vcOf {o : Nat} (h : vcOf o = none) : isResponse o = false := by
  by_contra hr
  simp only [isResponse, List.contains_eq_mem, List.mem_cons, List.not_mem_nil, or_false, decide_eq_true_eq, Bool.not_eq_false] at hr
  rcases hr with rfl | rfl | rfl | rfl | rfl | rfl | rfl <;> simp [vcOf] at h

/-- An opcode with no virtual channel draws a NAK with UNSUPPORTED (R108). -/
theorem Mach.recv_reserved (m : Mach) (ing : Ingress) (opc : BitVec 8) (k : Pkt) (hv : vcOf opc.toNat = none) (hver : k.ver = 1)
    (hq : m.queueOwner k.queue.toNat = some k.part.val) (ho : m.openPkt opc k = some k) (hpost : k.posted = false) :
    m.recv handler Mach.response ing opc k = m.respondWith (clearAns opc) ing k 0x61 (nakPayload 2 opc 0) := by
  simp [Mach.recv, hver, hq, ho, hv, not_isResponse_of_vcOf hv, Mach.nakWith, hpost]

/-! ### Timers of the H9's own requests (R468, R469) -/

/-- Sending leaves the requests that wait, and every register but BRL_NOROUTE of port 0 (R439, log entry 12). -/
theorem Mach.transmit_frame (m : Mach) (dest : Option Ingress) (opc : BitVec 8) (k : Pkt) :
    (m.transmit dest opc k).net.reqs = m.net.reqs ∧ ∀ a, a ≠ A.BRL_NOROUTE 0 → (m.transmit dest opc k).rd a = m.rd a := by
  have hr : ∀ rcv, (m.sendRing opc k rcv).net.reqs = m.net.reqs ∧ ∀ a, a ≠ A.BRL_NOROUTE 0 → (m.sendRing opc k rcv).rd a = m.rd a := by
    intro rcv
    unfold Mach.sendRing
    cases m.route 8 k.dst.toNat with
    | none => exact ⟨rfl, fun a h => m.rd_bumpF_other _ a 31 0 1 h⟩
    | some g => exact ⟨rfl, fun _ _ => rfl⟩
  unfold Mach.transmit
  split_ifs
  · exact ⟨rfl, fun _ _ => rfl⟩
  · cases dest with
    | none => exact hr false
    | some ing =>
      cases ing with
      | ring n => exact hr false
      | eth _ _ _ _ _ => exact ⟨rfl, fun _ _ => rfl⟩

/-- A saturating counter of 32 bits has counted once (R640). -/
theorem Mach.rd_bump (m : Mach) (a : Nat) : (m.bump a).rd a = BitVec.ofNat 32 (min ((m.rd a).toNat + 1) (2 ^ 32 - 1)) := by
  have hlt : (m.rd a).toNat < 2 ^ 32 := (m.rd a).isLt
  have hf : m.fld a 31 0 = (m.rd a).toNat := Nat.mod_eq_of_lt hlt
  have hs : (m.bump a).fld a 31 0 = min ((m.rd a).toNat + 1) (2 ^ 32 - 1) := by
    unfold Mach.bump Mach.bumpF
    rw [Mach.fld_put_same _ _ _ _ _ (by decide) (by decide), hf]
    exact Nat.mod_eq_of_lt (by omega)
  have hn : (m.bump a).fld a 31 0 = ((m.bump a).rd a).toNat := Nat.mod_eq_of_lt ((m.bump a).rd a).isLt
  rw [← hs, hn, BitVec.ofNat_toNat, BitVec.setWidth_eq]

/-- A retransmission counts in HRMP_RETX and leaves the requests (R468). -/
theorem Mach.resend_outcome (m : Mach) (r : Req) : (m.resend r).net.reqs = m.net.reqs ∧
    (m.resend r).rd (A.HRMP_RETX r.pkt.part.val) =
      BitVec.ofNat 32 (min ((m.rd (A.HRMP_RETX r.pkt.part.val)).toNat + 1) (2 ^ 32 - 1)) := by
  obtain ⟨hq, hr⟩ := (m.bump (A.HRMP_RETX r.pkt.part.val)).transmit_frame r.dest r.opc r.pkt
  have hne : A.HRMP_RETX r.pkt.part.val ≠ A.BRL_NOROUTE 0 := by simp only [A.HRMP_RETX, A.BRL_NOROUTE]; omega
  exact ⟨hq, (hr _ hne).trans (m.rd_bump _)⟩

section
variable {m : Mach} {q seq : Nat} {r : Req} (hf : m.net.reqs.find? (fun r => r.is q seq) = some r)
include hf

theorem Mach.retransmit_again (hb : r.backoff = false) (ht : r.timeouts < m.fld A.HRMP_TMR 31 24) :
    m.retransmit q seq = (m.putReq { r with timeouts := r.timeouts + 1, rnrs := 0 }).resend r := by
  have ht' : ¬ m.fld A.HRMP_TMR 31 24 ≤ r.timeouts := Nat.not_le.2 ht
  simp [Mach.retransmit, hf, hb, ht']

theorem Mach.retransmit_abandon (hb : r.backoff = false) (ht : m.fld A.HRMP_TMR 31 24 ≤ r.timeouts) (hn : r.node = none) :
    m.retransmit q seq = (m.bump (A.HRMP_ABANDON r.pkt.part.val)).dropReq r.pkt.queue.toNat r.pkt.seq.toNat := by
  simp [Mach.retransmit, hf, hb, ht, Mach.abandon, Mach.reqFailed, hn]

theorem Mach.rnrRetry_again (hb : r.backoff = true) : m.rnrRetry q seq = (m.putReq { r with backoff := false }).resend r := by
  simp [Mach.rnrRetry, hf, hb]

end

/-! ### Waiting shares and beacons -/

theorem Mach.shareRelease_next (m : Mach) (n : Nat) (w : Nat × HeldPkt) (h : m.nextWaiting n = some w) :
    m.shareRelease handler Mach.response n =
      ({ m with net := { m.net with wait := m.net.wait.erase w } } : Mach).recv handler Mach.response w.2.ing w.2.opc w.2.pkt := by
  simp [Mach.shareRelease, h]

theorem Mach.beacon_ok (m : Mach) (n : Fin 8) (k : Pkt) (resid : Nat) (hu : m.ringUp n.val = true) (hb : m.beaconOk (.ring n) k = true) :
    m.beacon (.ring n) k resid = m.beaconIn n.val k resid := by
  simp [Mach.beacon, hu, hb]

/-- Settles O22, by the receive checks for what arrives and by the outcomes of the timers. -/
theorem responsesComplete : Obligations.ResponsesComplete := by
  intro s
  refine ⟨fun ing k0 k r ha hf hn hring => ?_, fun ing k0 k r ha hf hring h7 hl => ?_, fun ing k0 k ha hring hf => ?_,
    fun n opc k ho has hu hd hv hw he hq hh hvc hp => ?_, fun n opc k hvc ho has hu hd hv hw he hp hk hpost hq hr => ?_,
    fun n w hu hw => ?_, fun q sq r hf hb ht => ?_, fun q sq r hf hb ht hn => ?_, fun q sq r hf hb => ?_, fun n k resid ha hu hb => ?_⟩
  · refine gives_onMach (f := fun m => m.packet ing 0x60 k0) rfl ?_
    rw [s.m.packet_response ing 0x60 k0 k rfl ha hring, s.m.response_ack k r hf hn]
    exact ⟨rfl, rfl⟩
  · refine gives_onMach (f := fun m => m.packet ing 0x61 k0) rfl ?_
    rw [s.m.packet_response ing 0x61 k0 k rfl ha hring, s.m.response_rnr k r hf h7 hl]
    rfl
  · refine gives_onMach (f := fun m => m.packet ing 0x60 k0) rfl ?_
    rw [s.m.packet_response ing 0x60 k0 k rfl ha hring, s.m.response_unmatched k 0x60 hf]
    rfl
  · have h52 : (0x50 ≤ opc.toNat ∧ opc.toNat ≤ 0x54) ∧ isResponse opc.toNat = true ∧ vcOf opc.toNat = some 1 ∧
        (∀ lim, lenOkFor opc.toNat lim k = true) ∧ opc ≠ 0x60 ∧ opc ≠ 0x61 := by
      rcases ho with rfl | rfl
      · exact ⟨by decide, rfl, rfl, fun _ => rfl, by decide, by decide⟩
      · exact ⟨by decide, rfl, rfl, fun _ => rfl, by decide, by decide⟩
    obtain ⟨hrange, hresp, hvc', hlen, h60, h61⟩ := h52
    refine gives_due (fun m => (isResponse opc.toNat && opc ≠ 0x60 && opc ≠ 0x61) = true) (f := fun m => m.packet (.ring n) opc k) rfl
      (by simp only [hresp, Bool.true_and, Bool.and_eq_true, decide_eq_true_eq]; exact ⟨h60, h61⟩) ?_
    rw [s.m.packet_ring n opc k has hu hw (.inr (hd ▸ s.m.route_own n.val)),
      s.m.recv_response (.ring n) opc k k hresp hv hq (s.m.openPkt_clear opc k he (.inl hrange)) (by rw [hvc', hvc]; rfl) hh hd hp (hlen _),
      s.m.response_other k opc h60 h61]
    rfl
  · refine gives_due (fun m => (vcOf opc.toNat).isNone = true) (f := fun m => m.packet (.ring n) opc k) rfl (by simp [hvc]) ?_
    have hp0 : k.part.val = 0 := by rw [hp]; rfl
    rw [s.m.packet_ring n opc k has hu hw (.inr (hd ▸ s.m.route_own n.val)),
      s.m.recv_reserved _ opc k hvc hv (by rw [hq, hp0]) (s.m.openPkt_clear opc k he (.inr ⟨hp0, hk⟩)) hpost]
    obtain ⟨hresp, hmem, hregs⟩ := s.m.respondWith_ring (clearAns opc) n k 0x61 (nakPayload 2 opc 0) hp hk hr
    exact ⟨hresp, hmem, Mach.rd_of_act (congrArg Regs.act hregs)⟩
  · exact gives_due (fun m => m.ethUp n.val = true) (f := fun m => m.shareRelease handler Mach.response n.val) rfl hu
      (s.m.shareRelease_next n.val w hw)
  · refine gives_onMach (f := fun m => m.retransmit q.toNat sq.toNat) rfl ?_
    rw [Mach.retransmit_again hf hb ht]
    obtain ⟨hq, hr⟩ := (s.m.putReq { r with timeouts := r.timeouts + 1, rnrs := 0 }).resend_outcome r
    exact ⟨hq, hr⟩
  · refine gives_onMach (f := fun m => m.retransmit q.toNat sq.toNat) rfl ?_
    rw [Mach.retransmit_abandon hf hb ht hn]
    exact ⟨rfl, s.m.rd_bump _⟩
  · refine gives_onMach (f := fun m => m.rnrRetry q.toNat sq.toNat) rfl ?_
    rw [Mach.rnrRetry_again hf hb]
    exact (Mach.resend_outcome _ r).1
  · refine gives_onMach (f := fun m => m.event (fun m => m.beacon (.ring n) k resid.toNat)) rfl ?_
    rw [s.m.event_awake _ ha.2]
    exact s.m.beacon_ok n k resid.toNat hu hb

end Sys2Proof.Machine

namespace Sys2Proof.Machine

/-! ### Everything but the active registers -/

/-- The machine with no active value listed: what an update of registers alone leaves. -/
def Mach.rest (m : Mach) : Mach := { m with regs := { m.regs with act := [] } }


/-- What no register shows is the same of machines that differ in active registers only. -/
theorem Mach.of_rest {m n : Mach} {β : Type} (F : Mach → β) (hF : ∀ k : Mach, F k.rest = F k) (h : m.rest = n.rest) : F m = F n := by
  rw [← hF m, h, hF]

/-- A fold whose steps only write registers of a set leaves everything else, and every other register. -/
theorem foldl_regs {α : Type} (l : List α) (g : Mach → α → Mach) (S : Nat → Prop)
    (h : ∀ (m : Mach), ∀ x ∈ l, (g m x).rest = m.rest ∧ ∀ b, ¬ S b → (g m x).rd b = m.rd b) (m : Mach) :
    (l.foldl g m).rest = m.rest ∧ ∀ b, ¬ S b → (l.foldl g m).rd b = m.rd b :=
  ⟨foldl_keeps l g Mach.rest (fun n x hx => (h n x hx).1) m,
    fun b hb => foldl_keeps l g (fun a => a.rd b) (fun n x hx => (h n x hx).2 b hb) m⟩

/-! ### The cold reset -/

theorem Mach.fresh_frame (m : Mach) : m.fresh.keys = [] ∧ m.fresh.phase = 0 ∧ m.fresh.net.sent = m.net.sent ∧ m.fresh.warmReq = false ∧
    m.fresh.sys.lcReset = false := ⟨rfl, rfl, rfl, rfl, rfl⟩

/-- Every register but those that show fuses is at its reset value (R655). -/
theorem Mach.fresh_rd (m : Mach) (a : Nat) (h1 : a ≠ A.GLB_STS) (h2 : a ≠ A.LC_STS) (h3 : a ≠ A.LC_SVN) (h4 : a ≠ A.FW_ASEQ) :
    m.fresh.rd a = BitVec.ofNat 32 (resetAt a) := by
  unfold Mach.fresh
  dsimp only
  rw [Mach.rd_wr_other _ _ _ _ h4, Mach.rd_put_other _ _ _ _ _ _ h3, Mach.rd_put_other _ _ _ _ _ _ h2, Mach.rd_put_other _ _ _ _ _ _ h1]
  rfl

/-- The life-cycle state is fused (R655). -/
theorem Mach.fresh_lcs (m : Mach) : m.fresh.lcs = m.lcs := by
  unfold Mach.fresh Mach.lcs
  dsimp only
  rw [Mach.fld_wr_other _ _ _ _ _ _ (by decide), Mach.fld_put_other _ _ _ _ _ _ _ _ (by decide),
    Mach.fld_put_other _ _ _ _ _ _ _ _ (by decide), Mach.fld_put_same _ _ _ _ _ (by decide) (by decide)]
  exact Nat.mod_eq_of_lt (bitsOf_lt _ 7 4)

/-- PHS is FREE where PHS_STS is at its reset value (R46). -/
theorem Mach.phsState_reset (m : Mach) (h : m.rd A.PHS_STS = BitVec.ofNat 32 (resetAt A.PHS_STS)) : m.phsState = 0 := by
  simp only [Mach.phsState, Mach.fld, h]
  decide

theorem Mach.fresh_phsState (m : Mach) : m.fresh.phsState = 0 :=
  Mach.phsState_reset _ (m.fresh_rd _ (by decide) (by decide) (by decide) (by decide))

/-! ### The warm reset -/

theorem tfind_tset {α : Type} (t : Tab α) (k j : Nat) (v : α) : tfind (tset t k v) j = if k = j then some v else tfind t j := by
  split_ifs with h
  · rw [h, tfind_tset_same]
  · exact tfind_tset_other t k j v (Ne.symm h)

/-- A table looks up the first entry of a key. -/
theorem tfind_eq_filter {α : Type} (t : Tab α) (k : Nat) : tfind t k = (t.filter (fun e => e.1 = k)).head?.map (fun e => e.2) := by
  induction t with
  | nil => rfl
  | cons e r ih =>
    rw [tfind, List.filter_cons]
    by_cases hk : e.1 = k
    · simp [hk]
    · simp [hk, ih]

/-- A cold reset lists the registers that show fuses, and no other. -/
theorem Mach.fresh_keys (m : Mach) : m.fresh.regs.act.map (fun e => e.1) = [A.GLB_STS, A.LC_STS, A.LC_SVN, A.FW_ASEQ] := rfl

theorem tfind_eq_none {α : Type} (t : Tab α) (k : Nat) (h : ∀ e ∈ t, e.1 ≠ k) : tfind t k = none := by
  rw [tfind_eq_filter, List.filter_eq_nil_iff.2 (fun e he => by simpa using h e he)]
  rfl

/-- Entries of different keys put over a table hide it where they are. -/
theorem tfind_foldl_tset {α : Type} (l : List (Nat × α)) (hl : l.Pairwise (fun e f => e.1 ≠ f.1)) (t : Tab α) (k : Nat) :
    tfind (l.foldl (fun t e => tset t e.1 e.2) t) k = (tfind l k).or (tfind t k) := by
  induction l generalizing t with
  | nil => rfl
  | cons e r ih =>
    obtain ⟨he, hr⟩ := List.pairwise_cons.1 hl
    rw [List.foldl_cons, ih hr, tfind_tset, tfind]
    split_ifs with hk
    · rw [tfind_eq_none r k (fun f hf => hk ▸ (he f hf).symm)]
      rfl
    · rfl

theorem Mach.tfind_over_fresh (m : Mach) (t : Tab Word) (a : Nat) :
    tfind (m.fresh.regs.act.foldl (fun t e => tset t e.1 e.2) t) a = (tfind m.fresh.regs.act a).or (tfind t a) :=
  tfind_foldl_tset _ (List.pairwise_map.1 (by rw [m.fresh_keys]; decide : (m.fresh.regs.act.map (fun e => e.1)).Pairwise (· ≠ ·))) t a

/-- The machine of a warm reset before the registers that it sets anew: the cold state with what R656 keeps. -/
def Mach.warmBase (m : Mach) : Mach :=
  let n := m.fresh
  { n with
    gone := [everyTarget]
    regs := { n.regs with act := n.regs.act.foldl (fun t e => tset t e.1 e.2) (m.regs.act.filter (fun e => warmKept e.1)) }
    mem := { failed := m.mem.failed, badDev := m.mem.badDev }
    flt := { outSince := m.flt.outSince, reclaimed := m.flt.reclaimed, spareUsed := m.flt.spareUsed, dead := m.flt.dead }
    qitems := m.qitems.filter (fun e => e.1 / 2 ^ 16 = fltLog)
    net := { n.net with gaps := m.net.gaps.filter (fun e => e.1 = fltLog) }
    sys := { n.sys with slots := m.sys.slots } }

/-- The status of the memory channels and of the tiles that a warm reset carries over from `m` (R656). -/
def Mach.warmUnits (m n : Mach) : Mach :=
  let n := (List.range 64).foldl (fun a c =>
    let a := if m.bit (A.MEM_CH_STS c) 7 then a.putBit (A.MEM_CH_STS c) 7 true else a
    if m.chState c = 5 then a.setChState c 5 else a) n
  (List.range 80).foldl (fun a t =>
    if m.fld (A.TILE_STS t) 31 30 = 0 then a else a.put (A.TILE_STS t) 31 30 (m.fld (A.TILE_STS t) 31 30)) n

/-- The state of Silt that a warm reset carries over (R656). -/
def Mach.warmSilt (m n : Mach) : Mach := if m.siltState = 4 then n.setSiltState 4 else n

theorem Mach.warm_eq (m : Mach) :
    m.warm = m.warmSilt (if m.flt.dead then (m.warmUnits m.warmBase).keepLost else m.warmUnits m.warmBase) := by
  unfold Mach.warm Mach.warmSilt Mach.warmUnits Mach.warmBase
  dsimp only

/-- The registers that a warm reset sets anew, but for those of KAOLIN_LOST. -/
def warmUnit (a : Nat) : Prop := (∃ c < 64, a = A.MEM_CH_STS c) ∨ (∃ t < 80, a = A.TILE_STS t) ∨ a = A.SILT_STS

/-- The registers that KAOLIN_LOST sets (R642). -/
def lostReg (a : Nat) : Prop := a = A.FLT_QUIESCE ∨ a = A.FLT_EGRESS ∨ a = A.FLT_PIN

theorem Mach.warmUnits_frame (m n : Mach) : (m.warmUnits n).rest = n.rest ∧ ∀ b, ¬ warmUnit b → (m.warmUnits n).rd b = n.rd b := by
  have hc := foldl_regs (List.range 64) (fun a c =>
    let a := if m.bit (A.MEM_CH_STS c) 7 then a.putBit (A.MEM_CH_STS c) 7 true else a
    if m.chState c = 5 then a.setChState c 5 else a) warmUnit (fun a c hc => by
      have hb : ∀ b, ¬ warmUnit b → b ≠ A.MEM_CH_STS c := fun b hb h => hb (.inl ⟨c, List.mem_range.1 hc, h⟩)
      dsimp only
      split_ifs
      · exact ⟨rfl, fun b h => by rw [Mach.setChState, Mach.rd_put_other _ _ _ _ _ _ (hb b h), Mach.rd_putBit_other _ _ _ _ _ (hb b h)]⟩
      · exact ⟨rfl, fun b h => by rw [Mach.setChState, Mach.rd_put_other _ _ _ _ _ _ (hb b h)]⟩
      · exact ⟨rfl, fun b h => by rw [Mach.rd_putBit_other _ _ _ _ _ (hb b h)]⟩
      · exact ⟨rfl, fun _ _ => rfl⟩) n
  have ht := foldl_regs (List.range 80) (fun a t =>
    if m.fld (A.TILE_STS t) 31 30 = 0 then a else a.put (A.TILE_STS t) 31 30 (m.fld (A.TILE_STS t) 31 30)) warmUnit (fun a t ht => by
      split_ifs
      · exact ⟨rfl, fun _ _ => rfl⟩
      · exact ⟨rfl, fun b h => Mach.rd_put_other _ _ _ _ _ _ (fun e => h (.inr (.inl ⟨t, List.mem_range.1 ht, e⟩)))⟩)
  exact ⟨(ht _).1.trans hc.1, fun b h => ((ht _).2 b h).trans (hc.2 b h)⟩

theorem Mach.warmSilt_frame (m n : Mach) : (m.warmSilt n).rest = n.rest ∧ ∀ b, b ≠ A.SILT_STS → (m.warmSilt n).rd b = n.rd b := by
  unfold Mach.warmSilt
  split_ifs
  · exact ⟨rfl, fun b h => Mach.rd_put_other _ _ _ _ _ _ h⟩
  · exact ⟨rfl, fun _ _ => rfl⟩

theorem Mach.keepLost_frame (n : Mach) : n.keepLost.rest = n.rest ∧ ∀ b, ¬ lostReg b → n.keepLost.rd b = n.rd b := by
  refine ⟨rfl, fun b h => ?_⟩
  simp only [lostReg, not_or] at h
  obtain ⟨hq, he, hp⟩ := h
  unfold Mach.keepLost Mach.driveErr
  rw [Mach.rd_putBit_other _ _ _ _ _ hp, Mach.rd_putBit_other _ _ _ _ _ hp, Mach.rd_putBit_other _ _ _ _ _ hp,
    Mach.rd_putBit_other _ _ _ _ _ he, Mach.rd_wr_other _ _ _ _ hq]

/-- What a warm reset leaves: all but registers as in its base, and every register that it does not set anew. -/
theorem Mach.warm_frame (m : Mach) : m.warm.rest = m.warmBase.rest ∧
    ∀ b, ¬ warmUnit b → (m.flt.dead = true → ¬ lostReg b) → m.warm.rd b = m.warmBase.rd b := by
  obtain ⟨hur, hu⟩ := m.warmUnits_frame m.warmBase
  have hs : ∀ b, ¬ warmUnit b → b ≠ A.SILT_STS := fun b h e => h (.inr (.inr e))
  rw [m.warm_eq]
  split_ifs with hd
  · obtain ⟨hkr, hk⟩ := (m.warmUnits m.warmBase).keepLost_frame
    exact ⟨((m.warmSilt_frame _).1.trans hkr).trans hur,
      fun b h hl => (((m.warmSilt_frame _).2 b (hs b h)).trans (hk b (hl hd))).trans (hu b h)⟩
  · exact ⟨(m.warmSilt_frame _).1.trans hur, fun b h _ => ((m.warmSilt_frame _).2 b (hs b h)).trans (hu b h)⟩

/-- No register that is set anew is one that a warm reset keeps whole. -/
theorem not_warmUnit_of_kept {a : Nat} (h : warmKept a = true) : ¬ warmUnit a := by
  simp only [warmKept, Bool.or_eq_true, Bool.and_eq_true, decide_eq_true_eq, A.SILT_FAILS, A.FLT_FIRST_STS, A.FLT_OVF] at h
  simp only [fltLog] at h
  rintro (⟨c, hc, e⟩ | ⟨t, ht, e⟩ | e)
  · simp only [A.MEM_CH_STS] at e; omega
  · simp only [A.TILE_STS] at e; omega
  · simp only [A.SILT_STS] at e; omega

theorem Mach.warmBase_rd (m : Mach) (a : Nat) : m.warmBase.rd a =
    ((tfind m.fresh.regs.act a).or (tfind (m.regs.act.filter (fun e => warmKept e.1)) a)).getD (BitVec.ofNat 32 (resetAt a)) := by
  rw [← m.tfind_over_fresh]
  rfl

/-- A register that a warm reset keeps whole reads as before (R656). -/
theorem Mach.warmBase_rd_kept (m : Mach) (a : Nat) (w : Word) (hk : warmKept a = true) (h : m.regs.act.filter (fun e => e.1 = a) = [(a, w)]) :
    m.warmBase.rd a = w := by
  have hs : ∀ e : Nat × Word, (decide (e.1 = a) && warmKept e.1) = decide (e.1 = a) := fun e => by
    by_cases he : e.1 = a
    · simp [he, hk]
    · simp [he]
  have ht : tfind (m.regs.act.filter (fun e => warmKept e.1)) a = some w := by
    rw [tfind_eq_filter, List.filter_filter, funext hs, h]
    rfl
  have hfuse : ∀ k ∈ [A.GLB_STS, A.LC_STS, A.LC_SVN, A.FW_ASEQ], warmKept k = false := by decide
  have hf : tfind m.fresh.regs.act a = none := tfind_eq_none _ a (fun e he hea => by
    have hmem : a ∈ m.fresh.regs.act.map (fun e => e.1) := hea ▸ List.mem_map_of_mem he
    exact Bool.false_ne_true ((hfuse a hmem).symm.trans hk))
  rw [m.warmBase_rd, ht, hf]
  rfl

/-- Any other register is as a cold reset leaves it (R656). -/
theorem Mach.warmBase_rd_other (m : Mach) (a : Nat) (hk : warmKept a = false) : m.warmBase.rd a = m.fresh.rd a := by
  have ht : tfind (m.regs.act.filter (fun e => warmKept e.1)) a = none := by
    refine tfind_eq_none _ a (fun e he hea => ?_)
    rw [List.mem_filter, hea, hk] at he
    exact Bool.false_ne_true he.2
  rw [m.warmBase_rd, ht, Option.or_none]
  rfl

/-- A register that a warm reset neither keeps nor sets anew is as a cold reset leaves it. -/
theorem Mach.warm_rd_fresh (m : Mach) (a : Nat) (hk : warmKept a = false) (hu : ¬ warmUnit a) (hl : ¬ lostReg a) :
    m.warm.rd a = m.fresh.rd a :=
  (m.warm_frame.2 a hu (fun _ => hl)).trans (m.warmBase_rd_other a hk)

/-- What KAOLIN_LOST leaves stands after a warm reset (R642). -/
theorem Mach.warm_lost (m : Mach) (hd : m.flt.dead = true) : m.warm.rd A.FLT_QUIESCE = 0xFFFF ∧ m.warm.bit A.FLT_EGRESS 0 = true := by
  rw [m.warm_eq, if_pos hd]
  generalize m.warmUnits m.warmBase = n
  have hs := (m.warmSilt_frame n.keepLost).2
  refine ⟨?_, ?_⟩
  · rw [hs _ (by decide)]
    unfold Mach.keepLost Mach.driveErr
    rw [Mach.rd_putBit_other _ _ _ _ _ (by decide), Mach.rd_putBit_other _ _ _ _ _ (by decide), Mach.rd_putBit_other _ _ _ _ _ (by decide),
      Mach.rd_putBit_other _ _ _ _ _ (by decide), Mach.rd_wr_same]
  · have hb : (m.warmSilt n.keepLost).bit A.FLT_EGRESS 0 = n.keepLost.bit A.FLT_EGRESS 0 := by simp only [Mach.bit, hs A.FLT_EGRESS (by decide)]
    rw [hb]
    unfold Mach.keepLost Mach.driveErr
    rw [Mach.bit_putBit_other _ _ _ _ _ _ (by decide), Mach.bit_putBit_other _ _ _ _ _ _ (by decide),
      Mach.bit_putBit_other _ _ _ _ _ _ (by decide), Mach.bit_putBit_same _ _ _ _ (by decide)]

/-- A register below the pages of channels and tiles, and not Silt's status, is not carried over from a unit. -/
theorem not_warmUnit_low {a : Nat} (h : a < 0x400000) (hs : a ≠ A.SILT_STS) : ¬ warmUnit a := by
  rintro (⟨c, -, e⟩ | ⟨t, -, e⟩ | e)
  · simp only [A.MEM_CH_STS] at e; omega
  · simp only [A.TILE_STS] at e; omega
  · exact hs e

/-- What a warm reset leaves of the phase, the keys, the pass and the life cycle (R651, R656). -/
theorem Mach.warm_outcome (m : Mach) : m.warm.keys = [] ∧ m.warm.phase = 0 ∧ m.warm.phsState = 0 ∧ m.warm.warmReq = false ∧
    m.warm.sys.lcReset = false ∧ m.warm.isGone everyTarget = true ∧ m.warm.lcs = m.lcs := by
  have hr : m.warm.rest = m.warmBase.rest := m.warm_frame.1
  have hphs : m.warm.rd A.PHS_STS = BitVec.ofNat 32 (resetAt A.PHS_STS) :=
    (m.warm_rd_fresh _ (by decide) (not_warmUnit_low (by decide) (by decide)) (by unfold lostReg; decide)).trans
      (m.fresh_rd _ (by decide) (by decide) (by decide) (by decide))
  have hglb : m.warm.rd A.GLB_STS = m.fresh.rd A.GLB_STS :=
    m.warm_rd_fresh _ (by decide) (not_warmUnit_low (by decide) (by decide)) (by unfold lostReg; decide)
  have hgone : m.warm.gone = [everyTarget] := Mach.of_rest Mach.gone (fun _ => rfl) hr
  refine ⟨Mach.of_rest Mach.keys (fun _ => rfl) hr, Mach.of_rest Mach.phase (fun _ => rfl) hr, Mach.phsState_reset _ hphs, Mach.of_rest Mach.warmReq (fun _ => rfl) hr,
    Mach.of_rest (fun n => n.sys.lcReset) (fun _ => rfl) hr, by rw [Mach.isGone, hgone]; decide, ?_⟩
  rw [← m.fresh_lcs, Mach.lcs, Mach.lcs, Mach.fld, Mach.fld, hglb]

theorem Mach.warm_rd_kept (m : Mach) (a : Nat) (w : Word) (hd : m.flt.dead = false) (hk : warmKept a = true)
    (h : m.regs.act.filter (fun e => e.1 = a) = [(a, w)]) : m.warm.rd a = w :=
  (m.warm_frame.2 a (not_warmUnit_of_kept hk) (by simp [hd])).trans (m.warmBase_rd_kept a w hk h)

/-! ### Commands that ask for resets (R93, R653, R654, R670) -/

/-- A register write that its row names gives what the write of the register gives. -/
theorem gives_write {c : Instr} {s : State} {who : Ident} {off v : Nat} {n : Mach} {P : Mach → Prop}
    (hx : exec c s = s.onMach (fun m => m.writeCmd who off v)) (hw : s.m.writeCmd who off v = n) (hp : P n) : Gives c s P :=
  gives_onMach hx (by rwa [hw])

theorem Mach.writeGlbRst_keyed (m : Mach) (v : Nat) (hk : bitsOf v 31 16 = 0xD7A9) (hb : bitOf v 0 = true) :
    m.writeGlbRst v = { m with warmReq := true } := if_pos (by simp [hk, hb])

theorem Mach.writeGlbRst_other (m : Mach) (v : Nat) (hk : bitsOf v 31 16 ≠ 0xD7A9) : m.writeGlbRst v = m := if_neg (by simp [hk])

theorem Mach.writeRstUnit_busy (m : Mach) (v : Nat) (h : m.bit A.LC_RES 31 = false) : m.writeRstUnit v = m := by
  simp [Mach.writeRstUnit, h]

/-- RST_UNIT names the unit before the command is checked (R670). -/
def Mach.namedUnit (m : Mach) (u : Nat) : Mach := m.put A.RST_UNIT 11 0 u

theorem Mach.namedUnit_state (m : Mach) (u w : Nat) (h : w < 4096) : (m.namedUnit u).unitState w = m.unitState w :=
  m.fld_put_other _ _ _ _ _ _ _ (by simp only [A.FLT_USTS, A.RST_UNIT]; omega)

/-- The reset of unit `u` has begun (R653, R670). -/
def Mach.unitStarts (m : Mach) (u : Nat) : Mach :=
  { ((m.namedUnit u).putBit A.RST_UNIT 31 true).lcRes 0 false with sys := { m.sys with resetting := (u :: m.sys.resetting).eraseDups } }

theorem Mach.writeRstUnit_starts (m : Mach) (v : Nat) (hr : m.bit A.LC_RES 31 = true) (hb : bitOf v 31 = true)
    (hu : m.unitState (v % 4096) = 3) (hok : resettable (v % 4096) = true) : m.writeRstUnit v = m.unitStarts (v % 4096) := by
  have hs : (m.namedUnit (v % 4096)).unitState (v % 4096) = 3 := by rw [m.namedUnit_state _ _ (Nat.mod_lt _ (by decide)), hu]
  unfold Mach.namedUnit at hs
  simp [Mach.writeRstUnit, hr, hb, hs, hok, Mach.namedUnit, Mach.unitStarts]

theorem Mach.unitStarts_outcome (m : Mach) (u : Nat) (h : u < 4096) :
    u ∈ (m.unitStarts u).sys.resetting ∧ (m.unitStarts u).bit A.RST_UNIT 31 = true ∧
    (m.unitStarts u).fld A.RST_UNIT 11 0 = u ∧ (m.unitStarts u).rd A.LC_RES = 0 := by
  have ha : (m.unitStarts u).regs.act = (((m.namedUnit u).putBit A.RST_UNIT 31 true).lcRes 0 false).regs.act := rfl
  rw [Mach.bit_of_act ha, Mach.fld_of_act ha, Mach.rd_of_act ha, Mach.lcRes, Mach.bit_wr_other _ _ _ _ _ (by decide),
    Mach.bit_putBit_same _ _ _ _ (by decide), Mach.fld_wr_other _ _ _ _ _ _ (by decide),
    Mach.fld_putBit_disjoint _ _ _ _ _ _ (by decide) (by decide), Mach.namedUnit, Mach.fld_put_same _ _ _ _ _ (by decide) (by decide),
    Mach.rd_wr_same]
  exact ⟨by simp [Mach.unitStarts], rfl, Nat.mod_eq_of_lt h, rfl⟩

theorem Mach.unitStarts_answered (m : Mach) (u : Nat) (h : u < 4096) :
    (m.unitStarts u).answered.resp = [(0, 0)] ∧ u ∈ (m.unitStarts u).answered.sys.resetting ∧ (m.unitStarts u).answered.bit A.RST_UNIT 31 = true ∧
    (m.unitStarts u).answered.fld A.RST_UNIT 11 0 = u ∧ (m.unitStarts u).answered.rd A.LC_RES = 0 := by
  have ha : (m.unitStarts u).answered.regs.act = (m.unitStarts u).regs.act := rfl
  rw [Mach.bit_of_act ha, Mach.fld_of_act ha, Mach.rd_of_act ha]
  exact ⟨rfl, m.unitStarts_outcome u h⟩

theorem Mach.writeRstUnit_refused (m : Mach) (v : Nat) (hr : m.bit A.LC_RES 31 = true) (hb : bitOf v 31 = true)
    (hu : m.unitState (v % 4096) ≠ 3) : m.writeRstUnit v = (m.namedUnit (v % 4096)).lcRes 1 true := by
  have hs : (m.namedUnit (v % 4096)).unitState (v % 4096) ≠ 3 := by rwa [m.namedUnit_state _ _ (Nat.mod_lt _ (by decide))]
  unfold Mach.namedUnit at hs
  simp [Mach.writeRstUnit, hr, hb, hs, Mach.namedUnit]

/-! ### The end of a unit reset (R653) -/

theorem tfind_terase {α : Type} (t : Tab α) (k : Nat) : tfind (terase t k) k = none :=
  tfind_eq_none _ k (fun e he => by simpa using (List.mem_filter.1 he).2)

theorem Mach.zeroTile_tile (m : Mach) (t : Nat) : (m.zeroTile t).tile t = {} := by
  simp [Mach.tile, tget, Mach.zeroTile, tfind_terase]

/-- Outside the pages of the tile its counters and fault record, registers stand. -/
theorem Mach.clearTileRegs_rd (m : Mach) (t a : Nat) (h : a < 0x800000) : (m.clearTileRegs t).rd a = m.rd a := by
  have hp : ∀ e : Nat × Word, e.1 = a → (!((A.TILE_KFAULT t ≤ e.1 && e.1 ≤ A.TILE_KFAULT_DET_HI t) ||
      (A.CNT_CYC_LO t ≤ e.1 && e.1 ≤ A.CNT_STALL t) || (A.ACC_STS t 0 ≤ e.1 && e.1 ≤ A.ACC_STS t 7))) = true := fun e he => by
    simp only [he, A.TILE_KFAULT, A.CNT_CYC_LO, A.ACC_STS, Bool.not_eq_true', Bool.or_eq_false_iff, Bool.and_eq_false_iff,
      decide_eq_false_iff_not]
    omega
  have hf : (m.clearTileRegs t).regs.act.filter (fun e => e.1 = a) = m.regs.act.filter (fun e => e.1 = a) := by
    unfold Mach.clearTileRegs
    rw [List.filter_filter]
    exact List.filter_congr (fun e _ => by
      by_cases he : e.1 = a
      · rw [hp e he, Bool.and_true]
      · simp [he])
  simp only [Mach.rd, tfind_eq_filter, hf]

/-- The reset of a tile on which nothing runs leaves it idle and zeroized. -/
theorem Mach.unitFresh_tile (m : Mach) (t : Nat) (ht : t < 80) (hn : (m.tile t).node = none) (hg : m.gateOn t = none) :
    m.unitFresh t = ((m.zeroTile t).clearTileRegs t).setTileState t 0 := by
  have hgate : m.gateAgain t = m := by simp [Mach.gateAgain, hg]
  have hlose : m.loseKernel t = m := by simp [Mach.loseKernel, hn]
  unfold Mach.unitFresh
  rw [if_pos (by omega), hgate, hlose]

/-- A unit reset that ends is no longer in progress. -/
def Mach.resetEnded (m : Mach) (u : Nat) : Mach := { m with sys := { m.sys with resetting := m.sys.resetting.filter (· ≠ u) } }

/-- LC_RES and RST_UNIT answer where the unit is the one that RST_UNIT names (R670). -/
def Mach.resetAnswer (m : Mach) (u : Nat) : Mach :=
  if m.bit A.RST_UNIT 31 && m.fld A.RST_UNIT 11 0 = u then (m.putBit A.RST_UNIT 31 false).lcRes 0 true else m

/-- A tile after its reset, before the answer. -/
def Mach.tileReset (m : Mach) (t : Nat) : Mach :=
  ((((m.resetEnded t).setUnit t 1).zeroTile t).clearTileRegs t).setTileState t 0

theorem Mach.unitResetDone_tile (m : Mach) (t : Nat) (ht : t < 80) (hu : m.unitState t = 3) (hn : (m.tile t).node = none)
    (hg : m.gateOn t = none) : m.unitResetDone t true = (m.tileReset t).resetAnswer t := by
  have hu' : ¬ (m.resetEnded t).unitState t ≠ 3 := not_not.2 hu
  have hf : ((m.resetEnded t).setUnit t 1).unitFresh t = m.tileReset t := Mach.unitFresh_tile _ t ht hn hg
  rw [← hf]
  unfold Mach.unitResetDone Mach.resetAnswer
  change (let n := if (m.resetEnded t).unitState t ≠ 3 then m.resetEnded t
      else if true = true then ((m.resetEnded t).setUnit t 1).unitFresh t else ((m.resetEnded t).setUnit t 5).repair t 0
    if n.bit A.RST_UNIT 31 && n.fld A.RST_UNIT 11 0 = t then (n.putBit A.RST_UNIT 31 false).lcRes 0 true else n) = _
  rw [if_neg hu', if_pos rfl]

/-- Outside a tile's own pages its reset changes FLT_USTS of the tile only. -/
theorem Mach.tileReset_rd (m : Mach) (t a : Nat) (h : a < 0x800000) : (m.tileReset t).rd a = ((m.resetEnded t).setUnit t 1).rd a := by
  unfold Mach.tileReset Mach.setTileState
  rw [Mach.rd_put_other _ _ _ _ _ _ (by simp only [A.TILE_STS]; omega), Mach.clearTileRegs_rd _ _ _ h]
  rfl

theorem Mach.resetAnswer_rd (m : Mach) (u a : Nat) (h1 : a ≠ A.RST_UNIT) (h2 : a ≠ A.LC_RES) : (m.resetAnswer u).rd a = m.rd a := by
  unfold Mach.resetAnswer
  split_ifs
  · exact (Mach.rd_wr_other _ _ _ _ h2).trans (Mach.rd_putBit_other _ _ _ _ _ h1)
  · rfl

theorem Mach.resetAnswer_rest (m : Mach) (u : Nat) : (m.resetAnswer u).rest = m.rest := by
  unfold Mach.resetAnswer
  split_ifs
  · rfl
  · rfl

theorem Mach.unitResetDone_tile_outcome (m : Mach) (t : Nat) (ht : t < 80) (hu : m.unitState t = 3) (hn : (m.tile t).node = none)
    (hg : m.gateOn t = none) : let n := m.unitResetDone t true
    n.unitState t = 1 ∧ n.tile t = {} ∧ n.tileState t = 0 ∧ t ∉ n.sys.resetting ∧
    (m.bit A.RST_UNIT 31 = true → m.fld A.RST_UNIT 11 0 = t → n.bit A.RST_UNIT 31 = false ∧ n.rd A.LC_RES = 0x80000000) := by
  have hrest := (m.tileReset t).resetAnswer_rest t
  have husts : A.FLT_USTS t < 0x800000 := by simp only [A.FLT_USTS]; omega
  have hrst : (m.tileReset t).rd A.RST_UNIT = m.rd A.RST_UNIT := by
    rw [m.tileReset_rd t _ (by decide), Mach.setUnit, Mach.rd_put_other _ _ _ _ _ _ (by simp only [A.FLT_USTS, A.RST_UNIT]; omega)]
    rfl
  dsimp only
  rw [m.unitResetDone_tile t ht hu hn hg]
  refine ⟨?_, ?_, ?_, ?_, fun hb hf => ?_⟩
  · unfold Mach.unitState Mach.fld
    rw [Mach.resetAnswer_rd _ _ _ (by simp only [A.FLT_USTS, A.RST_UNIT]; omega) (by simp only [A.FLT_USTS, A.LC_RES]; omega),
      m.tileReset_rd t _ husts]
    exact Mach.fld_put_same _ _ _ _ _ (by decide) (by decide)
  · have ht : ((m.tileReset t).resetAnswer t).tiles = (m.tileReset t).tiles := Mach.of_rest Mach.tiles (fun _ => rfl) hrest
    unfold Mach.tile
    rw [ht]
    exact Mach.zeroTile_tile _ t
  · unfold Mach.tileState Mach.fld
    rw [Mach.resetAnswer_rd _ _ _ (by simp only [A.TILE_STS, A.RST_UNIT]; omega) (by simp only [A.TILE_STS, A.LC_RES]; omega)]
    exact Mach.fld_put_same _ _ _ _ _ (by decide) (by decide)
  · have hs : ((m.tileReset t).resetAnswer t).sys = (m.tileReset t).sys := Mach.of_rest Mach.sys (fun _ => rfl) hrest
    rw [hs, show (m.tileReset t).sys.resetting = m.sys.resetting.filter (· ≠ t) from rfl]
    simp
  · have hb' : (m.tileReset t).bit A.RST_UNIT 31 = true := by rw [Mach.bit, hrst]; exact hb
    have hf' : (m.tileReset t).fld A.RST_UNIT 11 0 = t := by rw [Mach.fld, hrst]; exact hf
    unfold Mach.resetAnswer
    rw [if_pos (by simp [hb', hf'])]
    exact ⟨(Mach.bit_wr_other _ _ _ _ _ (by decide)).trans (Mach.bit_putBit_same _ _ _ _ (by decide)), Mach.rd_wr_same _ _ _⟩

/-! ### The ring reset (R654) -/

/-- A broadcast of this node only adds frames that wait (R440). -/
theorem Mach.broadcast_frame (m : Mach) (op flags ttl arg0 arg1 : Nat) :
    (m.broadcast op flags ttl arg0 arg1).regs = m.regs ∧ (m.broadcast op flags ttl arg0 arg1).resp = m.resp := by
  unfold Mach.broadcast
  constructor
  · refine foldl_keeps _ _ Mach.regs (fun a n _ => ?_) m
    split_ifs
    · rfl
    · rfl
  · refine foldl_keeps _ _ Mach.resp (fun a n _ => ?_) m
    split_ifs
    · rfl
    · rfl

theorem Mach.writeRstRing_other (m : Mach) (v : Nat) (h : bitsOf v 31 16 ≠ 0xD7A9) :
    m.writeRstRing v = m.put A.RST_RING 15 0 (v % 65536) := if_neg h

theorem Mach.writeRstRing_keyed (m : Mach) (v : Nat) (h : bitsOf v 31 16 = 0xD7A9) :
    (m.writeRstRing v).ringReq = true ∧ (m.writeRstRing v).fld A.RST_RING 15 0 = v % 65536 := by
  unfold Mach.writeRstRing
  dsimp only
  rw [if_pos h]
  refine ⟨rfl, ?_⟩
  refine (Mach.fld_of_act (congrArg Regs.act (Mach.broadcast_frame _ _ _ _ _ _).1) _ _ _).trans ?_
  rw [Mach.fld_put_same _ _ _ _ _ (by decide) (by decide)]
  exact Nat.mod_mod _ _

/-- Every comparator is disarmed where it is armed (R654). -/
def Mach.disarmAll (m : Mach) : Mach :=
  (List.range 64).foldl (fun a c => if a.bit (A.CMP_CTL c) 31 then a.putBit (A.CMP_CTL c) 31 false else a) m

theorem Mach.disarm_step (m : Mach) (c : Nat) :
    let n := if m.bit (A.CMP_CTL c) 31 then m.putBit (A.CMP_CTL c) 31 false else m
    n.rest = m.rest ∧ n.bit (A.CMP_CTL c) 31 = false ∧ ∀ b, b ≠ A.CMP_CTL c → n.rd b = m.rd b := by
  dsimp only
  split_ifs with h
  · exact ⟨rfl, Mach.bit_putBit_same _ _ _ _ (by decide), fun b hb => Mach.rd_putBit_other _ _ _ _ _ hb⟩
  · exact ⟨rfl, by simpa using h, fun _ _ => rfl⟩

/-- Of the comparators of a list none stays armed, and nothing but their CTL registers moves. -/
theorem Mach.foldl_disarm (l : List Nat) (m : Mach) :
    let n := l.foldl (fun a c => if a.bit (A.CMP_CTL c) 31 then a.putBit (A.CMP_CTL c) 31 false else a) m
    n.rest = m.rest ∧ (∀ c, c ∈ l ∨ m.bit (A.CMP_CTL c) 31 = false → n.bit (A.CMP_CTL c) 31 = false) ∧
    ∀ b, (∀ c ∈ l, b ≠ A.CMP_CTL c) → n.rd b = m.rd b := by
  induction l generalizing m with
  | nil => exact ⟨rfl, fun c h => by simpa using h, fun _ _ => rfl⟩
  | cons c r ih =>
    rw [List.foldl_cons]
    obtain ⟨hs, hb, ho⟩ := m.disarm_step c
    generalize (if m.bit (A.CMP_CTL c) 31 then m.putBit (A.CMP_CTL c) 31 false else m) = k at *
    obtain ⟨ihs, ihb, iho⟩ := ih k
    refine ⟨ihs.trans hs, fun d hd => ihb d ?_, fun b h => (iho b (fun d hd => h d (List.mem_cons_of_mem _ hd))).trans
      (ho b (h c List.mem_cons_self))⟩
    by_cases hdc : d = c
    · exact .inr (hdc ▸ hb)
    · rcases hd with hd | hd
      · exact .inl ((List.mem_cons.1 hd).resolve_left hdc)
      · refine .inr ?_
        rw [← hd, Mach.bit, Mach.bit, ho _ (by simp only [A.CMP_CTL]; omega)]

/-- PHS at phase 0 in FREE, with the comparators as they were (R654). -/
def Mach.phsZero (m : Mach) : Mach :=
  ((({ m with phs := { m.phs with heard := [], cand := none, lastRef := none, beaconed := false, emittedAt := none, advFlag := false,
                                  lateArm := [] } } : Mach).loadPhase 0).setPhsState 0).putBit A.PHS_STS 7 false

theorem Mach.phsFree_eq (m : Mach) : m.phsFree = m.phsZero.disarmAll.putBit A.GLB_UPD_AT_CTL 31 false := by
  unfold Mach.phsFree Mach.disarmAll Mach.phsZero
  dsimp only

theorem Mach.phsZero_rd (m : Mach) (b : Nat) (h1 : b ≠ A.PHS_STS) (h2 : b ≠ A.PHS_CTL) : m.phsZero.rd b = m.rd b := by
  unfold Mach.phsZero Mach.setPhsState
  rw [Mach.rd_putBit_other _ _ _ _ _ h1, Mach.rd_putBit_other _ _ _ _ _ h2, Mach.rd_put_other _ _ _ _ _ _ h1]
  rfl

theorem Mach.phsZero_state (m : Mach) : m.phsZero.phsState = 0 :=
  (Mach.fld_putBit_disjoint _ _ _ _ _ _ (by decide) (by decide)).trans (Mach.setPhsState_state _ 0 (by decide))

/-- The registers that freeing PHS writes. -/
def phsFreed (b : Nat) : Prop := b = A.PHS_STS ∨ b = A.PHS_CTL ∨ b = A.GLB_UPD_AT_CTL ∨ ∃ c < 64, b = A.CMP_CTL c

theorem Mach.phsFree_rest (m : Mach) : m.phsFree.rest = m.phsZero.rest := by
  rw [m.phsFree_eq]
  exact (Mach.foldl_disarm (List.range 64) m.phsZero).1

theorem Mach.phsFree_rd (m : Mach) (b : Nat) (h : ¬ phsFreed b) : m.phsFree.rd b = m.rd b := by
  simp only [phsFreed, not_or, not_exists, not_and] at h
  obtain ⟨hs, hc, hu, ha⟩ := h
  rw [m.phsFree_eq, Mach.rd_putBit_other _ _ _ _ _ hu, ← m.phsZero_rd b hs hc]
  exact (Mach.foldl_disarm (List.range 64) m.phsZero).2.2 b (fun c hc => ha c (List.mem_range.1 hc))

theorem Mach.phsFree_outcome (m : Mach) : m.phsFree.phase = 0 ∧ m.phsFree.phsState = 0 ∧
    (∀ c < 64, m.phsFree.bit (A.CMP_CTL c) 31 = false) ∧ m.phsFree.bit A.GLB_UPD_AT_CTL 31 = false := by
  obtain ⟨-, hb, hr⟩ := Mach.foldl_disarm (List.range 64) m.phsZero
  have hs : m.phsZero.disarmAll.rd A.PHS_STS = m.phsZero.rd A.PHS_STS := hr _ (fun c _ => by simp only [A.PHS_STS, A.CMP_CTL]; omega)
  refine ⟨Mach.of_rest Mach.phase (fun _ => rfl) m.phsFree_rest, ?_, fun c hc => ?_, ?_⟩
  · rw [m.phsFree_eq, Mach.phsState, Mach.fld_putBit_other _ _ _ _ _ _ _ (by decide), Mach.fld, hs]
    exact m.phsZero_state
  · rw [m.phsFree_eq, Mach.bit_putBit_other _ _ _ _ _ _ (by simp only [A.CMP_CTL, A.GLB_UPD_AT_CTL]; omega)]
    exact hb c (.inl (List.mem_range.2 hc))
  · rw [m.phsFree_eq, Mach.bit_putBit_same _ _ _ _ (by decide)]

theorem foldl_stays {α β : Type} (l : List α) (g : β → α → β) (m : β) (h : ∀ x ∈ l, g m x = m) : l.foldl g m = m := by
  induction l with
  | nil => rfl
  | cons x r ih =>
    rw [List.foldl_cons, h x List.mem_cons_self]
    exact ih (fun y hy => h y (List.mem_cons_of_mem _ hy))

/-- The ring reset before it turns to partitions and ports (R654). -/
def Mach.ringFree (m : Mach) : Mach := (({ m with ringReq := false } : Mach).phsFree).markGone everyTarget

theorem Mach.ringFree_rd (m : Mach) (b : Nat) (h : ¬ phsFreed b) : m.ringFree.rd b = m.rd b :=
  Mach.phsFree_rd ({ m with ringReq := false } : Mach) b h

/-- A register past the phase pages is not one that freeing PHS writes. -/
theorem not_phsFreed_high {b : Nat} (h : 0x020000 ≤ b) : ¬ phsFreed b := by
  rintro (e | e | e | ⟨c, hc, e⟩)
  · simp only [A.PHS_STS] at e; omega
  · simp only [A.PHS_CTL] at e; omega
  · simp only [A.GLB_UPD_AT_CTL] at e; omega
  · simp only [A.CMP_CTL] at e; omega

/-- With no tenant and no live port a ring reset frees PHS and ends the pass, and does nothing more. -/
theorem Mach.ringReset_quiet (m : Mach) (hp : ∀ p : Fin 16, p ≠ 0 → m.partState p = 0) (hn : ∀ n : Fin 8, m.ringLive n = false) :
    m.ringReset = m.ringFree := by
  have hpart : ∀ p ∈ rangeFrom 1 15, m.ringFree.partState p = 0 := fun p hm => by
    simp only [rangeFrom, List.mem_map, List.mem_range] at hm
    obtain ⟨i, hi, rfl⟩ := hm
    have h0 : (⟨1 + i, by omega⟩ : Fin 16) ≠ 0 := by simp only [ne_eq, Fin.ext_iff, Fin.val_zero]; omega
    rw [Mach.partState, Mach.fld, m.ringFree_rd _ (not_phsFreed_high (by simp only [partReg, A.PART_STS]; omega))]
    exact hp ⟨1 + i, by omega⟩ h0
  have hlive : ∀ n ∈ List.range 8, m.ringFree.ringLive n = false := fun n hm => by
    have hr : m.ringFree.rd (A.BRL_PORT_STS n) = m.rd (A.BRL_PORT_STS n) :=
      m.ringFree_rd _ (not_phsFreed_high (by simp only [A.BRL_PORT_STS]; omega))
    rw [Mach.ringLive, Mach.ringUp, Mach.fld, hr]
    exact hn ⟨n, List.mem_range.1 hm⟩
  have hnone : (rangeFrom 1 15).filter (fun p => m.ringFree.partState p ≠ 0) = [] :=
    List.filter_eq_nil_iff.2 (fun p hm => by simp [hpart p hm])
  unfold Mach.ringReset
  change (List.range 8).foldl (fun a n => if a.ringLive n then a.portDown n 2 else a)
    (((rangeFrom 1 15).filter (fun p => m.ringFree.partState p ≠ 0)).foldl (fun a p => a.quiesce p) m.ringFree) = _
  rw [hnone, List.foldl_nil]
  exact foldl_stays _ _ _ (fun n hm => if_neg (by simp [hlive n hm]))

theorem Mach.ringFree_outcome (m : Mach) : m.ringFree.phase = 0 ∧ m.ringFree.phsState = 0 ∧ m.ringFree.ringReq = false ∧
    m.ringFree.isGone everyTarget = true ∧ (∀ c : Fin 64, m.ringFree.bit (A.CMP_CTL c.val) 31 = false) ∧
    m.ringFree.bit A.GLB_UPD_AT_CTL 31 = false ∧ m.ringFree.mem = m.mem ∧ m.ringFree.keys = m.keys := by
  let k : Mach := { m with ringReq := false }
  obtain ⟨hph, hst, hc, hu⟩ := k.phsFree_outcome
  have hr : k.phsFree.rest = k.phsZero.rest := k.phsFree_rest
  have hmem : k.phsFree.mem = k.phsZero.mem := Mach.of_rest Mach.mem (fun _ => rfl) hr
  have hkeys : k.phsFree.keys = k.phsZero.keys := Mach.of_rest Mach.keys (fun _ => rfl) hr
  exact ⟨hph, hst, Mach.of_rest Mach.ringReq (fun _ => rfl) hr, by simp [Mach.ringFree, Mach.isGone], fun c => hc c.val c.isLt, hu,
    hmem, hkeys⟩

/-! ### The statement -/

theorem Mach.resetAsked_iff (m : Mach) : m.resetAsked ↔ (m.warmReq || m.sys.lcReset) = true := by
  simp [Mach.resetAsked]

theorem gives_coldReset (s : State) {P : Mach → Prop} (h : P s.m.fresh) : Gives .coldReset s P := gives_onMach rfl h

theorem gives_warmReset {s : State} (hr : s.m.resetAsked) {P : Mach → Prop} (h : P s.m.warm) : Gives .warmReset s P :=
  gives_due (fun m => (m.warmReq || m.sys.lcReset) = true) rfl (s.m.resetAsked_iff.1 hr) h

theorem gives_unitResetDone {s : State} {u : BitVec 16} {ok : Bool} (hr : s.m.sys.resetting.contains u.toNat = true) {P : Mach → Prop}
    (h : P (s.m.unitResetDone u.toNat ok)) : Gives (.unitResetDone u ok) s P :=
  gives_due (fun m => m.sys.resetting.contains u.toNat = true) (f := fun m => m.unitResetDone u.toNat ok) rfl hr h

theorem gives_ringReset {s : State} (hr : s.m.ringReq = true) {P : Mach → Prop} (h : P s.m.ringReset) : Gives .ringReset s P :=
  gives_due (fun m => m.ringReq = true) rfl hr h

/-- Settles O49: the outcomes of the resets, and of the writes that ask for them. -/
theorem resetsComplete : Obligations.ResetsComplete := by
  refine ⟨fun s => ⟨?_, fun hr => ?_, fun a w hr hd hk hf => ?_, fun hr hd => ?_, fun hr => ?_⟩,
    fun s who v u => ⟨fun hw hk hb => ?_, fun hw hk => ?_, fun hw hr hb hu hok => ?_, fun hw hr hb hu => ?_, fun hw hr => ?_,
      fun ok hr => ?_, fun t hr hu hn hg => ?_, fun hr => ?_, fun hw hk => ?_, fun hw hk => ?_, fun hq hp hn => ?_, fun hq => ?_,
      fun hq => ?_⟩⟩
  · obtain ⟨hk, hp, hs, -, -⟩ := s.m.fresh_frame
    exact gives_coldReset s ⟨rfl, hk, hp, s.m.fresh_phsState, hs, s.m.fresh_lcs, s.m.fresh_rd⟩
  · exact gives_warmReset hr ⟨rfl, s.m.warm_outcome⟩
  · exact gives_warmReset hr (s.m.warm_rd_kept a w hd hk hf)
  · exact gives_warmReset hr (s.m.warm_lost hd)
  · exact unmoved_not_due (fun m => (m.warmReq || m.sys.lcReset) = true) rfl (fun h => hr (s.m.resetAsked_iff.2 h))
  · exact gives_write rfl (s.m.write_GLB_RST who v.toNat v.isLt hw) (by rw [s.m.writeGlbRst_keyed _ hk hb]; exact ⟨rfl, .inl rfl⟩)
  · exact gives_write rfl (s.m.write_GLB_RST who v.toNat v.isLt hw) (by rw [s.m.writeGlbRst_other _ hk])
  · refine gives_write rfl (s.m.write_RST_UNIT who v.toNat v.isLt hw) ?_
    rw [s.m.writeRstUnit_starts _ hr hb hu hok]
    exact s.m.unitStarts_answered _ (Nat.mod_lt _ (by decide))
  · refine gives_write rfl (s.m.write_RST_UNIT who v.toNat v.isLt hw) ?_
    rw [s.m.writeRstUnit_refused _ hr hb hu]
    exact ⟨rfl, rfl, Mach.rd_wr_same _ _ _⟩
  · exact gives_write rfl (s.m.write_RST_UNIT who v.toNat v.isLt hw) (by rw [s.m.writeRstUnit_busy _ hr])
  · exact gives_unitResetDone hr rfl
  · have ht : (BitVec.ofNat 16 t.val).toNat = t.val := by rw [BitVec.toNat_ofNat]; omega
    refine gives_unitResetDone (by rwa [ht]) ?_
    rw [ht]
    exact s.m.unitResetDone_tile_outcome t.val t.isLt hu hn hg
  · exact unmoved_not_due (fun m => m.sys.resetting.contains u.toNat = true) (f := fun m => m.unitResetDone u.toNat true) rfl
      (by rw [hr]; decide)
  · exact gives_write rfl (s.m.write_RST_RING who v.toNat v.isLt hw) ⟨rfl, s.m.writeRstRing_keyed _ hk⟩
  · exact gives_write rfl (s.m.write_RST_RING who v.toNat v.isLt hw) (by rw [s.m.writeRstRing_other _ hk])
  · refine gives_ringReset hq ?_
    rw [s.m.ringReset_quiet hp hn]
    exact s.m.ringFree_outcome
  · exact gives_ringReset hq rfl
  · exact unmoved_not_due (fun m => m.ringReq = true) rfl (by rw [hq]; decide)

end Sys2Proof.Machine

namespace Sys2Proof.Machine

/-- A command whose meaning keeps the data as it is. -/
theorem unmoved_onMach {c : Instr} {s : State} {f : Mach → Mach} (hx : exec c s = s.onMach f) (h : f s.m = s.m) : Unmoved c s := by
  simp only [Unmoved, hx, State.onMach_eq, h]

/-! ### The gates of the partitions (R683) -/

theorem Mach.gate_lt (m : Mach) (p : Nat) : m.gate p < 8 := by
  have h := bitsOf_lt (m.rd (A.PWR_GATE (p / 8))).toNat (4 * (p % 8) + 2) (4 * (p % 8))
  rwa [show 4 * (p % 8) + 2 + 1 - 4 * (p % 8) = 3 by omega] at h

/-- A gate that rises was below 7, so that it stays within its field. -/
theorem gateNext_lt {g : Nat} (h : g < 8) (share tiles d : Nat) : gateNext g share tiles d < 8 := by
  unfold gateNext
  split_ifs with hup
  · simp only [Bool.and_eq_true, decide_eq_true_eq] at hup
    omega
  · omega
  · exact h

/-- The gate of a partition takes a value. -/
def Mach.gatePut (m : Mach) (p g : Nat) : Mach := m.put (A.PWR_GATE (p / 8)) (4 * (p % 8) + 2) (4 * (p % 8)) g

theorem Mach.gate_gatePut_same (m : Mach) (p : Nat) {g : Nat} (h : g < 8) : (m.gatePut p g).gate p = g := by
  refine (Mach.fld_put_same _ _ _ _ _ (by omega) (by omega)).trans ?_
  rw [show 4 * (p % 8) + 2 + 1 - 4 * (p % 8) = 3 by omega]
  exact Nat.mod_eq_of_lt h

/-- Eight gates share a register: another one lies in the other register or in other bits of the same. -/
theorem Mach.gate_gatePut_other (m : Mach) (p q g : Nat) (h : q ≠ p) : (m.gatePut p g).gate q = m.gate q := by
  unfold Mach.gatePut Mach.gate
  by_cases hr : q / 8 = p / 8
  · rw [hr]
    exact Mach.fld_put_disjoint _ _ _ _ _ _ _ (by omega) (by omega) (by omega)
  · exact Mach.fld_put_other _ _ _ _ _ _ _ _ (by simp only [A.PWR_GATE]; omega)

theorem gives_gateStep {s : State} {p : Fin 16} {d : BitVec 32} (he : s.m.phs.slotEdge = true) {P : Mach → Prop}
    (h : P (s.m.gatePut p.val (gateNext (s.m.gate p.val) (s.m.share p.val) (s.m.tilesOf p.val).length d.toNat))) : Gives (.gateStep p d) s P :=
  gives_due (fun m => m.phs.slotEdge = true)
    (f := fun m => m.gatePut p.val (gateNext (m.gate p.val) (m.share p.val) (m.tilesOf p.val).length d.toNat)) rfl he h

theorem unmoved_gateStep {s : State} {p : Fin 16} {d : BitVec 32} (he : s.m.phs.slotEdge = false) : Unmoved (.gateStep p d) s :=
  unmoved_not_due (fun m => m.phs.slotEdge = true)
    (f := fun m => m.gatePut p.val (gateNext (m.gate p.val) (m.share p.val) (m.tilesOf p.val).length d.toNat)) rfl (by rw [he]; decide)

/-! ### Temperature and input (R686, R690, R699) -/

/-- What the sensors show stands in registers of the free die and of the free input. -/
theorem Mach.measured_eq (m : Mach) (tj watts : Nat) : ∃ die x, m.measured tj watts =
    ((((m.draw.2.put A.THERM_MAX 11 8 die).put A.THERM_MAX 7 0 tj).put (A.THERM_DIE die) 7 0 tj).put A.PWR_AVG 15 0 watts).wr A.PWR_IN x :=
  ⟨_, _, rfl⟩

/-- A register below those of the dies that the sensors do not set stands. -/
theorem Mach.measured_rd (m : Mach) (tj watts b : Nat) (h : b < 0x082040) (h1 : b ≠ A.THERM_MAX) (h2 : b ≠ A.PWR_AVG) (h3 : b ≠ A.PWR_IN) :
    (m.measured tj watts).rd b = m.rd b := by
  obtain ⟨die, x, he⟩ := m.measured_eq tj watts
  rw [he, Mach.rd_wr_other _ _ _ _ h3, Mach.rd_put_other _ _ _ _ _ _ h2,
    Mach.rd_put_other _ _ _ _ _ _ (by simp only [A.THERM_DIE]; omega), Mach.rd_put_other _ _ _ _ _ _ h1, Mach.rd_put_other _ _ _ _ _ _ h1]
  rfl

theorem Mach.measured_raised (m : Mach) (tj watts : Nat) : (m.measured tj watts).raised = m.raised := rfl

theorem Mach.measured_therm (m : Mach) (tj watts : Nat) (h : tj < 256) : (m.measured tj watts).fld A.THERM_MAX 7 0 = tj := by
  obtain ⟨die, x, he⟩ := m.measured_eq tj watts
  rw [he, Mach.fld_wr_other _ _ _ _ _ _ (by decide), Mach.fld_put_other _ _ _ _ _ _ _ _ (by decide),
    Mach.fld_put_other _ _ _ _ _ _ _ _ (by simp only [A.THERM_DIE, A.THERM_MAX]; omega), Mach.fld_put_same _ _ _ _ _ (by decide) (by decide)]
  exact Nat.mod_eq_of_lt h

theorem Mach.measured_avg (m : Mach) (tj watts : Nat) (h : watts < 2 ^ 16) : (m.measured tj watts).fld A.PWR_AVG 15 0 = watts := by
  obtain ⟨die, x, he⟩ := m.measured_eq tj watts
  rw [he, Mach.fld_wr_other _ _ _ _ _ _ (by decide), Mach.fld_put_same _ _ _ _ _ (by decide) (by decide)]
  exact Nat.mod_eq_of_lt h

/-- THERM_THROTTLE, where the junction has reached it (R690, R699). -/
def Mach.throttleSeen (m : Mach) (old : Nat) : Mach :=
  if old < 95 && 95 ≤ m.fld A.THERM_MAX 7 0 then (m.raiseFault 0x03 0x139 (m.fld A.THERM_MAX 7 0)).putBit A.MGT_ALERT 1 true else m

theorem Mach.thermFaults_eq (m : Mach) (old : Nat) : m.thermFaults old =
    if old < 105 && 105 ≤ m.fld A.THERM_MAX 7 0 then (m.throttleSeen old).raiseFault 0x04 0x139 (m.fld A.THERM_MAX 7 0)
    else m.throttleSeen old := rfl

/-- THERM_SHUTDOWN is raised beside what stands. -/
theorem Mach.thermFaults_frame (m : Mach) (old : Nat) : (m.thermFaults old).regs = (m.throttleSeen old).regs ∧
    ∀ f ∈ (m.throttleSeen old).raised, f ∈ (m.thermFaults old).raised := by
  rw [m.thermFaults_eq]
  split_ifs
  · exact ⟨rfl, fun f hf => by simp [hf]⟩
  · exact ⟨rfl, fun _ hf => hf⟩

/-- Of the registers the thermal faults set the alert only. -/
theorem Mach.thermFaults_rd (m : Mach) (old b : Nat) (h : b ≠ A.MGT_ALERT) : (m.thermFaults old).rd b = m.rd b := by
  rw [Mach.rd_of_act (congrArg Regs.act (m.thermFaults_frame old).1), Mach.throttleSeen]
  split_ifs
  · exact Mach.rd_putBit_other _ _ _ _ _ h
  · rfl

/-- Below THERM_THROTTLE nothing is raised. -/
theorem Mach.thermFaults_cool (m : Mach) (old : Nat) (h : m.fld A.THERM_MAX 7 0 < 95) : m.thermFaults old = m := by
  rw [m.thermFaults_eq, if_neg (by simp; omega), Mach.throttleSeen, if_neg (by simp; omega)]

/-- THERM_THROTTLE, with its alert, as the junction reaches 95 °C (R690, R699). -/
theorem Mach.thermFaults_throttle (m : Mach) (old : Nat) (ho : old < 95) (h : 95 ≤ m.fld A.THERM_MAX 7 0) :
    (m.thermFaults old).bit A.MGT_ALERT 1 = true ∧ (0x03, 0x139, m.fld A.THERM_MAX 7 0) ∈ (m.thermFaults old).raised := by
  obtain ⟨hregs, hraised⟩ := m.thermFaults_frame old
  have hseen : m.throttleSeen old = (m.raiseFault 0x03 0x139 (m.fld A.THERM_MAX 7 0)).putBit A.MGT_ALERT 1 true := if_pos (by simp [ho, h])
  rw [Mach.bit_of_act (congrArg Regs.act hregs)]
  rw [hseen] at hraised ⊢
  exact ⟨Mach.bit_putBit_same _ _ _ _ (by decide), hraised _ (by simp)⟩

/-- THERM_SHUTDOWN as the junction reaches 105 °C (R690). -/
theorem Mach.thermFaults_shutdown (m : Mach) (old : Nat) (ho : old < 105) (h : 105 ≤ m.fld A.THERM_MAX 7 0) :
    (0x04, 0x139, m.fld A.THERM_MAX 7 0) ∈ (m.thermFaults old).raised := by
  rw [m.thermFaults_eq, if_pos (by simp [ho, h])]
  simp

/-- The module as the power manager finds it: measured, with the faults of the temperature. -/
def Mach.sensed (m : Mach) (tj watts : Nat) : Mach := (m.measured tj watts).thermFaults (m.fld A.THERM_MAX 7 0)

theorem Mach.sensed_rd (m : Mach) (tj watts b : Nat) (h : b < 0x082000) (h1 : b ≠ A.PWR_AVG) (h2 : b ≠ A.PWR_IN) :
    (m.sensed tj watts).rd b = m.rd b :=
  ((m.measured tj watts).thermFaults_rd _ b (by simp only [A.MGT_ALERT]; omega)).trans
    (m.measured_rd tj watts b (by omega) (by simp only [A.THERM_MAX]; omega) h1 h2)

theorem Mach.sensed_cap (m : Mach) (tj watts : Nat) : (m.sensed tj watts).cap = m.cap := by
  rw [Mach.cap, Mach.cap, Mach.fld, Mach.fld, m.sensed_rd _ _ _ (by decide) (by decide) (by decide)]

theorem Mach.sensed_level (m : Mach) (tj watts : Nat) : (m.sensed tj watts).level = m.level := by
  rw [Mach.level, Mach.level, Mach.fld, Mach.fld, m.sensed_rd _ _ _ (by decide) (by decide) (by decide)]

theorem Mach.sensed_therm (m : Mach) (tj watts : Nat) (h : tj < 256) : (m.sensed tj watts).fld A.THERM_MAX 7 0 = tj := by
  have hr : (m.sensed tj watts).rd A.THERM_MAX = (m.measured tj watts).rd A.THERM_MAX := Mach.thermFaults_rd _ _ _ (by decide)
  exact (congrArg (fun w : Word => bitsOf w.toNat 7 0) hr).trans (m.measured_therm tj watts h)

theorem Mach.sensed_avg (m : Mach) (tj watts : Nat) (h : watts < 2 ^ 16) : (m.sensed tj watts).fld A.PWR_AVG 15 0 = watts := by
  have hr : (m.sensed tj watts).rd A.PWR_AVG = (m.measured tj watts).rd A.PWR_AVG := Mach.thermFaults_rd _ _ _ (by decide)
  exact (congrArg (fun w : Word => bitsOf w.toNat 15 0) hr).trans (m.measured_avg tj watts h)

theorem Mach.sensed_raised_cool (m : Mach) (tj watts : Nat) (h : tj < 95) : (m.sensed tj watts).raised = m.raised := by
  rw [Mach.sensed, Mach.thermFaults_cool _ _ (by rwa [m.measured_therm _ _ (by omega)]), m.measured_raised]

/-- The power manager decides by PWR_FIX, the temperature, the input and the cap (R686, R687). -/
theorem Mach.pmThrottle_eq (m : Mach) (tj watts : Nat) : m.pmThrottle tj watts =
    if m.bit A.PWR_CFG 31 = true then m.sensed tj watts
    else if 95 ≤ tj ∨ m.cap < watts then (m.sensed tj watts).stepLevel false
    else if tj < 90 ∧ 100 * watts < 95 * m.cap then (m.sensed tj watts).stepLevel true
    else m.sensed tj watts := by
  have hfix : (m.sensed tj watts).bit A.PWR_CFG 31 = m.bit A.PWR_CFG 31 := by
    rw [Mach.bit, Mach.bit, m.sensed_rd _ _ _ (by decide) (by decide) (by decide)]
  rw [← hfix, ← m.sensed_cap tj watts]
  unfold Mach.pmThrottle Mach.sensed
  simp only [Bool.or_eq_true, Bool.and_eq_true, decide_eq_true_eq]

theorem Mach.pmThrottle_fixed (m : Mach) (tj watts : Nat) (h : m.bit A.PWR_CFG 31 = true) : m.pmThrottle tj watts = m.sensed tj watts := by
  rw [m.pmThrottle_eq, if_pos h]

theorem Mach.pmThrottle_up (m : Mach) (tj watts : Nat) (hf : m.bit A.PWR_CFG 31 = false) (h : 95 ≤ tj ∨ m.cap < watts) :
    m.pmThrottle tj watts = (m.sensed tj watts).stepLevel false := by
  rw [m.pmThrottle_eq, if_neg (by simp [hf]), if_pos h]

theorem Mach.pmThrottle_down (m : Mach) (tj watts : Nat) (hf : m.bit A.PWR_CFG 31 = false) (ht : tj < 90) (hw : 100 * watts < 95 * m.cap) :
    m.pmThrottle tj watts = (m.sensed tj watts).stepLevel true := by
  rw [m.pmThrottle_eq, if_neg (by simp [hf]), if_neg (by omega), if_pos ⟨ht, hw⟩]

theorem Mach.pmThrottle_holds (m : Mach) (tj watts : Nat) (h90 : 90 ≤ tj) (h95 : tj < 95) (hw : watts ≤ m.cap) :
    m.pmThrottle tj watts = m.sensed tj watts := by
  rw [m.pmThrottle_eq, if_neg (by omega : ¬ (95 ≤ tj ∨ m.cap < watts)), if_neg (by omega : ¬ (tj < 90 ∧ 100 * watts < 95 * m.cap)), ite_self]

theorem Mach.sensed_outcome (m : Mach) (tj watts : Nat) (ht : tj < 256) (hw : watts < 2 ^ 16) :
    (m.sensed tj watts).fld A.THERM_MAX 7 0 = tj ∧ (m.sensed tj watts).fld A.PWR_AVG 15 0 = watts ∧ (m.sensed tj watts).level = m.level ∧
    (m.fld A.THERM_MAX 7 0 < 95 → 95 ≤ tj → (m.sensed tj watts).bit A.MGT_ALERT 1 = true ∧ (0x03, 0x139, tj) ∈ (m.sensed tj watts).raised) ∧
    (m.fld A.THERM_MAX 7 0 < 105 → 105 ≤ tj → (0x04, 0x139, tj) ∈ (m.sensed tj watts).raised) := by
  have hm := m.measured_therm tj watts ht
  have hthrottle := (m.measured tj watts).thermFaults_throttle (m.fld A.THERM_MAX 7 0)
  have hshut := (m.measured tj watts).thermFaults_shutdown (m.fld A.THERM_MAX 7 0)
  rw [hm] at hthrottle hshut
  exact ⟨m.sensed_therm tj watts ht, m.sensed_avg tj watts hw, m.sensed_level tj watts, hthrottle, hshut⟩

theorem gives_pmThrottle {s : State} {tj watts : BitVec 16} {n : Mach} (hn : s.m.pmThrottle (tj.toNat % 256) watts.toNat = n)
    {P : Mach → Prop} (h : P n) : Gives (.pmThrottle tj watts) s P :=
  gives_onMach (f := fun m => m.pmThrottle (tj.toNat % 256) watts.toNat) rfl (by rwa [hn])

/-! ### Cooling (R691, R699) -/

/-- COOLANT_OK falls. -/
def Mach.coolantFalls (m : Mach) : Mach := (m.putBit A.THERM_COOL 0 false).putBit A.MGT_ALERT 2 true

theorem Mach.coolantFalls_outcome (m : Mach) : m.coolantFalls.bit A.THERM_COOL 0 = false ∧ m.coolantFalls.bit A.MGT_ALERT 2 = true :=
  ⟨(Mach.bit_putBit_other _ _ _ _ _ _ (by decide)).trans (Mach.bit_putBit_same _ _ _ _ (by decide)), Mach.bit_putBit_same _ _ _ _ (by decide)⟩

/-- COOLANT is raised unless the coolant is back (R691). -/
def Mach.coolantLow (m : Mach) : Mach := if m.bit A.THERM_COOL 0 then m else m.raiseFault 0x05 0x139 0

theorem gives_coolant {s : State} (h : s.m.bit A.THERM_COOL 0 = false) : Gives .coolant s (fun m => m = s.m.raiseFault 0x05 0x139 0) :=
  gives_onMach (f := Mach.coolantLow) rfl (by simp only [Mach.coolantLow, h, if_neg Bool.false_ne_true])

theorem unmoved_coolant {s : State} (h : s.m.bit A.THERM_COOL 0 = true) : Unmoved .coolant s :=
  unmoved_onMach (f := Mach.coolantLow) rfl (by simp only [Mach.coolantLow, h, if_true])

/-! ### PWR_CTL: level and sleep (R686, R688) -/

theorem Mach.writePwrCtl_level (m : Mach) (v : Nat) (h : bitOf v 3 = false) : m.writePwrCtl v = (m.writeLevel v).putBit A.PWR_CTL 3 false := by
  unfold Mach.writePwrCtl
  exact if_pos (by rw [h]; rfl)

theorem Mach.writePwrCtl_sleep (m : Mach) (v : Nat) (h : bitOf v 3 = true) (hs : (m.writeLevel v).fld A.PWR_STS 1 0 = 0) :
    m.writePwrCtl v = (m.writeLevel v).sleep := by
  unfold Mach.writePwrCtl
  dsimp only
  rw [if_neg (by rw [h]; decide), if_pos (by rw [hs]; decide)]

/-- A write that its row names under a condition on the value gives what the write of the register gives. -/
theorem gives_writeWhen {c : Instr} {s : State} {b : Bool} {who : Ident} {off v : Nat} {n : Mach} {P : Mach → Prop}
    (hx : exec c s = s.onMach (fun m => m.writeWhen b who off v)) (hb : b = true) (hw : s.m.writeCmd who off v = n) (hp : P n) : Gives c s P :=
  gives_onMach hx (by rwa [Mach.writeWhen, if_pos hb, hw])

theorem Mach.sleep_refused (m : Mach) (h : m.maySleep = false) : m.sleep = m.putBit A.PWR_STS 3 true := if_neg (by simp [h])

/-- The clock-stop state: PWR_STS tells it, and PHS is at phase 0 (R688). -/
theorem Mach.sleep_outcome (m : Mach) (h : m.maySleep = true) : m.sleep.fld A.PWR_STS 1 0 = 1 ∧ m.sleep.phase = 0 := by
  unfold Mach.sleep
  rw [if_pos h]
  dsimp only
  generalize Mach.putBit _ A.PWR_CTL 3 true = k
  refine ⟨Mach.fld_put_same _ _ _ _ _ (by decide) (by decide), ?_⟩
  exact (Mach.phase_congr rfl).trans ((k.loadPhase_phase 0).trans (Nat.zero_min _))

/-! ### PWR_CFG, PWR_SHARE and FIXLOST (R685, R687, R698) -/

theorem Mach.tileBud_lt (m : Mach) : m.tileBud < 2 ^ 16 := by
  have hc : m.cap ≤ 2800 := max_le (by decide) (min_le_left _ _)
  unfold Mach.tileBud
  omega

/-- The cap of a PWR_CFG write, before PWR_TILEBUD follows. -/
def Mach.capPut (m : Mach) (v : Nat) : Mach := m.put A.PWR_CFG 11 0 (bitsOf v 11 0)

/-- The cap and the tile budget of a PWR_CFG write (R685, R698). -/
def Mach.capSet (m : Mach) (v : Nat) : Mach := (m.capPut v).put A.PWR_TILEBUD 15 0 (m.capPut v).tileBud

theorem Mach.writePwrCfg_eq (m : Mach) (v : Nat) : m.writePwrCfg v =
    if !bitOf v 31 then (m.capSet v).putBit A.PWR_CFG 31 false
    else if (m.capSet v).oversub then (m.capSet v).putBit A.PWR_STS 4 true else (m.capSet v).putBit A.PWR_CFG 31 true := rfl

theorem Mach.capSet_rd (m : Mach) (v b : Nat) (h : b ≠ A.PWR_TILEBUD) : (m.capSet v).rd b = (m.capPut v).rd b := Mach.rd_put_other _ _ _ _ _ _ h

theorem Mach.capSet_capped (m : Mach) (v : Nat) : (m.capSet v).cap = (m.capPut v).cap := by
  rw [Mach.cap, Mach.cap, Mach.fld, Mach.fld, m.capSet_rd v _ (by decide)]

/-- OVERSUB is told by the budget, the shares and the tiles (R685). -/
theorem Mach.oversub_congr {m n : Mach} (hb : m.tileBud = n.tileBud) (hs : m.share = n.share) (ht : m.tilesOf = n.tilesOf) :
    m.oversub = n.oversub := by
  unfold Mach.oversub Mach.oversubWith
  rw [hb, hs, ht]

theorem Mach.capSet_tileBud (m : Mach) (v : Nat) : (m.capSet v).tileBud = (m.capPut v).tileBud := by
  rw [Mach.tileBud, Mach.tileBud, m.capSet_capped]

theorem Mach.capSet_share (m : Mach) (v q : Nat) : (m.capSet v).share q = (m.capPut v).share q := by
  rw [Mach.share, Mach.share, Mach.fld, Mach.fld, m.capSet_rd v _ (by simp only [A.PWR_SHARE, A.PWR_TILEBUD]; omega)]

theorem Mach.capSet_tilesOf (m : Mach) (v p : Nat) : (m.capSet v).tilesOf p = (m.capPut v).tilesOf p := by
  have hne : ∀ t, A.TILE_STS t ≠ A.PWR_TILEBUD := fun t => by simp only [A.TILE_STS, A.PWR_TILEBUD]; omega
  have hsts : ∀ t, (m.capSet v).bit (A.TILE_STS t) 31 = (m.capPut v).bit (A.TILE_STS t) 31 := fun t => by
    rw [Mach.bit, Mach.bit, m.capSet_rd v _ (hne t)]
  have hown : (m.capSet v).own = (m.capPut v).own := Mach.put_own _ _ _ _ _
  unfold Mach.tilesOf Mach.tileOwner
  rw [hown]
  exact List.filter_congr (fun t _ => by rw [hsts t])

/-- The register PWR_TILEBUD itself says nothing of OVERSUB (R685). -/
theorem Mach.capSet_oversub (m : Mach) (v : Nat) : (m.capSet v).oversub = (m.capPut v).oversub :=
  Mach.oversub_congr (m.capSet_tileBud v) (funext (m.capSet_share v)) (funext (m.capSet_tilesOf v))

theorem Mach.capSet_cap (m : Mach) (v : Nat) : (m.capSet v).fld A.PWR_CFG 11 0 = bitsOf v 11 0 := by
  rw [Mach.fld, m.capSet_rd v _ (by decide)]
  exact (Mach.fld_put_same _ _ _ _ _ (by decide) (by decide)).trans (Nat.mod_eq_of_lt (bitsOf_lt v 11 0))

theorem Mach.capSet_fix (m : Mach) (v : Nat) : (m.capSet v).bit A.PWR_CFG 31 = m.bit A.PWR_CFG 31 := by
  rw [Mach.bit, m.capSet_rd v _ (by decide)]
  exact Mach.bit_put_disjoint _ _ _ _ _ _ (by decide) (by decide) (by decide)

theorem Mach.capSet_sts (m : Mach) (v i : Nat) : (m.capSet v).bit A.PWR_STS i = m.bit A.PWR_STS i := by
  rw [Mach.bit, m.capSet_rd v _ (by decide)]
  exact Mach.bit_put_other _ _ _ _ _ _ _ (by decide)

/-- PWR_TILEBUD tells the budget of the cap that stands. -/
theorem Mach.capSet_budget (m : Mach) (v : Nat) : (m.capSet v).fld A.PWR_TILEBUD 15 0 = (m.capSet v).tileBud := by
  rw [m.capSet_tileBud]
  exact (Mach.fld_put_same _ _ _ _ _ (by decide) (by decide)).trans (Nat.mod_eq_of_lt (m.capPut v).tileBud_lt)

theorem Mach.writePwrCfg_free (m : Mach) (v : Nat) (h : bitOf v 31 = false) :
    let n := m.writePwrCfg v
    n.bit A.PWR_CFG 31 = false ∧ n.fld A.PWR_CFG 11 0 = bitsOf v 11 0 ∧ n.fld A.PWR_TILEBUD 15 0 = n.tileBud := by
  have hcap : ((m.capSet v).putBit A.PWR_CFG 31 false).fld A.PWR_CFG 11 0 = (m.capSet v).fld A.PWR_CFG 11 0 :=
    Mach.fld_putBit_disjoint _ _ _ _ _ _ (by decide) (by decide)
  dsimp only
  rw [m.writePwrCfg_eq, if_pos (by simp [h]), hcap, Mach.fld_putBit_other _ _ _ _ _ _ _ (by decide), m.capSet_budget]
  refine ⟨Mach.bit_putBit_same _ _ _ _ (by decide), m.capSet_cap v, ?_⟩
  rw [Mach.tileBud, Mach.tileBud, Mach.cap, Mach.cap, hcap]

theorem Mach.writePwrCfg_fixed (m : Mach) (v : Nat) (h : bitOf v 31 = true) (ho : (m.capPut v).oversub = false) :
    (m.writePwrCfg v).bit A.PWR_CFG 31 = true ∧ (m.writePwrCfg v).bit A.PWR_STS 4 = m.bit A.PWR_STS 4 := by
  rw [m.writePwrCfg_eq, if_neg (by simp [h]), if_neg (by rw [m.capSet_oversub, ho]; decide), Mach.bit_putBit_other _ A.PWR_CFG A.PWR_STS _ _ _ (by decide)]
  exact ⟨Mach.bit_putBit_same _ _ _ _ (by decide), m.capSet_sts v 4⟩

theorem Mach.writePwrCfg_oversub (m : Mach) (v : Nat) (h : bitOf v 31 = true) (ho : (m.capPut v).oversub = true) :
    (m.writePwrCfg v).bit A.PWR_STS 4 = true ∧ (m.writePwrCfg v).bit A.PWR_CFG 31 = m.bit A.PWR_CFG 31 := by
  rw [m.writePwrCfg_eq, if_neg (by simp [h]), if_pos (by rw [m.capSet_oversub, ho]), Mach.bit_putBit_other _ A.PWR_STS A.PWR_CFG _ _ _ (by decide)]
  exact ⟨Mach.bit_putBit_same _ _ _ _ (by decide), m.capSet_fix v⟩

theorem Mach.writeShareW_taken (m : Mach) (p v : Nat) (h : m.bit A.PWR_CFG 31 = false) :
    (m.writeShareW p v).share p = bitsOf v 11 0 ∧ ∀ q, q ≠ p → (m.writeShareW p v).share q = m.share q := by
  have hw : m.writeShareW p v = m.put (A.PWR_SHARE p) 11 0 (bitsOf v 11 0) := if_neg (by simp [h])
  rw [hw]
  exact ⟨(Mach.fld_put_same _ _ _ _ _ (by decide) (by decide)).trans (Nat.mod_eq_of_lt (bitsOf_lt v 11 0)),
    fun q hq => Mach.fld_put_other _ _ _ _ _ _ _ _ (by simp only [A.PWR_SHARE]; omega)⟩

theorem Mach.writeShareW_ignored (m : Mach) (p v : Nat) (h : m.bit A.PWR_CFG 31 = true) (ho : m.oversubWith p (bitsOf v 11 0) = true) :
    m.writeShareW p v = m := if_pos (by simp [h, ho])

/-- PWR_FIX is lost at this slot boundary. -/
def Mach.fixLost (m : Mach) : Mach := (m.putBit A.PWR_CFG 31 false).putBit A.PWR_STS 4 true

theorem Mach.fixLost_outcome (m : Mach) : m.fixLost.bit A.PWR_CFG 31 = false ∧ m.fixLost.bit A.PWR_STS 4 = true :=
  ⟨(Mach.bit_putBit_other _ _ _ _ _ _ (by decide)).trans (Mach.bit_putBit_same _ _ _ _ (by decide)), Mach.bit_putBit_same _ _ _ _ (by decide)⟩

/-! ### Telemetry and alerts (R699, R701) -/

theorem Mach.qStore_sys (m : Mach) (b : Nat) (item : List Byte) : (m.qStore b item).sys = m.sys := rfl

/-- An item for a lossy queue leaves the system's own state, where storing one does. -/
theorem Mach.lossyPush_sys (m : Mach) (b : Nat) (item : List Byte) (store : Mach → List Byte → Mach) (h : ∀ k i, (store k i).sys = k.sys) :
    (m.lossyPush b item store).sys = m.sys := by
  have hmark : (m.lossyMark b store).sys = m.sys := by
    unfold Mach.lossyMark
    split
    · split_ifs
      · exact h _ _
      · rfl
    · rfl
  unfold Mach.lossyPush
  dsimp only
  split_ifs
  · exact (h _ _).trans hmark
  · exact hmark

theorem Mach.telemetry_count (m : Mach) : m.telemetry.sys.telCount = 0 :=
  congrArg (fun s => s.telCount) (Mach.lossyPush_sys _ _ _ _ (fun k i => k.qStore_sys telQueue i))

/-- A bit of a register by the field that holds it. -/
theorem Mach.bit_eq_testBit_fld (m : Mach) (a hi lo i : Nat) (h : lo + i ≤ hi) : m.bit a (lo + i) = (m.fld a hi lo).testBit i := by
  rw [Mach.fld, bitsOf_testBit, decide_eq_true (by omega : i < hi + 1 - lo), Bool.true_and]
  rfl

/-- Alerts are cleared by a 1, and stand where the write has a 0 (R699). -/
theorem Mach.writeAlert_bit (m : Mach) (v i : Nat) (h : i < 4) : (m.writeAlert v).bit A.MGT_ALERT i = (m.bit A.MGT_ALERT i && !bitOf v i) := by
  have hm : (15 - v % 16).testBit i = !(v.testBit i) := by
    rw [show 15 - v % 16 = 2 ^ 4 - (v % 2 ^ 4 + 1) by omega, Nat.testBit_two_pow_sub_succ (Nat.mod_lt _ (by decide)), Nat.testBit_mod_two_pow]
    simp [h]
  have hb : ∀ n : Mach, n.bit A.MGT_ALERT i = (n.fld A.MGT_ALERT 3 0).testBit i := fun n => by
    have := n.bit_eq_testBit_fld A.MGT_ALERT 3 0 i (by omega)
    rwa [Nat.zero_add] at this
  rw [hb, hb, Mach.writeAlert, Mach.fld_put_same _ _ _ _ _ (by decide) (by decide), Nat.testBit_mod_two_pow, Nat.testBit_and, hm,
    decide_eq_true (by omega : i < 3 + 1 - 0), Bool.true_and]
  rfl

/-! ### The statement -/

theorem Mach.fixLost_iff (m : Mach) : (m.phs.slotEdge && m.bit A.PWR_CFG 31 && m.oversub) = true ↔
    m.phs.slotEdge = true ∧ m.bit A.PWR_CFG 31 = true ∧ m.oversub = true := by
  simp [and_assoc]

/-- Settles O52: the outcomes of the power manager's events and of the writes of its registers. -/
theorem powerComplete : Obligations.PowerComplete := by
  intro s who v p
  refine ⟨fun d he => gives_gateStep he ⟨Mach.gate_gatePut_same _ _ (gateNext_lt (s.m.gate_lt _) _ _ _),
      fun q hq => Mach.gate_gatePut_other _ _ _ _ (fun h => hq (Fin.ext h)), rfl⟩, fun d he => unmoved_gateStep he,
    fun tj watts hf => gives_pmThrottle (s.m.pmThrottle_fixed _ _ hf) (s.m.sensed_outcome _ _ (Nat.mod_lt _ (by decide)) watts.isLt),
    fun tj watts hf h => gives_pmThrottle (s.m.pmThrottle_up _ _ hf h) rfl,
    fun tj watts hf ht hw => gives_pmThrottle (s.m.pmThrottle_down _ _ hf ht hw) rfl,
    fun tj watts h90 h95 hw => gives_pmThrottle (s.m.pmThrottle_holds _ _ h90 h95 hw)
      ⟨s.m.sensed_level _ _, s.m.sensed_raised_cool _ _ h95, s.m.sensed_therm _ _ (Nat.mod_lt _ (by decide))⟩,
    gives_onMach (f := Mach.coolantFalls) rfl s.m.coolantFalls_outcome, gives_coolant, unmoved_coolant, fun hw hb => ?_, fun hw hb => ⟨fun hm hs => ?_, fun hm hs => ?_⟩,
    fun hw hb => ?_, fun hw hb => ⟨fun ho => ?_, fun ho => ?_⟩, fun hw hf => ?_, fun hw hf ho => ?_, fun he hf ho => ?_, fun ho => ?_,
    fun hd => ?_, fun hd => ?_, fun hw => ?_⟩
  · exact gives_writeWhen rfl (by simp [hb]) (s.m.write_PWR_CTL who v.toNat v.isLt hw) (by rw [s.m.writePwrCtl_level _ hb])
  · refine gives_writeWhen rfl hb (s.m.write_PWR_CTL who v.toNat v.isLt hw) ?_
    rw [s.m.writePwrCtl_sleep _ hb hs]
    exact ⟨rfl, (s.m.writeLevel v.toNat).sleep_outcome hm⟩
  · refine gives_writeWhen rfl hb (s.m.write_PWR_CTL who v.toNat v.isLt hw) ?_
    rw [s.m.writePwrCtl_sleep _ hb hs, Mach.sleep_refused _ hm]
  · exact gives_write rfl (s.m.write_PWR_CFG who v.toNat v.isLt hw) ⟨rfl, s.m.writePwrCfg_free _ hb⟩
  · exact gives_write rfl (s.m.write_PWR_CFG who v.toNat v.isLt hw) (s.m.writePwrCfg_fixed _ hb ho)
  · exact gives_write rfl (s.m.write_PWR_CFG who v.toNat v.isLt hw) (s.m.writePwrCfg_oversub _ hb ho)
  · obtain ⟨hp, hq⟩ := s.m.writeShareW_taken p.val v.toNat hf
    exact gives_write rfl (s.m.write_PWR_SHARE who v.toNat p v.isLt hw) ⟨rfl, hp, fun q h => hq q.val (fun e => h (Fin.ext e))⟩
  · exact gives_write rfl (s.m.write_PWR_SHARE who v.toNat p v.isLt hw) (by rw [s.m.writeShareW_ignored _ _ hf ho])
  · exact gives_due (fun m => (m.phs.slotEdge && m.bit A.PWR_CFG 31 && m.oversub) = true) (f := Mach.fixLost) rfl
      (s.m.fixLost_iff.2 ⟨he, hf, ho⟩) s.m.fixLost_outcome
  · exact unmoved_not_due (fun m => (m.phs.slotEdge && m.bit A.PWR_CFG 31 && m.oversub) = true) (f := Mach.fixLost) rfl (by simp [ho])
  · exact gives_due (fun m => m.telDue = true) (f := Mach.telemetry) rfl hd ⟨rfl, s.m.telemetry_count⟩
  · exact unmoved_not_due (fun m => m.telDue = true) (f := Mach.telemetry) rfl (by rw [hd]; decide)
  · exact gives_write rfl (s.m.write_MGT_ALERT who v.toNat v.isLt hw) ⟨rfl, fun i => s.m.writeAlert_bit v.toNat i.val i.isLt⟩

end Sys2Proof.Machine

namespace Sys2Proof.Machine

/-! ### Accesses that the filters refuse (R72, R78, R90) -/

/-- The page number of a byte offset needs no reduction: offsets have 24 bits. -/
theorem page_of_off (off : BitVec 24) : off.toNat / 0x1000 % 0x1000 = off.toNat / 0x1000 := by
  have := off.isLt
  omega

/-- The mark "(data)" only narrows who may act (R88, R89). -/
theorem Mach.allowed_of_data (m : Mach) (who : Ident) (p o : Nat) (data write : Bool) (h : m.allowed who p o data write = true) :
    m.allowed who p o false write = true := by
  cases data with
  | false => exact h
  | true =>
    cases who with
    | kaolin => rfl
    | part q =>
      simp only [Mach.allowed] at h ⊢
      split_ifs at h ⊢
      · exact h
      · revert h
        split
        · exact id
        · exact id
        · exact id
        · intro h
          simp only [Bool.or_eq_true, Bool.not_true, Bool.and_false, Bool.false_eq_true, or_false] at h
          exact Bool.or_eq_true_iff.2 (.inl (Bool.or_eq_true_iff.2 h))

/-- Below offset 0x20 no register is marked "(data)", so an access denied by the mark is denied whatever the row there says (R88). -/
theorem Mach.denied_of_dataMark (m : Mach) (who : Ident) (p o : Nat) (data write : Bool) (h : m.allowed who p o (dataMark p o) write = false)
    (hd : 0x20 ≤ o → data = dataMark p o) : m.allowed who p o data write = false := by
  by_cases ho : o < 0x20
  · rw [dataMark, if_pos ho] at h
    exact Bool.eq_false_iff.2 fun ha => Bool.eq_false_iff.1 h (m.allowed_of_data _ _ _ _ _ ha)
  · rwa [hd (Nat.le_of_not_lt ho)]

section
variable {m : Mach} {who : Ident} {path off p o : Nat} (hp : resolvePage (off / 0x1000 % 0x1000) = p) (ho : resolveOff p (off % 0x1000) = o)
include hp ho

theorem Mach.regWrite_denied (v : Nat) (now : Bool) (h : m.allowed who p o (dataMark p o) true = false) :
    m.regWrite who path off v now = (m.refuse who path off 1, 1) := by
  unfold dataMark at h
  subst hp ho
  exact if_pos (by simp only [Bool.or_eq_true, Bool.not_eq_true']; exact .inl (.inr h))

theorem Mach.regRead_denied (hal : off % 4 = 0) (ht : p < 0xF00) (h : m.allowed who p o (dataMark p o) false = false) :
    m.regRead who path off = (m.refuse who path off 1, 0, 1) := by
  subst hp ho
  rw [Mach.regRead, if_neg (by simp [hal]), if_neg (by simp; omega), if_pos]
  rw [Bool.or_eq_true, Bool.not_eq_true']
  exact .inr (m.denied_of_dataMark _ _ _ _ _ h fun hge => by rw [dataMark, if_neg (Nat.not_lt.2 hge)] <;> rfl)

theorem Mach.regWrite_locked (v : Nat) (now : Bool) (hal : off % 4 = 0) (ht : p < 0xF00) (hr : m.reach path p = 1)
    (ha : m.allowed who p o (dataMark p o) true = true) (hl : m.locked who p = true)
    (hreg : o = 4 ∨ (0x20 ≤ o ∧ (rowIn (pageRows p) o).isSome = true)) :
    m.regWrite who path off v now = (m.refuse who path off 2, 2) := by
  have hrow : o = 4 ∨ (if o < 0x20 then none else rowIn (pageRows p) o).isSome = true :=
    hreg.imp id fun ⟨hge, hsome⟩ => by rwa [if_neg (by omega)]
  unfold dataMark at ha
  subst hp ho
  refine (if_neg ?_).trans (if_pos (by simpa [hl] using hrow))
  simp only [hr, hal, Bool.or_eq_true, Bool.and_eq_true, decide_eq_true_eq, Bool.not_eq_true', not_or]
  exact ⟨⟨⟨⟨⟨by decide, by omega⟩, by decide⟩, by decide⟩, ne_false_of_eq_true ha⟩, by simp⟩

end

/-- A refusal adds one to the count of its partition, which stops at its greatest value (R95). -/
theorem Mach.refuse_rd_count (m : Mach) (p : Fin 16) (path off st : Nat) : (m.refuse (.part p) path off st).rd (A.GLB_DENY_CNT p.val) =
    BitVec.ofNat 32 (min ((m.rd (A.GLB_DENY_CNT p.val)).toNat + 1) (2 ^ 32 - 1)) := by
  rw [Mach.refuse, Mach.rd_bump, Mach.rd_wr_other _ _ _ _ (by simp only [A.GLB_DENY_CNT, A.GLB_DENY_OFF]; omega),
    Mach.rd_wr_other _ _ _ _ (by simp only [A.GLB_DENY_CNT, A.GLB_DENY_PAGE]; omega)]

/-- A refusal leaves every register but its record and its count (R90, R95). -/
theorem Mach.refuse_rd_other (m : Mach) (p : Fin 16) (path off st a : Nat) (hpage : a ≠ A.GLB_DENY_PAGE) (hoff : a ≠ A.GLB_DENY_OFF)
    (hcnt : a ≠ A.GLB_DENY_CNT p.val) : (m.refuse (.part p) path off st).rd a = m.rd a := by
  rw [Mach.refuse, Mach.bump, Mach.rd_bumpF_other _ _ _ _ _ _ hcnt, Mach.rd_wr_other _ _ _ _ hoff, Mach.rd_wr_other _ _ _ _ hpage]

/-- A register write that arrives while the core clocks run answers the status of the access. -/
theorem gives_registerWrite {s : State} {who : Ident} {off : BitVec 24} {v : Word} {n : Mach} {st : Nat} {P : Mach → Prop} (hw : s.m.awake)
    (hx : s.m.regWrite who 0 off.toNat v.toNat false = (n, st)) (hp : P { n with resp := [(st, 0)] }) : Gives (.registerWrite who off v) s P := by
  obtain ⟨hs, hg⟩ := hw
  refine ⟨_, ?_, hp⟩
  change execRegisterWrite who off v s = _
  simp only [execRegisterWrite, State.onMach_eq, hs, Bool.false_eq_true, if_false, Mach.event_awake _ _ hg, hx]

theorem Mach.readCmd_of_regRead {m n : Mach} {who : Ident} {off st : Nat} {v : Word} (hs : m.asleep = false)
    (hx : m.regRead who 0 off = (n, v, st)) : m.readCmd who off = { n with resp := [(st, v)] } := by
  simp only [Mach.readCmd, hs, hx, Bool.false_eq_true, if_false]

/-- What a refused write leaves in the registers: all as it was, but the record and the count of the refusal (R90, R95). -/
theorem Mach.refuse_outcome (m : Mach) (p : Fin 16) (path off st : Nat) (l : List (Nat × Word)) :
    let n := { m.refuse (.part p) path off st with resp := l }
    n.rd (A.GLB_DENY_CNT p.val) = BitVec.ofNat 32 (min ((m.rd (A.GLB_DENY_CNT p.val)).toNat + 1) (2 ^ 32 - 1)) ∧
    ∀ a, a ≠ A.GLB_DENY_PAGE → a ≠ A.GLB_DENY_OFF → a ≠ A.GLB_DENY_CNT p.val → n.rd a = m.rd a := by
  intro n
  have hn : ∀ a, n.rd a = (m.refuse (.part p) path off st).rd a := Mach.rd_of_act rfl
  exact ⟨(hn _).trans (m.refuse_rd_count p path off st), fun a h1 h2 h3 => (hn a).trans (m.refuse_rd_other p path off st a h1 h2 h3)⟩

/-- Settles O6: the outcomes of the filter on a partition's accesses, and what a refusal changes. -/
theorem refusedAndLockedAccesses : Obligations.RefusedAndLockedAccesses := by
  refine ⟨fun s p off v hw hal => ?_, fun s p off v hw hal => ?_⟩
  · intro pg o ht
    have hp : resolvePage (off.toNat / 0x1000 % 0x1000) = pg := by rw [page_of_off]
    refine ⟨fun hd => ?_, fun hd => ?_⟩
    · exact gives_registerWrite hw (Mach.regWrite_denied hp rfl v.toNat false hd) ⟨rfl, s.m.refuse_outcome p 0 off.toNat 1 [(1, 0)]⟩
    · exact Mach.readCmd_of_regRead hw.1 (Mach.regRead_denied hp rfl hal ht hd)
  · intro pg o ht hr ha hl hreg
    have hp : resolvePage (off.toNat / 0x1000 % 0x1000) = pg := by rw [page_of_off]
    have hlk : s.m.locked (.part p) pg = true := by simp [Mach.locked, hl]
    exact ⟨gives_registerWrite hw (Mach.regWrite_locked hp rfl v.toNat false hal ht hr ha hlk hreg) rfl, rfl⟩

end Sys2Proof.Machine

namespace Sys2Proof.Machine

/-! ### Byte-exact writes of translated memory (R112, R492) -/

/-- Every segment of `l` maps the bytes of a range of length `n` that starts at physical address `pa`. -/
def segsIn (pa n : Nat) (l : List Seg) : Prop := ∀ s ∈ l, s.pa = pa + s.off ∧ s.off + s.len ≤ n

/-- Address `a` lies in one of the segments. -/
def segCovers (l : List Seg) (a : Nat) : Prop := ∃ s ∈ l, s.pa ≤ a ∧ a < s.pa + s.len

/-- What a write of `b` puts in a segment of which it had read `old` (R112). -/
def writeBytes (b : List Byte) (off : Nat) (old : List Byte) : List Byte := (b.drop off).take old.length

theorem Mach.vwrite_eq (m : Mach) (src p va : Nat) (b : List Byte) :
    m.vwrite src p va b = m.vupdate src p va b.length true (writeBytes b) := rfl

theorem memRead_length (c : List Host.Cell) (a n : Nat) : (memRead c a n).length = n := by simp [memRead]

/-- One piece of a write: the bytes of its segment are those of `b`, every other byte stands. -/
theorem memGet_writeSeg (c : List Host.Cell) (pa a : Nat) (b : List Byte) (s : Seg) (h : memWf c = true) (hpa : s.pa = pa + s.off)
    (hlen : s.off + s.len ≤ b.length) :
    memGet (memWrite c s.pa (writeBytes b s.off (memRead c s.pa s.len))) a =
      if s.pa ≤ a ∧ a < s.pa + s.len then b.getD (a - pa) 0 else memGet c a := by
  have hw : writeBytes b s.off (memRead c s.pa s.len) = (b.drop s.off).take s.len := by rw [writeBytes, memRead_length]
  have hl : ((b.drop s.off).take s.len).length = s.len := by rw [List.length_take, List.length_drop]; omega
  rw [hw]
  split_ifs with hin
  · obtain ⟨i, rfl⟩ := Nat.exists_eq_add_of_le hin.1
    have hi : i < s.len := by omega
    rw [memGet_memWrite_at c s.pa i _ h (by omega), show s.pa + i - pa = s.off + i by omega]
    simp [List.getD_eq_getElem?_getD, hi]
  · exact memGet_memWrite_other c s.pa a _ h (by omega)

/-- The access of one line before its bytes change: no byte moves (R511, R512). -/
theorem Mach.lineAccess_cells (m : Mach) (p : Nat) (full : Bool) (s : Seg) :
    (if full && s.len = 64 then m.lineFull p s.pa else m.lineRead p s.pa).1.mem.cells = m.mem.cells := by
  split
  · exact (m.lineFull_moved p s.pa).2
  · exact congrArg MemSt.cells (m.lineRead_moved p s.pa).2

/-- A write that meets no failing line puts the bytes of `b` into its segments and leaves every other byte. -/
theorem Mach.modLines_bytes (p va pa : Nat) (b : List Byte) (l : List Seg) : ∀ (m n : Mach), memWf m.mem.cells = true →
    segsIn pa b.length l → m.modLines p va true (writeBytes b) l = (n, none) → ∀ a,
    (segCovers l a → memGet n.mem.cells a = b.getD (a - pa) 0) ∧ (¬ segCovers l a → memGet n.mem.cells a = memGet m.mem.cells a) := by
  induction l with
  | nil =>
    intro m n hwf _ h a
    obtain rfl : m = n := congrArg Prod.fst h
    exact ⟨fun ⟨s, hs, _⟩ => absurd hs List.not_mem_nil, fun _ => rfl⟩
  | cons s r ih =>
    intro m n hwf hin h a
    have hc := m.lineAccess_cells p true s
    unfold Mach.modLines at h
    split at h
    · exact absurd (congrArg Prod.snd h) (by simp)
    · rename_i m' hm'
      rw [hm'] at hc
      change m'.mem.cells = m.mem.cells at hc
      have hwf' : memWf m'.mem.cells = true := hc ▸ hwf
      obtain ⟨hpa, hlen⟩ := hin s List.mem_cons_self
      obtain ⟨hcov, hout⟩ := ih _ n (memWrite_wf _ _ _ hwf') (fun t ht => hin t (List.mem_cons_of_mem _ ht)) h a
      have hone := memGet_writeSeg m'.mem.cells pa a b s hwf' hpa hlen
      by_cases hr : segCovers r a
      · refine ⟨fun _ => hcov hr, fun hn => absurd ?_ hn⟩
        obtain ⟨t, ht, hb⟩ := hr
        exact ⟨t, List.mem_cons_of_mem _ ht, hb⟩
      · have hrest := (hout hr).trans hone
        rw [hc] at hrest
        by_cases hs : s.pa ≤ a ∧ a < s.pa + s.len
        · rw [if_pos hs] at hrest
          exact ⟨fun _ => hrest, fun hn => absurd ⟨s, List.mem_cons_self, hs⟩ hn⟩
        · rw [if_neg hs] at hrest
          refine ⟨fun ⟨t, ht, hb⟩ => ?_, fun _ => hrest⟩
          rcases List.mem_cons.1 ht with rfl | ht
          · exact absurd hb hs
          · exact absurd ⟨t, ht, hb⟩ hr

/-- The piece of the range of `n` bytes at `pa` that lies in its line number `i` (R112). -/
def linePiece (pa n i : Nat) : Seg :=
  let lo := max pa ((pa / 64 + i) * 64)
  { off := lo - pa, pa := lo, len := min (pa + n) ((pa / 64 + i + 1) * 64) - lo }

theorem mem_lineSegs_range (pa n : Nat) (s : Seg) :
    s ∈ lineSegs [⟨0, pa, n⟩] ↔ ∃ i < (pa + n - 1) / 64 + 1 - pa / 64, linePiece pa n i = s := by
  simp only [lineSegs, linePiece, List.flatMap_cons, List.flatMap_nil, List.append_nil, List.mem_map, List.mem_range, Nat.zero_add]

/-- The lines of one translated range lie in it. -/
theorem lineSegs_in (pa n : Nat) : segsIn pa n (lineSegs [⟨0, pa, n⟩]) := by
  intro s hs
  obtain ⟨i, hi, rfl⟩ := (mem_lineSegs_range pa n s).1 hs
  dsimp only [linePiece]
  omega

/-- They cover the range and nothing else. -/
theorem lineSegs_covers (pa n a : Nat) : segCovers (lineSegs [⟨0, pa, n⟩]) a ↔ pa ≤ a ∧ a < pa + n := by
  constructor
  · rintro ⟨s, hs, hlo, hhi⟩
    obtain ⟨hpa, hlen⟩ := lineSegs_in pa n s hs
    omega
  · intro h
    refine ⟨linePiece pa n (a / 64 - pa / 64), (mem_lineSegs_range pa n _).2 ⟨_, by omega, rfl⟩, ?_⟩
    dsimp only [linePiece]
    omega

/-- A write through one translated range stores exactly its bytes. -/
theorem Mach.vwrite_bytes (m m1 m2 : Mach) (src p va pa : Nat) (b : List Byte) (hwf : memWf m.mem.cells = true)
    (hx : m.xlate src p va b.length = (m1, .ok [⟨0, pa, b.length⟩])) (hw : m.vwrite src p va b = (m2, none)) :
    memRead m2.mem.cells pa b.length = b ∧ ∀ a, (a < pa ∨ pa + b.length ≤ a) → memGet m2.mem.cells a = memGet m.mem.cells a := by
  have hc := (m.xlate_moved src p va b.length).2
  rw [hx] at hc
  rw [Mach.vwrite_eq, Mach.vupdate, hx] at hw
  have hb := Mach.modLines_bytes p va pa b _ m1 m2 ((congrArg memWf hc).trans hwf) (lineSegs_in pa b.length) hw
  refine ⟨List.ext_getElem (memRead_length _ _ _) fun i _ hi => ?_, fun a ha => ?_⟩
  · simp only [memRead, List.getElem_map, List.getElem_range]
    rw [(hb (pa + i)).1 ((lineSegs_covers _ _ _).2 (by omega)), Nat.add_sub_cancel_left, List.getD_eq_getElem b 0 hi]
  · rw [(hb a).2 (fun h => by have := (lineSegs_covers _ _ _).1 h; omega)]
    exact congrArg (memGet · a) hc

/-- A write whose translation fails reports the failure, and no byte moves. -/
theorem Mach.vwrite_failed (m m1 : Mach) (src p va : Nat) (b : List Byte) (e : XFail) (hx : m.xlate src p va b.length = (m1, .error e)) :
    m.vwrite src p va b = (m1, some e) ∧ m1.mem.cells = m.mem.cells := by
  have hc := (m.xlate_moved src p va b.length).2
  rw [hx] at hc
  exact ⟨by rw [Mach.vwrite, Mach.vupdate, hx], hc⟩

/-! ### Operations that keep the canonical form -/

theorem Mach.vupdate_wf (m : Mach) (src p va n : Nat) (full : Bool) (g : Nat → List Byte → List Byte) (h : memWf m.mem.cells = true) :
    memWf (m.vupdate src p va n full g).1.mem.cells = true := by
  have hc := (m.xlate_moved src p va n).2
  unfold Mach.vupdate
  split
  · rename_i m' e hx; rw [hx] at hc; exact (congrArg memWf hc).trans h
  · rename_i m' segs hx; rw [hx] at hc; exact Mach.modLines_wf p va full g _ _ ((congrArg memWf hc).trans h)

theorem Mach.readyCheck_mem (m : Mach) (p : Nat) : (m.readyCheck p).mem = m.mem := by
  unfold Mach.readyCheck
  split <;> rfl

/-- The end of INIT leaves the bytes of the channel 0 (R510). -/
theorem Mach.channelInitDone_cells (m : Mach) (ch : Nat) :
    (m.channelInitDone ch).mem.cells = memZero m.mem.cells (ch * 2 ^ 33) (2 ^ 33) := by
  unfold Mach.channelInitDone
  dsimp only
  split
  · rw [Mach.readyCheck_mem]; rfl
  · rfl

/-- Bytes set one after another keep the canonical form. -/
theorem memSet_foldl_wf (l c : List Host.Cell) (h : memWf c = true) : memWf (l.foldl (fun c e => memSet c e.1 e.2) c) = true := by
  induction l generalizing c with
  | nil => exact h
  | cons e r ih => exact ih _ (memSet_wf c e.1 e.2 h)

/-- The move of a page of a retiring channel (R517). -/
theorem Mach.retirePage_wf (m : Mach) (ch p : Nat) (g : MigPage) (h : memWf m.mem.cells = true) :
    memWf (m.retirePage ch p g).mem.cells = true :=
  memWrite_wf _ _ _ (memSet_foldl_wf _ _ (memZero_wf _ _ _ h))

/-- The pages left to move of channel `ch`, recorded. -/
def Mach.setMig (m : Mach) (ch mode : Nat) (r : List MigPage) : Mach :=
  { m with mem := { m.mem with mig := tset m.mem.mig ch (mode, r) } }

theorem Mach.setMig_cells (m : Mach) (ch mode : Nat) (r : List MigPage) : (m.setMig ch mode r).mem.cells = m.mem.cells := rfl

/-- The next page of a retiring channel moves, where one is left (R517). -/
theorem Mach.retirePageDone_cases (m : Mach) (ch : Nat) :
    m.retirePageDone ch = m ∨ ∃ p g mode r, m.retirePageDone ch = (m.retirePage ch p g).setMig ch mode r := by
  unfold Mach.retirePageDone
  split
  · exact .inr ⟨_, _, _, _, rfl⟩
  · exact .inl rfl

theorem Mach.retirePageDone_wf (m : Mach) (ch : Nat) (h : memWf m.mem.cells = true) : memWf (m.retirePageDone ch).mem.cells = true := by
  rcases m.retirePageDone_cases ch with hd | ⟨p, g, mode, r, hd⟩
  · rw [hd]; exact h
  · rw [hd, Mach.setMig_cells]
    exact m.retirePage_wf ch p g h

/-- Settles O37, by the bytes that the lines of a write hold and by the canonical form each operation keeps. -/
theorem memoryOperations : Obligations.MemoryOperations := by
  refine ⟨fun m m1 m2 src p va pa b hwf => ⟨m.vwrite_bytes m1 m2 src p va pa b hwf, fun e => m.vwrite_failed m1 src p va b e,
    fun n => (m.vread_moved src p va n).2⟩, fun m hwf => ⟨fun src p va n full g => m.vupdate_wf src p va n full g hwf,
    fun pa b => m.pwrite_wf pa b hwf, fun ch => ?_, fun ch => m.retirePageDone_wf ch hwf, reset_mem_wf⟩⟩
  rw [Mach.channelInitDone_cells]
  exact memZero_wf _ _ _ hwf

end Sys2Proof.Machine

namespace Sys2Proof.Machine

/-! ### Memory and atomic requests at step 12 (R112, R113, R115, R478, R479) -/

section
variable {m : Mach} {k : Pkt}

theorem Mach.memWrRun_stored {m' : Mach}
    (h : m.vwrite 0 k.part.val (fieldAt k.payload 0 8 % 2 ^ 48) (slice k.payload 16 (fieldAt k.payload 8 4)) = (m', none)) :
    m.memWrRun k = (m', .ack 0) := by
  rw [Mach.memWrRun, h]

theorem Mach.memRdRun_read {m' : Mach} {b : List Byte}
    (h : m.vread 0 k.part.val (fieldAt k.payload 0 8 % 2 ^ 48) (fieldAt k.payload 8 4) = (m', .ok b)) :
    m.memRdRun k = (m', .rsp 0x12 (slice k.payload 0 12 ++ leBytes 4 0 ++ b)) := by
  rw [Mach.memRdRun, h]

/-- The address of the result record of an atomic (R478). -/
def Mach.atomRecVa (m : Mach) (k : Pkt) : Nat := (m.atomVa k.queue.toNat + 16 * (k.seq.toNat % 256)) % 2 ^ 48

/-- The result record that an atomic leaves (R478). -/
def atomRecord (k : Pkt) (old : List Byte) : List Byte := leBytes 4 k.seq.toNat ++ leBytes 3 k.src.toNat ++ leBytes 1 1 ++ old

/-- The record that was read belongs to this very request: the atomic has been done before (R478). -/
def atomDone (k : Pkt) (r : List Byte) : Bool :=
  (fieldAt r 7 1).testBit 0 && fieldAt r 0 4 = k.seq.toNat && fieldAt r 4 3 % 2 ^ 20 = k.src.toNat

/-- An aligned atomic on a queue with a result ring, whose record can be read: done already, or to be done (R478). -/
theorem Mach.atomRun_record {m1 : Mach} {r : List Byte} (cas : Bool) (hal : fieldAt k.payload 0 8 % 8 = 0)
    (hring : m.atomVa k.queue.toNat ≠ 0) (hr : m.vread 0 k.part.val (m.atomRecVa k) 16 = (m1, .ok r)) :
    m.atomRun cas k = if atomDone k r then (m1, atomRsp (r.drop 8))
      else m1.atomDo cas k (fieldAt k.payload 0 8 % 2 ^ 48) (m.atomRecVa k) := by
  unfold Mach.atomRecVa at hr
  unfold Mach.atomRun
  dsimp only
  rw [if_neg (by simpa using hal), if_neg hring, hr]
  rfl

/-- An atomic that is not aligned is refused before its result ring is looked at (R115, log entry 53). -/
theorem Mach.atomRun_unaligned (cas : Bool) (h : fieldAt k.payload 0 8 % 8 ≠ 0) :
    m.atomRun cas k = (m, .nak 8 (fieldAt k.payload 0 8)) := if_pos h

section
variable {m2 m3 m4 : Mach} {old : List Byte} {cas : Bool} {va recVa : Nat} (hread : m.vread 0 k.part.val va 8 = (m2, .ok old))
include hread

/-- The word takes its new value, and the record follows (R478, steps 2 and 3). -/
theorem Mach.atomDo_stores {v : Nat} (hnew : atomNew cas k (leNat old) = some v)
    (hw : m2.vwrite 0 k.part.val va (leBytes 8 v) = (m3, none)) (hrec : m3.vwrite 0 k.part.val recVa (atomRecord k old) = (m4, none)) :
    m.atomDo cas k va recVa = (m4, atomRsp old) := by
  unfold atomRecord at hrec
  simp only [Mach.atomDo, hread, hnew, hw, hrec]

/-- A CAS that does not swap only leaves its record (R479). -/
theorem Mach.atomDo_keeps (hnew : atomNew cas k (leNat old) = none) (hrec : m2.vwrite 0 k.part.val recVa (atomRecord k old) = (m3, none)) :
    m.atomDo cas k va recVa = (m3, atomRsp old) := by
  unfold atomRecord at hrec
  simp only [Mach.atomDo, hread, hnew, hrec]

end

/-- A record that is not valid belongs to no request. -/
theorem atomDone_invalid {r : List Byte} (h : (fieldAt r 7 1).testBit 0 = false) : atomDone k r = false := by simp [atomDone, h]

/-- A valid record that names the request's SEQ and source is its own. -/
theorem atomDone_valid {r : List Byte} (hv : (fieldAt r 7 1).testBit 0 = true) (hseq : fieldAt r 0 4 = k.seq.toNat)
    (hsrc : fieldAt r 4 3 % 2 ^ 20 = k.src.toNat) : atomDone k r = true := by
  simp only [atomDone, hv, hseq, hsrc, decide_true, Bool.and_self]

/-- The new value of an AADD, and of a CAS that swaps (R115, R479). -/
theorem atomNew_swap {cas : Bool} {old : Nat} (h : cas = true → old = fieldAt k.payload 8 8) :
    atomNew cas k old = some (if cas then fieldAt k.payload 16 8 else (old + fieldAt k.payload 8 8) % 2 ^ 64) := by
  cases cas with
  | true => simp [atomNew, h rfl]
  | false => rfl

/-- INT_MSG of partition 0 fires any source (R118). -/
theorem Mach.intMsgRun_operator (h : k.part = 0) : m.intMsgRun k = (m.fire (k.operand.toNat % 1024), .ack 0) := by
  simp [Mach.intMsgRun, h]

/-- INT_MSG of a tenant reaches no source below 512 (R118). -/
theorem Mach.intMsgRun_denied (hp : k.part ≠ 0) (hs : k.operand.toNat % 1024 < 512) : m.intMsgRun k = (m, .nak 0x0C 0) := by
  have : ¬ 512 ≤ k.operand.toNat % 1024 := Nat.not_le.2 hs
  simp [Mach.intMsgRun, hp, this]

end

/-- Settles O20, by the outcomes of the memory accesses of each request. -/
theorem requestEffects : Obligations.RequestEffects := by
  intro m k
  refine ⟨fun m' h => Mach.memWrRun_stored h, fun m' b h => Mach.memRdRun_read h, fun cas m1 m2 m3 m4 r old hal hring hr hv hrd hc hw hrec => ?_,
    fun m1 m2 m3 r old hal hring hr hv hrd hne hrec => ?_, fun cas m1 r hal hring hr hv hseq hsrc => ?_,
    fun h cas => Mach.atomRun_unaligned cas h, rfl, fun h => Mach.intMsgRun_operator h, fun hp hs => Mach.intMsgRun_denied hp hs⟩
  · rw [Mach.atomRun_record cas hal hring hr, atomDone_invalid hv]
    exact Mach.atomDo_stores hrd (atomNew_swap hc) hw hrec
  · have hnew : atomNew true k (leNat old) = none := by simp [atomNew, hne]
    rw [Mach.atomRun_record true hal hring hr, atomDone_invalid hv]
    exact Mach.atomDo_keeps hrd hnew hrec
  · rw [Mach.atomRun_record cas hal hring hr, atomDone_valid hv hseq hsrc]
    rfl

end Sys2Proof.Machine

namespace Sys2Proof.Machine

/-! ### A frame counted at its ingest port (R486) -/

/-- The machine as the receive checks find it: an ingest port has counted the frame, a ring port counts none (R126, R486). -/
def Mach.counted (m : Mach) (ing : Ingress) : Mach :=
  match ing with
  | .ring _ => m
  | .eth n _ _ _ _ => m.bump (A.ETH_RX_FRAMES n.val)

section
variable (m : Mach) (ing : Ingress)

theorem Mach.counted_eq : m.counted ing = { m with regs := { m.regs with act := (m.counted ing).regs.act } } := by
  cases ing <;> rfl

theorem Mach.counted_net : (m.counted ing).net = m.net := by rw [m.counted_eq]

/-- No register but the frame counters of the ingest ports moves. -/
theorem Mach.counted_rd {a : Nat} (h : ∀ i < 16, a ≠ A.ETH_RX_FRAMES i) : (m.counted ing).rd a = m.rd a := by
  cases ing with
  | ring n => rfl
  | eth n _ _ _ _ => exact m.rd_bumpF_other _ a 31 0 1 (h n.val n.isLt)

/-- The frame counters lie between the registers of the ring and those of HRMP. -/
theorem ne_ETH_RX_FRAMES {a : Nat} (h : a < 0x341020 ∨ 0x380000 ≤ a) : ∀ i < 16, a ≠ A.ETH_RX_FRAMES i := by
  intro i hi
  unfold A.ETH_RX_FRAMES
  omega

theorem Mach.counted_fld {a : Nat} (h : a < 0x341020 ∨ 0x380000 ≤ a) (hi lo : Nat) : (m.counted ing).fld a hi lo = m.fld a hi lo := by
  rw [Mach.fld, m.counted_rd ing (ne_ETH_RX_FRAMES h), ← Mach.fld]

theorem Mach.counted_bit {a : Nat} (h : a < 0x341020 ∨ 0x380000 ≤ a) (i : Nat) : (m.counted ing).bit a i = m.bit a i := by
  rw [Mach.bit, m.counted_rd ing (ne_ETH_RX_FRAMES h), ← Mach.bit]

theorem Mach.counted_ownLane {a : Nat} (h : a < 0x341020 ∨ 0x380000 ≤ a) (k : Nat) : (m.counted ing).ownLane a k = m.ownLane a k := by
  simp only [Mach.ownLane, m.counted_bit ing h, m.counted_fld ing h]

theorem Mach.counted_queueOwner (q : Nat) : (m.counted ing).queueOwner q = m.queueOwner q :=
  m.counted_ownLane ing (.inr (by unfold A.HRMP_QOWN; omega)) _

theorem Mach.counted_banks (p : Nat) : (m.counted ing).banks p = m.banks p := by
  have h (b : Nat) : (m.counted ing).ownLane (A.HRMP_CBANK (b / 4)) (b % 4) = m.ownLane (A.HRMP_CBANK (b / 4)) (b % 4) :=
    m.counted_ownLane ing (.inr (by unfold A.HRMP_CBANK; omega)) _
  simp only [Mach.banks, h]

theorem Mach.counted_node : (m.counted ing).node = m.node := m.counted_fld ing (by decide) 19 0

theorem Mach.counted_maxPlen (ing' : Ingress) (enc : Bool) : (m.counted ing).maxPlen ing' enc = m.maxPlen ing' enc := by
  cases ing' with
  | ring _ => rfl
  | eth _ _ _ _ _ => simp only [Mach.maxPlen, m.counted_fld ing (show A.HRMP_CFG < 0x341020 ∨ 0x380000 ≤ A.HRMP_CFG by decide)]

theorem Mach.counted_slotKey (p s a : Nat) : (m.counted ing).slotKey p s a = m.slotKey p s a := by
  rw [m.counted_eq]
  rfl

theorem Mach.counted_linkKey (p : Nat) : (m.counted ing).linkKey p = m.linkKey p := by
  have h : A.HRMP_LKEY_CUR p < 0x341020 ∨ 0x380000 ≤ A.HRMP_LKEY_CUR p := .inr (by unfold A.HRMP_LKEY_CUR; omega)
  simp only [Mach.linkKey, m.counted_bit ing h, m.counted_fld ing h, m.counted_slotKey]

theorem Mach.counted_altKey (p : Nat) : (m.counted ing).altKey p = m.altKey p := by
  have h : A.HRMP_LKEY_ALT p < 0x341020 ∨ 0x380000 ≤ A.HRMP_LKEY_ALT p := .inr (by unfold A.HRMP_LKEY_ALT; omega)
  simp only [Mach.altKey, m.counted_bit ing h, m.counted_fld ing h, m.counted_slotKey]

theorem Mach.counted_openPkt (opc : BitVec 8) (k : Pkt) : (m.counted ing).openPkt opc k = m.openPkt opc k := by
  simp only [Mach.openPkt, Mach.hasKey, m.counted_linkKey, m.counted_altKey]

/-! ### Arrival of an admitted request (R126, R128, R465) -/

/-- A packet that its port takes enters the receive checks, counted. -/
theorem Mach.packet_taken {opc : BitVec 8} {k : Pkt} (ha : m.asleep = false) (ht : m.portTakes ing k) (hw : k.whole = true) :
    m.packet ing opc k = (m.counted ing).recv handler Mach.response ing opc k := by
  cases ing with
  | ring n => exact m.packet_ring n opc k ha ht.1 hw ht.2
  | eth n v6 ip port mac =>
    obtain ⟨hu, hroom, hvc⟩ := ht
    change _ = (m.bump (A.ETH_RX_FRAMES n.val)).recv handler Mach.response (.eth n v6 ip port mac) opc k
    have hshare : (m.bump (A.ETH_RX_FRAMES n.val)).fld (A.ETH_RXSHARE n.val k.part.val) 8 0 = m.fld (A.ETH_RXSHARE n.val k.part.val) 8 0 :=
      Mach.fld_bumpF_other _ _ _ _ _ _ _ _ (by unfold A.ETH_RXSHARE A.ETH_RX_FRAMES; omega)
    have hfits : ¬ (m.bump (A.ETH_RX_FRAMES n.val)).fld (A.ETH_RXSHARE n.val k.part.val) 8 0 * 4096 <
        (m.bump (A.ETH_RX_FRAMES n.val)).shareUsed n.val k.part.val + k.size := by
      rw [hshare]; exact Nat.not_lt.2 hroom
    simp only [Mach.packet, Mach.forHub, ha, Bool.not_true, Bool.or_self, Bool.false_eq_true, if_false, Mach.arrive, hu, hw, if_neg hfits]
    rcases hvc with hvc | ⟨hslot, hwait⟩
    · rw [if_pos hvc]
    · have hopen : (match m.slotOwner (8 + n.val) with | none => true | some q => decide (q = k.part.val)) = true := by
        cases hs : m.slotOwner (8 + n.val) with
        | none => rfl
        | some q => exact decide_eq_true (hslot q hs)
      have hnone : m.net.wait.any (fun w => w.1 = n.val && w.2.pkt.part.val = k.part.val) = false := by
        simp only [List.any_eq_false, Bool.and_eq_true, decide_eq_true_eq]
        exact fun w hw h => hwait w hw ⟨h.1, Fin.ext h.2⟩
      split
      · rfl
      · exact if_pos (by rw [Bool.and_eq_true, Bool.not_eq_true']; exact ⟨hopen, hnone⟩)

end

/-- The opcodes that reach step 10 as requests (R108, R128). -/
def isRequest (o : Nat) : Bool := !isResponse o && o ≠ 0x70 && o ≠ 0x71 && o ≠ 0x7F

/-- A request that passes steps 2 to 9 goes on to step 10 (R128). -/
theorem Mach.recv_request (m : Mach) (ing : Ingress) (opc : BitVec 8) (k0 k : Pkt) (hreq : isRequest opc.toNat = true)
    (hver : k0.ver = 1) (hq : m.queueOwner k0.queue.toNat = some k0.part.val) (ho : m.openPkt opc k0 = some k)
    (hvc : vcOf opc.toNat = some k.vc.toNat) (hh : hdrCheck opc.toNat k = none) (hd : k.dst.toNat = m.node)
    (hp : k.plen.toNat ≤ m.maxPlen ing k.enc) (hl : lenOkFor opc.toNat (m.maxPlen ing k.enc) k = true) :
    m.recv handler Mach.response ing opc k0 = m.request handler ing opc k := by
  simp only [isRequest, Bool.and_eq_true, Bool.not_eq_true', decide_eq_true_eq] at hreq
  obtain ⟨⟨⟨hresp, h70⟩, h71⟩, h7F⟩ := hreq
  have hp' : ¬ m.maxPlen ing k.enc < k.plen.toNat := Nat.not_lt.2 hp
  simp [Mach.recv, hver, hq, ho, hvc, hh, hd, hp', hl, hresp, h70, h71, h7F]

/-- An admitted request is taken to step 10 by the machine that has counted its frame. -/
theorem Mach.packet_request {m : Mach} {ing : Ingress} {opc : BitVec 8} {k0 k : Pkt} (hreq : isRequest opc.toNat = true)
    (h : m.admits ing opc k0 k) : m.packet ing opc k0 = (m.counted ing).request handler ing opc k := by
  obtain ⟨ha, ht, hw, hver, hq, ho, hvc, hh, hd, hp, hl⟩ := h
  rw [m.packet_taken ing ha ht hw]
  refine (m.counted ing).recv_request ing opc k0 k hreq hver ?_ ?_ hvc hh ?_ ?_ ?_
  · rw [m.counted_queueOwner, hq]
  · rw [m.counted_openPkt, ho]
  · rw [m.counted_node, hd]
  · rw [m.counted_maxPlen]; exact hp
  · rw [m.counted_maxPlen]; exact hl

end Sys2Proof.Machine

namespace Sys2Proof.Machine

/-! ### Steps 10 and 11 of a request in sequence (R470, R473) -/

/-- Taking the entry of a key out of a list takes its share out of a sum over the list. -/
theorem sum_find_filter {α : Type} (l : List α) (P : α → Bool) (f : α → Nat) (e : α) (h : l.find? P = some e) :
    f e + ((l.filter (fun x => !P x)).map f).sum ≤ (l.map f).sum := by
  induction l with
  | nil => cases h
  | cons x r ih =>
    rw [List.find?_cons] at h
    cases hx : P x with
    | true =>
      simp only [hx, Option.some.injEq] at h
      subst h
      rw [List.filter_cons, if_neg (by simp [hx]), List.map_cons, List.sum_cons]
      exact Nat.add_le_add_left (((List.filter_sublist).map f).sum_le_sum (fun _ _ => Nat.zero_le _)) _
    | false =>
      simp only [hx] at h
      have := ih h
      rw [List.filter_cons, if_pos (by simp [hx]), List.map_cons, List.map_cons, List.sum_cons, List.sum_cons]
      omega

/-- The lines that a window holds for partition `p` (R470). -/
def winLines (p : Nat) (e : WinEntry) : Nat := if e.part = p then (e.held.map (fun h => linesOf h.2.pkt)).sum else 0

theorem Mach.wayLines_eq (m : Mach) (p : Nat) : m.wayLines p = (m.net.wins.map (winLines p)).sum := by
  unfold Mach.wayLines Mach.heldPkts
  induction m.net.wins with
  | nil => rfl
  | cons e r ih =>
    rw [List.filter_cons, List.map_cons, List.sum_cons, ← ih, winLines]
    by_cases he : e.part = p
    · simp [he, List.map_flatMap, Function.comp_def]
    · simp [he]

theorem winEntry_is {e : WinEntry} {p src q : Nat} (h : e.is p src q = true) : e.part = p ∧ e.src = src ∧ e.queue = q := by
  simpa only [WinEntry.is, Bool.and_eq_true, decide_eq_true_eq, and_assoc] using h

theorem Mach.winOf_is {m : Mach} {p src q : Nat} {e : WinEntry} (h : m.winOf p src q = some e) :
    e.part = p ∧ e.src = src ∧ e.queue = q :=
  winEntry_is (by simpa using List.find?_some h)

/-- Touching the entry of a key holds no more lines than before. -/
theorem Mach.wayLines_setWin {m : Mach} {p src q : Nat} {e : WinEntry} (h : m.winOf p src q = some e) (w : Nat) :
    (m.setWin e).wayLines w ≤ m.wayLines w := by
  obtain ⟨rfl, rfl, rfl⟩ := Mach.winOf_is h
  rw [Mach.wayLines_eq, Mach.wayLines_eq]
  exact sum_find_filter m.net.wins (fun x => x.is e.part e.src e.queue) (winLines w) e h

theorem Mach.hasRoom_setWin {m : Mach} {p src q : Nat} {e : WinEntry} (h : m.winOf p src q = some e) (k : Pkt)
    (hr : m.hasRoom k = true) : (m.setWin e).hasRoom k = true := by
  have hle := Mach.wayLines_setWin h k.part.val
  simp only [Mach.hasRoom, Bool.and_eq_true, decide_eq_true_eq] at hr ⊢
  obtain ⟨hq, hw⟩ := hr
  exact ⟨hq, by omega⟩

/-- The packet that its window expects goes on, and the entry is touched (R473). -/
theorem Mach.window_expected {m : Mach} {k : Pkt} {e : WinEntry} (hb : m.banks k.part.val ≠ [])
    (hw : m.winOf k.part.val k.src.toNat k.queue.toNat = some e) (he : e.e = k.seq.toNat) (hd : k.seq.toNat ∉ e.done)
    (hh : ∀ x ∈ e.held, x.1 ≠ k.seq.toNat) : m.window k = (m.setWin e, .go (e.cold = some k.seq.toNat)) := by
  have hlt : k.seq.toNat < 2 ^ 32 := k.seq.isLt
  have h0 : sub32 k.seq.toNat e.e = 0 := by unfold sub32; omega
  have hheld : e.held.any (fun h => h.1 = k.seq.toNat) = false := by
    simpa only [List.any_eq_false, decide_eq_true_eq] using hh
  have hbank : (m.banks k.part.val).isEmpty = false := by simpa using hb
  have hdone : e.done.contains k.seq.toNat = false := by simpa using hd
  simp only [Mach.window, hbank, hw, h0, hdone, hheld, Bool.false_eq_true, if_false, decide_true, Bool.true_or, if_true, Nat.zero_lt_succ]

/-- A request in sequence with room runs at step 12; then held packets follow (R473). -/
theorem Mach.request_runs {m : Mach} {ing : Ingress} {opc : BitVec 8} {k : Pkt} {e : WinEntry}
    (hw : m.window k = (m.setWin e, .go (e.cold = some k.seq.toNat))) (hr : (m.setWin e).hasRoom k = true) :
    m.request handler ing opc k =
      (((m.setWin e).commitPkt k).step12 handler ing opc k).release handler k.part.val k.src.toNat k.queue.toNat 64 := by
  simp only [Mach.request, hw, hr, Bool.not_true, Bool.false_eq_true, if_false]

/-! ### What step 12 finds (R104, R129) -/

section
variable {ing : Ingress} {k : Pkt}

theorem Mach.atStep12_refl (m : Mach) : m.atStep12 m ing k := ⟨rfl, rfl, fun _ _ _ _ _ => rfl⟩

theorem Mach.atStep12_trans {a b c : Mach} (h : b.atStep12 a ing k) (h' : c.atStep12 b ing k) : c.atStep12 a ing k := by
  obtain ⟨h1, hn, hr⟩ := h
  obtain ⟨h1', hn', hr'⟩ := h'
  refine ⟨?_, ?_, fun x hx1 hx2 hx3 hx4 => (hr' x hx1 hx2 hx3 hx4).trans (hr x hx1 hx2 hx3 hx4)⟩
  · conv_lhs => rw [h1', h1]
  · conv_lhs => rw [hn', hn]

/-- The counters and pointers that a packet moves on its way to step 12 (R410, R486). -/
def stepReg (k : Pkt) (a : Nat) : Prop :=
  a = A.Q_PTR (qBlock k.queue.toNat) ∨ a = A.Q_ITEMS (qBlock k.queue.toNat) ∨ a = A.Q_CAP (qBlock k.queue.toNat) ∨
    ∃ i < 16, a = A.ETH_RX_FRAMES i

theorem Mach.atStep12_put (m : Mach) {a : Nat} (hi lo v : Nat) (h : stepReg k a) : (m.put a hi lo v).atStep12 m ing k := by
  refine ⟨rfl, rfl, fun b h1 h2 h3 h4 => m.rd_put_other a b hi lo v fun hb => ?_⟩
  subst hb
  rcases h with h | h | h | ⟨i, hi, h⟩
  · exact h1 h
  · exact h2 h
  · exact h3 h
  · exact h4 i hi h

theorem Mach.atStep12_setWin (m : Mach) (e : WinEntry) : (m.setWin e).atStep12 m ing k := ⟨rfl, rfl, fun _ _ _ _ _ => rfl⟩

theorem Mach.atStep12_takePkt (m : Mach) : (m.takePkt k).atStep12 m ing k := m.atStep12_put _ _ _ (.inl rfl)

theorem Mach.atStep12_commitPkt (m : Mach) : (m.commitPkt k).atStep12 m ing k :=
  Mach.atStep12_trans (Mach.atStep12_trans (m.atStep12_put 31 16 _ (.inl rfl)) (Mach.atStep12_put _ 31 0 _ (.inr (.inl rfl))))
    (Mach.atStep12_put _ _ _ _ (.inr (.inr (.inl rfl))))

theorem Mach.atStep12_counted (m : Mach) : (m.counted ing).atStep12 m ing k := by
  cases ing with
  | ring n => exact m.atStep12_refl
  | eth n _ _ _ _ => exact m.atStep12_put _ _ _ (.inr (.inr (.inr ⟨n.val, n.isLt, rfl⟩)))

theorem Mach.isGone_atStep12 {m n : Mach} (h : n.atStep12 m ing k) (c : Nat) : n.isGone c = m.isGone c := by
  rw [h.1]
  rfl

/-- Quiescing is not among what a packet moves (R635). -/
theorem Mach.partQuiesced_atStep12 {m n : Mach} (h : n.atStep12 m ing k) (p : Nat) : n.partQuiesced p = m.partQuiesced p := by
  have hrd : n.rd A.FLT_QUIESCE = m.rd A.FLT_QUIESCE := by
    refine h.2.2 _ ?_ ?_ ?_ fun i hi => ?_
    all_goals simp only [A.FLT_QUIESCE, A.Q_PTR, A.Q_ITEMS, A.Q_CAP, A.ETH_RX_FRAMES, qBlock]; omega
  simp only [Mach.partQuiesced, Mach.isGone_atStep12 h, Mach.bit, hrd]

end

/-- A partition that is not quiesced, while no reset has ended the pass, discards no request (R52, R635). -/
theorem Mach.discards_of_not_quiesced {m : Mach} {p : Nat} (opc : BitVec 8) (hg : m.isGone everyTarget = false)
    (hq : m.partQuiesced p = false) : m.discards opc p = false := by
  have hp : m.isGone (0x1000 + p) = false := (Bool.or_eq_false_iff.1 hq).2
  simp [Mach.discards, hg, hp]

/-- A packet opens a message where none is open, or continues the open one (R104). -/
def Mach.continues (m : Mach) (opc : BitVec 8) (k : Pkt) : Prop :=
  (k.isFirst = true ∧ ∀ o ∈ m.net.msgs, ¬ (o.part = k.part.val ∧ o.src = k.src.toNat ∧ o.queue = k.queue.toNat)) ∨
    (k.isFirst = false ∧ ∃ o, m.net.msgs.find? (fun o => o.part = k.part.val && o.src = k.src.toNat && o.queue = k.queue.toNat) = some o ∧
      o.next = k.seq.toNat ∧ o.opc = opc)

/-- The open messages are `l` (R104). -/
def Mach.setMsgs (m : Mach) (l : List OpenMsg) : Mach := { m with net := { m.net with msgs := l } }

/-- The window of the packet's queue is pinned while a message is open (R474). -/
def Mach.pinWin (m : Mach) (k : Pkt) (b : Bool) : Mach :=
  match m.winOf k.part.val k.src.toNat k.queue.toNat with
  | some e => m.setWin { e with isOpen := b }
  | none => m

/-- The bookkeeping of a message in order: its record, and the pin of its window where it opens or ends (R104, R474). -/
theorem Mach.message_cases {m : Mach} {opc : BitVec 8} {k : Pkt} (h : m.continues opc k) :
    ∃ l, m.message opc k = (m.setMsgs l, true) ∨ ∃ b, m.message opc k = ((m.setMsgs l).pinWin k b, true) := by
  rcases h with ⟨hf, hno⟩ | ⟨hf, o, ho, hn, hopc⟩
  · have hnone : m.net.msgs.find? (fun o => o.part = k.part.val && o.src = k.src.toNat && o.queue = k.queue.toNat) = none := by
      simpa only [List.find?_eq_none, Bool.and_eq_true, decide_eq_true_eq, and_assoc] using hno
    cases hl : k.isLast with
    | true => exact ⟨_, .inr ⟨false, by simp only [Mach.message, hf, if_true, hnone, hl]; rfl⟩⟩
    | false => exact ⟨_, .inr ⟨true, by simp only [Mach.message, hf, if_true, hnone, hl, Bool.false_eq_true, if_false]; rfl⟩⟩
  · have hgo : (decide (o.next ≠ k.seq.toNat) || decide (o.opc ≠ opc)) = false := by simp [hn, hopc]
    cases hl : k.isLast with
    | true =>
      exact ⟨_, .inr ⟨false, by simp only [Mach.message, hf, Bool.false_eq_true, if_false, ho, hgo, hl, if_true]; rfl⟩⟩
    | false => exact ⟨_, .inl (by simp only [Mach.message, hf, Bool.false_eq_true, if_false, ho, hgo, hl]; rfl)⟩

theorem Mach.atStep12_pinWin {ing : Ingress} (m : Mach) (k k' : Pkt) (b : Bool) : (m.pinWin k b).atStep12 m ing k' := by
  unfold Mach.pinWin
  split
  · exact m.atStep12_setWin _
  · exact m.atStep12_refl

/-- So it touches message and window records only, and lets the packet on. -/
theorem Mach.message_continues {m : Mach} {opc : BitVec 8} {k : Pkt} (ing : Ingress) (h : m.continues opc k) :
    (m.message opc k).2 = true ∧ (m.message opc k).1.atStep12 m ing k := by
  have hset : ∀ l, (m.setMsgs l).atStep12 m ing k := fun l => ⟨rfl, rfl, fun _ _ _ _ _ => rfl⟩
  obtain ⟨l, hl | ⟨b, hl⟩⟩ := Mach.message_cases h
  · rw [hl]; exact ⟨rfl, hset l⟩
  · rw [hl]; exact ⟨rfl, Mach.atStep12_trans (hset l) (Mach.atStep12_pinWin _ k k b)⟩

end Sys2Proof.Machine

namespace Sys2Proof.Machine

/-! ### The answer of a request (R102, R107) -/

/-- The response as it leaves: in the clear, or sealed (R125). -/
def Mach.leaving (m : Mach) (clear : Bool) (k : Pkt) (opc : BitVec 8) (b : List Byte) : Pkt :=
  if clear then m.rspPkt k b else m.sealPkt opc (m.rspPkt k b)

theorem Mach.respondWith_eq (m : Mach) (clear : Bool) (ing : Ingress) (k : Pkt) (opc : BitVec 8) (b : List Byte) :
    m.respondWith clear ing k opc b = if !clear && k.part ≠ 0 && (m.linkKey k.part.val).isNone then m
      else (m.countRsp k).sendTo ing opc (m.leaving clear k opc b) := rfl

section
variable {k : Pkt}

theorem Mach.afterAnswer_refl (m : Mach) : m.afterAnswer m k := ⟨rfl, fun _ => rfl, fun _ _ _ => rfl⟩

theorem Mach.afterAnswer_trans {a b c : Mach} (h : b.afterAnswer a k) (h' : c.afterAnswer b k) : c.afterAnswer a k := by
  obtain ⟨h1, hc, hr⟩ := h
  obtain ⟨h1', hc', hr'⟩ := h'
  refine ⟨?_, fun hm => (hc' hm).trans (hc hm), fun x hx hx' => (hr' x hx hx').trans (hr x hx hx')⟩
  conv_lhs => rw [h1', h1]

theorem Mach.afterAnswer_net (m : Mach) (x : Net) : Mach.afterAnswer { m with net := x } m k := ⟨rfl, fun _ => rfl, fun _ _ _ => rfl⟩

theorem Mach.afterAnswer_bump (m : Mach) {a : Nat} (h : a = A.BRL_NOROUTE 0 ∨ a = A.HRMP_RNR k.part.val) : (m.bump a).afterAnswer m k := by
  refine ⟨rfl, fun _ => rfl, fun b h1 h2 => m.rd_bumpF_other a b 31 0 1 fun hb => ?_⟩
  subst hb
  exact h.elim h1 h2

theorem Mach.afterAnswer_sendTo (m : Mach) (ing : Ingress) (opc : BitVec 8) (r : Pkt) : (m.sendTo ing opc r).afterAnswer m k := by
  cases ing with
  | ring n =>
    change (m.sendRing opc r false).afterAnswer m k
    unfold Mach.sendRing
    split
    · exact m.afterAnswer_bump (.inl rfl)
    · exact m.afterAnswer_net _
  | eth _ _ _ _ _ => exact m.afterAnswer_net _

theorem Mach.afterAnswer_respondWith (m : Mach) (clear : Bool) (ing : Ingress) (opc : BitVec 8) (b : List Byte) :
    (m.respondWith clear ing k opc b).afterAnswer m k := by
  rw [m.respondWith_eq]
  split_ifs
  · exact m.afterAnswer_refl
  · exact Mach.afterAnswer_trans (m.afterAnswer_net _) (Mach.afterAnswer_sendTo _ ing opc _)

/-- Sending an answer changes what waits to leave and two statistics (R439, R491). -/
theorem Mach.afterAnswer_answer (m : Mach) (ing : Ingress) (opc : BitVec 8) (a : Ans) : (m.answer ing opc k a).afterAnswer m k := by
  cases a with
  | ack v =>
    change Mach.afterAnswer (if k.ackReq then _ else m) m k
    split_ifs
    · exact m.afterAnswer_respondWith _ ing _ _
    · exact m.afterAnswer_refl
  | rsp o b => exact m.afterAnswer_respondWith _ ing o b
  | regWr ok b =>
    change Mach.afterAnswer (if k.ackReq || (!k.posted && !ok) then _ else m) m k
    split_ifs
    · exact m.afterAnswer_respondWith _ ing _ _
    · exact m.afterAnswer_refl
  | nak r d =>
    change (m.nakWith (clearAns opc) ing opc k r d).afterAnswer m k
    unfold Mach.nakWith
    dsimp only
    split_ifs
    · exact m.afterAnswer_refl
    · exact Mach.afterAnswer_trans (m.afterAnswer_bump (.inr rfl)) (Mach.afterAnswer_respondWith _ _ ing _ _)
    · exact m.afterAnswer_respondWith _ ing _ _
  | later => exact m.afterAnswer_refl

end

/-! ### A response waits to leave (R107, R125, R439) -/

/-- Sealing leaves the header but for ENC (R122). -/
theorem Mach.sealPkt_header (m : Mach) (opc : BitVec 8) (k : Pkt) : (m.sealPkt opc k).dst = k.dst ∧ (m.sealPkt opc k).vc = k.vc ∧
    (m.sealPkt opc k).operand = k.operand ∧ (m.sealPkt opc k).queue = k.queue := by
  unfold Mach.sealPkt
  split <;> exact ⟨rfl, rfl, rfl, rfl⟩

/-- A packet sent the way of `ing` waits behind what waited, where the ring has a route for it (R439). -/
theorem Mach.sendTo_txq (m : Mach) (ing : Ingress) (opc : BitVec 8) (r : Pkt) (h : ing.isRing = true → (m.route 8 r.dst.toNat).isSome = true) :
    ∃ f, (m.sendTo ing opc r).net.txq = m.net.txq ++ [f] ∧ f.opc = opc ∧ f.vc = r.vc.toNat ∧ f.pkt = r := by
  cases ing with
  | ring n =>
    obtain ⟨g, hg⟩ := m.sendRing_routed opc r false (h rfl)
    rw [show m.sendTo (.ring n) opc r = _ from hg]
    exact ⟨_, rfl, rfl, rfl, rfl⟩
  | eth _ _ _ _ _ => exact ⟨_, rfl, rfl, rfl, rfl⟩

theorem Mach.rspPkt_header (m : Mach) (k : Pkt) (b : List Byte) : (m.rspPkt k b).dst = k.src ∧ (m.rspPkt k b).vc = 1 ∧
    (m.rspPkt k b).operand = k.seq ∧ (m.rspPkt k b).queue = k.queue :=
  ⟨BitVec.ofNat_toNat _ _, rfl, BitVec.ofNat_toNat _ _, BitVec.ofNat_toNat _ _⟩

theorem Mach.leaving_header (m : Mach) (clear : Bool) (k : Pkt) (opc : BitVec 8) (b : List Byte) : (m.leaving clear k opc b).dst = k.src ∧
    (m.leaving clear k opc b).vc = 1 ∧ (m.leaving clear k opc b).operand = k.seq ∧ (m.leaving clear k opc b).queue = k.queue := by
  obtain ⟨h1, h2, h3, h4⟩ := m.rspPkt_header k b
  obtain ⟨s1, s2, s3, s4⟩ := m.sealPkt_header opc (m.rspPkt k b)
  cases clear with
  | true => exact ⟨h1, h2, h3, h4⟩
  | false => exact ⟨s1.trans h1, s2.trans h2, s3.trans h3, s4.trans h4⟩

/-- A response that has a way out and the key that it asks for waits to leave. -/
theorem Mach.respondWith_responded (m : Mach) {clear : Bool} {ing : Ingress} {k : Pkt} (opc : BitVec 8) (b : List Byte)
    (hr : ing.isRing = true → (m.route 8 k.src.toNat).isSome = true) (hk : clear = false → k.part = 0 ∨ m.hasKey k.part.val = true) :
    (m.respondWith clear ing k opc b).responded m k opc := by
  obtain ⟨hdst, hvc, hop, hqu⟩ := m.leaving_header clear k opc b
  have hkey : ¬ (!clear && k.part ≠ 0 && (m.linkKey k.part.val).isNone) = true := by
    cases clear with
    | true => simp
    | false =>
      rcases hk rfl with h | h
      · simp [h]
      · simp [Option.isSome_iff_ne_none.1 h]
  obtain ⟨f, hf, hfo, hfv, hfp⟩ := (m.countRsp k).sendTo_txq ing opc (m.leaving clear k opc b) (by rw [hdst]; exact hr)
  rw [m.respondWith_eq, if_neg hkey]
  exact ⟨f, hf, hfo, by rw [hfv, hvc]; rfl, by rw [hfp, hdst], by rw [hfp, hop], by rw [hfp, hqu]⟩

/-! Routes and link keys are looked up beside the count of RNR answers (R439, R480, R491). -/

section
variable (m : Mach) (p : Nat)

theorem Mach.fld_bump_RNR {a : Nat} (h : a < 0x390000) (hi lo : Nat) : (m.bump (A.HRMP_RNR p)).fld a hi lo = m.fld a hi lo :=
  Mach.fld_bumpF_other _ _ _ _ _ _ _ _ (by unfold A.HRMP_RNR; omega)

theorem Mach.bit_bump_RNR {a : Nat} (h : a < 0x390000) (i : Nat) : (m.bump (A.HRMP_RNR p)).bit a i = m.bit a i :=
  Mach.bit_bumpF_other _ _ _ _ _ _ _ (by unfold A.HRMP_RNR; omega)

theorem Mach.ringUp_bump_RNR {g : Nat} (h : g < 16) : (m.bump (A.HRMP_RNR p)).ringUp g = m.ringUp g := by
  rw [Mach.ringUp, m.fld_bump_RNR p (by unfold A.BRL_PORT_STS; omega), ← Mach.ringUp]

/-- The hub's table lies below the registers of HRMP. -/
theorem routeAddr_hub_lt {e : Nat} (h : e < 64) : routeAddr 8 e < 0x390000 ∧ routeAddr 8 e + 4 < 0x390000 := by
  rw [show routeAddr 8 e = 0x304100 + 8 * e from rfl]
  omega

theorem Mach.routeEntry_lt (t e : Nat) : m.routeEntry t e < 16 := by
  unfold Mach.routeEntry
  dsimp only
  split_ifs
  · exact bitsOf_lt _ 27 24
  · exact bitsOf_lt _ 23 20

theorem Mach.routeEntry_bump_RNR {e : Nat} (h : e < 64) : (m.bump (A.HRMP_RNR p)).routeEntry 8 e = m.routeEntry 8 e := by
  have hlt : m.fld (routeAddr 8 e) 27 24 < 16 := bitsOf_lt _ 27 24
  simp only [Mach.routeEntry, m.fld_bump_RNR p (routeAddr_hub_lt h).1, m.ringUp_bump_RNR p hlt, Mach.bump_net]

theorem Mach.route_bump_RNR (t : Nat) : (m.bump (A.HRMP_RNR p)).route 8 t = m.route 8 t := by
  have hfind : (List.range 64).find? (fun e => (m.bump (A.HRMP_RNR p)).bit (routeAddr 8 e) 31 &&
      (m.bump (A.HRMP_RNR p)).fld (routeAddr 8 e) 19 0 ≤ t && t ≤ (m.bump (A.HRMP_RNR p)).fld (routeAddr 8 e + 4) 19 0) =
      (List.range 64).find? (fun e => m.bit (routeAddr 8 e) 31 && m.fld (routeAddr 8 e) 19 0 ≤ t && t ≤ m.fld (routeAddr 8 e + 4) 19 0) :=
    List.find?_congr fun e he => by
      obtain ⟨hlo, hhi⟩ := routeAddr_hub_lt (List.mem_range.1 he)
      rw [m.bit_bump_RNR p hlo, m.fld_bump_RNR p hlo, m.fld_bump_RNR p hhi]
  unfold Mach.route
  rw [show (m.bump (A.HRMP_RNR p)).node = m.node from m.fld_bump_RNR p (by decide) 19 0, hfind]
  split_ifs
  · rfl
  · split
    · rfl
    · rename_i e he
      simp only [m.routeEntry_bump_RNR p (List.mem_range.1 (List.mem_of_find?_eq_some he)), m.ringUp_bump_RNR p (m.routeEntry_lt 8 e)]

theorem Mach.hasKey_bump_RNR (q : Nat) : (m.bump (A.HRMP_RNR p)).hasKey q = m.hasKey q := by
  have hne : A.HRMP_LKEY_CUR q ≠ A.HRMP_RNR p := by unfold A.HRMP_LKEY_CUR A.HRMP_RNR; omega
  have hslot : ∀ s a, (m.bump (A.HRMP_RNR p)).slotKey q s a = m.slotKey q s a := fun _ _ => rfl
  have hbit : (m.bump (A.HRMP_RNR p)).bit (A.HRMP_LKEY_CUR q) 31 = m.bit (A.HRMP_LKEY_CUR q) 31 := Mach.bit_bumpF_other _ _ _ _ _ _ _ hne
  have hfld : (m.bump (A.HRMP_RNR p)).fld (A.HRMP_LKEY_CUR q) 8 0 = m.fld (A.HRMP_LKEY_CUR q) 8 0 :=
    Mach.fld_bumpF_other _ _ _ _ _ _ _ _ hne
  simp only [Mach.hasKey, Mach.linkKey, hslot, hbit, hfld]

end

/-- The opcode of the response that an answer draws (R107 to R120); none where it draws none. -/
def Ans.drawn (k : Pkt) : Ans → Option (BitVec 8)
  | .ack _ => if k.ackReq then some 0x60 else none
  | .rsp o _ => some o
  | .regWr _ _ => if k.ackReq then some 0x03 else none
  | .nak _ _ => if k.posted then none else some 0x61
  | .later => none

/-- The response to a request waits to leave once it is answered, where it can leave at all; REG_RSP is no clear answer (R125). -/
theorem Mach.answer_responded {m : Mach} {ing : Ingress} {opc o : BitVec 8} {k : Pkt} {a : Ans} (h : m.reachable ing opc k)
    (hclear : clearAns opc = true → ∀ ok b, a ≠ .regWr ok b) (ha : a.drawn k = some o) : (m.answer ing opc k a).responded m k o := by
  obtain ⟨hr, hk⟩ := h
  cases a with
  | ack v =>
    simp only [Ans.drawn, Option.ite_none_right_eq_some, Option.some.injEq] at ha
    obtain ⟨hreq, rfl⟩ := ha
    rw [show m.answer ing opc k (.ack v) = m.respondWith (clearAns opc) ing k 0x60 (ackPayload v) from if_pos hreq]
    exact m.respondWith_responded _ _ hr hk
  | rsp o' b =>
    obtain rfl : o' = o := by simpa only [Ans.drawn, Option.some.injEq] using ha
    exact m.respondWith_responded _ _ hr hk
  | regWr ok b =>
    simp only [Ans.drawn, Option.ite_none_right_eq_some, Option.some.injEq] at ha
    obtain ⟨hreq, rfl⟩ := ha
    have hsealed : clearAns opc = false := by
      cases hc : clearAns opc with
      | false => rfl
      | true => exact absurd rfl (hclear hc ok b)
    rw [show m.answer ing opc k (.regWr ok b) = m.respondWith false ing k 0x03 b from if_pos (by simp [hreq])]
    exact m.respondWith_responded _ _ hr fun _ => hk hsealed
  | nak r d =>
    simp only [Ans.drawn, Option.ite_none_left_eq_some, Option.some.injEq, Bool.not_eq_true] at ha
    obtain ⟨hpost, rfl⟩ := ha
    have heq : m.answer ing opc k (.nak r d) = (if r = 7 then m.bump (A.HRMP_RNR k.part.val) else m).respondWith (clearAns opc) ing k 0x61
        (nakPayload r opc d) := if_neg (by simp [hpost])
    rw [heq]
    split_ifs
    · exact Mach.respondWith_responded _ _ _ (by rw [Mach.route_bump_RNR]; exact hr) (by rw [Mach.hasKey_bump_RNR]; exact hk)
    · exact m.respondWith_responded _ _ hr hk
  | later => cases ha

end Sys2Proof.Machine

namespace Sys2Proof.Machine

/-! ### Tracing sends nothing (R402, R413) -/

/-- An item for a lossy queue sends no frame, where storing one does not. -/
theorem Mach.lossyPush_txq (m : Mach) (b : Nat) (item : List Byte) (store : Mach → List Byte → Mach)
    (h : ∀ k i, (store k i).net.txq = k.net.txq) : (m.lossyPush b item store).net.txq = m.net.txq := by
  have hmark : (m.lossyMark b store).net.txq = m.net.txq := by
    unfold Mach.lossyMark
    split
    · split_ifs
      · exact h _ _
      · rfl
    · rfl
  unfold Mach.lossyPush
  dsimp only
  split_ifs
  · exact (h _ _).trans hmark
  · exact hmark

theorem Mach.traceStore_txq (p : Nat) (m : Mach) (item : List Byte) : (m.traceStore p item).net.txq = m.net.txq := by
  unfold Mach.traceStore
  dsimp only
  have hn : (m.vwrite 4 p (m.rd64 (A.TRACE_BASE_LO p) + 64 * m.qSlot (traceBlock p)) item).1.net = m.net := by
    rw [(m.vwrite_moved 4 p _ item).1]
  split
  · rename_i m' hw; rw [hw] at hn; exact congrArg Net.txq hn
  · rename_i m' e hw; rw [hw] at hn; exact congrArg Net.txq hn

theorem Mach.tracePkt_txq (m : Mach) (opc : BitVec 8) (k : Pkt) (code : Nat) : (m.tracePkt opc k code).net.txq = m.net.txq := by
  unfold Mach.tracePkt Mach.trace
  dsimp only
  split_ifs
  · exact Mach.lossyPush_txq _ _ _ _ (Mach.traceStore_txq _)
  · rfl
  · rfl

/-- A packet of a queue outside TRACE_QRANGE is not traced (R403). -/
theorem Mach.tracePkt_outside {m : Mach} {k : Pkt} (opc : BitVec 8) (code : Nat)
    (h : k.queue.toNat < m.fld (A.TRACE_QRANGE k.part.val) 29 16 ∨ m.fld (A.TRACE_QRANGE k.part.val) 13 0 < k.queue.toNat) :
    m.tracePkt opc k code = m :=
  if_neg (by simp only [Bool.and_eq_true, decide_eq_true_eq]; omega)

/-! ### The end of step 12 (R103, R129, R473) -/

/-- MARK counted and the window moved on, once request `k` is answered with `a` (R103, R473). -/
def Mach.recorded (m : Mach) (k : Pkt) (a : Ans) : Mach :=
  let m := if a.code = 0 && a ≠ .later then m.mark k else m
  if a.retry then m
  else
    match m.winOf k.part.val k.src.toNat k.queue.toNat with
    | some e => m.setWin { e.complete k.seq.toNat with last := some (k.seq.toNat, a.record) }
    | none => m

/-- Step 12 after the request's own work: its message ends, it is answered, traced and recorded. -/
def Mach.concluded (m : Mach) (ing : Ingress) (opc : BitVec 8) (k : Pkt) (a : Ans) : Mach :=
  (((m.closeMsg k).answer ing opc k a).tracePkt opc k a.code).recorded k a

/-- Step 12 of a request that no fault turns away and whose message is in order (R129). -/
theorem Mach.step12_runs {m : Mach} {ing : Ingress} {opc : BitVec 8} {k : Pkt} (hd : (m.takePkt k).discards opc k.part.val = false)
    (hq : (m.takePkt k).partQuiesced k.part.val = false) (hm : ((m.takePkt k).message opc k).2 = true) :
    m.step12 handler ing opc k = let r := ((m.takePkt k).message opc k).1.runPkt ing opc k; r.1.concluded ing opc k r.2 := by
  obtain ⟨n, hn⟩ : ∃ n, (m.takePkt k).message opc k = (n, true) := ⟨_, Prod.ext rfl hm⟩
  simp only [Mach.step12, hd, hq, hn, Bool.false_eq_true, if_false]
  rfl

section
variable {k : Pkt}

theorem Mach.mark_outcome (m : Mach) : (m.mark k).afterAnswer m k ∧ (m.mark k).net = m.net := by
  unfold Mach.mark
  cases hk : k.mark with
  | false => exact ⟨m.afterAnswer_refl, rfl⟩
  | true =>
    split_ifs
    · split
      · exact ⟨⟨rfl, fun h => absurd (hk.symm.trans h) (by decide), fun _ _ _ => rfl⟩, rfl⟩
      · exact ⟨m.afterAnswer_refl, rfl⟩
    · exact ⟨m.afterAnswer_refl, rfl⟩

/-- The record of a request is the window's and the counter's of MARK: nothing is sent. -/
theorem Mach.recorded_outcome (m : Mach) (a : Ans) : (m.recorded k a).afterAnswer m k ∧ (m.recorded k a).net.txq = m.net.txq := by
  have hmark : ∀ c : Bool, (if c = true then m.mark k else m).afterAnswer m k ∧ (if c = true then m.mark k else m).net.txq = m.net.txq := by
    intro c
    cases c with
    | true => exact ⟨m.mark_outcome.1, congrArg Net.txq m.mark_outcome.2⟩
    | false => exact ⟨m.afterAnswer_refl, rfl⟩
  obtain ⟨h1, h2⟩ := hmark (a.code = 0 && a ≠ .later)
  unfold Mach.recorded
  dsimp only
  generalize (if (decide (a.code = 0) && decide (a ≠ .later)) = true then m.mark k else m) = n at *
  split_ifs
  · exact ⟨h1, h2⟩
  · split
    · exact ⟨Mach.afterAnswer_trans h1 (n.afterAnswer_net _), h2⟩
    · exact ⟨h1, h2⟩

theorem Mach.closeMsg_outcome (m : Mach) : (m.closeMsg k).afterAnswer m k ∧ (m.closeMsg k).net.txq = m.net.txq := by
  unfold Mach.closeMsg
  split_ifs
  · exact ⟨m.afterAnswer_net _, rfl⟩
  · exact ⟨m.afterAnswer_refl, rfl⟩

theorem Mach.reachable_closeMsg {m : Mach} {ing : Ingress} {opc : BitVec 8} (h : m.reachable ing opc k) :
    (m.closeMsg k).reachable ing opc k := by
  unfold Mach.closeMsg
  split_ifs
  · exact h
  · exact h

/-- TRACE_QRANGE is not among the registers that an answer moves. -/
theorem Mach.afterAnswer_QRANGE {m n : Mach} (h : n.afterAnswer m k) :
    n.rd (A.TRACE_QRANGE k.part.val) = m.rd (A.TRACE_QRANGE k.part.val) :=
  h.2.2 _ (by unfold A.TRACE_QRANGE A.BRL_NOROUTE; omega) (by unfold A.TRACE_QRANGE A.HRMP_RNR; omega)

/-- The end of step 12 changes what R439, R473 and R491 name, and no more, where the packet's queue is not traced. -/
theorem Mach.concluded_afterAnswer {m : Mach} (ing : Ingress) (opc : BitVec 8) (a : Ans)
    (h : k.queue.toNat < m.fld (A.TRACE_QRANGE k.part.val) 29 16 ∨ m.fld (A.TRACE_QRANGE k.part.val) 13 0 < k.queue.toNat) :
    (m.concluded ing opc k a).afterAnswer m k := by
  have ha : ((m.closeMsg k).answer ing opc k a).afterAnswer m k :=
    Mach.afterAnswer_trans m.closeMsg_outcome.1 (Mach.afterAnswer_answer _ ing opc a)
  unfold Mach.concluded
  rw [Mach.tracePkt_outside opc a.code (by simpa only [Mach.fld, Mach.afterAnswer_QRANGE ha] using h)]
  exact Mach.afterAnswer_trans ha (Mach.recorded_outcome _ a).1

/-- The response of a request waits to leave at the end of step 12. -/
theorem Mach.concluded_responded {m : Mach} {ing : Ingress} {opc o : BitVec 8} {a : Ans} (h : m.reachable ing opc k)
    (hclear : clearAns opc = true → ∀ ok b, a ≠ .regWr ok b) (ha : a.drawn k = some o) : (m.concluded ing opc k a).responded m k o := by
  obtain ⟨f, hf, hrest⟩ := Mach.answer_responded (Mach.reachable_closeMsg h) hclear ha
  refine ⟨f, ?_, hrest⟩
  rw [Mach.concluded, (Mach.recorded_outcome _ a).2, Mach.tracePkt_txq, hf, m.closeMsg_outcome.2]

end

/-! ### A request from arrival to answer -/

/-- The room for a packet is told by registers of HRMP and by what the windows hold (R470). -/
theorem Mach.counted_hasRoom (m : Mach) (ing : Ingress) (k : Pkt) : (m.counted ing).hasRoom k = m.hasRoom k := by
  have hway : A.HRMP_RXWAY k.part.val < 0x341020 ∨ 0x380000 ≤ A.HRMP_RXWAY k.part.val := .inr (by unfold A.HRMP_RXWAY; omega)
  have hctl : A.Q_CTL (qBlock k.queue.toNat) < 0x341020 ∨ 0x380000 ≤ A.Q_CTL (qBlock k.queue.toNat) :=
    .inr (by unfold A.Q_CTL qBlock; omega)
  have hptr : A.Q_PTR (qBlock k.queue.toNat) < 0x341020 ∨ 0x380000 ≤ A.Q_PTR (qBlock k.queue.toNat) :=
    .inr (by unfold A.Q_PTR qBlock; omega)
  have hcfg : A.HRMP_Q_CFG 0 + 2 ^ 24 * k.queue.toNat < 0x341020 ∨ 0x380000 ≤ A.HRMP_Q_CFG 0 + 2 ^ 24 * k.queue.toNat :=
    .inr (by unfold A.HRMP_Q_CFG; omega)
  have hkind : queueKind (m.counted ing) (qBlock k.queue.toNat) = queueKind m (qBlock k.queue.toNat) := by
    have hb : qBlock k.queue.toNat % 2 ^ 24 = 0x390040 := by unfold qBlock; omega
    simp only [queueKind, hb]
    rfl
  have hlines : (m.counted ing).wayLines k.part.val = m.wayLines k.part.val := by
    rw [Mach.wayLines_eq, Mach.wayLines_eq, m.counted_net]
  have hocc : (m.counted ing).qOcc (qBlock k.queue.toNat) = m.qOcc (qBlock k.queue.toNat) := by
    simp only [Mach.qOcc, m.counted_fld ing hptr, hkind]
  have hlim : (m.counted ing).qlim k.queue.toNat = m.qlim k.queue.toNat := by simp only [Mach.qlim, m.counted_fld ing hcfg]
  simp only [Mach.hasRoom, m.counted_bit ing hway, m.counted_bit ing hctl, hocc, hlim, hlines]

/-- An admitted request that proceeds does its work on a machine as step 12 finds it; its answer follows, and the packets held
behind it. -/
theorem Mach.packet_proceeds {m : Mach} {ing : Ingress} {opc : BitVec 8} {k0 k : Pkt} (hreq : isRequest opc.toNat = true)
    (ha : m.admits ing opc k0 k) (hp : m.proceeds opc k) :
    ∃ m0 : Mach, m0.atStep12 m ing k ∧ m.packet ing opc k0 =
      ((m0.runPkt ing opc k).1.concluded ing opc k (m0.runPkt ing opc k).2).release handler k.part.val k.src.toNat k.queue.toNat 64 := by
  obtain ⟨hb, ⟨e, hw, he, hd, hh⟩, hroom, hq, hg, hmsg⟩ := hp
  set c := m.counted ing with hc
  have hwc : c.winOf k.part.val k.src.toNat k.queue.toNat = some e := by rw [Mach.winOf, hc, m.counted_net]; exact hw
  have hrun := Mach.request_runs (ing := ing) (opc := opc) (Mach.window_expected (by rw [hc, m.counted_banks]; exact hb) hwc he hd hh)
    (Mach.hasRoom_setWin hwc k (by rw [hc, m.counted_hasRoom]; exact hroom))
  set n := (((c.setWin e).commitPkt k).takePkt k)
  have hat : n.atStep12 m ing k := Mach.atStep12_trans (Mach.atStep12_trans (Mach.atStep12_trans m.atStep12_counted
    (c.atStep12_setWin e)) (Mach.atStep12_commitPkt _)) (Mach.atStep12_takePkt _)
  have hqn : n.partQuiesced k.part.val = false := (Mach.partQuiesced_atStep12 hat _).trans hq
  have hgn : n.isGone everyTarget = false := (Mach.isGone_atStep12 hat _).trans hg
  have hmsgs : n.net.msgs = m.net.msgs := (show n.net.msgs = c.net.msgs from rfl).trans (congrArg Net.msgs (m.counted_net ing))
  obtain ⟨hok, hm⟩ := Mach.message_continues (m := n) (opc := opc) (k := k) ing (by rw [Mach.continues, hmsgs]; exact hmsg)
  refine ⟨(n.message opc k).1, Mach.atStep12_trans hat hm, ?_⟩
  rw [Mach.packet_request hreq ha, hrun, Mach.step12_runs (Mach.discards_of_not_quiesced opc hgn hqn) hqn hok]

/-- A command whose packet is admitted and proceeds runs as its opcode does. -/
theorem requestRuns_of {c : Ingress → Pkt → Instr} {opc : BitVec 8} {sel : Mach → Pkt → Bool} {run : Mach → Ingress → Pkt → Mach × Ans}
    (hexec : ∀ (s : State) (ing : Ingress) (k0 : Pkt), sel s.m k0 = true → exec (c ing k0) s = .next (s.after (s.m.packet ing opc k0)))
    (hreq : isRequest opc.toNat = true) (hrun : ∀ m ing k, Mach.runPkt m ing opc k = run m ing k)
    (hclear : clearAns opc = true → ∀ m ing k ok b, (run m ing k).2 ≠ .regWr ok b) : RequestRuns c opc sel run := by
  intro s ing k0 k ha hp hs htr
  obtain ⟨m0, hat, heq⟩ := Mach.packet_proceeds hreq ha hp
  rw [hrun] at heq
  refine ⟨_, hexec s ing k0 hs, m0, _, hat, fun hqr => ?_, fun hreach => ?_, heq⟩
  · exact Mach.concluded_afterAnswer ing opc _ (by simpa only [Mach.fld, hqr] using htr)
  · have hresp : ∀ o, (run m0 ing k).2.drawn k = some o → _ := fun o =>
      Mach.concluded_responded (o := o) hreach fun hc ok b => hclear hc m0 ing k ok b
    refine ⟨fun v hr hack => hresp _ ?_, fun o b hr => hresp _ ?_, fun ok b hr hack => hresp _ ?_, fun r d hr hpost => hresp _ ?_⟩
    · simp [hr, Ans.drawn, hack]
    · simp [hr, Ans.drawn]
    · simp [hr, Ans.drawn, hack]
    · simp [hr, Ans.drawn, hpost]

/-! ### Key messages and attestation answer no REG_RSP (R546, R549, R553) -/

theorem Mach.attGate_ne_regWr (m : Mach) (p : Nat) (ok : Bool) (b : List Byte) : m.attGate p ≠ some (.regWr ok b) := by
  unfold Mach.attGate
  split_ifs <;> simp

theorem Mach.attestReq_ne_regWr (m : Mach) (ing : Ingress) (k : Pkt) (ok : Bool) (b : List Byte) : (m.attestReq ing k).2 ≠ .regWr ok b := by
  unfold Mach.attestReq
  dsimp only
  split
  · rename_i a ha
    rintro rfl
    exact m.attGate_ne_regWr _ ok b ha
  · simp

theorem Mach.sessionInit_ne_regWr (m : Mach) (ing : Ingress) (k : Pkt) (ok : Bool) (b : List Byte) :
    (m.sessionInit ing k).2 ≠ .regWr ok b := by
  unfold Mach.sessionInit
  dsimp only
  split
  · rename_i a ha
    rintro rfl
    exact m.attGate_ne_regWr _ ok b ha
  · split
    · split_ifs <;> simp
    · split_ifs <;> simp

theorem Mach.opAuth_ne_regWr (m : Mach) (p : Nat) (ing : Ingress) (k : Pkt) (x : TenSess) (b body : List Byte) (ok : Bool) (c : List Byte) :
    (m.opAuth p ing k x b body).2 ≠ .regWr ok c := by
  unfold Mach.opAuth
  split_ifs <;> simp

theorem Mach.opImport_ne_regWr (m : Mach) (p : Nat) (b body : List Byte) (ok : Bool) (c : List Byte) :
    (m.opImport p b body).2 ≠ .regWr ok c := by
  unfold Mach.opImport
  dsimp only
  split_ifs <;> simp

theorem Mach.keyOp_ne_regWr (m : Mach) (p : Nat) (b body : List Byte) (ok : Bool) (c : List Byte) :
    (m.keyOp p b body).2 ≠ .regWr ok c := by
  have hfin : ∀ r : Mach × Bool,
      (if r.2 then (r.1.advanceCtr p, Ans.ack 0) else (r.1, Ans.nak 0x14 (msgSlot b))).2 ≠ .regWr ok c := by
    intro r
    split_ifs <;> simp
  unfold Mach.keyOp
  dsimp only
  split
  · exact hfin _
  · exact hfin _
  · exact hfin _
  · exact hfin _
  · exact hfin _
  · exact hfin _
  · exact hfin _
  · split
    · simp
    · rename_i r _ hr
      exact m.opImport_ne_regWr p b body ok c
  · simp
  · simp

theorem Mach.keyMessage_ne_regWr (m : Mach) (ing : Ingress) (k : Pkt) (b : List Byte) (ok : Bool) (c : List Byte) :
    (m.keyMessage ing k b).2 ≠ .regWr ok c := by
  have hite : ∀ {q : Prop} [Decidable q] {x y : Mach × Ans}, x.2 ≠ .regWr ok c → y.2 ≠ .regWr ok c → (if q then x else y).2 ≠ .regWr ok c := by
    intro q _ x y hx hy
    split_ifs
    · exact hx
    · exact hy
  unfold Mach.keyMessage
  dsimp only
  split
  · refine hite (by simp) (hite (by simp) ?_)
    split
    · simp
    · exact hite (by simp) (hite (by simp) (hite (by simp) (hite (by simp) (hite (m.opAuth_ne_regWr _ ing k _ b _ ok c)
        (m.keyOp_ne_regWr _ b _ ok c)))))
  · simp

theorem Mach.keyDeliver_ne_regWr (m : Mach) (ing : Ingress) (k : Pkt) (ok : Bool) (b : List Byte) : (m.keyDeliver ing k).2 ≠ .regWr ok b := by
  unfold Mach.keyDeliver
  split_ifs
  · exact m.keyMessage_ne_regWr ing k _ ok b
  · simp

/-! ### The statement -/

/-- A key message of operation `n` runs as KEY_DELIVER does (R554, R555). -/
theorem requestRuns_keyMessage {c : Ingress → Pkt → Instr} {n : Nat}
    (hexec : ∀ ing k (s : State), exec (c ing k) s = s.onMach (fun m => m.keyPacket ing k n) := by intros; rfl) :
    RequestRuns c 0x50 (fun m k => m.keyMsgOp k = some n) Mach.keyDeliver := by
  refine requestRuns_of (fun s ing k0 hs => ?_) rfl (fun _ _ _ => rfl) fun _ m ing k ok b => m.keyDeliver_ne_regWr ing k ok b
  rw [hexec, State.onMach_eq, Mach.keyPacket, if_pos (of_decide_eq_true hs)]

/-- A request of an opcode whose response is sealed runs as the opcode does (R125). -/
theorem requestRuns_sealed {c : Ingress → Pkt → Instr} {opc : BitVec 8} {run : Mach → Ingress → Pkt → Mach × Ans}
    (hrun : ∀ m ing k, Mach.runPkt m ing opc k = run m ing k)
    (hexec : ∀ ing k (s : State), exec (c ing k) s = s.onMach (fun m => m.packet ing opc k) := by intros; rfl)
    (hreq : isRequest opc.toNat = true := by rfl) (hsealed : clearAns opc = false := by rfl) :
    RequestRuns c opc (fun _ _ => true) run :=
  requestRuns_of (fun s ing k0 _ => hexec ing k0 s) hreq hrun fun hc => by rw [hsealed] at hc; cases hc

/-- Settles O19, by the receive checks, the window, and what step 12 does before and after the request's own work. -/
theorem packetsComplete : Obligations.PacketsComplete := by
  have hgraph : ∀ (m : Mach) ing k, m.runPkt ing 0x30 k =
      ((m.graphSubmit ing k).1, match (m.graphSubmit ing k).2 with | some r => r.ans | none => .later) := by
    intro m ing k
    change (match m.graphSubmit ing k with | (m, some r) => (m, r.ans) | (m, none) => (m, Ans.later)) = _
    rcases m.graphSubmit ing k with ⟨n, _ | r⟩
    · rfl
    · rfl
  exact ⟨requestRuns_sealed fun _ _ _ => rfl, requestRuns_sealed fun _ _ _ => rfl, requestRuns_sealed fun _ _ _ => rfl,
    requestRuns_sealed fun _ _ _ => rfl, requestRuns_sealed fun _ _ _ => rfl, requestRuns_sealed fun _ _ _ => rfl,
    requestRuns_sealed fun _ _ _ => rfl, requestRuns_sealed fun _ _ _ => rfl, requestRuns_sealed hgraph,
    requestRuns_sealed fun _ _ _ => rfl, requestRuns_sealed fun _ _ _ => rfl, requestRuns_sealed fun _ _ _ => rfl,
    requestRuns_of (fun _ _ _ _ => rfl) rfl (fun _ _ _ => rfl) fun _ m ing k ok b => m.keyDeliver_ne_regWr ing k ok b,
    requestRuns_of (fun _ _ _ _ => rfl) rfl (fun _ _ _ => rfl) fun _ m ing k ok b => m.attestReq_ne_regWr ing k ok b,
    requestRuns_of (fun _ _ _ _ => rfl) rfl (fun _ _ _ => rfl) fun _ m ing k ok b => m.sessionInit_ne_regWr ing k ok b,
    requestRuns_keyMessage, requestRuns_keyMessage, requestRuns_keyMessage, requestRuns_keyMessage, requestRuns_keyMessage,
    requestRuns_keyMessage, requestRuns_keyMessage, requestRuns_keyMessage, requestRuns_keyMessage, requestRuns_keyMessage⟩

end Sys2Proof.Machine

namespace Sys2Proof.Machine

/-! ### What leaves the contexts and their status entries alone (R131, R171) -/

/-- `n` holds the contexts, phase and completion counters of `m`, and its registers in the upper half of a page, where the
status entries stand (R171). -/
structure Mach.KeepsContexts (m n : Mach) : Prop where
  agg : n.agg = m.agg
  phs : n.phs = m.phs
  ctrs : n.ctrs = m.ctrs
  rd : ∀ a, 0x800 ≤ a % 0x1000 → n.rd a = m.rd a

namespace Mach.KeepsContexts
variable {m n k : Mach}

theorem refl (m : Mach) : m.KeepsContexts m := ⟨rfl, rfl, rfl, fun _ _ => rfl⟩

theorem trans (h1 : m.KeepsContexts n) (h2 : n.KeepsContexts k) : m.KeepsContexts k :=
  ⟨h2.agg.trans h1.agg, h2.phs.trans h1.phs, h2.ctrs.trans h1.ctrs, fun a h => (h2.rd a h).trans (h1.rd a h)⟩

/-- A register in the lower half of a page is no status entry. -/
theorem put (m : Mach) {a : Nat} (hi lo v : Nat) (h : a % 0x1000 < 0x800) : m.KeepsContexts (m.put a hi lo v) :=
  ⟨rfl, rfl, rfl, fun b hb => m.rd_put_other a b hi lo v (by rintro rfl; omega)⟩

/-- An access of translated memory counts in the lower half of the pages of MMU and channels (R522, R523). -/
theorem of_moved {p : Nat} (h : MemMoved p m n) : m.KeepsContexts n := by
  obtain ⟨heq, hrd⟩ := h
  refine ⟨by rw [heq], by rw [heq], by rw [heq], fun a ha => hrd a ?_⟩
  simp only [memReg, A.MMU_WALKS, A.MMU_WALKFAIL, A.MMU_FAULT, A.MMU_FAULT_VA_LO, A.MEM_UNCORR, A.MEM_POISON_RD, A.MEM_ERR_PA_LO]
  rintro (h | h | h | h | h | ⟨ch, h⟩)
  all_goals omega

theorem foldl {α : Type} {f : Mach → α → Mach} (h : ∀ a x, Mach.KeepsContexts a (f a x)) (l : List α) (m : Mach) :
    m.KeepsContexts (l.foldl f m) := by
  induction l generalizing m with
  | nil => exact refl m
  | cons x r ih => exact (h m x).trans (ih _)

theorem ctx (h : m.KeepsContexts n) (c : Nat) : n.ctx c = m.ctx c := by rw [Mach.ctx, h.agg, Mach.ctx]

end Mach.KeepsContexts

/-- An item for a lossy queue keeps the contexts, where storing one does. -/
theorem Mach.lossyPush_keepsContexts (m : Mach) {b : Nat} (item : List Byte) {store : Mach → List Byte → Mach}
    (hs : ∀ k i, Mach.KeepsContexts k (store k i)) (hb : A.Q_DROPS b % 0x1000 < 0x800) :
    m.KeepsContexts (m.lossyPush b item store) := by
  have hgaps : ∀ (k : Mach) g, k.KeepsContexts { k with net := { k.net with gaps := g } } := fun _ _ => ⟨rfl, rfl, rfl, fun _ _ => rfl⟩
  have hmark : m.KeepsContexts (m.lossyMark b store) := by
    unfold Mach.lossyMark
    split
    · split_ifs
      · exact (hgaps m _).trans (hs _ _)
      · exact .refl m
    · exact .refl m
  unfold Mach.lossyPush
  dsimp only
  split_ifs
  · exact hmark.trans (hs _ _)
  · exact (hmark.trans (hgaps _ _)).trans (.put _ _ _ _ hb)

/-- Tracing keeps the contexts: the trace queue of any partition stands in the lower half of its page (R401, R402). -/
theorem Mach.trace_keepsContexts (m : Mach) (p kind : Nat) (b2 b16 : List Byte) : m.KeepsContexts (m.trace p kind b2 b16) := by
  have hcommit : ∀ k : Mach, k.KeepsContexts (k.qCommit (traceBlock p) 1) := fun k =>
    ((Mach.KeepsContexts.put k _ _ _ (by unfold A.Q_PTR traceBlock; omega)).trans
      (.put _ _ _ _ (by unfold A.Q_ITEMS traceBlock; omega))).trans (.put _ _ _ _ (by unfold A.Q_CAP traceBlock; omega))
  have hdrops : A.Q_DROPS (traceBlock p) % 0x1000 < 0x800 := by unfold A.Q_DROPS traceBlock; omega
  have hstore : ∀ k i, Mach.KeepsContexts k (k.traceStore p i) := by
    intro k i
    have hw := Mach.KeepsContexts.of_moved (k.vwrite_moved 4 p (k.rd64 (A.TRACE_BASE_LO p) + 64 * k.qSlot (traceBlock p)) i)
    unfold Mach.traceStore
    dsimp only
    split
    · rename_i k' heq
      rw [heq] at hw
      exact hw.trans (hcommit k')
    · rename_i k' e heq
      rw [heq] at hw
      exact (hw.trans (.put _ _ _ _ (by unfold A.TRACE_CFG; omega))).trans (.put _ _ _ _ hdrops)
  unfold Mach.trace
  split_ifs
  · exact m.lossyPush_keepsContexts _ hstore hdrops
  · exact .refl m

/-! ### Contexts and their status entries -/

section
variable (m : Mach) (c : Nat)

@[simp] theorem Mach.ctx_setCtx_same (x : AggCtx) : (m.setCtx c x).ctx c = x := tget_tset_same _ _ _ _
theorem Mach.ctx_setCtx_other {c' : Nat} (x : AggCtx) (h : c' ≠ c) : (m.setCtx c x).ctx c' = m.ctx c' := tget_tset_other _ _ _ _ _ h
@[simp] theorem Mach.rd_setCtx (x : AggCtx) (a : Nat) : (m.setCtx c x).rd a = m.rd a := rfl

/-- The status entries stand in the upper half of their page (R171). -/
theorem CTX_STS_upper : 0x800 ≤ A.CTX_STS c % 0x1000 := by unfold A.CTX_STS; omega

theorem CTX_STS_inj {c c' : Nat} (h : A.CTX_STS c' = A.CTX_STS c) : c' = c := by simp only [A.CTX_STS] at h; omega

end

/-! ### Leaving RECOVERY (R193, R197) -/

/-- The end of recovery takes the recovery state of its context, and leaves the other contexts and the status entries. -/
theorem Mach.recoveryEnd_outcome (m : Mach) (c : Nat) :
    ∃ n, m.KeepsContexts n ∧ (m.recoveryEnd c = n ∧ (m.ctx c).recov = none ∨ m.recoveryEnd c = n.setCtx c { m.ctx c with recov := none }) := by
  have htile : ∀ (a : Mach) (t : Nat), a.KeepsContexts ((a.wipeTile t).expandedTile t) := fun a t =>
    have hwipe : a.KeepsContexts (a.wipeTile t) := ⟨rfl, rfl, rfl, fun _ _ => rfl⟩
    hwipe.trans (.put _ _ _ _ (by unfold A.TILE_STS; omega))
  unfold Mach.recoveryEnd
  dsimp only
  split
  · exact ⟨m, .refl m, .inl ⟨rfl, ‹_›⟩⟩
  · rename_i r hr
    refine ⟨_, ?_, .inr rfl⟩
    refine Mach.KeepsContexts.trans ?_ (.put _ _ _ _ (by unfold mskReg A.MSK_REC_STS; omega))
    have hpass : m.KeepsContexts (match r.pass with | some (u, _) => m.putBit A.MSK_STS u false | none => m) := by
      cases r.pass with
      | none => exact .refl m
      | some p => exact .put _ _ _ _ (by decide)
    split_ifs
    · exact hpass.trans (.foldl (fun a i => htile a _) _ _)
    · exact hpass

/-- The recovery state of a context is gone, and nothing else of any context. -/
theorem Mach.recoveryEnd_ctx (m : Mach) (c c' : Nat) :
    (m.recoveryEnd c).ctx c' = if c' = c then { m.ctx c with recov := none } else m.ctx c' := by
  obtain ⟨n, hn, ⟨heq, hr⟩ | heq⟩ := m.recoveryEnd_outcome c
  · rw [heq, hn.ctx]
    split_ifs with h
    · rw [h, ← hr]
    · rfl
  · rw [heq]
    split_ifs with h
    · rw [h, Mach.ctx_setCtx_same]
    · rw [Mach.ctx_setCtx_other _ _ _ h, hn.ctx]

theorem Mach.recoveryEnd_frame (m : Mach) (c : Nat) : (m.recoveryEnd c).phs = m.phs ∧ (m.recoveryEnd c).ctrs = m.ctrs ∧
    ∀ a, 0x800 ≤ a % 0x1000 → (m.recoveryEnd c).rd a = m.rd a := by
  obtain ⟨n, hn, ⟨heq, -⟩ | heq⟩ := m.recoveryEnd_outcome c
  · rw [heq]; exact ⟨hn.phs, hn.ctrs, hn.rd⟩
  · rw [heq]; exact ⟨hn.phs, hn.ctrs, hn.rd⟩

/-! ### Entering a state (R139, R140, R142) -/

/-- Context `c` as entering state `st` leaves it, but for its recovery state: its AT_ field, the phase of entry and the edge
of a command (R134, R141). -/
def Mach.stamped (m : Mach) (c st : Nat) (byCmd : Bool) : AggCtx :=
  { m.ctx c with
    ats := match atIndex st with | some i => (m.ctx c).ats.set i m.phase | none => (m.ctx c).ats,
    entered := if m.running then some m.phase else none,
    cmdEdge := if byCmd then some m.phs.edges else none }

/-- The context is stamped and its status entry shows state and cause (R171). -/
def Mach.shown (m : Mach) (c st cause : Nat) (byCmd : Bool) : Mach :=
  ((m.setCtx c (m.stamped c st byCmd)).put (A.CTX_STS c) 3 0 st).put (A.CTX_STS c) 23 16 cause

/-- The transition is told: write-back, NOTIFY, trace (R140, R142). -/
def Mach.told (m : Mach) (c old st cause : Nat) (x : AggCtx) : Mach :=
  let n := (m.vwrite 2 x.part ((x.descVa + 0xC0) % 2 ^ 48) (m.writeBackBytes c x)).1
  let n := if bitOf x.flags 2 && 2 ≤ st then n.ctrAdd x.part (x.f 6 2 % 4096) 1 else n
  n.trace x.part 4 (leBytes 2 c ++ leBytes 1 old ++ leBytes 1 st ++ leBytes 1 cause) []

theorem Mach.enterCtx_eq (m : Mach) (c st cause : Nat) (byCmd : Bool) : m.enterCtx c st cause byCmd =
    let n := (m.shown c st cause byCmd).told c (m.ctxState c) st cause (m.stamped c st byCmd)
    if st = 5 || st = 7 then n.recoveryEnd c else n := rfl

/-- Telling a transition leaves contexts, phase and status entries, and counts NOTIFY alone (R142). -/
theorem Mach.told_outcome (m : Mach) (c old st cause : Nat) (x : AggCtx) :
    (m.told c old st cause x).agg = m.agg ∧ (m.told c old st cause x).phs = m.phs ∧
    (∀ a, 0x800 ≤ a % 0x1000 → (m.told c old st cause x).rd a = m.rd a) ∧
    (m.told c old st cause x).ctrs = if bitOf x.flags 2 && 2 ≤ st then (m.ctrAdd x.part (x.f 6 2 % 4096) 1).ctrs else m.ctrs := by
  have hw := Mach.KeepsContexts.of_moved (m.vwrite_moved 2 x.part ((x.descVa + 0xC0) % 2 ^ 48) (m.writeBackBytes c x))
  unfold Mach.told
  dsimp only
  generalize (m.vwrite 2 x.part ((x.descVa + 0xC0) % 2 ^ 48) (m.writeBackBytes c x)).1 = n at hw ⊢
  split_ifs
  · have ht := (n.ctrAdd x.part (x.f 6 2 % 4096) 1).trace_keepsContexts x.part 4
      (leBytes 2 c ++ leBytes 1 old ++ leBytes 1 st ++ leBytes 1 cause) []
    refine ⟨ht.agg.trans hw.agg, ht.phs.trans hw.phs, fun a ha => (ht.rd a ha).trans (hw.rd a ha), ht.ctrs.trans ?_⟩
    simp only [Mach.ctrAdd, Mach.ctr, hw.ctrs]
  · have ht := hw.trans (n.trace_keepsContexts x.part 4 (leBytes 2 c ++ leBytes 1 old ++ leBytes 1 st ++ leBytes 1 cause) [])
    exact ⟨ht.agg, ht.phs, ht.rd, ht.ctrs⟩

section
variable (m : Mach) (c st cause : Nat) (byCmd : Bool)

/-- Everything but the recovery state, which the last step may end. -/
theorem Mach.enterCtx_frame :
    (m.enterCtx c st cause byCmd).phs = m.phs ∧
    (∀ a, 0x800 ≤ a % 0x1000 → (m.enterCtx c st cause byCmd).rd a = (m.shown c st cause byCmd).rd a) ∧
    (m.enterCtx c st cause byCmd).ctrs = if bitOf (m.ctx c).flags 2 && 2 ≤ st then
      (m.ctrAdd (m.ctx c).part ((m.ctx c).f 6 2 % 4096) 1).ctrs else m.ctrs := by
  obtain ⟨-, hphs, hrd, hctrs⟩ := (m.shown c st cause byCmd).told_outcome c (m.ctxState c) st cause (m.stamped c st byCmd)
  rw [Mach.enterCtx_eq]
  generalize (m.shown c st cause byCmd).told c (m.ctxState c) st cause (m.stamped c st byCmd) = n at *
  by_cases hs : (st = 5 || st = 7) = true
  · obtain ⟨rphs, rctrs, rrd⟩ := n.recoveryEnd_frame c
    rw [if_pos hs]
    exact ⟨rphs.trans hphs, fun a ha => (rrd a ha).trans (hrd a ha), rctrs.trans hctrs⟩
  · rw [if_neg hs]
    exact ⟨hphs, hrd, hctrs⟩

/-- The context is stamped, and left without recovery state in DONE and ABORTED; no other context changes. -/
theorem Mach.enterCtx_ctx (c' : Nat) : (m.enterCtx c st cause byCmd).ctx c' =
    if c' = c then (if st = 5 ∨ st = 7 then { m.stamped c st byCmd with recov := none } else m.stamped c st byCmd) else m.ctx c' := by
  obtain ⟨hagg, -⟩ := (m.shown c st cause byCmd).told_outcome c (m.ctxState c) st cause (m.stamped c st byCmd)
  rw [Mach.enterCtx_eq]
  generalize (m.shown c st cause byCmd).told c (m.ctxState c) st cause (m.stamped c st byCmd) = n at *
  have htold : ∀ d, n.ctx d = if d = c then m.stamped c st byCmd else m.ctx d := by
    intro d
    rw [Mach.ctx, hagg]
    split_ifs with h
    · rw [h]; exact m.ctx_setCtx_same c _
    · exact m.ctx_setCtx_other c _ h
  by_cases hs : st = 5 ∨ st = 7
  · rw [if_pos (by simpa using hs), Mach.recoveryEnd_ctx, htold, htold, if_pos rfl, if_pos hs]
    split_ifs <;> rfl
  · rw [if_neg (by simpa using hs), htold, if_neg hs]

theorem Mach.enterCtx_rd {a : Nat} (ha : 0x800 ≤ a % 0x1000) :
    (m.enterCtx c st cause byCmd).rd a = (m.shown c st cause byCmd).rd a := by
  obtain ⟨-, hrd, -⟩ := m.enterCtx_frame c st cause byCmd
  exact hrd a ha

/-- The status entry shows the state. -/
theorem Mach.enterCtx_state (h : st < 16) : (m.enterCtx c st cause byCmd).ctxState c = st := by
  rw [Mach.ctxState, Mach.fld, Mach.enterCtx_rd _ _ _ _ _ (CTX_STS_upper c), Mach.shown]
  refine (Mach.fld_put_disjoint _ _ _ _ _ _ _ (by decide) (by decide) (by decide)).trans ?_
  rw [Mach.fld_put_same _ _ _ _ _ (by decide) (by decide)]
  exact Nat.mod_eq_of_lt h

/-- The status entry shows the cause. -/
theorem Mach.enterCtx_cause (h : cause < 256) : (m.enterCtx c st cause byCmd).fld (A.CTX_STS c) 23 16 = cause := by
  rw [Mach.fld, Mach.enterCtx_rd _ _ _ _ _ (CTX_STS_upper c), Mach.shown]
  exact (Mach.fld_put_same _ _ _ _ _ (by decide) (by decide)).trans (Nat.mod_eq_of_lt h)

/-- No other status entry changes. -/
theorem Mach.enterCtx_rd_other {a : Nat} (ha : 0x800 ≤ a % 0x1000) (hne : a ≠ A.CTX_STS c) :
    (m.enterCtx c st cause byCmd).rd a = m.rd a := by
  rw [Mach.enterCtx_rd _ _ _ _ _ ha, Mach.shown, Mach.rd_put_other _ _ _ _ _ _ hne, Mach.rd_put_other _ _ _ _ _ _ hne,
    Mach.rd_setCtx]

/-- Descriptor and slots stand. -/
theorem Mach.enterCtx_desc_slots : ((m.enterCtx c st cause byCmd).ctx c).desc = (m.ctx c).desc ∧
    ((m.enterCtx c st cause byCmd).ctx c).slots = (m.ctx c).slots := by
  rw [Mach.enterCtx_ctx, if_pos rfl]
  split_ifs <;> exact ⟨rfl, rfl⟩

/-- The phase of entry and the AT_ field of the state (R134, R141). -/
theorem Mach.enterCtx_stamp : ((m.enterCtx c st cause byCmd).ctx c).entered = (m.stamped c st byCmd).entered ∧
    ((m.enterCtx c st cause byCmd).ctx c).ats = (m.stamped c st byCmd).ats := by
  rw [Mach.enterCtx_ctx, if_pos rfl]
  split_ifs <;> exact ⟨rfl, rfl⟩

end

/-- Settles O23, by what entering a state makes of contexts, status entries and completion counters. -/
theorem contextEntry : Obligations.ContextEntry := by
  intro m c st cause byCmd h1 h8 hc hrun
  obtain ⟨hphs, -, hctrs⟩ := m.enterCtx_frame c st cause byCmd
  obtain ⟨hdesc, hslots⟩ := m.enterCtx_desc_slots c st cause byCmd
  obtain ⟨hent, hats⟩ := m.enterCtx_stamp c st cause byCmd
  refine ⟨m.enterCtx_state c st cause byCmd (by omega), m.enterCtx_cause c st cause byCmd hc, ?_, congrArg (fun p : Phs => p.phase.toNat) hphs,
    fun i hi hlen => ?_, hdesc, hslots, fun hn hst => ?_, fun c' hne => ⟨?_, ?_⟩⟩
  · rw [hent, Mach.stamped, if_pos hrun]
  · have hi5 : i < 5 := by
      unfold atIndex at hi
      split at hi <;> cases hi <;> decide
    rw [hats, Mach.stamped]
    simp [hi, List.getD, hlen, hi5]
  · rw [if_pos (by simp [hn, hst])] at hctrs
    rw [Mach.ctr, hctrs]
    exact tget_tset_same _ _ _ _
  · have hval : c'.val ≠ c.val := fun h => hne (Fin.ext h)
    rw [Mach.enterCtx_ctx, if_neg hval]
  · exact m.enterCtx_rd_other c st cause byCmd (CTX_STS_upper _) fun h => hne (Fin.ext (CTX_STS_inj h))

end Sys2Proof.Machine

namespace Sys2Proof.Machine

/-! ### Transitions of a context (R140, R151, R161, R162) -/

section
variable (m : Mach) (c : Nat)

/-- An abort is the entry to ABORTED with its cause, of a context that has no slots left (R161, R162). -/
theorem Mach.abortCtx_outcome (cause : Nat) (byCmd : Bool) (h : cause < 256) : (m.abortCtx c cause byCmd).ctxState c = 7 ∧
    (m.abortCtx c cause byCmd).fld (A.CTX_STS c) 23 16 = cause ∧ ((m.abortCtx c cause byCmd).ctx c).slots = [] := by
  unfold Mach.abortCtx
  dsimp only
  refine ⟨Mach.enterCtx_state _ c 7 cause byCmd (by decide), Mach.enterCtx_cause _ c 7 cause byCmd h, ?_⟩
  exact (Mach.enterCtx_desc_slots _ c 7 cause byCmd).2.trans (congrArg AggCtx.slots (Mach.ctx_setCtx_same _ c _))

/-- With every contribution committing, CLOSE drops nobody and enters CLOSING (R140, R151). -/
theorem Mach.closeCtx_committing (byCmd : Bool) (h : ∀ e ∈ (m.ctx c).slots, e.2.committing = true) :
    m.closeCtx c byCmd = m.enterCtx c 3 0 byCmd := by
  have hp : (m.ctx c).slots.filter (fun s => !s.2.committing) = [] := List.filter_eq_nil_iff.2 fun e he => by simp [h e he]
  simp [Mach.closeCtx, hp, Mach.dropAll]

/-- CLOSE of a DIRECT context with a contribution in progress aborts it (R152). -/
theorem Mach.closeCtx_direct (byCmd : Bool) (hd : (m.ctx c).direct = true) (h : ∃ e ∈ (m.ctx c).slots, e.2.committing = false) :
    m.closeCtx c byCmd = m.abortCtx c 2 byCmd := by
  obtain ⟨e, he, hc⟩ := h
  have hp : (m.ctx c).slots.filter (fun s => !s.2.committing) ≠ [] := List.ne_nil_of_mem (List.mem_filter.2 ⟨he, by simp [hc]⟩)
  simp [Mach.closeCtx, hd, hp]

/-- RELEASE leaves the context RELEASED and empty (R140). -/
theorem Mach.releaseCtx_outcome (byCmd : Bool) : (m.releaseCtx c byCmd).ctxState c = 6 ∧ (m.releaseCtx c byCmd).ctx c = {} :=
  ⟨m.enterCtx_state c 6 0 byCmd (by decide), Mach.ctx_setCtx_same _ c _⟩

end

/-! ### The status entry cleared (R171, R203) -/

/-- Registers put to zero read zero, and no other register changes. -/
theorem Mach.foldl_wr_zero_rd (l : List Nat) (m : Mach) (a : Nat) :
    (l.foldl (fun m r => m.wr r 0) m).rd a = if a ∈ l then 0 else m.rd a := by
  induction l generalizing m with
  | nil => rfl
  | cons r l ih =>
    rw [List.foldl_cons, ih]
    by_cases hr : a = r
    · simp [hr]
    · simp [hr, Mach.rd_wr_other _ _ _ _ hr]

/-- Every word of the status entry reads zero. -/
theorem Mach.clearCtxRegs_entry (m : Mach) (c i : Nat) (h : i < 8) : (m.clearCtxRegs c).rd (A.CTX_STS c + 4 * i) = 0 := by
  unfold Mach.clearCtxRegs
  rw [Mach.foldl_wr_zero_rd, Mach.foldl_wr_zero_rd, if_pos (List.mem_map.2 ⟨i, List.mem_range.2 h, rfl⟩), ite_self]

theorem Mach.ctx_putBit (m : Mach) (a i : Nat) (b : Bool) (c : Nat) : (m.putBit a i b).ctx c = m.ctx c := rfl

/-- Clearing a status entry touches no context. -/
theorem Mach.clearCtxRegs_ctx (m : Mach) (c d : Nat) : (m.clearCtxRegs c).ctx d = m.ctx d := by
  have h : ∀ (l : List Nat) (n : Mach), (l.foldl (fun m r => m.wr r 0) n).agg = n.agg := fun l n =>
    foldl_keeps l _ (fun a => a.agg) (fun a r _ => a.wr_agg r 0) n
  rw [Mach.ctx, Mach.clearCtxRegs, h, h, Mach.ctx]

/-! ### ARM (R133, R170) -/

/-- The machine in which zeroing for context `c`, armed as `x`, has begun (R137). -/
def Mach.zeroing (m : Mach) (c : Nat) (x : AggCtx) : Mach :=
  (((m.setCtx c x).clearCtxRegs c).putBit (A.CTX_STS c) 30 true).putBit (A.CTX_STS c) 4 x.direct

section
variable (m : Mach) (p c va : Nat)

/-- An image that passes every check begins zeroing (R135, R177, R178). -/
theorem Mach.arm_accepted (node : Option (Nat × Nat × Nat)) {m1 m2 : Mach} {b : List Byte} (hva : va % 256 = 0)
    (hb : m.armRead p va = (m1, .ok b)) :
    let x : AggCtx := { desc := b, descVa := va, part := p, armNode := node }
    descCheck x p va = none → m1.maskCheck x p va = none → m1.armXlate p x.armRanges = (m2, none) →
      m.arm p c va node = (m2.zeroing c x, none) := by
  intro x hd hm hx
  simp [Mach.arm, hva, hb, x, hd, hm, hx, Mach.zeroing]

/-- An image out of line is refused (R133). -/
theorem Mach.arm_misaligned (node : Option (Nat × Nat × Nat)) (h : va % 256 ≠ 0) : m.arm p c va node = (m, some (4, 0xFF)) :=
  if_pos h

/-- While zeroing runs the context holds its descriptor and shows ARMING, in state 0 with nothing committed (R137, R171). -/
theorem Mach.zeroing_outcome (x : AggCtx) : (m.zeroing c x).ctxArming c = true ∧ (m.zeroing c x).ctx c = x ∧ (m.zeroing c x).ctxState c = 0 ∧
    (m.zeroing c x).rd (A.CTX_COMMITTED c) = 0 := by
  refine ⟨?_, ?_, ?_, ?_⟩
  · rw [Mach.ctxArming, Mach.zeroing, Mach.bit_putBit_bit _ _ _ _ _ (by decide) (by decide), Mach.bit_putBit_same _ _ _ _ (by decide)]
  · rw [Mach.zeroing, Mach.ctx_putBit, Mach.ctx_putBit, Mach.clearCtxRegs_ctx, Mach.ctx_setCtx_same]
  · have h0 : ((m.setCtx c x).clearCtxRegs c).rd (A.CTX_STS c) = 0 := (m.setCtx c x).clearCtxRegs_entry c 0 (by decide)
    rw [Mach.ctxState, Mach.zeroing, Mach.fld_putBit_disjoint _ _ _ _ _ _ (by decide) (by decide),
      Mach.fld_putBit_disjoint _ _ _ _ _ _ (by decide) (by decide), Mach.fld, h0]
    rfl
  · have hne : A.CTX_COMMITTED c ≠ A.CTX_STS c := by unfold A.CTX_COMMITTED A.CTX_STS; omega
    have hat : A.CTX_COMMITTED c = A.CTX_STS c + 4 * 1 := by unfold A.CTX_COMMITTED A.CTX_STS; omega
    rw [Mach.zeroing, Mach.rd_putBit_other _ _ _ _ _ hne, Mach.rd_putBit_other _ _ _ _ _ hne, hat,
      Mach.clearCtxRegs_entry _ c 1 (by decide)]

end

/-! ### Window commands (R140, R170) -/

/-- The window of `p` shows `w` as the result of a command, and the write is answered. -/
def Mach.windowShows (m : Mach) (p : Nat) (w : Word) : Mach := (m.wr (A.AGG_WIN_RES p) w).answered

section
variable (m : Mach) (p : Nat) (w : Word)

@[simp] theorem Mach.windowShows_ctx (c : Nat) : (m.windowShows p w).ctx c = m.ctx c := rfl
theorem Mach.windowShows_res : (m.windowShows p w).rd (A.AGG_WIN_RES p) = w := m.rd_wr_same _ _

/-- A window's result leaves the status entries. -/
theorem Mach.windowShows_rd {a : Nat} (ha : 0x800 ≤ a % 0x1000) : (m.windowShows p w).rd a = m.rd a :=
  m.rd_wr_other _ a w (by rintro rfl; unfold A.AGG_WIN_RES at ha; omega)

theorem Mach.windowShows_entry (c hi lo : Nat) : (m.windowShows p w).fld (A.CTX_STS c) hi lo = m.fld (A.CTX_STS c) hi lo := by
  rw [Mach.fld, m.windowShows_rd p w (CTX_STS_upper c), Mach.fld]

end

/-- AGG_WIN_RES after a command on context `c`: DONE with CODE and DETAIL, or an ARM under way (R169, R170). -/
def aggWord (c : Nat) : Option (Nat × Nat) → Word
  | some (code, d) => BitVec.ofNat 32 (2 ^ 31 + c * 2 ^ 16 + d * 2 ^ 8 + code)
  | none => BitVec.ofNat 32 (c * 2 ^ 16)

/-- A window command does what `aggCommand` says of the context that the window selects, and the window shows its result. -/
theorem gives_aggCommand {s : State} {cmd : Instr} {who : Ident} {p : Fin 16} {v : Nat} {n : Mach} {P : Mach → Prop}
    (hexec : exec cmd s = s.onMach (fun m => m.writeCmd who (A.AGG_WIN_CMD p.val) v)) (hv : v < 16)
    (hopen : s.m.writeOpen who (A.AGG_WIN_CMD p.val)) (hdone : s.m.bit (A.AGG_WIN_RES p.val) 31 = true) (r : Option (Nat × Nat))
    (hc : s.m.aggCommand p.val (s.m.fld (A.AGG_WIN_SEL p.val) 11 0) v (s.m.rd64 (A.AGG_WIN_DESC_LO p.val)) none = (n, r))
    (hP : P (n.windowShows p.val (aggWord (s.m.fld (A.AGG_WIN_SEL p.val) 11 0) r))) : Gives cmd s P := by
  refine gives_onMach hexec ?_
  have hop : bitsOf v 3 0 = v := Nat.mod_eq_of_lt hv
  rw [s.m.write_AGG_WIN_CMD who v p (by omega) hopen, Mach.writeAggCmd, hdone, hop]
  simp only [hc]
  rcases r with _ | ⟨code, d⟩
  · exact hP
  · exact hP

/-- The commands of a window on a context of its partition, each by its operation (R170). -/
theorem Mach.aggCommand_own (m : Mach) {p c : Nat} (va : Nat) (node : Option (Nat × Nat × Nat)) (h : m.ctxOwner c = some p) :
    m.aggCommand p c 1 va node = (if m.ctxArming c || m.bit (A.CTX_STS c) 31 then (m, some (3, 0))
      else if m.ctxState c = 0 || m.ctxState c = 6 || m.ctxState c = 7 then m.arm p c va node else (m, some (1, 0))) ∧
    m.aggCommand p c 2 va node = (if m.ctxState c = 1 then (m.openCtx c true, some (0, 0)) else (m, some (1, 0))) ∧
    m.aggCommand p c 3 va node = (if m.ctxState c = 2 then (m.closeCtx c true, some (0, 0)) else (m, some (1, 0))) ∧
    m.aggCommand p c 4 va node = (if m.ctxInUse c then (m.abortCtx c 3 true, some (0, 0)) else (m, some (1, 0))) ∧
    m.aggCommand p c 5 va node = (if m.ctxState c = 5 then (m.releaseCtx c true, some (0, 0)) else (m, some (1, 0))) ∧
    m.aggCommand p c 6 va node = (if m.ctxInUse c then (m.abortCtx c 1 true, some (0, 0)) else (m, some (1, 0))) := by
  simp [Mach.aggCommand, h]

/-- A command on another partition's context is refused with CODE 2 (R170). -/
theorem Mach.aggCommand_foreign (m : Mach) {p c op : Nat} (va : Nat) (node : Option (Nat × Nat × Nat)) (hop : op ≠ 0) (h7 : op < 7)
    (h : m.ctxOwner c ≠ some p) : m.aggCommand p c op va node = (m, some (2, 0)) := by
  have h7' : ¬ 7 ≤ op := by omega
  simp [Mach.aggCommand, hop, h7', h]

/-- What a window command leaves that has put the context it names in state `st` and reports CODE 0. -/
theorem Mach.windowShows_entered (n : Mach) (p c st : Nat) (w : Word) (h : n.ctxState c = st) :
    (n.windowShows p w).resp = [(0, 0)] ∧ (n.windowShows p w).ctxState c = st ∧ (n.windowShows p w).rd (A.AGG_WIN_RES p) = w :=
  ⟨rfl, (n.windowShows_entry p w c 3 0).trans h, n.windowShows_res p w⟩

/-- The same of a command that aborts, with its cause (R161). -/
theorem Mach.abortCtx_shown (m : Mach) (p c cause : Nat) (w : Word) (h : cause < 256) :
    let n := (m.abortCtx c cause true).windowShows p w
    n.resp = [(0, 0)] ∧ n.ctxState c = 7 ∧ n.fld (A.CTX_STS c) 23 16 = cause ∧ n.rd (A.AGG_WIN_RES p) = w := by
  obtain ⟨hst, hcause, -⟩ := m.abortCtx_outcome c cause true h
  obtain ⟨hresp, hstate, hres⟩ := (m.abortCtx c cause true).windowShows_entered p c 7 w hst
  exact ⟨hresp, hstate, (Mach.windowShows_entry _ p w c 23 16).trans hcause, hres⟩

/-- The same of an ARM whose zeroing has begun (R137). -/
theorem Mach.zeroing_shown (m : Mach) (p c : Nat) (x : AggCtx) (w : Word) :
    let n := (m.zeroing c x).windowShows p w
    n.resp = [(0, 0)] ∧ n.ctxArming c = true ∧ n.ctx c = x ∧ n.ctxState c = 0 ∧ n.rd (A.CTX_COMMITTED c) = 0 ∧ n.rd (A.AGG_WIN_RES p) = w := by
  obtain ⟨harming, hctx, hstate, hcom⟩ := m.zeroing_outcome c x
  obtain ⟨hresp, hstate', hres⟩ := (m.zeroing c x).windowShows_entered p c 0 w hstate
  refine ⟨hresp, ?_, (Mach.windowShows_ctx _ p w c).trans hctx, hstate', ?_, hres⟩
  · rw [Mach.ctxArming, Mach.bit, Mach.windowShows_rd _ p w (CTX_STS_upper c)]
    exact harming
  · exact (Mach.windowShows_rd _ p w (by unfold A.CTX_COMMITTED; omega)).trans hcom

/-- Settles O24, by what each operation makes of the context before the window shows its result. -/
theorem aggCommandsComplete : Obligations.AggCommandsComplete := by
  intro s who p hopen hdone c va res
  refine ⟨fun hown => ?_, fun hown cmd hmem => ?_⟩
  · obtain ⟨harm, hop, hclose, hend, hrel, habort⟩ := s.m.aggCommand_own va none hown
    refine ⟨fun h1 => ?_, fun h1 => ?_, fun h2 hcom => ?_, fun h2 hdir hprog => ?_, fun huse => ?_, fun huse => ?_, fun h5 => ?_,
      fun m1 m2 b hna hnd hst hva hb hd hm hx => ?_, fun hva hst => ?_⟩
    · rw [if_pos h1] at hop
      refine gives_aggCommand rfl (by decide) hopen hdone (some (0, 0)) hop ?_
      obtain ⟨hresp, hstate, hres⟩ := (s.m.openCtx c true).windowShows_entered p.val c 2 (res 0 0) (s.m.enterCtx_state c 2 0 true (by decide))
      exact ⟨hresp, hstate, hres, rfl⟩
    · rw [if_neg h1] at hop
      exact gives_aggCommand rfl (by decide) hopen hdone (some (1, 0)) hop ⟨rfl, s.m.windowShows_res p.val (res 1 0)⟩
    · rw [if_pos h2, s.m.closeCtx_committing c true hcom] at hclose
      exact gives_aggCommand rfl (by decide) hopen hdone (some (0, 0)) hclose
        (Mach.windowShows_entered _ p.val c 3 (res 0 0) (s.m.enterCtx_state c 3 0 true (by decide)))
    · rw [if_pos h2, s.m.closeCtx_direct c true hdir hprog] at hclose
      exact gives_aggCommand rfl (by decide) hopen hdone (some (0, 0)) hclose (s.m.abortCtx_shown p.val c 2 (res 0 0) (by decide))
    · rw [if_pos huse] at hend
      exact gives_aggCommand rfl (by decide) hopen hdone (some (0, 0)) hend (s.m.abortCtx_shown p.val c 3 (res 0 0) (by decide))
    · rw [if_pos huse] at habort
      exact gives_aggCommand rfl (by decide) hopen hdone (some (0, 0)) habort (s.m.abortCtx_shown p.val c 1 (res 0 0) (by decide))
    · rw [if_pos h5] at hrel
      obtain ⟨hst, hctx⟩ := s.m.releaseCtx_outcome c true
      obtain ⟨hresp, hstate, hres⟩ := (s.m.releaseCtx c true).windowShows_entered p.val c 6 (res 0 0) hst
      exact gives_aggCommand rfl (by decide) hopen hdone (some (0, 0)) hrel
        ⟨hresp, hstate, (Mach.windowShows_ctx _ p.val (res 0 0) c).trans hctx, hres⟩
    · rw [hna, hnd, if_neg (by decide), if_pos (by simpa [or_assoc] using hst), s.m.arm_accepted p.val c va none hva hb hd hm hx] at harm
      exact gives_aggCommand rfl (by decide) hopen hdone none harm (m2.zeroing_shown p.val c _ _)
    · obtain ⟨hna, hnd, h0⟩ := hst
      rw [hna, hnd, if_neg (by decide), if_pos (by simp [h0]), s.m.arm_misaligned p.val c va none hva] at harm
      exact gives_aggCommand rfl (by decide) hopen hdone (some (4, 0xFF)) harm rfl
  · have hforeign : ∀ v, v ≠ 0 → v < 7 → exec cmd s = s.onMach (fun m => m.writeCmd who (A.AGG_WIN_CMD p.val) v) →
        Gives cmd s (fun m => m = (s.m.aggResult p c 2 0).answered) := fun v h0 h7 hexec =>
      gives_aggCommand hexec (by omega) hopen hdone (some (2, 0)) (s.m.aggCommand_foreign va none h0 h7 hown) rfl
    simp only [List.mem_cons, List.not_mem_nil, or_false] at hmem
    rcases hmem with rfl | rfl | rfl | rfl | rfl | rfl
    · exact hforeign 1 (by decide) (by decide) rfl
    · exact hforeign 2 (by decide) (by decide) rfl
    · exact hforeign 3 (by decide) (by decide) rfl
    · exact hforeign 4 (by decide) (by decide) rfl
    · exact hforeign 5 (by decide) (by decide) rfl
    · exact hforeign 6 (by decide) (by decide) rfl

end Sys2Proof.Machine

namespace Sys2Proof.Machine

/-! ### Slots that become free (R149, R151, R153) -/

/-- Slot `j` of context `c`, which `x` describes, is free, and CTX_SLOTS counts it. -/
def Mach.freedSlot (m : Mach) (c j : Nat) (x : AggCtx) : Mach :=
  let m := m.setCtx c { x with slots := terase x.slots j }
  m.put (A.CTX_SLOTS c) 6 0 (m.fld (A.CTX_SLOTS c) 6 0 - 1)

section
variable (m : Mach) (c j : Nat)

theorem Mach.freedSlot_slots (x : AggCtx) : ((m.freedSlot c j x).ctx c).slots = terase x.slots j :=
  congrArg AggCtx.slots (m.ctx_setCtx_same c _)

theorem Mach.freedSlot_mem (x : AggCtx) : (m.freedSlot c j x).mem = m.mem := rfl

theorem Mach.ctx_bumpF (a hi lo n : Nat) : (m.bumpF a hi lo n).ctx c = m.ctx c := rfl

theorem Mach.freedSlot_committed (x : AggCtx) : (m.freedSlot c j x).fld (A.CTX_COMMITTED c) 22 0 = m.fld (A.CTX_COMMITTED c) 22 0 :=
  Mach.fld_put_other _ _ _ _ _ _ _ _ (by unfold A.CTX_COMMITTED A.CTX_SLOTS; omega)

/-- An update of translated memory keeps the contexts, however it ends. -/
theorem Mach.vupdate_keepsContexts {n : Mach} {e : Option XFail} {src p va len : Nat} {full : Bool} {g : Nat → List Byte → List Byte}
    (h : m.vupdate src p va len full g = (n, e)) : m.KeepsContexts n := by
  have hmoved := m.vupdate_moved src p va len full g
  rw [h] at hmoved
  exact .of_moved hmoved

/-- A committed contribution is recorded in memory by two updates; then its slot is free and it counts (R149). -/
theorem Mach.committed_eq (i : Nat) {m1 m2 : Mach} (h1 : m.setArrived c i = (m1, none))
    (h2 : m1.vupdate 2 (m.ctx c).part ((m.ctx c).segEntry i) 4 false (fun _ old => leBytes 4 (withBits (leNat old) 30 24 0)) = (m2, none)) :
    m.KeepsContexts m2 ∧ m.committed c i j = (m2.freedSlot c j (m.ctx c)).bumpF (A.CTX_COMMITTED c) 22 0 1 := by
  have hk1 : m.KeepsContexts m1 := m.vupdate_keepsContexts h1
  refine ⟨hk1.trans (m1.vupdate_keepsContexts h2), ?_⟩
  simp only [Mach.committed, h1, hk1.ctx, h2]
  rfl

theorem Mach.committed_outcome (i : Nat) {m1 m2 : Mach} (h1 : m.setArrived c i = (m1, none))
    (h2 : m1.vupdate 2 (m.ctx c).part ((m.ctx c).segEntry i) 4 false (fun _ old => leBytes 4 (withBits (leNat old) 30 24 0)) = (m2, none)) :
    ((m.committed c i j).ctx c).slots = terase (m.ctx c).slots j ∧
    (m.committed c i j).fld (A.CTX_COMMITTED c) 22 0 = min (m.fld (A.CTX_COMMITTED c) 22 0 + 1) (2 ^ 23 - 1) ∧
    (m.committed c i j).mem = m2.mem := by
  obtain ⟨hkeep, heq⟩ := m.committed_eq c j i h1 h2
  have hcount : m2.fld (A.CTX_COMMITTED c) 22 0 = m.fld (A.CTX_COMMITTED c) 22 0 := by
    rw [Mach.fld, hkeep.rd _ (by unfold A.CTX_COMMITTED; omega), Mach.fld]
  rw [heq]
  refine ⟨by rw [Mach.ctx_bumpF, Mach.freedSlot_slots], ?_, by rw [Mach.bumpF_mem, Mach.freedSlot_mem]⟩
  rw [Mach.bumpF, Mach.freedSlot_committed, hcount, Mach.fld_put_same _ _ _ _ _ (by decide) (by decide)]
  omega

/-- A STAGED commit whose staged bytes are read and added goes on to its record (R149, R157). -/
theorem Mach.commitDone_added {sl : AggSlot} {m1 m2 : Mach} {b : List Byte} (hs : tfind (m.ctx c).slots j = some sl)
    (hc : sl.committing = true)
    (hr : m.vread 2 (m.ctx c).part (((m.ctx c).buf 3 + 4096 * (m.ctx c).nslots + j * (m.ctx c).stageLen) % 2 ^ 48)
      ((m.ctx c).vlen * (m.ctx c).w) = (m1, .ok b))
    (hu : m1.vupdate 2 (m.ctx c).part ((m.ctx c).buf 0) ((m.ctx c).vlen * (m.ctx c).w) false (fun off old =>
      (List.range (old.length / (m.ctx c).w)).flatMap (fun i => leBytes (m.ctx c).w
        (fieldAt old (i * (m.ctx c).w) (m.ctx c).w + fieldAt b (off + i * (m.ctx c).w) (m.ctx c).w))) = (m2, none)) :
    m.commitDone c j = m2.committed c sl.who j := by
  simp only [Mach.commitDone, hs, hc, hr, hu]
  rfl

/-- A dropped contributor's slot is free, whether or not its entries in memory could be cleared (R151, R153). -/
theorem Mach.dropContributor_slots (sl : AggSlot) : ((m.dropContributor c j sl).1.ctx c).slots = terase (m.ctx c).slots j := by
  unfold Mach.dropContributor
  dsimp only
  split
  · rename_i n e hseg
    rw [(Mach.vupdate_keepsContexts _ hseg).ctx]
    exact m.freedSlot_slots c j (m.ctx c)
  · rename_i n hseg
    rw [(Mach.KeepsContexts.of_moved (n.vwrite_moved _ _ _ _)).ctx, (Mach.vupdate_keepsContexts _ hseg).ctx]
    exact m.freedSlot_slots c j (m.ctx c)

/-- One slot to drop, and its entries cleared: that is all that happens. -/
theorem Mach.dropAll_one (reg hi : Nat) {sl : AggSlot} {n : Mach} (h : (m.bumpF reg hi 0 1).dropContributor c j sl = (n, none)) :
    m.dropAll c reg hi [(j, sl)] = (n, true) := by
  simp only [Mach.dropAll, h]

end

/-! ### The end of draining (R140, R154, R190) -/

section
variable (m : Mach) (c : Nat)

/-- Too few committed: the drain ends in an abort (R154). -/
theorem Mach.drainDone_below (h : m.fld (A.CTX_COMMITTED c) 22 0 < (m.ctx c).t) :
    m.drainDone c = (m.put (mskReg (A.MSK_REC_STS 0) c) 23 16 1).abortCtx c 4 false := if_pos h

/-- Enough committed: recovery begins (R140). -/
theorem Mach.drainDone_enough (h : (m.ctx c).t ≤ m.fld (A.CTX_COMMITTED c) 22 0) :
    m.drainDone c = (m.enterCtx c 4 0 false).beginRecovery c := if_neg (Nat.not_lt.2 h)

/-- A context that begins recovery has recovery state and keeps its state (R190). -/
theorem Mach.beginRecovery_outcome : (m.beginRecovery c).ctxState c = m.ctxState c ∧ ((m.beginRecovery c).ctx c).recov.isSome = true := by
  refine ⟨Mach.fld_putBit_other _ _ _ _ _ _ _ (by unfold A.CTX_STS mskReg A.MSK_REC_STS; omega), ?_⟩
  rw [Mach.beginRecovery, Mach.ctx_putBit, Mach.ctx_setCtx_same]
  rfl

/-- LATE changes no context. -/
theorem Mach.ctxLate_ctx (i : Nat) : (m.ctxLate c i).ctx c = m.ctx c := by
  rw [Mach.ctxLate]
  split_ifs
  · rfl
  · rfl

end

/-! ### Ownership of blocks (R132) -/

/-- Bytes are masked one by one. -/
theorem and_byte_append {a c : Nat} (b d : Nat) (ha : a < 2 ^ 8) (hc : c < 2 ^ 8) :
    (2 ^ 8 * b + a) &&& (2 ^ 8 * d + c) = 2 ^ 8 * (b &&& d) + (a &&& c) := by
  apply Nat.eq_of_testBit_eq
  intro i
  have hac : a &&& c < 2 ^ 8 := Nat.and_lt_two_pow _ hc
  rw [Nat.testBit_and, Nat.testBit_two_pow_mul_add _ ha, Nat.testBit_two_pow_mul_add _ hc, Nat.testBit_two_pow_mul_add _ hac]
  split_ifs
  · rw [Nat.testBit_and]
  · rw [Nat.testBit_and]

theorem foldl_range_four (g : Nat → Nat) : (List.range 4).foldl (fun s k => s + g k) 0 = g 0 + g 1 + g 2 + g 3 := by
  simp [List.range_succ]

/-- The owner bytes of a value, put together, are the value with its reserved bits off. -/
theorem ownBytes_sum (v : Word) :
    BitVec.ofNat 32 ((List.range 4).foldl (fun s k => s + ownByte v.toNat k * 2 ^ (8 * k)) 0) = v &&& 0x8F8F8F8F := by
  apply BitVec.eq_of_toNat_eq
  have hv : v.toNat < 2 ^ 32 := v.isLt
  rw [BitVec.toNat_and, BitVec.toNat_ofNat]
  generalize v.toNat = n at *
  have hb : ∀ k, ownByte n k = n / 2 ^ (8 * k) % 2 ^ 8 &&& 0x8F := fun k => by
    rw [ownByte, bitsOf, Nat.shiftRight_eq_div_pow, show 8 * k + 7 + 1 - 8 * k = 8 by omega]
  have hlt : ∀ k, ownByte n k < 2 ^ 8 := fun k => Nat.and_lt_two_pow _ (by decide)
  have hsplit : n = 2 ^ 8 * (2 ^ 8 * (2 ^ 8 * (n / 2 ^ (8 * 3) % 2 ^ 8) + n / 2 ^ (8 * 2) % 2 ^ 8) + n / 2 ^ (8 * 1) % 2 ^ 8) +
      n / 2 ^ (8 * 0) % 2 ^ 8 := by omega
  have hmask : (0x8F8F8F8F : Word).toNat = 2 ^ 8 * (2 ^ 8 * (2 ^ 8 * 0x8F + 0x8F) + 0x8F) + 0x8F := rfl
  have hmod : ∀ x, x % 2 ^ 8 < 2 ^ 8 := fun x => Nat.mod_lt _ (by decide)
  have h8F : 0x8F < 2 ^ 8 := by decide
  have h0 := hlt 0
  have h1 := hlt 1
  have h2 := hlt 2
  have h3 := hlt 3
  rw [hmask]
  conv_rhs => rw [hsplit, and_byte_append _ _ (hmod _) h8F, and_byte_append _ _ (hmod _) h8F, and_byte_append _ _ (hmod _) h8F,
    ← hb, ← hb, ← hb, ← hb]
  rw [foldl_range_four]
  omega

section
variable {m : Mach} {n : Nat}

/-- The contexts of the blocks of register `n` whose owner bytes differ in `v` (R131, R132). -/
def Mach.rehomed (m : Mach) (n v : Nat) : List Nat :=
  ((List.range 4).filter (fun k => ownByte (m.rd (A.AGG_OWN n)).toNat k ≠ ownByte v k)).flatMap
    (fun k => (List.range 16).map (fun i => 16 * (4 * n + k) + i))

/-- Block `k` of register `n` holds contexts 64n + 16k to 64n + 16k + 15. -/
theorem Mach.mem_rehomed {v d : Nat} : d ∈ m.rehomed n v ↔
    ∃ i < 64, d = 64 * n + i ∧ ownByte (m.rd (A.AGG_OWN n)).toNat (i / 16) ≠ ownByte v (i / 16) := by
  simp only [Mach.rehomed, List.mem_flatMap, List.mem_filter, List.mem_range, List.mem_map, decide_eq_true_eq]
  constructor
  · rintro ⟨k, ⟨hk, hne⟩, i, hi, rfl⟩
    refine ⟨16 * k + i, by omega, by omega, ?_⟩
    rwa [show (16 * k + i) / 16 = k by omega]
  · rintro ⟨i, hi, rfl, hne⟩
    exact ⟨i / 16, ⟨by omega, hne⟩, i % 16, by omega, by omega⟩

/-- The machine whose contexts `l` are as after reset (R132). -/
def Mach.emptied (m : Mach) (l : List Nat) : Mach := l.foldl (fun (a : Mach) c => (a.clearCtxRegs c).setCtx c {}) m

/-- The two outcomes of a write of AGG_OWN (R132). -/
theorem Mach.writeAggOwn_eq (v : Nat) : m.writeAggOwn n v =
    if (m.rehomed n v).any m.ctxActive then m.putBit A.AGG_STS 31 true
    else (m.emptied (m.rehomed n v)).wr (A.AGG_OWN n)
      (BitVec.ofNat 32 ((List.range 4).foldl (fun s k => s + ownByte v k * 2 ^ (8 * k)) 0)) := by
  unfold Mach.writeAggOwn Mach.rehomed Mach.emptied
  rfl

/-- No context that would change hands is active: the register takes the value (R132). -/
theorem Mach.writeAggOwn_taken (v : Word) (h : ∀ i < 64, m.ctxActive (64 * n + i) = false) :
    (m.writeAggOwn n v.toNat).rd (A.AGG_OWN n) = v &&& 0x8F8F8F8F := by
  have hany : ¬ (m.rehomed n v.toNat).any m.ctxActive = true := by
    rw [List.any_eq_true]
    rintro ⟨d, hd, hact⟩
    obtain ⟨i, hi, rfl, -⟩ := Mach.mem_rehomed.1 hd
    rw [h i hi] at hact
    cases hact
  rw [Mach.writeAggOwn_eq, if_neg hany, Mach.rd_wr_same, ownBytes_sum]

/-- An active context would change hands: the write is ignored and AGG_STS says so (R132). -/
theorem Mach.writeAggOwn_refused {v i : Nat} (hi : i < 64) (hact : m.ctxActive (64 * n + i) = true)
    (hne : ownByte (m.rd (A.AGG_OWN n)).toNat (i / 16) ≠ ownByte v (i / 16)) : m.writeAggOwn n v = m.putBit A.AGG_STS 31 true := by
  rw [Mach.writeAggOwn_eq, if_pos (List.any_eq_true.2 ⟨_, Mach.mem_rehomed.2 ⟨i, hi, rfl, hne⟩, hact⟩)]

/-- An answer is no register. -/
theorem Mach.answered_rd (m : Mach) (a : Nat) : m.answered.rd a = m.rd a := rfl

/-- A write of AGG_OWN that passes the filters gives what the ownership write leaves in the registers of AGG (R132, R532). -/
theorem gives_aggOwnWrite {s : State} {who : Ident} {n : Fin 64} {v : Word} (h : s.m.writeOpen who (A.AGG_OWN n.val)) :
    Gives (.aggOwnWrite who n v) s (fun m => m.resp = [(0, 0)] ∧ m.rd (A.AGG_OWN n.val) = (s.m.writeAggOwn n.val v.toNat).rd (A.AGG_OWN n.val) ∧
      m.rd A.AGG_STS = (s.m.writeAggOwn n.val v.toNat).rd A.AGG_STS) := by
  refine gives_onMach (f := fun m => m.writeCmd who (A.AGG_OWN n.val) v.toNat) rfl ?_
  have hpart : ∀ b, b < 2 ^ 24 → b % 2 ^ 24 ≠ A.PART_STS → ∀ p < 16, b ≠ partReg A.PART_STS p := fun b _ hb p _ he => hb (by
    rw [he, partReg]; unfold A.PART_STS; omega)
  rw [s.m.write_AGG_OWN who v.toNat n v.isLt h, Mach.answered_rd, Mach.answered_rd]
  exact ⟨rfl, Mach.tracked_rd _ _ _ (hpart _ (by unfold A.AGG_OWN; omega) (by unfold A.AGG_OWN A.PART_STS; omega)),
    Mach.tracked_rd _ _ _ (hpart _ (by decide) (by decide))⟩

end

/-- Settles O25, by the transition that each event makes of its context. -/
theorem contextEventsComplete : Obligations.ContextEventsComplete := by
  intro s c
  refine ⟨fun m' harm hz => ?_, fun h1 hdue => ?_, fun h2 hdue hcom => ?_, fun huse hdue => ?_, fun _ hdue => ?_,
    fun j sl m1 m2 b hs hc hr hu => ?_, fun m i j m1 m2 h1 h2 => m.committed_outcome c j i h1 h2, fun j sl m' hdue hdrop => ?_,
    fun h3 hnone hlow => ?_, fun h3 hnone henough => ?_, fun h7 => ?_, fun who n v hopen hidle => ?_, fun who n v i hopen hact hne => ?_⟩
  · refine gives_due (fun m => m.ctxArming c = true) (f := fun m => m.armingDone c) rfl harm ?_
    simp only [Mach.armingDone, hz]
  · refine gives_due (fun m => (m.ctxState c = 1 && m.ctxPhaseDue c 0) = true) (f := fun m => (m.ctxLate c 0).openCtx c false) rfl
      (by simp [h1, hdue]) ⟨Mach.enterCtx_state _ _ _ _ _ (by decide), rfl⟩
  · refine gives_due (fun m => (m.ctxState c = 2 && m.ctxPhaseDue c 1) = true) (f := fun m => (m.ctxLate c 1).closeCtx c false) rfl
      (by simp [h2, hdue]) ⟨?_, rfl⟩
    rw [Mach.closeCtx_committing _ _ _ (by rwa [Mach.ctxLate_ctx])]
    exact Mach.enterCtx_state _ _ _ _ _ (by decide)
  · obtain ⟨hstate, hcause, hslots⟩ := (s.m.ctxLate c 2).abortCtx_outcome c 3 false (by decide)
    exact gives_due (fun m => (m.ctxInUse c && m.ctxPhaseDue c 2) = true) (f := fun m => (m.ctxLate c 2).abortCtx c 3 false) rfl
      (by simp [huse, hdue]) ⟨hstate, hcause, hslots, rfl⟩
  · exact unmoved_not_due (fun m => (m.ctxState c = 1 && m.ctxPhaseDue c 0) = true) (f := fun m => (m.ctxLate c 0).openCtx c false) rfl
      (by simp [hdue])
  · exact gives_onMach (f := fun m => m.commitDone c j) rfl (s.m.commitDone_added c j hs hc hr hu)
  · refine gives_onMach (f := fun m => (m.dropAll c (A.CTX_RECLAIMED c) 31 (m.reclaimDue c)).1) rfl ?_
    have hslots := (s.m.bumpF (A.CTX_RECLAIMED c) 31 0 1).dropContributor_slots c j sl
    rw [hdrop] at hslots
    simp only [hdue, s.m.dropAll_one c j _ _ hdrop]
    exact ⟨trivial, hslots⟩
  · refine gives_due (fun m => (m.ctxState c = 3 && (m.ctx c).slots.isEmpty) = true) (f := fun m => m.drainDone c) rfl (by simp [h3, hnone]) ?_
    rw [s.m.drainDone_below c hlow]
    obtain ⟨hstate, hcause, -⟩ := (s.m.put (mskReg (A.MSK_REC_STS 0) c) 23 16 1).abortCtx_outcome c 4 false (by decide)
    exact ⟨hstate, hcause⟩
  · refine gives_due (fun m => (m.ctxState c = 3 && (m.ctx c).slots.isEmpty) = true) (f := fun m => m.drainDone c) rfl (by simp [h3, hnone]) ?_
    obtain ⟨hstate, hrecov⟩ := (s.m.enterCtx c 4 0 false).beginRecovery_outcome c
    rw [s.m.drainDone_enough c henough]
    exact ⟨hstate.trans (s.m.enterCtx_state c 4 0 false (by decide)), hrecov⟩
  · refine gives_due (fun m => m.ctxState c = 7) (f := fun m => m.putBit (A.CTX_STS c) 31 false) rfl h7
      ⟨Mach.bit_putBit_same _ _ 31 false (by decide), ?_⟩
    exact (Mach.fld_putBit_disjoint _ _ 31 3 0 _ (by decide) (by decide)).trans h7
  · obtain ⟨m, hx, hresp, hown, -⟩ := gives_aggOwnWrite (v := v) hopen
    exact ⟨m, hx, hresp, hown.trans (Mach.writeAggOwn_taken v hidle)⟩
  · obtain ⟨m, hx, hresp, hown, hsts⟩ := gives_aggOwnWrite (v := v) hopen
    rw [Mach.writeAggOwn_refused i.isLt hact hne] at hown hsts
    refine ⟨m, hx, hresp, hown.trans (Mach.rd_putBit_other _ _ _ _ _ (by unfold A.AGG_OWN A.AGG_STS; omega)), ?_⟩
    rw [Mach.bit, hsts]
    exact s.m.bit_putBit_same A.AGG_STS 31 true (by decide)

end Sys2Proof.Machine

namespace Sys2Proof.Machine

/-! ### The recovery record of a context (R190) -/

section
variable (m : Mach) (c : Nat)

theorem Mach.ctx_setRec (r : Recovery) : (m.setRec c r).ctx c = { m.ctx c with recov := some r } := m.ctx_setCtx_same c _

@[simp] theorem Mach.recov_setRec (r : Recovery) : (m.setRec c r).recov c = r := by rw [Mach.recov, Mach.ctx_setRec]; rfl

@[simp] theorem Mach.recov_putBit (a i : Nat) (b : Bool) : (m.putBit a i b).recov c = m.recov c := rfl

theorem Mach.inRecovery_state (h : m.inRecovery c = true) : m.ctxState c = 4 := by
  simp only [Mach.inRecovery, Bool.and_eq_true, decide_eq_true_eq] at h
  exact h.1.1

theorem Mach.KeepsContexts.recov {m n : Mach} (h : m.KeepsContexts n) (c : Nat) : n.recov c = m.recov c := by
  rw [Mach.recov, h.ctx, Mach.recov]

theorem Mach.KeepsContexts.ctxState {m n : Mach} (h : m.KeepsContexts n) (c : Nat) : n.ctxState c = m.ctxState c := by
  rw [Mach.ctxState, Mach.fld, h.rd _ (CTX_STS_upper c), Mach.ctxState, Mach.fld]

/-! ### Reading the tables of a context changes no context (R173, R175, R189) -/

theorem Mach.vread_keepsContexts (src p va n : Nat) : m.KeepsContexts (m.vread src p va n).1 := .of_moved (m.vread_moved src p va n).1

theorem Mach.nbrList_keepsContexts (j : Nat) : m.KeepsContexts (m.nbrList c j).1 := by
  have h := m.vread_keepsContexts 3 (m.ctx c).part (((m.ctx c).tab 0 + 4 * j * (m.ctx c).k) % 2 ^ 48) (4 * (m.ctx c).k)
  unfold Mach.nbrList
  dsimp only
  split
  · rename_i n e hr; rw [hr] at h; exact h
  · rename_i n b hr
    rw [hr] at h
    split_ifs
    · exact h
    · exact h

theorem Mach.survivors_keepsContexts : m.KeepsContexts (m.survivors c).1 := by
  have h := m.vread_keepsContexts 3 (m.ctx c).part ((m.ctx c).buf 1) ((m.ctx c).bufLen 1)
  unfold Mach.survivors
  dsimp only
  split
  · rename_i n e hr; rw [hr] at h; exact h
  · rename_i n b hr; rw [hr] at h; exact h

theorem Mach.pubKey_keepsContexts (i : Nat) : m.KeepsContexts (m.pubKey c i).1 := by
  have h := m.vread_keepsContexts 3 (m.ctx c).part (((m.ctx c).tab 1 + 32 * i) % 2 ^ 48) 32
  unfold Mach.pubKey
  dsimp only
  split
  · rename_i n e hr; rw [hr] at h; exact h
  · rename_i n b hr; rw [hr] at h; exact h

theorem Mach.checkSpill_keepsContexts (j r : Nat) (ct : List Byte) : m.KeepsContexts (m.checkSpill c j r ct).1 := by
  have h := m.vread_keepsContexts 3 (m.ctx c).part ((m.ctx c).spill j r) 128
  unfold Mach.checkSpill
  dsimp only
  split
  · rename_i n e hr; rw [hr] at h; exact h
  · rename_i n b hr
    rw [hr] at h
    split_ifs
    · exact h
    · exact h

end

theorem Mach.edges_keepsContexts (c : Nat) (surv ds : List Nat) (m : Mach) : m.KeepsContexts (m.edges c surv ds).1 := by
  induction ds generalizing m with
  | nil => exact .refl m
  | cons j rest ih =>
    have hl := m.nbrList_keepsContexts c j
    unfold Mach.edges
    split
    · rename_i n e hr; rw [hr] at hl; exact hl
    · rename_i n l hr
      rw [hr] at hl
      have hrest := hl.trans (ih n)
      split
      · rename_i k e hk; rw [hk] at hrest; exact hrest
      · rename_i k es hk; rw [hk] at hrest; exact hrest

theorem Mach.checkShares_keepsContexts (c o : Nat) (shs : List (Share × Nat)) (m : Mach) : m.KeepsContexts (m.checkShares c o shs).1 := by
  induction shs generalizing m with
  | nil => exact .refl m
  | cons s rest ih =>
    obtain ⟨sh, i⟩ := s
    have hs := m.checkSpill_keepsContexts c o (i + 1) sh.ct
    unfold Mach.checkShares
    split
    · rename_i n e hr; rw [hr] at hs; exact hs
    · rename_i n hr; rw [hr] at hs; exact hs.trans (ih n)

section
variable (m : Mach) (c : Nat)

theorem Mach.censusRead_keepsContexts : m.KeepsContexts (m.censusRead c).1 := by
  have hs := m.survivors_keepsContexts c
  unfold Mach.censusRead
  split
  · rename_i n e hr; rw [hr] at hs; exact hs
  · rename_i n surv hr
    rw [hr] at hs
    have he := hs.trans (n.edges_keepsContexts c surv ((List.range (n.ctx c).n).filter fun i => !surv.contains i))
    split
    · rename_i k e hk; rw [hk] at he; exact he
    · rename_i k es hk; rw [hk] at he; exact he

/-! ### The way (R190) -/

/-- Context `c` has taken its way. -/
def Mach.wayTaken (m : Mach) (c : Nat) : Mach :=
  (m.setRec c { m.recov c with wait := false, holder := m.wayHolder (m.ctx c).part }).putBit (mskReg (A.MSK_REC_STS 0) c) 29 false

/-! ### The census (R173, R174, R190) -/

/-- The census of context `c` has ended, with its counts in the registers of MSK (R203). -/
def Mach.censusShown (m : Mach) (c : Nat) (surv : List Nat) (es : List (Nat × Nat)) : Mach :=
  let w (m : Mach) (a v : Nat) : Mach := m.wr (mskReg a c) (BitVec.ofNat 32 v)
  let n := w (w (w (w m (A.MSK_NEED 0) (neededOf surv es).length) (A.MSK_EDGES 0) es.length)
    (A.MSK_MP 0) (surv.length + (es.filter (fun e => e.2 < e.1)).length)) (A.MSK_MQ 0) (es.filter (fun e => e.1 < e.2)).length
  (n.setRec c { n.recov c with census := true }).putBit (mskReg (A.MSK_REC_STS 0) c) 31 true

/-- A census whose lists read, whose LWR sum has room and that FINISH does not precede ends with its counts shown (R195). -/
theorem Mach.censusDone_shown {m1 : Mach} {surv : List Nat} {es : List (Nat × Nat)} (hread : m.censusRead c = (m1, .ok (surv, es)))
    (hroom : (m.ctx c).lwr = true →
      surv.length + (es.filter (fun e => e.2 < e.1)).length + (es.filter (fun e => e.1 < e.2)).length ≤ 2 ^ (m.ctx c).f 0xA2 1)
    (hfin : (m.recov c).finished = false) : m.KeepsContexts m1 ∧ m.censusDone c = m1.censusShown c surv es := by
  have hkeep := m.censusRead_keepsContexts c
  rw [hread] at hkeep
  have hroom' : ¬ ((m.ctx c).lwr && decide (2 ^ (m.ctx c).f 0xA2 1 <
      surv.length + (es.filter (fun e => e.2 < e.1)).length + (es.filter (fun e => e.1 < e.2)).length)) = true := by
    rw [Bool.and_eq_true, decide_eq_true_eq]
    exact fun ⟨hl, hlt⟩ => Nat.not_lt.2 (hroom hl) hlt
  have hfin' : ((m1.censusShown c surv es).recov c).finished = false := by
    rw [Mach.censusShown, Mach.recov_putBit, Mach.recov_setRec]
    exact (congrArg Recovery.finished (hkeep.recov c)).trans hfin
  refine ⟨hkeep, ?_⟩
  simp only [Mach.censusDone, hread, hkeep.ctx, if_neg hroom']
  exact if_neg (by rw [Bool.and_eq_true]; exact fun h => absurd (hfin'.symm.trans h.1) (by decide))

/-- What the end of the census leaves: the record and REC_STS say so, the four counts stand, and the context keeps its state. -/
theorem Mach.censusShown_outcome (surv : List Nat) (es : List (Nat × Nat)) :
    let n := m.censusShown c surv es
    (n.recov c).census = true ∧ n.bit (mskReg (A.MSK_REC_STS 0) c) 31 = true ∧
    n.rd (mskReg (A.MSK_NEED 0) c) = BitVec.ofNat 32 (neededOf surv es).length ∧ n.rd (mskReg (A.MSK_EDGES 0) c) = BitVec.ofNat 32 es.length ∧
    n.rd (mskReg (A.MSK_MP 0) c) = BitVec.ofNat 32 (surv.length + (es.filter (fun e => e.2 < e.1)).length) ∧
    n.rd (mskReg (A.MSK_MQ 0) c) = BitVec.ofNat 32 (es.filter (fun e => e.1 < e.2)).length ∧ n.ctxState c = m.ctxState c := by
  have hsts : ∀ {a : Nat}, a % 0x1000 < 0x800 → A.CTX_STS c ≠ mskReg a c := fun ha he => by
    have := CTX_STS_upper c
    rw [he, mskReg] at this
    omega
  dsimp only [Mach.censusShown]
  refine ⟨by rw [Mach.recov_putBit, Mach.recov_setRec], Mach.bit_putBit_same _ _ 31 true (by decide), ?_, ?_, ?_, ?_, ?_⟩
  · simp [Mach.rd_putBit_other, Mach.setRec, Mach.rd_wr_other, mskReg]
  · simp [Mach.rd_putBit_other, Mach.setRec, Mach.rd_wr_other, mskReg]
  · simp [Mach.rd_putBit_other, Mach.setRec, Mach.rd_wr_other, mskReg]
  · simp [Mach.rd_putBit_other, Mach.setRec, mskReg]
  · rw [Mach.ctxState, Mach.fld, Mach.rd_putBit_other _ _ _ _ _ (hsts (by decide)), Mach.setRec, Mach.rd_setCtx,
      Mach.rd_wr_other _ _ _ _ (hsts (by decide)), Mach.rd_wr_other _ _ _ _ (hsts (by decide)),
      Mach.rd_wr_other _ _ _ _ (hsts (by decide)), Mach.rd_wr_other _ _ _ _ (hsts (by decide)), Mach.ctxState, Mach.fld]

/-! ### Secrets and agreements (R191, R192) -/

/-- In XOF mode a mask entry joins the queue. -/
theorem Mach.addEntry_xof (plus : Bool) (seed : List Byte) (h : (m.ctx c).lwr = false) : m.addEntry c plus seed =
    m.setRec c { m.recov c with entries := (m.recov c).entries ++ [{ plus := plus, seed := seed }] } := by
  simp [Mach.addEntry, h]

/-- The self-mask secret of a survivor in XOF mode is recorded and queued as an entry to subtract. -/
theorem Mach.secretReconstructed_survivor (o : Nat) {m1 m2 : Mach} {secret : List Byte} {surv : List Nat}
    (hchk : m.checkShares c o (tget (m.recov c).shares o []).zipIdx = (m1, none))
    (hrec : reconstruct (tget (m.recov c).shares o []) = some secret) (hsurv : m1.survivors c = (m2, .ok surv))
    (ho : surv.contains o = true) (hxof : (m.ctx c).lwr = false) :
    ((m.secretReconstructed c o).recov c).secrets = (m2.recov c).secrets ++ [o] ∧
    ((m.secretReconstructed c o).recov c).entries = (m2.recov c).entries ++ [{ plus := true, seed := secret }] := by
  have hkeep1 := Mach.checkShares_keepsContexts c o (tget (m.recov c).shares o []).zipIdx m
  have hkeep2 := m1.survivors_keepsContexts c
  rw [hchk] at hkeep1
  rw [hsurv] at hkeep2
  set n := (m2.setRec c { m2.recov c with secrets := (m2.recov c).secrets ++ [o] }).bumpF (mskReg (A.MSK_RECON 0) c) 22 0 1 with hn
  have hctx : n.ctx c = { m2.ctx c with recov := some { m2.recov c with secrets := (m2.recov c).secrets ++ [o] } } := m2.ctx_setRec c _
  have hlwr : (n.ctx c).lwr = false := by rw [hctx]; exact (congrArg AggCtx.lwr ((hkeep1.trans hkeep2).ctx c)).trans hxof
  have heq : m.secretReconstructed c o = n.addEntry c true secret := by
    simp only [Mach.secretReconstructed, hchk, hrec, hsurv, ho, if_true, hn]
  have hrecov : n.recov c = { m2.recov c with secrets := (m2.recov c).secrets ++ [o] } := m2.recov_setRec c _
  rw [heq, n.addEntry_xof c true secret hlwr, Mach.recov_setRec, hrecov]
  exact ⟨rfl, rfl⟩

/-- An agreement with a nonzero result leaves the queue of agreements, and in XOF mode its seed joins the entries (R180). -/
theorem Mach.agreementDone_entry {j i : Nat} {sk pk : List Byte} {rest : List (Nat × List Byte × Nat)} {m1 : Mach}
    (hnext : (m.recov c).agree = (j, sk, i) :: rest) (hkey : (m.setRec c { m.recov c with agree := rest }).pubKey c i = (m1, .ok pk))
    (hz : (toBytes (x25519 (toNats sk) (toNats pk))).all (· = 0) = false) (hxof : (m.ctx c).lwr = false) :
    ((m.agreementDone c).recov c).agree = (m1.recov c).agree ∧
    ((m.agreementDone c).recov c).entries = (m1.recov c).entries ++
      [{ plus := decide (i < j), seed := pairSeed (m1.ctx c).round i j (toBytes (x25519 (toNats sk) (toNats pk))) }] := by
  have hkeep := (m.setRec c { m.recov c with agree := rest }).pubKey_keepsContexts c i
  rw [hkey] at hkeep
  set n := m1.bump (mskReg (A.MSK_AGREE 0) c) with hn
  have hctx : n.ctx c = m1.ctx c := rfl
  have hlwr : (n.ctx c).lwr = false := by rw [hctx, hkeep.ctx, Mach.ctx_setRec]; exact hxof
  have heq : m.agreementDone c =
      n.addEntry c (decide (i < j)) (pairSeed (m1.ctx c).round i j (toBytes (x25519 (toNats sk) (toNats pk)))) := by
    simp only [Mach.agreementDone, hnext, hkey, hz, hn]
    rfl
  have hrecov : n.recov c = m1.recov c := rfl
  rw [heq, n.addEntry_xof c _ _ hlwr, Mach.recov_setRec, hrecov]
  exact ⟨rfl, rfl⟩

/-! ### Passes in XOF mode (R192, R199) -/

theorem Mach.freeUnit_lt {p u : Nat} (h : m.freeUnit p = some u) : u < 16 := List.mem_range.1 (List.mem_of_find?_eq_some h)

/-- A pass takes the entries that fit and occupies its unit. -/
theorem Mach.xofPassStart_outcome {u : Nat} (h : m.freeUnit (m.ctx c).part = some u) :
    ((m.xofPassStart c).recov c).pass = some (u, (m.recov c).entries.take 65536) ∧
    ((m.xofPassStart c).recov c).entries = (m.recov c).entries.drop 65536 ∧ (m.xofPassStart c).bit A.MSK_STS u = true := by
  have hu := m.freeUnit_lt h
  simp only [Mach.xofPassStart, h, Mach.recov_putBit, Mach.recov_setRec]
  exact ⟨trivial, trivial, Mach.bit_putBit_same _ _ u true (by omega)⟩

/-- A pass whose update of the sum succeeds ends with it. -/
theorem Mach.xofPassDone_updated {u : Nat} {es : List MaskEntry} {m1 : Mach} (hpass : (m.recov c).pass = some (u, es))
    (hupd : ((m.setRec c { m.recov c with pass := none }).putBit A.MSK_STS u false).vupdate 3 (m.ctx c).part ((m.ctx c).buf 0)
      ((m.ctx c).vlen * (m.ctx c).w) false (fun off old =>
        (List.range (old.length / (m.ctx c).w)).flatMap (fun i => leBytes (m.ctx c).w (fieldAt old (i * (m.ctx c).w) (m.ctx c).w + 2 ^ 64 -
          passSum (es.map (fun e => (e.plus, aesSchedule (toNats e.seed)))) (m.ctx c).round (m.ctx c).w (off / (m.ctx c).w + i)))) = (m1, none)) :
    m.xofPassDone c = m1 := by
  simp only [Mach.xofPassDone, hpass, hupd]

/-! ### Expansion in LWR mode (R185, R193) -/

/-- Tiles put in one state are in it, and the other tiles in theirs. -/
theorem Mach.foldl_setTileState {st : Nat} (hst : st < 16) (l : List Nat) (m : Mach) (t : Nat) :
    (l.foldl (fun a i => a.setTileState i st) m).tileState t = if t ∈ l then st else m.tileState t := by
  induction l generalizing m with
  | nil => rfl
  | cons i l ih =>
    rw [List.foldl_cons, ih]
    by_cases hi : t = i
    · have hsame : (m.setTileState i st).tileState t = st := by
        rw [hi]
        exact (Mach.fld_put_same _ _ _ _ _ (by decide) (by decide)).trans (Nat.mod_eq_of_lt hst)
      simp [hi ▸ hsame, hi]
    · have hother : (m.setTileState i st).tileState t = m.tileState t :=
        Mach.fld_put_other _ _ _ _ _ _ _ _ fun h => hi (by simpa [A.TILE_STS] using h)
      simp [hother, hi]

/-- Expansion claims its tiles (R193). -/
theorem Mach.expansionStart_outcome : ((m.expansionStart c).recov c).expanding = true ∧
    (m.expansionStart c).bit (mskReg (A.MSK_REC_STS 0) c) 28 = true ∧ ∀ t ∈ (m.ctx c).expTiles, (m.expansionStart c).tileState t = 6 := by
  set n := (m.setRec c { m.recov c with expanding := true }).putBit (mskReg (A.MSK_REC_STS 0) c) 28 true with hn
  have htiles : (n.ctx c).expTiles = (m.ctx c).expTiles := by rw [hn, Mach.ctx_putBit, Mach.ctx_setRec]; rfl
  have heq : m.expansionStart c = (m.ctx c).expTiles.foldl (fun a t => a.setTileState t 6) n := by rw [← htiles]; rfl
  rw [heq]
  have hrecov := (Mach.KeepsContexts.foldl (f := fun a t => a.setTileState t 6)
    (fun a t => .put a 3 0 6 (by unfold A.TILE_STS; omega)) (m.ctx c).expTiles n).recov c
  have hsts := foldl_keeps (m.ctx c).expTiles (fun a t => a.setTileState t 6) (fun a => a.bit (mskReg (A.MSK_REC_STS 0) c) 28)
    (fun a t _ => a.bit_put_other _ _ _ _ _ _ (by unfold mskReg A.MSK_REC_STS A.TILE_STS; omega)) n
  refine ⟨?_, hsts.trans (Mach.bit_putBit_same _ _ 28 true (by decide)), fun t ht => ?_⟩
  · rw [hrecov, hn, Mach.recov_putBit, Mach.recov_setRec]
  · rw [Mach.foldl_setTileState (by decide), if_pos ht]

/-- Expansion ends with the sum corrected as the update leaves it, and the tiles are wiped (R185, R193). -/
theorem Mach.expansionDone_outcome {m1 : Mach}
    (hupd : m.vupdate 3 (m.ctx c).part ((m.ctx c).buf 0) ((m.ctx c).vlen * 8) false (fun off old => (List.range (old.length / 8)).flatMap (fun i =>
      leBytes 8 (lwrLane (m.ctx c) (m.recov c).vP (m.recov c).vQ (m.rd (mskReg (A.MSK_MP 0) c)).toNat (fieldAt old (8 * i) 8) (off / 8 + i)))) =
        (m1, none)) :
    ((m.expansionDone c).recov c).expanding = false ∧ ((m.expansionDone c).recov c).expanded = true ∧
    (m.expansionDone c).bit (mskReg (A.MSK_REC_STS 0) c) 28 = false ∧ (m.expansionDone c).mem = m1.mem := by
  simp only [Mach.expansionDone, hupd, Mach.recov_putBit, Mach.recov_setRec]
  exact ⟨trivial, trivial, Mach.bit_putBit_same _ _ 28 false (by decide),
    foldl_keeps (m.ctx c).expTiles (fun a t => (a.wipeTile t).expandedTile t) Mach.mem (fun _ _ _ => rfl) m1⟩

/-! ### FINISH (R195, R204) -/

/-- FINISH before the census is noted with its tick. -/
theorem Mach.finish_noted (h : (m.recov c).census = false) : m.finish c =
    (m.setRec c { m.recov c with finished := true, finishTick := m.ticks }).putBit (mskReg (A.MSK_REC_STS 0) c) 30 true :=
  if_neg (by simp [h])

/-- FINISH by the owner of a context in RECOVERY takes effect, and the window shows CODE 0. -/
theorem Mach.writeMskCmd_finish {p : Nat} (hdone : m.bit (A.MSK_WIN_RES p) 31 = true) (hsel : m.fld (A.MSK_WIN_SEL p) 11 0 = c)
    (hown : m.ctxOwner c = some p) (h4 : m.ctxState c = 4) (hfin : (m.recov c).finished = false) :
    m.writeMskCmd p 1 = (m.finish c).wr (A.MSK_WIN_RES p) (BitVec.ofNat 32 (2 ^ 31 + c * 2 ^ 16)) := by
  have hop : bitsOf 1 3 0 = 1 := rfl
  simp [Mach.writeMskCmd, Mach.mskCommand, hdone, hsel, hop, hown, h4, hfin]

/-! ### Ownership of units (R202) -/

/-- No unit of register `n` works: the register takes the value. -/
theorem Mach.writeMskOwn_taken {n : Nat} (v : Word) (h : ∀ k < 4, m.bit A.MSK_STS (4 * n + k) = false) :
    (m.writeMskOwn n v.toNat).rd (A.MSK_OWN n) = v &&& 0x8F8F8F8F := by
  have hidle : ¬ ((List.range 4).any fun k =>
      ownByte (m.rd (A.MSK_OWN n)).toNat k ≠ ownByte v.toNat k && m.bit A.MSK_STS (4 * n + k)) = true := by
    rw [List.any_eq_true]
    rintro ⟨k, hk, hne⟩
    rw [h k (List.mem_range.1 hk), Bool.and_false] at hne
    cases hne
  rw [Mach.writeMskOwn, if_neg hidle, Mach.rd_wr_same, ownBytes_sum]

end

/-- FINISH written through the window of the partition that owns the context, before the census has ended (R195, R204). -/
theorem gives_finish {s : State} {who : Ident} {p : Fin 16} {c : Nat} (hopen : s.m.writeOpen who (A.MSK_WIN_CMD p.val))
    (hdone : s.m.bit (A.MSK_WIN_RES p.val) 31 = true) (hsel : s.m.fld (A.MSK_WIN_SEL p.val) 11 0 = c)
    (hown : s.m.ctxOwner c = some p.val) (h4 : s.m.ctxState c = 4) (hfin : (s.m.recov c).finished = false)
    (hcen : (s.m.recov c).census = false) : Gives (.finish who p) s (fun m => m.resp = [(0, 0)] ∧ (m.recov c).finished = true ∧
      (m.recov c).finishTick = s.m.ticks ∧ m.bit (mskReg (A.MSK_REC_STS 0) c) 30 = true ∧
      m.rd (A.MSK_WIN_RES p.val) = BitVec.ofNat 32 (2 ^ 31 + c * 2 ^ 16)) := by
  refine gives_onMach (f := fun m => m.writeCmd who (A.MSK_WIN_CMD p.val) 1) rfl ?_
  rw [s.m.write_MSK_WIN_CMD who 1 p (by decide) hopen, s.m.writeMskCmd_finish c hdone hsel hown h4 hfin, s.m.finish_noted c hcen]
  have hrecov := s.m.recov_setRec c { s.m.recov c with finished := true, finishTick := s.m.ticks }
  refine ⟨rfl, congrArg Recovery.finished hrecov, congrArg Recovery.finishTick hrecov, ?_, Mach.rd_wr_same _ _ _⟩
  refine (Mach.bit_wr_other _ _ _ _ _ ?_).trans (Mach.bit_putBit_same _ _ 30 true (by decide))
  unfold mskReg A.MSK_REC_STS A.MSK_WIN_RES
  omega

/-- A write of MSK_OWN that passes the filters while the register's units are idle (R202). -/
theorem gives_mskOwnWrite {s : State} {who : Ident} {n : Fin 4} {v : Word} (hopen : s.m.writeOpen who (A.MSK_OWN n.val))
    (hidle : ∀ k < 4, s.m.bit A.MSK_STS (4 * n.val + k) = false) :
    Gives (.mskOwnWrite who n v) s (fun m => m.resp = [(0, 0)] ∧ m.rd (A.MSK_OWN n.val) = v &&& 0x8F8F8F8F) := by
  refine gives_onMach (f := fun m => m.writeCmd who (A.MSK_OWN n.val) v.toNat) rfl ?_
  rw [s.m.write_MSK_OWN who v.toNat n v.isLt hopen, Mach.answered_rd, Mach.tracked_rd _ _ _ fun p _ => by
    unfold partReg A.MSK_OWN A.PART_STS; omega]
  exact ⟨rfl, s.m.writeMskOwn_taken v hidle⟩

/-- Settles O26, by what each event of recovery makes of the recovery record and of the registers of MSK. -/
theorem recoveryComplete : Obligations.RecoveryComplete := by
  intro s c x r
  refine ⟨fun h4 _ hw hway => ?_, fun m1 surv es hin hcen hread hroom hfin => ?_, fun o m1 m2 secret surv hdue hchk hrec hsurv ho hxof => ?_,
    fun j i sk pk rest m1 hin hunit hnext hkey hz hxof => ?_, fun u hin hxof hnone hne hunit => ?_, fun u es m1 hin hpass hupd => ?_,
    fun hin hlwr hexp hend hseeds hclaim => ?_, fun m1 hin hexp hupd => ?_, fun hdone => ?_,
    fun who p hopen hdone hsel hown h4 hfin hcen => gives_finish hopen hdone hsel hown h4 hfin hcen,
    fun who n v hopen hidle => gives_mskOwnWrite hopen hidle⟩
  · refine gives_due (fun m => (m.ctxState c = 4 && (m.recov c).wait && !m.wayHeld (m.ctx c).recWay c) = true)
      (f := fun m => m.wayTaken c) rfl ?_ ?_
    · simp only [Bool.and_eq_true, decide_eq_true_eq, Bool.not_eq_true']
      exact ⟨⟨h4, hw⟩, hway⟩
    · rw [Mach.wayTaken, Mach.recov_putBit, Mach.recov_setRec]
      exact ⟨rfl, Mach.bit_putBit_same _ _ 29 false (by decide), rfl⟩
  · obtain ⟨hkeep, heq⟩ := s.m.censusDone_shown c hread hroom hfin
    obtain ⟨hcensus, hbit, hneed, hedges, hmp, hmq, hstate⟩ := m1.censusShown_outcome c surv es
    refine gives_due (fun m => (m.inRecovery c && !(m.recov c).census) = true) (f := fun m => m.censusDone c) rfl (by simpa [hin] using hcen) ?_
    rw [heq]
    exact ⟨hcensus, hbit, hneed, hedges, hmp, hmq, (hstate.trans (hkeep.ctxState c)).trans (s.m.inRecovery_state c hin)⟩
  · exact gives_due (fun m => m.reconDue c o.toNat = true) (f := fun m => m.secretReconstructed c o.toNat) rfl hdue
      (s.m.secretReconstructed_survivor c o.toNat hchk hrec hsurv ho hxof)
  · exact gives_due (fun m => (m.inRecovery c && (m.freeUnit (m.ctx c).part).isSome) = true) (f := fun m => m.agreementDone c) rfl
      (by rw [Bool.and_eq_true]; exact ⟨hin, hunit⟩) (s.m.agreementDone_entry c hnext hkey hz hxof)
  · refine gives_due (fun m => (m.inRecovery c && !(m.ctx c).lwr && (m.recov c).pass.isNone && (m.recov c).entries ≠ []) = true)
      (f := fun m => m.xofPassStart c) rfl ?_ (s.m.xofPassStart_outcome c hunit)
    simp only [Bool.and_eq_true, Bool.not_eq_true', Option.isNone_iff_eq_none, decide_eq_true_eq]
    exact ⟨⟨⟨hin, hxof⟩, hnone⟩, hne⟩
  · exact gives_due (fun m => m.inRecovery c = true) (f := fun m => m.xofPassDone c) rfl hin (s.m.xofPassDone_updated c hpass hupd)
  · refine gives_due (fun m => (m.inRecovery c && (m.ctx c).lwr && !(m.recov c).expanding && !(m.recov c).expanded && m.seedsDone c &&
      (m.ctx c).expTiles.all m.tileClaimable) = true) (f := fun m => m.expansionStart c) rfl ?_ (s.m.expansionStart_outcome c)
    simp only [Bool.and_eq_true, Bool.not_eq_true', List.all_eq_true]
    exact ⟨⟨⟨⟨⟨hin, hlwr⟩, hexp⟩, hend⟩, hseeds⟩, hclaim⟩
  · exact gives_due (fun m => (m.inRecovery c && (m.recov c).expanding) = true) (f := fun m => m.expansionDone c) rfl
      (by rw [Bool.and_eq_true]; exact ⟨hin, hexp⟩) (s.m.expansionDone_outcome c hupd)
  · refine gives_due (fun m => m.recoveryDone c = true) (f := fun m => m.enterCtx c 5 0 false) rfl hdone
      ⟨s.m.enterCtx_state c 5 0 false (by decide), ?_, rfl⟩
    rw [Mach.enterCtx_ctx, if_pos rfl, if_pos (.inl rfl)]

end Sys2Proof.Machine

namespace Sys2Proof.Machine

/-! ### Issue of an instruction whose meaning moves more than its tile -/

/-- A ready instruction whose meaning goes on in sequence with the tile `x` and the rest as `n` has it. -/
theorem Mach.issue_seq_from {m n : Mach} {t c : Nat} {cs : List Nat} {f : Mach → Tile → TIns → TRes} (x : Tile) (dz ov : Bool)
    (h : m.issues t c) (hc : c ∈ cs) (hf : f m (m.tile t) (m.fetch t) = .seq ((n.stickFlags t dz ov).setTile t x))
    (hpc : n.tilePc t = m.tilePc t) : n.stepsTo t x dz ov (m.issue t cs f) := by
  rw [m.issue_ready h hc, hf, ← hpc]
  simp only [Mach.tile_setTile_same, Mach.setTile_setTile]
  exact n.moved t x _ _ dz ov

/-- A ready instruction whose meaning goes on in sequence with the machine `n`. -/
theorem Mach.issue_seq_plain {m n : Mach} {t c : Nat} {cs : List Nat} {f : Mach → Tile → TIns → TRes} (h : m.issues t c) (hc : c ∈ cs)
    (hf : f m (m.tile t) (m.fetch t) = .seq n) (hpc : n.tilePc t = m.tilePc t) : n.stepsTo t (n.tile t) false false (m.issue t cs f) := by
  rw [m.issue_ready h hc, hf, ← hpc]
  exact n.moved t _ _ _ false false

theorem issues_either {m : Mach} {t a b : Nat} (h : m.issues t a ∨ m.issues t b) : ∃ c, m.issues t c ∧ c ∈ [a, b] := by
  rcases h with h | h
  · exact ⟨a, h, by simp⟩
  · exact ⟨b, h, by simp⟩

/-! ### Sources and results of the scalar operations (R219, R223, R224) -/

theorem Tile.sreg_lt (x : Tile) (i : Nat) : x.sreg i < 2 ^ 64 := by
  unfold Tile.sreg
  split
  · decide
  · exact BitVec.isLt _

theorem Tile.srcB_lt (x : Tile) (i : TIns) : x.srcB i < 2 ^ 64 := by
  unfold Tile.srcB
  split
  · exact BitVec.isLt _
  · exact x.sreg_lt _

/-- Only the low 64 bits of a value written to a scalar register count. -/
theorem Tile.setS_ofNat (x : Tile) (i v : Nat) : x.setS i (BitVec.ofNat 64 v).toNat = x.setS i v := by
  unfold Tile.setS; rw [BitVec.ofNat_toNat, BitVec.setWidth_eq]

/-- `g` computes the result `f` and the flags `dz` and `ov` on the values of 64-bit words. -/
def Computes (g : Nat → Nat → AluRes) (f : BitVec 64 → BitVec 64 → BitVec 64) (dz ov : BitVec 64 → BitVec 64 → Bool) : Prop :=
  ∀ a b : BitVec 64, BitVec.ofNat 64 (g a.toNat b.toNat).v = f a b ∧ (g a.toNat b.toNat).dz = dz a b ∧ (g a.toNat b.toNat).ov = ov a b

/-- A command that issues a scalar operation gives what the operation computes. -/
theorem scalarOp_of_computes {c : Fin 80 → Instr} {op : Nat} {g : Nat → Nat → AluRes} {f : BitVec 64 → BitVec 64 → BitVec 64}
    {dz ov : BitVec 64 → BitVec 64 → Bool} (hg : Computes g f dz ov)
    (hx : ∀ t s, exec (c t) s = s.onMach (fun m => m.scalar t op g)) : ScalarOp c op f dz ov := by
  intro s t hi x i a b
  refine gives_onMach (hx t s) ?_
  obtain ⟨code, hi, hmem⟩ := issues_either hi
  have ha : a.toNat = x.sreg i.a := by rw [BitVec.toNat_ofNat, Nat.mod_eq_of_lt (x.sreg_lt _)]
  have hb : b.toNat = x.srcB i := (BitVec.toNat_ofNat _ _).trans (Nat.mod_eq_of_lt (x.srcB_lt i))
  obtain ⟨hv, hdz, hov⟩ := hg a b
  refine Mach.issue_seq _ _ _ hi hmem ?_
  rw [← hv, ← hdz, ← hov, Tile.setS_ofNat, ha, hb]
  rfl


section

variable (a b : BitVec 64)

theorem sig_toNat : sig a.toNat = a.toInt := by rw [sig, BitVec.ofNat_toNat, BitVec.setWidth_eq]

theorem ofNat_unsig (z : Int) : BitVec.ofNat 64 (unsig z) = BitVec.ofInt 64 z := by rw [unsig, BitVec.ofNat_toNat, BitVec.setWidth_eq]

theorem ofNat_toNat_self : BitVec.ofNat 64 a.toNat = a := by rw [BitVec.ofNat_toNat, BitVec.setWidth_eq]

theorem toNat_eq_zero_word : a.toNat = 0 ↔ a = 0 := by rw [← BitVec.toNat_inj]; rfl

theorem ofNat_sub_wraps : BitVec.ofNat 64 (a.toNat + 2 ^ 64 - b.toNat) = a - b := by
  apply BitVec.eq_of_toNat_eq
  rw [BitVec.toNat_ofNat, BitVec.toNat_sub]
  omega

theorem ofNat_mul_high : BitVec.ofNat 64 (a.toNat * b.toNat / 2 ^ 64) = ((a.setWidth 128 * b.setWidth 128) >>> 64).setWidth 64 := by
  have hlt : a.toNat * b.toNat < 2 ^ 128 := by
    calc a.toNat * b.toNat < 2 ^ 64 * 2 ^ 64 := Nat.mul_lt_mul'' a.isLt b.isLt
      _ = 2 ^ 128 := by norm_num
  apply BitVec.eq_of_toNat_eq
  simp only [BitVec.toNat_ofNat, BitVec.toNat_setWidth, BitVec.toNat_ushiftRight, BitVec.toNat_mul, Nat.shiftRight_eq_div_pow]
  rw [Nat.mod_eq_of_lt (show a.toNat < 2 ^ 128 by omega), Nat.mod_eq_of_lt (show b.toNat < 2 ^ 128 by omega), Nat.mod_eq_of_lt hlt]

theorem ofInt_mul_high : BitVec.ofInt 64 (a.toInt * b.toInt / 2 ^ 64) = ((a.signExtend 128 * b.signExtend 128) >>> 64).setWidth 64 := by
  have hp : a.signExtend 128 * b.signExtend 128 = BitVec.ofInt 128 (a.toInt * b.toInt) := by
    rw [BitVec.signExtend, BitVec.signExtend, BitVec.ofInt_mul]
  rw [hp]
  apply BitVec.eq_of_toNat_eq
  simp only [BitVec.toNat_ofInt, BitVec.toNat_setWidth, BitVec.toNat_ushiftRight, Nat.shiftRight_eq_div_pow]
  generalize a.toInt * b.toInt = z
  push_cast
  omega

theorem ofInt_tdiv : BitVec.ofInt 64 (a.toInt.tdiv b.toInt) = a.sdiv b := by
  apply BitVec.eq_of_toInt_eq
  rw [BitVec.toInt_ofInt, BitVec.toInt_sdiv]

theorem ofInt_tmod : BitVec.ofInt 64 (a.toInt.tmod b.toInt) = a.srem b := by
  rw [← BitVec.toInt_srem, BitVec.ofInt_toInt]

theorem b2n_toNat (c : Bool) : BitVec.ofNat 64 (b2n c) = (BitVec.ofBool c).setWidth 64 := by cases c <;> rfl

/-- The leading zeros of a number below 2^n, counted from bit n − 1 down. -/
theorem leadingZeros_eq (n : Nat) {v : Nat} (h : v < 2 ^ n) :
    ((List.range n).reverse.takeWhile (fun k => !v.testBit k)).length = if v = 0 then n else n - 1 - v.log2 := by
  induction n with
  | zero => simp
  | succ n ih =>
    rw [List.range_succ, List.reverse_append, List.reverse_singleton, List.singleton_append, List.takeWhile_cons]
    by_cases hv : v < 2 ^ n
    · rw [Nat.testBit_lt_two_pow hv, Bool.not_false, if_pos rfl, List.length_cons, ih hv]
      split
      · rfl
      · have := (Nat.log2_lt ‹_›).2 hv
        omega
    · have hbit : v.testBit n = true := by
        rw [Nat.testBit_eq_decide_div_mod_eq, decide_eq_true_eq]
        have : v / 2 ^ n = 1 := Nat.div_eq_of_lt_le (by omega) (by rw [Nat.pow_succ] at h; omega)
        omega
      have hne : v ≠ 0 := by rintro rfl; exact hv (by positivity)
      have hlog : v.log2 = n := (Nat.log2_eq_iff hne).2 ⟨by omega, h⟩
      rw [hbit, Bool.not_true, if_neg Bool.false_ne_true, if_neg hne, hlog]
      simp

end
/-! ### What each operation computes (R223) -/

/-- An operation that sets no flag computes what its value spells. -/
theorem computes_of_value {v : Nat → Nat → Nat} {f : BitVec 64 → BitVec 64 → BitVec 64}
    (h : ∀ a b : BitVec 64, BitVec.ofNat 64 (v a.toNat b.toNat) = f a b) :
    Computes (fun a b => ⟨v a b, false, false⟩) f (fun _ _ => false) (fun _ _ => false) := fun a b => ⟨h a b, rfl, rfl⟩

theorem computes_divu : Computes aluDivu (fun a b => if b = 0 then BitVec.allOnes 64 else a.udiv b) (fun _ b => b = 0) (fun _ _ => false) := by
  intro a b
  by_cases hb : b = 0
  · subst hb
    exact ⟨rfl, rfl, rfl⟩
  · have hn : ¬ b.toNat = 0 := fun h => hb ((toNat_eq_zero_word b).1 h)
    rw [aluDivu, if_neg hn]
    refine ⟨(BitVec.eq_of_toNat_eq ?_).trans (if_neg hb).symm, (decide_eq_false hb).symm, rfl⟩
    show _ = (a / b).toNat
    rw [BitVec.toNat_ofNat, BitVec.toNat_udiv, Nat.mod_eq_of_lt (Nat.lt_of_le_of_lt (Nat.div_le_self _ _) a.isLt)]

theorem computes_remu : Computes aluRemu (fun a b => a.umod b) (fun _ b => b = 0) (fun _ _ => false) := by
  intro a b
  by_cases hb : b = 0
  · subst hb
    exact ⟨(ofNat_toNat_self a).trans BitVec.umod_zero.symm, rfl, rfl⟩
  · have hn : ¬ b.toNat = 0 := fun h => hb ((toNat_eq_zero_word b).1 h)
    rw [aluRemu, if_neg hn]
    refine ⟨BitVec.eq_of_toNat_eq ?_, (decide_eq_false hb).symm, rfl⟩
    show _ = (a % b).toNat
    rw [BitVec.toNat_ofNat, BitVec.toNat_umod, Nat.mod_eq_of_lt (Nat.lt_of_le_of_lt (Nat.mod_le _ _) a.isLt)]

theorem sig_eq_min (a : BitVec 64) : sig a.toNat = -2 ^ 63 ↔ a = BitVec.intMin 64 := by
  rw [sig_toNat, ← BitVec.toInt_inj]; rfl

theorem sig_eq_neg_one (b : BitVec 64) : sig b.toNat = -1 ↔ b = BitVec.allOnes 64 := by
  rw [sig_toNat, ← BitVec.toInt_inj]; rfl

theorem computes_divs : Computes aluDivs (fun a b => if b = 0 then BitVec.allOnes 64 else a.sdiv b) (fun _ b => b = 0)
    (fun a b => a = BitVec.intMin 64 && b = BitVec.allOnes 64) := by
  intro a b
  by_cases hb : b = 0
  · subst hb
    exact ⟨rfl, rfl, by simp [aluDivs]⟩
  · have hn : ¬ b.toNat = 0 := fun h => hb ((toNat_eq_zero_word b).1 h)
    rw [aluDivs, if_neg hn]
    dsimp only
    rw [if_neg hb]
    by_cases ho : a = BitVec.intMin 64 ∧ b = BitVec.allOnes 64
    · obtain ⟨rfl, rfl⟩ := ho
      exact ⟨by decide, rfl, by decide⟩
    · have hs : ¬ (decide (sig a.toNat = -2 ^ 63) && decide (sig b.toNat = -1)) = true := by
        simpa only [sig_eq_min, sig_eq_neg_one, Bool.and_eq_true, decide_eq_true_eq] using ho
      rw [if_neg hs]
      refine ⟨?_, (decide_eq_false hb).symm, ?_⟩
      · rw [ofNat_unsig, sig_toNat, sig_toNat, ofInt_tdiv]
      · simpa only [Bool.and_eq_true, decide_eq_true_eq, ← Bool.not_eq_true, eq_comm (a := false)] using ho

theorem computes_rems : Computes aluRems (fun a b => a.srem b) (fun _ b => b = 0) (fun _ _ => false) := by
  intro a b
  by_cases hb : b = 0
  · subst hb
    exact ⟨(ofNat_toNat_self a).trans BitVec.srem_zero.symm, rfl, rfl⟩
  · have hn : ¬ b.toNat = 0 := fun h => hb ((toNat_eq_zero_word b).1 h)
    rw [aluRems, if_neg hn]
    exact ⟨by rw [ofNat_unsig, sig_toNat, sig_toNat, ofInt_tmod], (decide_eq_false hb).symm, rfl⟩

theorem computes_shl : Computes aluShl (fun a b => a <<< (b.toNat % 256)) (fun _ _ => false)
    (fun a b => 64 ≤ b.toNat % 256 && a ≠ 0) := by
  intro a b
  unfold aluShl
  dsimp only
  have ha : decide (a.toNat ≠ 0) = decide (a ≠ 0) := by rw [decide_eq_decide, Ne, toNat_eq_zero_word]
  split
  · rename_i h
    refine ⟨(BitVec.shiftLeft_eq_zero h).symm, rfl, ?_⟩
    rw [decide_eq_true h, Bool.true_and, ha]
  · rename_i h
    refine ⟨?_, rfl, ?_⟩
    · exact BitVec.eq_of_toNat_eq (by rw [BitVec.toNat_ofNat, BitVec.toNat_shiftLeft])
    · rw [decide_eq_false h, Bool.false_and]

theorem computes_neg : Computes aluNeg (fun a _ => -a) (fun _ _ => false) (fun a _ => a = BitVec.intMin 64) := by
  intro a b
  refine ⟨BitVec.eq_of_toNat_eq ?_, rfl, ?_⟩
  · rw [BitVec.toNat_neg]; exact BitVec.toNat_ofNat _ _
  · show decide (a.toNat = 2 ^ 63) = _
    rw [decide_eq_decide, ← BitVec.toNat_inj]; rfl

theorem computes_min : Computes aluMin (fun a b => if a.sle b then a else b) (fun _ _ => false) (fun _ _ => false) :=
  computes_of_value fun a b => by
    simp only [sig_toNat, ← BitVec.sle_iff_toInt_le]
    split <;> exact ofNat_toNat_self _

theorem computes_max : Computes aluMax (fun a b => if a.sle b then b else a) (fun _ _ => false) (fun _ _ => false) :=
  computes_of_value fun a b => by
    simp only [sig_toNat, ← BitVec.sle_iff_toInt_le]
    split <;> exact ofNat_toNat_self _

theorem computes_minu : Computes aluMinu (fun a b => if a.ule b then a else b) (fun _ _ => false) (fun _ _ => false) :=
  computes_of_value fun a b => by
    rw [BitVec.ule_eq_decide, show a.toNat.min b.toNat = if a.toNat ≤ b.toNat then a.toNat else b.toNat from Nat.min_def]
    by_cases h : a.toNat ≤ b.toNat <;> simp [h]

theorem computes_maxu : Computes aluMaxu (fun a b => if a.ule b then b else a) (fun _ _ => false) (fun _ _ => false) :=
  computes_of_value fun a b => by
    rw [BitVec.ule_eq_decide, show a.toNat.max b.toNat = if a.toNat ≤ b.toNat then b.toNat else a.toNat from Nat.max_def]
    by_cases h : a.toNat ≤ b.toNat <;> simp [h]

theorem computes_slt : Computes aluSlt (fun a b => (BitVec.ofBool (a.slt b)).setWidth 64) (fun _ _ => false) (fun _ _ => false) :=
  computes_of_value fun a b => by rw [b2n_toNat, sig_toNat, sig_toNat, BitVec.slt_eq_decide]

theorem computes_sltu : Computes aluSltu (fun a b => (BitVec.ofBool (a.ult b)).setWidth 64) (fun _ _ => false) (fun _ _ => false) :=
  computes_of_value fun a b => by rw [b2n_toNat, BitVec.ult_eq_decide]

theorem computes_seq : Computes aluSeq (fun a b => (BitVec.ofBool (a == b)).setWidth 64) (fun _ _ => false) (fun _ _ => false) :=
  computes_of_value fun a b => by
    rw [b2n_toNat, show (a == b) = decide (a = b) from rfl]
    simp only [BitVec.toNat_inj]

theorem computes_clz : Computes aluClz
    (fun a _ => BitVec.ofNat 64 (((List.range 64).reverse.takeWhile (fun k => !a.getLsbD k)).length)) (fun _ _ => false) (fun _ _ => false) :=
  computes_of_value fun a _ => congrArg (BitVec.ofNat 64) (leadingZeros_eq 64 a.isLt).symm

/-! ### The moves of flags, draws and the phase (R223, R224, R237) -/

theorem testBit_two_flags (c d : Bool) : (b2n c + 2 * b2n d).testBit 0 = c ∧ (b2n c + 2 * b2n d).testBit 1 = d := by
  cases c <;> cases d <;> decide

/-- The machine with the sticky flags that `b` names cleared. -/
def Mach.flagsCleared (m : Mach) (t b : Nat) : Mach :=
  m.put (A.TILE_SFLAGS t) 1 0 (b2n (bitOf (m.fld (A.TILE_SFLAGS t) 1 0) 0 && !bitOf b 0) +
    2 * b2n (bitOf (m.fld (A.TILE_SFLAGS t) 1 0) 1 && !bitOf b 1))

theorem Mach.flagsCleared_bit (m : Mach) (t b : Nat) {k : Nat} (hk : k < 2) :
    (m.flagsCleared t b).bit (A.TILE_SFLAGS t) k = (m.bit (A.TILE_SFLAGS t) k && !b.testBit k) := by
  have hold : ∀ j < 2, bitOf (m.fld (A.TILE_SFLAGS t) 1 0) j = m.bit (A.TILE_SFLAGS t) j := fun j hj => by
    rw [bitOf, Mach.fld, bitsOf_testBit, decide_eq_true hj, Bool.true_and, Nat.zero_add]; rfl
  rw [Mach.flagsCleared, hold 0 (by decide), hold 1 (by decide), Mach.bit, Mach.put, Mach.rd_wr_same, BitVec.toNat_ofNat, bitOf,
    Nat.testBit_mod_two_pow, withBits_testBit _ _ _ _ _ (Nat.zero_le 1), if_pos ⟨Nat.zero_le k, by omega⟩,
    decide_eq_true (show k < 32 by omega), Bool.true_and]
  obtain ⟨hlow, hhigh⟩ := testBit_two_flags (m.bit (A.TILE_SFLAGS t) 0 && !bitOf b 0) (m.bit (A.TILE_SFLAGS t) 1 && !bitOf b 1)
  obtain rfl | rfl : k = 0 ∨ k = 1 := by omega
  · exact hlow
  · exact hhigh

theorem Mach.flagsCleared_tilePc (m : Mach) (t b : Nat) : (m.flagsCleared t b).tilePc t = m.tilePc t :=
  m.fld_put_other _ _ _ _ _ _ _ (by simp only [A.TILE_PC, A.TILE_SFLAGS]; omega)

theorem Mach.clrflag_outcome (m : Mach) {t c : Nat} (h : m.issues t c) (hc : c ∈ [0x1D, 64 + 0x1D]) :
    (∀ k < 2, (m.clrflag t).bit (A.TILE_SFLAGS t) k = (m.bit (A.TILE_SFLAGS t) k && !((m.tile t).srcB (m.fetch t)).testBit k)) ∧
    (m.clrflag t).tilePc t = (loopNext (m.tilePc t) (m.tile t).loops).1 % 2 ^ 24 ∧ ((m.clrflag t).tile t).s = (m.tile t).s := by
  have hn : (m.flagsCleared t ((m.tile t).srcB (m.fetch t))).stepsTo t (m.tile t) false false (m.clrflag t) :=
    Mach.issue_seq_plain h hc rfl (m.flagsCleared_tilePc t _)
  obtain ⟨htile, hnext, -, hdz, hov, -⟩ := hn
  refine ⟨fun k hk => ?_, ?_, by rw [htile]⟩
  · rw [← m.flagsCleared_bit t _ hk]
    obtain rfl | rfl : k = 0 ∨ k = 1 := by omega
    · rw [hdz, Bool.or_false]
    · rw [hov, Bool.or_false]
  · rw [hnext, Mach.flagsCleared_tilePc]

/-- Settles O11: each operation computes what its table says (`computes_*`), and the flags, the draw and the phase are moved by issue. -/
theorem scalarArithmetic : Obligations.ScalarArithmetic := by
  refine ⟨scalarOp_of_computes (computes_of_value fun a b => by rw [BitVec.ofNat_add, ofNat_toNat_self, ofNat_toNat_self]) (fun _ _ => rfl),
    scalarOp_of_computes (computes_of_value ofNat_sub_wraps) (fun _ _ => rfl),
    scalarOp_of_computes (computes_of_value fun a b => by rw [BitVec.ofNat_mul, ofNat_toNat_self, ofNat_toNat_self]) (fun _ _ => rfl),
    scalarOp_of_computes (computes_of_value ofNat_mul_high) (fun _ _ => rfl),
    scalarOp_of_computes (computes_of_value fun a b => by rw [ofNat_unsig, sig_toNat, sig_toNat, ofInt_mul_high]) (fun _ _ => rfl),
    scalarOp_of_computes computes_divu (fun _ _ => rfl), scalarOp_of_computes computes_divs (fun _ _ => rfl),
    scalarOp_of_computes computes_remu (fun _ _ => rfl), scalarOp_of_computes computes_rems (fun _ _ => rfl),
    scalarOp_of_computes (computes_of_value fun a b => by rw [← BitVec.toNat_and, ofNat_toNat_self]) (fun _ _ => rfl),
    scalarOp_of_computes (computes_of_value fun a b => by rw [← BitVec.toNat_or, ofNat_toNat_self]) (fun _ _ => rfl),
    scalarOp_of_computes (computes_of_value fun a b => by rw [← BitVec.toNat_xor, ofNat_toNat_self]) (fun _ _ => rfl),
    scalarOp_of_computes computes_shl (fun _ _ => rfl),
    scalarOp_of_computes (computes_of_value fun a b => by rw [← BitVec.toNat_ushiftRight, ofNat_toNat_self]) (fun _ _ => rfl),
    scalarOp_of_computes (computes_of_value fun a b => by rw [ofNat_unsig, sig_toNat]; rfl) (fun _ _ => rfl),
    scalarOp_of_computes computes_neg (fun _ _ => rfl), scalarOp_of_computes computes_min (fun _ _ => rfl),
    scalarOp_of_computes computes_max (fun _ _ => rfl), scalarOp_of_computes computes_minu (fun _ _ => rfl),
    scalarOp_of_computes computes_maxu (fun _ _ => rfl), scalarOp_of_computes computes_slt (fun _ _ => rfl),
    scalarOp_of_computes computes_sltu (fun _ _ => rfl), scalarOp_of_computes computes_seq (fun _ _ => rfl),
    scalarOp_of_computes (computes_of_value fun a b => by rw [List.countP_eq_length_filter]; rfl) (fun _ _ => rfl),
    scalarOp_of_computes computes_clz (fun _ _ => rfl), scalarOp_of_computes (computes_of_value fun _ _ => rfl) (fun _ _ => rfl),
    scalarOp_of_computes (computes_of_value fun _ _ => rfl) (fun _ _ => rfl), ?_⟩
  intro s t x i b
  refine ⟨fun h => ?_, fun h => ?_, fun h => ?_, fun h => ?_, fun h => ?_⟩
  · refine gives_onMach (f := fun m => m.movhi t) rfl (Mach.issue_seq _ false false h (List.mem_singleton_self _) ?_)
    rw [Nat.mul_comm (2 ^ 32)]; rfl
  · obtain ⟨code, h, hmem⟩ := issues_either h
    exact gives_onMach (f := fun m => m.rdflag t) rfl (Mach.issue_seq _ false false h hmem rfl)
  · obtain ⟨code, h, hmem⟩ := issues_either h
    exact gives_onMach (f := fun m => m.clrflag t) rfl (s.m.clrflag_outcome h hmem)
  · obtain ⟨code, h, hmem⟩ := issues_either h
    exact gives_onMach (f := fun m => m.rand t) rfl (Mach.issue_seq_from (n := s.m.draw.2) _ false false h hmem rfl rfl)
  · obtain ⟨code, h, hmem⟩ := issues_either h
    exact gives_onMach (f := fun m => m.rdph t) rfl (Mach.issue_seq _ false false h hmem rfl)

end Sys2Proof.Machine

namespace Sys2Proof.Machine

/-! ### Bytes and the numbers they spell (R11) -/

theorem leNat_cons (x : Byte) (l : List Byte) : leNat (x :: l) = x.toNat + 256 * leNat l := rfl

theorem leNat_lt (l : List Byte) : leNat l < 256 ^ l.length := by
  induction l with
  | nil => exact Nat.one_pos
  | cons x r ih =>
    rw [leNat_cons, List.length_cons, Nat.pow_succ]
    have := x.isLt
    omega

@[simp] theorem leBytes_length (n v : Nat) : (leBytes n v).length = n := by simp [leBytes]

theorem leBytes_succ (n v : Nat) : leBytes (n + 1) v = BitVec.ofNat 8 v :: leBytes n (v / 256) := by
  simp only [leBytes, List.range_succ_eq_map, List.map_cons, List.map_map, List.cons.injEq]
  refine ⟨rfl, List.map_congr_left fun i _ => ?_⟩
  show BitVec.ofNat 8 (v >>> (8 * (i + 1))) = BitVec.ofNat 8 ((v / 256) >>> (8 * i))
  rw [show 8 * (i + 1) = 8 + 8 * i by ring, Nat.shiftRight_add, Nat.shiftRight_eq_div_pow v 8]

theorem leNat_leBytes (n : Nat) : ∀ v, leNat (leBytes n v) = v % 256 ^ n := by
  induction n with
  | zero => intro v; exact (Nat.mod_one v).symm
  | succ n ih =>
    intro v
    rw [leBytes_succ, leNat_cons, ih, show (BitVec.ofNat 8 v).toNat = v % 256 from rfl, Nat.pow_succ', Nat.mod_mul]

theorem leBytes_leNat (l : List Byte) : leBytes l.length (leNat l) = l := by
  induction l with
  | nil => rfl
  | cons x r ih =>
    have hx := x.isLt
    rw [List.length_cons, leBytes_succ, leNat_cons, show (x.toNat + 256 * leNat r) / 256 = leNat r by omega, ih]
    congr 1
    apply BitVec.eq_of_toNat_eq
    rw [BitVec.toNat_ofNat]
    omega

theorem leBytes_getD (n v : Nat) {k : Nat} (hk : k < n) : (leBytes n v).getD k 0 = BitVec.ofNat 8 (v / 256 ^ k) := by
  rw [List.getD_eq_getElem _ 0 (by simpa using hk)]
  simp only [leBytes, List.getElem_map, List.getElem_range, Nat.shiftRight_eq_div_pow]
  rw [Nat.pow_mul]

/-! ### Checks before an instruction takes effect (R225, R227) -/

theorem checked_pass {l : List (Option KF)} (h : firstKF l = none) (r : TRes) : checked l r = r := by rw [checked, h]

theorem checked_fault {l : List (Option KF)} {cause d : Nat} (h : firstKF l = some (cause, d)) (r : TRes) : checked l r = .fault cause d := by
  rw [checked, h]

theorem firstKF_singleton (c : Option KF) : firstKF [c] = c := by cases c <;> rfl

theorem localCheck_unaligned {a n : Nat} (st : Bool) (h : a % n ≠ 0) : localCheck a n st = some (4, a) := if_pos h

theorem localCheck_beyond {a n : Nat} (st : Bool) (h : a % n = 0) (hr : 0x840000 ≤ a) : localCheck a n st = some (3, a) := by
  rw [localCheck, if_neg (not_not.2 h), if_pos hr]

theorem localCheck_code {a n : Nat} (h : a % n = 0) (hlo : 0x800000 ≤ a) (hr : a < 0x840000) : localCheck a n true = some (2, a) := by
  rw [localCheck, if_neg (not_not.2 h), if_neg (Nat.not_le.2 hr), if_pos (by simpa using hlo)]

theorem localCheck_load {a n : Nat} (h : a % n = 0) (hr : a < 0x840000) : localCheck a n false = none := by
  rw [localCheck, if_neg (not_not.2 h), if_neg (Nat.not_le.2 hr)]; rfl

theorem localCheck_store {a n : Nat} (h : a % n = 0) (hr : a < 0x800000) : localCheck a n true = none := by
  rw [localCheck, if_neg (not_not.2 h), if_neg (by omega), if_neg (by simpa using hr)]

/-! ### Loads and stores (R225, R230, R243) -/

/-- A load that passes its checks, meets no operation in flight and no poison reads its bytes. -/
theorem access_load {x : Tile} {a n : Nat} (ha : a % n = 0) (hr : a < 0x840000) (hb : x.barred 9 [(a, a + n)] [] = false)
    (hp : x.poisonIn a n = none) (m : Mach) (r : TRes) :
    checked [localCheck a n false] (if x.barred 9 [(a, a + n)] [] then .wait m else
      checked [(x.poisonIn a n).map (fun _ => (0x0B, a))] r) = r := by
  rw [checked_pass (by rw [firstKF_singleton, localCheck_load ha hr]), hb, if_neg Bool.false_ne_true, hp]
  rfl

theorem access_poisoned {x : Tile} {a n : Nat} (ha : a % n = 0) (hr : a < 0x840000) (hb : x.barred 9 [(a, a + n)] [] = false)
    (hp : (x.poisonIn a n).isSome = true) (m : Mach) (r : TRes) :
    checked [localCheck a n false] (if x.barred 9 [(a, a + n)] [] then .wait m else
      checked [(x.poisonIn a n).map (fun _ => (0x0B, a))] r) = .fault 0x0B a := by
  obtain ⟨l, hl⟩ := Option.isSome_iff_exists.1 hp
  rw [checked_pass (by rw [firstKF_singleton, localCheck_load ha hr]), hb, if_neg Bool.false_ne_true, hl]
  rfl

theorem access_store {x : Tile} {a n : Nat} (ha : a % n = 0) (hr : a < 0x800000) (hb : x.barred 9 [] [(a, a + n)] = false)
    (m : Mach) (r : TRes) :
    checked [localCheck a n true] (if x.barred 9 [] [(a, a + n)] then .wait m else r) = r := by
  rw [checked_pass (by rw [firstKF_singleton, localCheck_store ha hr]), hb, if_neg Bool.false_ne_true]

/-- A local access that its check turns away faults. -/
theorem access_refused {a n cause d : Nat} {st : Bool} (h : localCheck a n st = some (cause, d)) (r : TRes) :
    checked [localCheck a n st] r = .fault cause d := checked_fault (by rw [firstKF_singleton, h]) r

/-- What a load of `n` bytes spells, as the model and as the table say it. -/
theorem load_value (x : Tile) (a n : Nat) (sx : Bool) :
    (if sx then ((BitVec.ofNat (8 * n) (leNat (memRead x.mem a n))).signExtend 64).toNat else leNat (memRead x.mem a n)) =
      (let v := BitVec.ofNat (8 * n) (leNat (memRead x.mem a n)); if sx then (v.signExtend 64).toNat else v.toNat) := by
  cases sx
  · have hlt : leNat (memRead x.mem a n) < 2 ^ (8 * n) := by
      have := leNat_lt (memRead x.mem a n)
      rwa [memRead_length, show (256 : Nat) = 2 ^ 8 from rfl, ← Nat.pow_mul] at this
    show _ = (BitVec.ofNat (8 * n) _).toNat
    rw [BitVec.toNat_ofNat, Nat.mod_eq_of_lt hlt]; rfl
  · rfl

theorem loadOp_of_load {c : Fin 80 → Instr} {op n : Nat} {sx : Bool} (hx : ∀ t s, exec (c t) s = s.onMach (fun m => m.load t op n sx)) :
    LoadOp c op n sx := by
  intro s t hi x i a
  have hc : 128 + op ∈ [128 + op] := List.mem_singleton_self _
  refine ⟨fun ha => gives_onMach (hx t s) (Mach.issue_fault _ _ hi hc (access_refused (localCheck_unaligned false ha) _)),
    fun ha hr => gives_onMach (hx t s) (Mach.issue_fault _ _ hi hc (access_refused (localCheck_beyond false ha hr) _)),
    fun ha hr hp hb => gives_onMach (hx t s) (Mach.issue_fault _ _ hi hc (access_poisoned ha hr hb hp _ _)),
    fun ha hr hp hb => gives_onMach (hx t s) (Mach.issue_seq _ false false hi hc ?_)⟩
  rw [← load_value]
  exact access_load ha hr hb hp _ _

theorem storeOp_of_tstore {c : Fin 80 → Instr} {op n : Nat} (hx : ∀ t s, exec (c t) s = s.onMach (fun m => m.tstore t op n)) :
    StoreOp c op n := by
  intro s t hi x i a
  have hc : 128 + op ∈ [128 + op] := List.mem_singleton_self _
  exact ⟨fun ha => gives_onMach (hx t s) (Mach.issue_fault _ _ hi hc (access_refused (localCheck_unaligned true ha) _)),
    fun ha hr => gives_onMach (hx t s) (Mach.issue_fault _ _ hi hc (access_refused (localCheck_beyond true ha hr) _)),
    fun ha hlo hr => gives_onMach (hx t s) (Mach.issue_fault _ _ hi hc (access_refused (localCheck_code ha hlo hr) _)),
    fun ha hr hb => gives_onMach (hx t s) (Mach.issue_seq _ false false hi hc (access_store ha hr hb _ _))⟩

/-- Settles O12: loads and stores by `loadOp_of_load` and `storeOp_of_tstore`, the moves of vector registers by issue. -/
theorem loadsAndStores : Obligations.LoadsAndStores := by
  refine ⟨loadOp_of_load (fun _ _ => rfl), loadOp_of_load (fun _ _ => rfl), loadOp_of_load (fun _ _ => rfl), loadOp_of_load (fun _ _ => rfl),
    loadOp_of_load (fun _ _ => rfl), loadOp_of_load (fun _ _ => rfl), loadOp_of_load (fun _ _ => rfl), storeOp_of_tstore (fun _ _ => rfl),
    storeOp_of_tstore (fun _ _ => rfl), storeOp_of_tstore (fun _ _ => rfl), storeOp_of_tstore (fun _ _ => rfl), ?_⟩
  intro s t x i a
  have hc : ∀ c : Nat, c ∈ [c] := List.mem_singleton_self
  refine ⟨fun h ha hr hp hb => ?_, fun h ha hr hb => ?_, fun h ha => ?_, fun h ha => ?_, fun h => ?_, fun hi lo h hf => ?_, fun hi lo h hf => ?_,
    fun h hf => ?_, fun h hf => ?_⟩
  · exact gives_onMach (f := fun m => m.vld t) rfl (Mach.issue_seq _ false false h (hc _) (access_load ha hr hb hp _ _))
  · exact gives_onMach (f := fun m => m.vst t) rfl (Mach.issue_seq _ false false h (hc _) (access_store ha hr hb _ _))
  · exact gives_onMach (f := fun m => m.vld t) rfl (Mach.issue_fault _ _ h (hc _) (access_refused (localCheck_unaligned false ha) _))
  · exact gives_onMach (f := fun m => m.vst t) rfl (Mach.issue_fault _ _ h (hc _) (access_refused (localCheck_unaligned true ha) _))
  · exact gives_onMach (f := fun m => m.vmov t) rfl (Mach.issue_seq _ false false h (hc _) rfl)
  · refine gives_onMach (f := fun m => m.vset t) rfl (Mach.issue_seq _ false false h (hc _) ?_)
    simp only [show descField (s.m.fetch t).x = some (hi, lo) from hf]; rfl
  · refine gives_onMach (f := fun m => m.vget t) rfl (Mach.issue_seq _ false false h (hc _) ?_)
    simp only [show descField (s.m.fetch t).x = some (hi, lo) from hf]; rfl
  · refine gives_onMach (f := fun m => m.vset t) rfl (Mach.issue_fault _ _ h (hc _) ?_)
    simp only [show descField (s.m.fetch t).x = none from hf]; rfl
  · refine gives_onMach (f := fun m => m.vget t) rfl (Mach.issue_fault _ _ h (hc _) ?_)
    simp only [show descField (s.m.fetch t).x = none from hf]; rfl

/-! ### The bytes a store changes (R225) -/

theorem Tile.store_mem (x : Tile) (a : Nat) (b : List Byte) : (x.store a b).mem = memWrite x.mem a b := rfl

theorem Tile.store_wf (x : Tile) (a : Nat) (b : List Byte) (h : memWf x.mem = true) : memWf (x.store a b).mem = true := memWrite_wf _ _ _ h

theorem Tile.store_other (x : Tile) (a j : Nat) (b : List Byte) (h : memWf x.mem = true) (hj : j < a ∨ a + b.length ≤ j) :
    memGet (x.store a b).mem j = memGet x.mem j := memGet_memWrite_other _ _ _ _ h hj

/-- Settles O13, by what reads of a byte store after a write give. -/
theorem storeFrame : Obligations.StoreFrame := by
  intro x a n v hwf y
  refine ⟨x.store_wf a _ hwf, fun k hk => ?_, fun j hj => x.store_other a j _ hwf (by rwa [leBytes_length]), ?_⟩
  · rw [← leBytes_getD n v hk]
    exact memGet_memWrite_at _ _ _ _ hwf (by rwa [leBytes_length])
  · have hread := memRead_memWrite x.mem a (leBytes n v) hwf
    rw [leBytes_length] at hread
    exact (congrArg leNat hread).trans (leNat_leBytes n v)

end Sys2Proof.Machine

namespace Sys2Proof.Machine

/-! ### Jumps that leave the tile as it is (R228) -/

/-- `movesTo` looks at the tiles and the active registers only. -/
theorem Mach.movesTo_congr {m n k : Mach} {t pc : Nat} {x : Tile} {loops : List (Nat × Nat × Nat)} {dz ov : Bool}
    (h : m.movesTo t x pc loops dz ov n) (ht : ∀ u, k.tile u = n.tile u) (hr : k.regs.act = n.regs.act)
    (hk : k = { m with tiles := k.tiles, regs := { m.regs with act := k.regs.act } }) : m.movesTo t x pc loops dz ov k := by
  obtain ⟨htile, hpc, hcnt, hdz, hov, hother, hregs, -⟩ := h
  refine ⟨(ht t).trans htile, (Mach.fld_of_act hr _ _ _).trans hpc, ?_, (Mach.bit_of_act hr _ _).trans hdz, (Mach.bit_of_act hr _ _).trans hov,
    fun u hu => (ht u).trans (hother u hu), fun a h1 h2 h3 h4 => (Mach.rd_of_act hr a).trans (hregs a h1 h2 h3 h4), hk⟩
  rw [← hcnt]
  unfold Mach.rd64
  rw [Mach.rd_of_act hr, Mach.rd_of_act hr]

/-- Writing a tile back changes what no tile reads as. -/
theorem Mach.tile_setTile_self (m : Mach) (t u : Nat) : (m.setTile t (m.tile t)).tile u = m.tile u := by
  by_cases h : u = t
  · rw [h, m.tile_setTile_same]
  · exact m.tile_setTile_other t u _ h

/-- What `stepped` makes of tiles depends on what the tiles read as. -/
theorem Mach.stepped_tile_congr {m n : Mach} (t u : Nat) (h : ∀ v, m.tile v = n.tile v) : (m.stepped t).tile u = (n.stepped t).tile u := by
  by_cases hu : u = t
  · rw [hu, m.stepped_tile, n.stepped_tile, h]
  · rw [m.stepped_tile_other t u hu, n.stepped_tile_other t u hu, h]

theorem Mach.jumped (m : Mach) (t pc : Nat) : m.jumpsTo t (m.tile t) pc (((m.setTilePc t pc).countIns t).stepped t) := by
  refine Mach.movesTo_congr (m.moved t (m.tile t) pc (m.tile t).loops false false) (fun u => ?_) ?_ ?_
  · exact Mach.stepped_tile_congr t u fun v => (m.tile_setTile_self t v).symm
  · rw [Mach.stepped_regs, Mach.stepped_regs]; rfl
  · exact frame_trans (m := m) (n := (m.setTilePc t pc).countIns t) rfl (Mach.stepped_frame _ t)

/-- A ready instruction that goes to a target in the code region and leaves its tile. -/
theorem Mach.issue_jump_plain {m : Mach} {t c : Nat} {cs : List Nat} {f : Mach → Tile → TIns → TRes} (pc : Nat) (h : m.issues t c)
    (hc : c ∈ cs) (hf : f m (m.tile t) (m.fetch t) = .jump m pc) (hp : (m.tile t).pcOk pc = true) :
    m.jumpsTo t (m.tile t) pc (m.issue t cs f) := by
  rw [m.issue_ready h hc, hf]
  simp only [hp, if_true]
  exact m.jumped t pc

/-- A target outside the code region is a kernel fault with code 5 (R228, R242). -/
theorem Mach.issue_jump_fault {m : Mach} {t c : Nat} {cs : List Nat} {f : Mach → Tile → TIns → TRes} (pc : Nat) (h : m.issues t c)
    (hc : c ∈ cs) (hf : f m (m.tile t) (m.fetch t) = .jump m pc) (hp : (m.tile t).pcOk pc = false) :
    m.faultsWith t 5 pc (m.issue t cs f) := by
  have heq : m.issue t cs f = m.issue t cs (fun _ _ _ => .fault 5 pc) := by
    rw [m.issue_ready h hc, m.issue_ready h hc, hf]
    simp only [hp, Bool.false_eq_true, if_false]
  rw [heq]
  exact Mach.issue_fault 5 pc h hc rfl

/-! ### Branches (R228) -/

/-- A command that issues a branch is taken where its condition holds of the 64-bit sources. -/
theorem branchOp_of_branch {b : Fin 80 → Instr} {op : Nat} {c : BitVec 64 → BitVec 64 → Bool} {cn : Nat → Nat → Bool}
    (hc : ∀ a b : BitVec 64, cn a.toNat b.toNat = c a b) (hx : ∀ t s, exec (b t) s = s.onMach (fun m => m.branch t op cn)) : BranchOp b op c := by
  intro s t hi x i dest taken
  have hmem : 192 + op ∈ [192 + op] := List.mem_singleton_self _
  have hword : ∀ k, (BitVec.ofNat 64 (x.sreg k)).toNat = x.sreg k := fun k => Nat.mod_eq_of_lt (x.sreg_lt k)
  have htaken : cn (x.sreg i.a) (x.sreg i.b) = taken := by
    have := hc (BitVec.ofNat 64 (x.sreg i.a)) (BitVec.ofNat 64 (x.sreg i.b))
    rwa [hword, hword] at this
  refine ⟨fun ht hp => gives_onMach (hx t s) (Mach.issue_jump_plain _ hi hmem ?_ hp),
    fun ht hp => gives_onMach (hx t s) (Mach.issue_jump_fault _ hi hmem ?_ hp),
    fun ht => gives_onMach (hx t s) (Mach.issue_seq_plain hi hmem ?_ rfl)⟩
  · exact if_pos (htaken.trans ht)
  · exact if_pos (htaken.trans ht)
  · exact if_neg (by rw [htaken, ht]; exact Bool.false_ne_true)

theorem Mach.endKernel_outcome (m : Mach) {t : Nat} (h : m.issues t (192 + 0x0F)) :
    ((m.endKernel t).tile t).ended = true ∧ (m.endKernel t).tileState t = 3 ∧ ((m.endKernel t).tile t).mem = (m.tile t).mem ∧
    (m.endKernel t).rd64 (A.CNT_INSTR_LO t) = min (m.rd64 (A.CNT_INSTR_LO t) + 1) (2 ^ 64 - 1) := by
  set n := (m.setTile t { m.tile t with ended := true }).setTileState t 3 with hn
  have heq : m.endKernel t = (n.countIns t).stepped t := m.issue_ready h (List.mem_singleton_self _)
  have htile : (n.countIns t).tile t = { m.tile t with ended := true } := m.tile_setTile_same t _
  have hcnt : n.rd64 (A.CNT_INSTR_LO t) = m.rd64 (A.CNT_INSTR_LO t) := by
    have hrd : ∀ a, a ≠ A.TILE_STS t → n.rd a = m.rd a := fun a ha => Mach.rd_put_other _ _ _ _ _ _ ha
    unfold Mach.rd64
    rw [hrd _ (by simp only [A.CNT_INSTR_LO, A.TILE_STS]; omega), hrd _ (by simp only [A.CNT_INSTR_LO, A.TILE_STS]; omega)]
  rw [heq, Mach.stepped_tile, htile]
  refine ⟨rfl, ?_, rfl, ?_⟩
  · show ((n.countIns t).stepped t).fld (A.TILE_STS t) 3 0 = 3
    rw [Mach.fld_of_act (congrArg Regs.act (Mach.stepped_regs _ t)), Mach.countIns, Mach.wr64,
      Mach.fld_wr_other _ _ _ _ _ _ (by simp only [A.CNT_INSTR_LO, A.TILE_STS]; omega),
      Mach.fld_wr_other _ _ _ _ _ _ (by simp only [A.CNT_INSTR_LO, A.TILE_STS]; omega)]
    exact Mach.fld_put_same _ _ _ _ _ (by omega) (by omega)
  · rw [← hcnt, ← rd64_wr64 n (A.CNT_INSTR_LO t) (min (n.rd64 (A.CNT_INSTR_LO t) + 1) (2 ^ 64 - 1)) (by omega)]
    unfold Mach.rd64
    rw [Mach.rd_of_act (congrArg Regs.act (Mach.stepped_regs _ t)), Mach.rd_of_act (congrArg Regs.act (Mach.stepped_regs _ t))]
    rfl

/-- Settles O14: branches by `branchOp_of_branch`, the other transfers by the outcome of issue that their conditions pick. -/
theorem controlTransfers : Obligations.ControlTransfers := by
  refine ⟨branchOp_of_branch (fun _ _ => rfl) (fun _ _ => rfl),
    branchOp_of_branch (fun a b => by simp only [BitVec.toNat_inj]; rfl) (fun _ _ => rfl),
    branchOp_of_branch (fun a b => by simp only [ne_eq, BitVec.toNat_inj, bne, decide_not]; rfl) (fun _ _ => rfl),
    branchOp_of_branch (fun a b => by rw [sig_toNat, sig_toNat, BitVec.slt_eq_decide]) (fun _ _ => rfl),
    branchOp_of_branch (fun a b => by rw [sig_toNat, sig_toNat, BitVec.sle_eq_decide]) (fun _ _ => rfl),
    branchOp_of_branch (fun a b => by rw [BitVec.ult_eq_decide]) (fun _ _ => rfl),
    branchOp_of_branch (fun a b => by rw [BitVec.ule_eq_decide]) (fun _ _ => rfl), ?_⟩
  intro s t x i dest depths
  have hc : ∀ c : Nat, c ∈ [c] := List.mem_singleton_self
  refine ⟨fun h hl hp => ?_, fun h hl => ?_, fun a r h hl hp => ?_, fun h hl => ?_, fun a r h hl ha hp => ?_, fun h hp => ?_, fun h hp => ?_,
    fun h hp hp8 hl hn => ?_, fun h hp hnext hl hn => ?_, fun h hp hl => ?_, fun h => ?_, fun h => ?_⟩
  · refine gives_onMach (f := fun m => m.call t) rfl (Mach.issue_jump _ _ h (hc _) ?_ hp)
    rw [if_neg (Nat.not_le.2 hl), if_neg (by rw [show (s.m.tile t).pcOk (s.m.fetch t).target = true from hp]; decide)]; rfl
  · exact gives_onMach (f := fun m => m.call t) rfl (Mach.issue_fault _ _ h (hc _) (if_pos hl))
  · refine gives_onMach (f := fun m => m.ret t) rfl (Mach.issue_jump _ _ h (hc _) ?_ hp)
    simp only [show (s.m.tile t).link = a :: r from hl, show (s.m.tile t).pcOk a = true from hp, if_true]; rfl
  · refine gives_onMach (f := fun m => m.ret t) rfl (Mach.issue_fault _ _ h (hc _) ?_)
    simp only [depths, x, show (s.m.tile t).link = [] from hl, stackFault]
  · refine gives_onMach (f := fun m => m.ret t) rfl (Mach.issue_fault _ _ h (hc _) ?_)
    simp only [show (s.m.tile t).link = a :: r from hl, show (s.m.tile t).pcOk a = false from hp]; rfl
  · exact gives_onMach (f := fun m => m.jr t) rfl (Mach.issue_jump_fault _ h (hc _) rfl hp)
  · exact gives_onMach (f := fun m => m.jr t) rfl (Mach.issue_jump_plain _ h (hc _) rfl hp)
  · refine gives_onMach (f := fun m => m.loop t) rfl (Mach.issue_jump _ _ h (hc _) ?_ hp8)
    rw [if_neg (by rw [show (s.m.tile t).pcOk (s.m.fetch t).target = true from hp]; decide), if_neg (Nat.not_le.2 hl),
      if_neg (Nat.pos_iff_ne_zero.1 hn)]; rfl
  · refine gives_onMach (f := fun m => m.loop t) rfl (Mach.issue_jump _ _ h (hc _) ?_ hnext)
    rw [if_neg (by rw [show (s.m.tile t).pcOk (s.m.fetch t).target = true from hp]; decide), if_neg (Nat.not_le.2 hl), if_pos hn]; rfl
  · refine gives_onMach (f := fun m => m.loop t) rfl (Mach.issue_fault _ _ h (hc _) ?_)
    rw [if_neg (by rw [show (s.m.tile t).pcOk (s.m.fetch t).target = true from hp]; decide), if_pos hl]; rfl
  · exact gives_onMach (f := fun m => m.trap t) rfl (Mach.issue_fault _ _ h (hc _) rfl)
  · exact gives_onMach (f := fun m => m.endKernel t) rfl (s.m.endKernel_outcome h)

end Sys2Proof.Machine

namespace Sys2Proof.Machine

/-! ### Firing a source (R601) -/

theorem Mach.setSrc_frame (m : Mach) (s st count : Nat) : (m.setSrc s st count).tiles = m.tiles ∧
    ∀ a, a ≠ A.INT_SRC_STS s → (m.setSrc s st count).rd a = m.rd a := by
  unfold Mach.setSrc
  dsimp only
  split
  · exact ⟨rfl, fun a ha => by rw [Mach.rd_put_other _ _ _ _ _ _ ha, Mach.rd_put_other _ _ _ _ _ _ ha]⟩
  · exact ⟨rfl, fun a ha => by rw [Mach.rd_put_other _ _ _ _ _ _ ha, Mach.rd_put_other _ _ _ _ _ _ ha, Mach.rd_put_other _ _ _ _ _ _ ha]⟩

/-- A firing changes no tile and no register but the source's own. -/
theorem Mach.fire_frame (m : Mach) (s : Nat) : (m.fire s).tiles = m.tiles ∧
    ∀ a, a ≠ A.INT_SRC_STS s → (m.fire s).rd a = m.rd a := by
  have hnote : (if m.srcCount s = 0 then m.noteFirst s else m).tiles = m.tiles ∧
      ∀ a, (if m.srcCount s = 0 then m.noteFirst s else m).rd a = m.rd a := by
    split <;> exact ⟨rfl, fun _ => rfl⟩
  unfold Mach.fire
  dsimp only
  split
  · exact m.setSrc_frame s 1 0
  · exact m.setSrc_frame s 1 _
  · obtain ⟨htiles, hrd⟩ := Mach.setSrc_frame (if m.srcCount s = 0 then m.noteFirst s else m) s 2 (min (m.srcCount s + 1) 255)
    exact ⟨htiles.trans hnote.1, fun a ha => (hrd a ha).trans (hnote.2 a)⟩

theorem Mach.fire_tilePc (m : Mach) {s : Nat} (hs : s < 1024) (t : Nat) : (m.fire s).tilePc t = m.tilePc t := by
  have ha : A.TILE_PC t ≠ A.INT_SRC_STS s := by
    simp only [A.TILE_PC, A.INT_SRC_STS]
    split <;> omega
  rw [Mach.tilePc, Mach.fld, (m.fire_frame s).2 _ ha]; rfl

theorem Mach.fire_tile (m : Mach) (s t : Nat) : (m.fire s).tile t = m.tile t := by
  rw [Mach.tile, (m.fire_frame s).1]; rfl

/-! ### Waits (R231, R232) -/

theorem waitFor_passes (m : Mach) {done : Bool} {f : Option KF} (hd : done = true) (hf : f = none) : waitFor m done f = .seq m := by
  rw [hd, hf]; rfl

theorem waitFor_waits (m : Mach) {done : Bool} (f : Option KF) (hd : done = false) : waitFor m done f = .wait m := by rw [hd]; rfl

theorem waitFor_faults (m : Mach) {done : Bool} {f : Option KF} {cause d : Nat} (hd : done = true) (hf : f = some (cause, d)) :
    waitFor m done f = .fault cause d := by rw [hd, hf]; rfl

section

variable {i : Instr} {s : State} {t c : Nat} {g : Mach → Tile → TIns → TRes} {done : Bool} {f : Option KF}

/-- A wait that is over and meets no failure goes on in sequence. -/
theorem gives_wait (hx : exec i s = s.onMach (fun m => m.issue t [c] g)) (h : s.m.issues t c)
    (hg : g s.m (s.m.tile t) (s.m.fetch t) = waitFor s.m done f) (hd : done = true) (hf : f = none) :
    Gives i s (s.m.stepsTo t (s.m.tile t) false false) :=
  gives_onMach hx (Mach.issue_seq_plain h (List.mem_singleton_self _) (hg.trans (waitFor_passes _ hd hf)) rfl)

theorem unmoved_wait (hx : exec i s = s.onMach (fun m => m.issue t [c] g)) (h : s.m.issues t c)
    (hg : g s.m (s.m.tile t) (s.m.fetch t) = waitFor s.m done f) (hd : done = false) : Unmoved i s :=
  unmoved_onMach hx (Mach.issue_wait h (List.mem_singleton_self _) (hg.trans (waitFor_waits _ _ hd)))

end

theorem testBit_tag (imm x : Nat) : (imm % 2 ^ 16).testBit (x % 16) = imm.testBit (x % 16) := by
  rw [Nat.testBit_mod_two_pow, decide_eq_true (Nat.mod_lt x (by decide)), Bool.true_and]

theorem Tile.dmaMet_none {x : Tile} {mask : Nat} (h : ∀ e ∈ x.dmaFail, mask.testBit e.1 = false) : x.dmaMet mask = none := by
  rw [Tile.dmaMet, List.find?_eq_none.2 (fun e he => by rw [h e he]; exact Bool.false_ne_true)]; rfl

theorem Tile.dmaMet_head {x : Tile} {mask tag d : Nat} {r : List (Nat × Nat)} (hx : x.dmaFail = (tag, d) :: r)
    (h : mask.testBit tag = true) : x.dmaMet mask = some (9, d) := by
  rw [Tile.dmaMet, hx, List.find?_cons_of_pos (p := fun e : Nat × Nat => mask.testBit e.1) h]; rfl

/-! ### Barriers (R232) -/

/-- A TBAR of a node whose only target is this tile counts and passes. -/
theorem Mach.tbar_alone (m : Mach) {t : Nat} (h : m.issues t 455) (hn : (m.tile t).tbarNow = false) (hu : ∀ u ∈ (m.tile t).target, u = t) :
    m.stepsTo t { m.tile t with tbars := tset (m.tile t).tbars ((m.fetch t).imm % 16) ((m.tile t).bars' ((m.fetch t).imm % 16) + 1) } false false
      (m.tbar t) := by
  refine Mach.issue_seq _ false false h (List.mem_singleton_self _) ?_
  simp only [hn, Bool.false_eq_true, if_false]
  rw [if_pos, m.setTile_setTile]
  · rfl
  · rw [List.all_eq_true]
    intro u hm
    rw [hu u hm]
    simp

/-- Settles O15: waits by `gives_wait` and `unmoved_wait`, signals and doorbells by the machine that issue goes on with. -/
theorem synchronisation : Obligations.Synchronisation := by
  intro s t x i onwards
  have hc : ∀ c : Nat, c ∈ [c] := List.mem_singleton_self
  refine ⟨fun h hq hf => ?_, fun h hq => ?_, fun tag d r h hq hf hm => ?_, fun h hq => ?_, fun h hb hg hn => ?_, fun h hd hf => ?_,
    fun h hd => ?_, fun h hf => ?_, fun h hf => ?_, fun h hn hu => ?_, fun h hle => ?_, fun h hlt => ?_, fun h hs ho => ?_, fun h hs => ?_⟩
  · refine gives_wait rfl h rfl ?_ (Tile.dmaMet_none hf)
    rw [Bool.not_eq_true', List.any_eq_false]
    intro o ho
    rw [EngOp.tag, testBit_tag, hq o ho]
    exact Bool.false_ne_true
  · obtain ⟨o, ho, hbit⟩ := hq
    refine unmoved_wait rfl h rfl ?_
    rw [Bool.not_eq_false', List.any_eq_true]
    exact ⟨o, ho, by rw [EngOp.tag, testBit_tag]; exact hbit⟩
  · refine gives_onMach (f := fun m => m.waitdma t) rfl (Mach.issue_fault 9 d h (hc _) (waitFor_faults _ ?_ (Tile.dmaMet_head hf hm)))
    rw [show (s.m.tile t).dma = [] from hq]; rfl
  · exact gives_wait rfl h rfl (List.isEmpty_iff.2 hq) rfl
  · refine gives_wait rfl h rfl ?_ rfl
    rw [List.isEmpty_iff.2 hb, List.isEmpty_iff.2 hg, List.isEmpty_iff.2 hn]; rfl
  · exact gives_wait rfl h rfl hd (Tile.dmaMet_none (by rw [show (s.m.tile t).dmaFail = [] from hf]; intro e he; cases he))
  · exact unmoved_wait rfl h rfl hd
  · exact gives_wait rfl h rfl hf rfl
  · exact gives_onMach (f := fun m => m.signal t) rfl (Mach.issue_seq_plain (n := s.m.ctrAdd _ _ _) h (hc _) (if_pos hf) rfl)
  · exact gives_onMach (f := fun m => m.tbar t) rfl (s.m.tbar_alone h hn hu)
  · exact gives_wait rfl h rfl (decide_eq_true hle) rfl
  · exact unmoved_wait rfl h rfl (decide_eq_false (Nat.not_le.2 hlt))
  · have hstep := Mach.issue_seq_plain (n := s.m.fire (i.imm % 1024)) h (hc _) (f := fun m _ i =>
        if 512 ≤ i.imm % 1024 && m.srcOwner (i.imm % 1024) = some (m.tilePart t) then .seq (m.fire (i.imm % 1024)) else .fault 15 (i.imm % 1024))
      (if_pos (by rw [decide_eq_true hs, decide_eq_true ho]; rfl)) (s.m.fire_tilePc (Nat.mod_lt _ (by decide)) t)
    rw [s.m.fire_tile] at hstep
    exact gives_onMach (f := fun m => m.tileDoorbell t) rfl hstep
  · refine gives_onMach (f := fun m => m.tileDoorbell t) rfl (Mach.issue_fault _ _ h (hc _) (if_neg ?_))
    rw [Bool.and_eq_true, decide_eq_true_eq, decide_eq_true_eq]
    rintro ⟨hge, heq⟩
    rcases hs with hlt | hne
    · exact Nat.not_le.2 hlt hge
    · exact hne heq

end Sys2Proof.Machine

namespace Sys2Proof.Machine

/-! ### Entry into an engine's queue (R229, R230) -/

theorem Mach.engine_takes (m : Mach) (t : Nat) {x : Tile} {k : Nat} {o : EngOp} (hl : (x.queue k).length < queueCap k) (hf : x.inFlight < 32)
    (hb : x.barred k o.rds o.wrs = false) : m.engine t x k o = .seq (m.setTile t (x.push k o)) := by
  rw [Mach.engine, decide_eq_false (Nat.not_le.2 hl), decide_eq_false (Nat.not_le.2 hf), hb]
  rfl

theorem firstKF_append_none {l r : List (Option KF)} (h : firstKF r = none) : firstKF (l ++ r) = firstKF l := by
  rw [firstKF, List.findSome?_append, show r.findSome? id = none from h, Option.or_none]; rfl

section

variable {c : Fin 80 → Instr} {code k : Nat} {chk : Mach → Nat → Tile → TIns → List (Option KF)} {op : Mach → Nat → Tile → TIns → EngOp}

/-- A command that issues `r` behind checks that fail as `chk` does is the engine operation whose queue `r` enters. -/
theorem engineOp_of_issue (b : Mach → Nat → Mach) {chk' : Mach → Nat → Tile → TIns → List (Option KF)}
    {r : Mach → Nat → Tile → TIns → TRes} (hx : ∀ (t : Fin 80) s, exec (c t) s = s.onMach (fun m => b m t))
    (hb : ∀ m t, b m t = m.issue t [code] (fun m x i => checked (chk' m t x i) (r m t x i)))
    (hc : ∀ m t x i, firstKF (chk' m t x i) = firstKF (chk m t x i))
    (hr : ∀ m t x i, (k = 1 → ∀ p ∈ x.dma, p.tag ≠ (op m t x i).tag) → r m t x i = m.engine t x k (op m t x i)) :
    EngineOp c code k chk op := by
  intro s t h x i o
  refine ⟨fun hn hl hf hbar ht => ?_, fun cause d hs => ?_⟩
  · refine gives_onMach (hx t s) (hb s.m t ▸ Mach.issue_seq _ false false h (List.mem_singleton_self _) ?_)
    rw [checked_pass ((hc _ _ _ _).trans hn), hr _ _ _ _ ht, Mach.engine_takes _ _ hl hf hbar]
    rfl
  · exact gives_onMach (hx t s) (hb s.m t ▸ Mach.issue_fault _ _ h (List.mem_singleton_self _) (checked_fault ((hc _ _ _ _).trans hs) _))

/-- A command that enters queue `k` with no more ado. -/
theorem engineOp_plain
    (hx : ∀ (t : Fin 80) s, exec (c t) s =
      s.onMach (fun m => m.issue t [code] (fun m x i => checked (chk m t x i) (m.engine t x k (op m t x i))))) :
    EngineOp c code k chk op :=
  engineOp_of_issue (fun m t => m.issue t [code] (fun m x i => checked (chk m t x i) (m.engine t x k (op m t x i)))) hx (fun _ _ => rfl)
    (fun _ _ _ _ => rfl) (fun _ _ _ _ _ => rfl)

end

theorem Mach.dmaIssue_untagged (m : Mach) (t : Nat) {x : Tile} {i : TIns} {rds wrs : List (Nat × Nat)}
    (h : ∀ p ∈ x.dma, p.tag ≠ (engOp x i rds wrs).tag) : m.dmaIssue t x i rds wrs = m.engine t x 1 (engOp x i rds wrs) := by
  rw [Mach.dmaIssue, if_neg]
  rw [List.any_eq_true]
  rintro ⟨p, hp, ht⟩
  exact h p hp (of_decide_eq_true ht)

theorem engineOp_mma : EngineOp .mma 320 0 (fun _ _ x i => mmaChecks i.a i.b (x.vreg i.a) (x.vreg i.b) (i.x.testBit 4))
    (fun _ _ x i => engOp x i (foot (x.vreg i.a) ++ foot (x.vreg i.b) ++ [accRange (i.x % 8)]) [accRange (i.x % 8)]) :=
  engineOp_plain (fun _ _ => rfl)

theorem Mach.scatter_adding (m : Mach) (t : Nat) : m.scatter t true = m.issue t [259] (fun m x i =>
    checked (rowChecks i (x.vreg i.a) (x.vreg i.b) (x.vreg i.d) false ++
        [if 1 < dFmt (x.vreg i.a) then some (8, dFmt (x.vreg i.a)) else none, if 1 < dFmt (x.vreg i.b) then some (8, dFmt (x.vreg i.b)) else none])
      (m.dmaIssue t x i (foot (x.vreg i.d) ++ foot (x.vreg i.b)) [])) := by
  simp only [Mach.scatter, if_true, Bool.true_and, decide_eq_true_eq]

theorem engineOp_scatterAdd : EngineOp .scatterAdd 259 1
    (fun _ _ x i => rowChecks i (x.vreg i.a) (x.vreg i.b) (x.vreg i.d) false ++
      [if 1 < dFmt (x.vreg i.a) then some (8, dFmt (x.vreg i.a)) else none, if 1 < dFmt (x.vreg i.b) then some (8, dFmt (x.vreg i.b)) else none])
    (fun _ _ x i => engOp x i (foot (x.vreg i.d) ++ foot (x.vreg i.b)) []) :=
  engineOp_of_issue (fun m t => m.scatter t true) (fun _ _ => rfl) Mach.scatter_adding (fun _ _ _ _ => rfl) (fun m t _ _ h => m.dmaIssue_untagged t (h rfl))

theorem engineOp_sexp : EngineOp .sexp 400 3 (fun m t x i => [checkDesc i.d (x.vreg i.d) true, needLocal i.d (x.vreg i.d), noSp (x.vreg i.d),
      if i.x.testBit 0 then none else readCheck (x.sreg i.a) 32, readCheck (x.sreg i.b) 16,
      if i.x.testBit 0 && (m.slotKey (m.tilePart t) (i.imm % 512) 4).isNone then some (0x0A, i.imm % 512) else none])
    (fun m t x i => { engOp x i ((if i.x.testBit 0 then [] else [(x.sreg i.a, x.sreg i.a + 32)]) ++ [(x.sreg i.b, x.sreg i.b + 16)])
        (foot (x.vreg i.d)) with key := if i.x.testBit 0 then (m.slotKey (m.tilePart t) (i.imm % 512) 4).getD [] else [] }) := by
  refine engineOp_of_issue Mach.sexp (fun _ _ => rfl) (fun _ _ => rfl) (fun m t x i => ?_) (fun m t x i _ => ?_)
  · cases i.x.testBit 0 <;> simp
  · cases i.x.testBit 0 <;> rfl

theorem engineOp_noise : EngineOp .noise 401 4 (fun _ _ x i => [checkDesc i.d (x.vreg i.d) true, needLocal i.d (x.vreg i.d), noSp (x.vreg i.d),
      if (if i.x.testBit 0 then dFmt (x.vreg i.d) ≤ 1 else dFmt (x.vreg i.d) = 0xA) then none else some (8, dFmt (x.vreg i.d))])
    (fun _ _ x i => engOp x i [] (foot (x.vreg i.d))) := by
  refine engineOp_of_issue Mach.noiseIssue (fun _ _ => rfl) (fun _ _ => rfl) (fun m t x i => ?_) (fun m t x i _ => rfl)
  cases i.x.testBit 0 <;> simp

end Sys2Proof.Machine

namespace Sys2Proof.Machine

/-! ### What a step in sequence keeps -/

section

variable {m n : Mach} {t : Nat} {x : Tile} {dz ov : Bool} (h : m.stepsTo t x dz ov n)

include h

theorem Mach.stepsTo_mem : (n.tile t).mem = x.mem := by rw [h.1]

theorem Mach.stepsTo_pc : n.tilePc t = (loopNext (m.tilePc t) x.loops).1 % 2 ^ 24 := h.2.1

theorem Mach.stepsTo_rd {a : Nat} (h1 : a ≠ A.TILE_PC t) (h2 : a ≠ A.TILE_SFLAGS t) (h3 : a ≠ A.CNT_INSTR_LO t)
    (h4 : a ≠ A.CNT_INSTR_LO t + 4) : n.rd a = m.rd a := by
  obtain ⟨-, -, -, -, -, -, hrd, -⟩ := h
  exact hrd a h1 h2 h3 h4

end

/-! ### Array operations that act at issue (R213, R239) -/

theorem Mach.arrIssue_alone {m : Mach} {t : Nat} {x : Tile} {o : EngOp} (ha : x.arr = []) (hb : x.barred 0 o.rds o.wrs = false) :
    m.arrIssue t x o = .seq (m.arrEffect t o) := by
  rw [Mach.arrIssue, ha, hb]; rfl

theorem Mach.accclr_steps (m : Mach) {t : Nat} (h : m.issues t 322) (ha : (m.tile t).arr = [])
    (hb : (m.tile t).barred 0 [] [accRange ((m.fetch t).x % 8)] = false) :
    (m.accClear t ((m.fetch t).x % 8)).stepsTo t ((m.accClear t ((m.fetch t).x % 8)).tile t) false false (m.accclr t) := by
  have hcode : (engOp (m.tile t) (m.fetch t) [] [accRange ((m.fetch t).x % 8)]).code = 322 := h.2.2.2
  refine Mach.issue_seq_plain h (List.mem_singleton_self _) ((Mach.arrIssue_alone ha hb).trans ?_) ?_
  · rw [Mach.arrEffect, if_pos hcode]; rfl
  · exact Mach.fld_wr_other _ _ _ _ _ _ (by simp only [A.TILE_PC, A.ACC_STS]; omega)

theorem accclr_outcome (s : State) (t : Fin 80) (h : s.m.issues t 322) (ha : (s.m.tile t).arr = [])
    (hb : (s.m.tile t).barred 0 [] [accRange ((s.m.fetch t).x % 8)] = false) : Gives (.accclr t) s (fun m =>
      let acc := accRange ((s.m.fetch t).x % 8)
      m.rd (A.ACC_STS t ((s.m.fetch t).x % 8)) = 0 ∧ (∀ a, acc.1 ≤ a → a < acc.2 → memWf (s.m.tile t).mem = true → memGet (m.tile t).mem a = 0) ∧
      (∀ a, (a < acc.1 ∨ acc.2 ≤ a) → memWf (s.m.tile t).mem = true → memGet (m.tile t).mem a = memGet (s.m.tile t).mem a) ∧
      m.tilePc t = (loopNext (s.m.tilePc t) (s.m.tile t).loops).1 % 2 ^ 24) := by
  refine gives_onMach (f := fun m => m.accclr t) rfl ?_
  have hstep := s.m.accclr_steps h ha hb
  set a := (s.m.fetch t).x % 8 with hadef
  have htile : (s.m.accClear t a).tile t = { s.m.tile t with
      mem := memZero (s.m.tile t).mem (accRange a).1 0x20000,
      poison := (s.m.tile t).poison.filter (fun l => !((accRange a).1 ≤ 64 * l && 64 * l < (accRange a).2)) } := s.m.tile_setTile_same t _
  have hmem : ∀ j, memGet ((s.m.accclr t).tile t).mem j = if (accRange a).1 ≤ j ∧ j < (accRange a).2 then 0 else memGet (s.m.tile t).mem j := by
    intro j
    rw [Mach.stepsTo_mem hstep, htile, memGet_memZero, show (accRange a).1 + 0x20000 = (accRange a).2 by simp only [accRange]; omega]
  refine ⟨?_, fun j hlo hhi _ => ?_, fun j hj _ => ?_, ?_⟩
  · rw [Mach.stepsTo_rd hstep (by simp only [A.TILE_PC, A.ACC_STS]; omega) (by simp only [A.TILE_SFLAGS, A.ACC_STS]; omega)
      (by simp only [A.CNT_INSTR_LO, A.ACC_STS]; omega) (by simp only [A.CNT_INSTR_LO, A.ACC_STS]; omega)]
    exact rdT_tset_same _ _ _
  · rw [hmem, if_pos ⟨hlo, hhi⟩]
  · rw [hmem, if_neg (by omega)]
  · rw [Mach.stepsTo_pc hstep, htile, show (s.m.accClear t a).tilePc t = s.m.tilePc t from
      Mach.fld_wr_other _ _ _ _ _ _ (by simp only [A.TILE_PC, A.ACC_STS]; omega)]

theorem Mach.accOut_single (m : Mach) {t : Nat} {o : EngOp} (hf : dFmt o.vD = 0) (hr : dRows o.vD = 1) (hc : dCols o.vD = 1)
    (hp : (m.tile t).poisonIn (accAddr (o.x % 8) 0 0) 8 = none) :
    m.accOut t o = m.setTile t ((m.tile t).store (dBase o.vD) (memRead (m.tile t).mem (accAddr (o.x % 8) 0 0) 4)) := by
  have hv : packRow 32 [((m.tile t).accWord (o.x % 8) 0 0).1] = memRead (m.tile t).mem (accAddr (o.x % 8) 0 0) 4 := by
    have := leBytes_leNat (memRead (m.tile t).mem (accAddr (o.x % 8) 0 0) 4)
    rw [memRead_length] at this
    exact (List.append_nil _).trans this
  simp only [Mach.accOut, hf, hr, hc, List.range_one, List.findSome?_cons, List.findSome?_nil, hp, List.foldl_cons, List.foldl_nil, if_true,
    Nat.mul_one, Nat.zero_mul, Nat.add_zero]
  rw [← hv]
  rfl

/-- The checks of an ACCOUT of one integer entry all pass. -/
theorem Mach.accout_single (m : Mach) {t vd : Nat} (h : m.issues t 324) (hvd : (m.tile t).vreg (m.fetch t).d = vd) (ha : (m.tile t).arr = [])
    (hcheck : checkDesc (m.fetch t).d vd true = none) (hspace : dSpace vd = 0) (hf : dFmt vd = 0) (hsp : dSp vd = false) (hbs : dBs vd = false)
    (hr : dRows vd = 1) (hc : dCols vd = 1) (hlim : (m.fetch t).x.testBit 3 = true)
    (hb : (m.tile t).barred 0 [accRange ((m.fetch t).x % 8)] (foot vd) = false)
    (hp : (m.tile t).poisonIn (accAddr ((m.fetch t).x % 8) 0 0) 8 = none) :
    m.stepsTo t ((m.tile t).store (dBase vd) (memRead (m.tile t).mem (accAddr ((m.fetch t).x % 8) 0 0) 4)) false false (m.accout t) := by
  subst hvd
  set o := engOp (m.tile t) (m.fetch t) [accRange ((m.fetch t).x % 8)] (foot ((m.tile t).vreg (m.fetch t).d))
  have hcode : o.code ≠ 322 := by
    rw [show o.code = 324 from h.2.2.2]; decide
  have hissue : m.arrIssue t (m.tile t) o = .seq (m.setTile t ((m.tile t).store (dBase o.vD) (memRead (m.tile t).mem (accAddr (o.x % 8) 0 0) 4))) := by
    rw [Mach.arrIssue_alone ha hb, Mach.arrEffect, if_neg hcode, m.accOut_single (o := o) hf hr hc hp]
  refine Mach.issue_seq _ false false h (List.mem_singleton_self _) ((checked_pass ?_ _).trans hissue)
  rw [hcheck, needLocal, noSp, hspace, hf, hsp, hbs, hr, hc, hlim]; rfl

theorem accout_outcome (s : State) (t : Fin 80) {vd : Nat} (h : s.m.stepsTo t
      ((s.m.tile t).store (dBase vd) (memRead (s.m.tile t).mem (accAddr ((s.m.fetch t).x % 8) 0 0) 4)) false false (s.m.accout t))
    (hwf : memWf (s.m.tile t).mem = true) : Gives (.accout t) s (fun m =>
        memRead (m.tile t).mem (dBase vd) 4 = memRead (s.m.tile t).mem (accAddr ((s.m.fetch t).x % 8) 0 0) 4 ∧
        (∀ a, (a < dBase vd ∨ dBase vd + 4 ≤ a) → memGet (m.tile t).mem a = memGet (s.m.tile t).mem a) ∧
        m.tilePc t = (loopNext (s.m.tilePc t) (s.m.tile t).loops).1 % 2 ^ 24) := by
  refine gives_onMach (f := fun m => m.accout t) rfl ⟨?_, fun a ha => ?_, h.2.1⟩
  · rw [Mach.stepsTo_mem h, Tile.store_mem]
    have hread := memRead_memWrite (s.m.tile t).mem (dBase vd) (memRead (s.m.tile t).mem (accAddr ((s.m.fetch t).x % 8) 0 0) 4) hwf
    rwa [memRead_length] at hread
  · rw [Mach.stepsTo_mem h]
    exact Tile.store_other _ _ _ _ hwf (by rwa [memRead_length])

/-- Settles O16: the queued operations by `engineOp_of_issue`, those of an empty array by their effect at issue. -/
theorem engineIssue : Obligations.EngineIssue := by
  refine ⟨⟨engineOp_mma, ?_, ?_, ?_, engineOp_scatterAdd, fun s t => ⟨accclr_outcome s t, fun h hb => ?_, fun h => ?_, ?_⟩⟩, ?_⟩
  · exact engineOp_of_issue Mach.copy (fun _ _ => rfl) (fun _ _ => rfl) (fun _ _ _ _ => rfl) (fun m t _ _ h => m.dmaIssue_untagged t (h rfl))
  · exact engineOp_of_issue Mach.gather (fun _ _ => rfl) (fun _ _ => rfl) (fun _ _ _ _ => rfl) (fun m t _ _ h => m.dmaIssue_untagged t (h rfl))
  · exact engineOp_of_issue (fun m t => m.scatter t false) (fun _ _ => rfl) (fun _ _ => rfl) (fun _ _ _ _ => firstKF_append_none rfl)
      (fun m t _ _ h => m.dmaIssue_untagged t (h rfl))
  · refine gives_onMach (f := fun m => m.accstat t) rfl (Mach.issue_seq _ false false h (List.mem_singleton_self _) ?_)
    dsimp only
    rw [hb]; rfl
  · exact gives_onMach (f := fun m => m.setmode t) rfl (Mach.issue_seq _ false false h (List.mem_singleton_self _) rfl)
  · intro vd h hvd ha hcheck hspace hf hsp hbs hr hc hlim hb hp hwf
    exact accout_outcome s t (s.m.accout_single h hvd ha hcheck hspace hf hsp hbs hr hc hlim hb hp) hwf
  · refine ⟨?_, ?_, ?_, ?_, ?_, ?_, ?_, ?_, ?_, ?_, ?_, ?_, engineOp_sexp, engineOp_noise⟩
    all_goals exact engineOp_plain fun _ _ => rfl

end Sys2Proof.Machine

namespace Sys2Proof.Machine

/-! ### What an MMA stores (R208, R282) -/

/-- The tile after the rows of a completed MMA have been stored. -/
def Tile.mmaRows (x : Tile) (o : EngOp) : Tile :=
  let w := (List.range (dCols o.vA)).map (x.weightRow o.vB o.ftz)
  (List.range (dRows o.vA)).foldl (fun y r =>
    y.store (accAddr (o.x % 8) r 0) ((List.range (dCols o.vB)).flatMap (fun j =>
      leBytes 4 (x.mmaEntry o (x.operandRow o.vA o.ftz r) w r j).1 ++ leBytes 4 (x.mmaEntry o (x.operandRow o.vA o.ftz r) w r j).2))) x

theorem Tile.storeRows_arr (f : Nat → Nat) (g : Nat → List Byte) (l : List Nat) (x : Tile) :
    (l.foldl (fun y r => y.store (f r) (g r)) x).arr = x.arr := by
  induction l generalizing x with
  | nil => rfl
  | cons r l ih => exact ih _

/-- Rows stored from `lo` on leave what lies below. -/
theorem Tile.storeRows_below {f : Nat → Nat} (g : Nat → List Byte) {lo j : Nat} (hf : ∀ r, lo ≤ f r) (hj : j < lo) (l : List Nat) (x : Tile)
    (h : memWf x.mem = true) : memGet (l.foldl (fun y r => y.store (f r) (g r)) x).mem j = memGet x.mem j := by
  induction l generalizing x with
  | nil => rfl
  | cons r l ih => exact (ih _ (x.store_wf _ _ h)).trans (x.store_other _ _ _ h (.inl (Nat.lt_of_lt_of_le hj (hf r))))

theorem accAddr_ge (a r j : Nat) : 0x700000 ≤ accAddr a r j := by unfold accAddr; omega

/-- An MMA that overwrites and meets no poison stores its rows and counts. -/
theorem Mach.mmaEffect_overwrite (m : Mach) {t : Nat} {o : EngOp} (ha : (m.tile t).poisonDesc o.vA = none)
    (hb : (m.tile t).poisonDesc o.vB = none) (hk : o.x.testBit 3 = false) :
    m.mmaEffect t o = (m.setTile t ((m.tile t).mmaRows o)).accCount t (o.x % 8) (dRows o.vB) false := by
  simp only [Mach.mmaEffect, ha, hb, hk, Bool.false_eq_true, if_false, Option.or_none]
  rfl

theorem Mach.arrDrain_empty (m : Mach) {t : Nat} (h : (m.tile t).arr = []) : ∀ n, m.arrDrain t n = m
  | 0 => rfl
  | n + 1 => by rw [Mach.arrDrain]; simp only [h]

/-- The machine after an MMA that was alone in the array queue. -/
theorem Mach.mmaDone_alone (m : Mach) {t : Nat} {o : EngOp} (hq : (m.tile t).arr = [o]) (hc : o.code = 320)
    (ha : (m.tile t).poisonDesc o.vA = none) (hb : (m.tile t).poisonDesc o.vB = none) (hk : o.x.testBit 3 = false) :
    m.mmaDone t = (m.setTile t (Tile.mmaRows { m.tile t with arr := [] } o)).accCount t (o.x % 8) (dRows o.vB) false := by
  have heff := (m.setTile t { m.tile t with arr := [] }).mmaEffect_overwrite (t := t) (o := o)
    (by rw [m.tile_setTile_same]; exact ha) (by rw [m.tile_setTile_same]; exact hb) hk
  rw [m.tile_setTile_same, m.setTile_setTile] at heff
  simp only [Mach.mmaDone, hq, hc, if_true, heff]
  refine Mach.arrDrain_empty _ ?_ 4
  exact (congrArg Tile.arr (m.tile_setTile_same t _)).trans (Tile.storeRows_arr _ _ _ _)

/-- The counter of an accumulator tile after an MMA that overwrites (R292). -/
theorem Mach.accCount_overwrite (m : Mach) (t a k : Nat) : (m.accCount t a k false).fld (A.ACC_STS t a) 23 0 =
    min k (2 ^ 22) % 2 ^ 22 + 2 ^ 22 * b2n (2 ^ 22 < k) + 2 ^ 23 * (min k (2 ^ 22) / 2 ^ 22) := by
  have hsat : b2n (decide (2 ^ 22 < k)) ≤ 1 := by unfold b2n; split <;> decide
  have hdiv : min k (2 ^ 22) / 2 ^ 22 ≤ 1 := by omega
  rw [Mach.accCount, Mach.fld_wr_same]
  simp only [Bool.false_eq_true, if_false, Bool.false_and, Bool.false_or]
  rw [BitVec.toNat_ofNat, bitsOf_mod32 _ _ _ (by decide), bitsOf, Nat.shiftRight_zero, Nat.mod_eq_of_lt]
  have := Nat.mod_lt (min k (2 ^ 22)) (show 0 < 2 ^ 22 by decide)
  omega

end Sys2Proof.Machine

namespace Sys2Proof.Machine

/-! ### The integer product of one element by one (R282) -/

theorem leBytes_four_zeros {s : Nat} (h : s < 2 ^ 32) : leBytes 4 s ++ leBytes 4 0 = leBytes 8 s := by
  simp only [leBytes_succ, List.cons_append, List.nil_append, show leBytes 0 (s / 256 / 256 / 256 / 256) = [] from rfl]
  rw [show s / 256 / 256 / 256 / 256 = 0 by omega]

theorem memRead_take (m : List Host.Cell) (a : Nat) {k n : Nat} (h : k ≤ n) : (memRead m a n).take k = memRead m a k := by
  rw [memRead, memRead, ← List.map_take, List.take_range, Nat.min_eq_left h]

/-- The only element of a row of one 32-bit integer without block scales. -/
theorem Tile.operandRow_single (x : Tile) {d : Nat} (ftz : Bool) (hf : dFmt d = 0) (hc : dCols d = 1) (hb : dBs d = false) :
    x.operandRow d ftz 0 = [.fin false (leNat (memRead x.mem (dBase d) 4)) 0] := by
  have hlen : 4 ≤ rowBytes d := by
    simp only [rowBytes, rowBits, hf, hc, hb, fmtWidth, cdiv]
    split <;> simp
  have hrow : fieldAt (x.row d 0) 0 4 = leNat (memRead x.mem (dBase d) 4) := by
    rw [fieldAt, List.drop_zero, Tile.row, memRead_take _ _ hlen, Nat.zero_mul, Nat.add_zero]
  simp [Tile.operandRow, hf, hc, hb, fmtWidth, elemAt, elemVal, fmtOf, FVal.ofInt, hrow]

theorem Tile.mmaEntry_single (x : Tile) {o : EngOp} (hf : dFmt o.vA = 0) (hk : o.x.testBit 3 = false) (a b : Nat) :
    x.mmaEntry o [.fin false a 0] [[[.fin false b 0]]] 0 0 = (a * b % 2 ^ 32, 0) := by
  simp [Tile.mmaEntry, hf, hk, FVal.mul]

theorem Tile.mmaRows_single (x : Tile) {o : EngOp} (hfa : dFmt o.vA = 0) (hfb : dFmt o.vB = 0) (hsp : dSp o.vB = false) (hra : dRows o.vA = 1)
    (hca : dCols o.vA = 1) (hcb : dCols o.vB = 1) (hba : dBs o.vA = false) (hbb : dBs o.vB = false) (hk : o.x.testBit 3 = false) :
    x.mmaRows o = x.store (accAddr (o.x % 8) 0 0)
      (leBytes 8 (leNat (memRead x.mem (dBase o.vA) 4) * leNat (memRead x.mem (dBase o.vB) 4) % 2 ^ 32)) := by
  have hw : [0].map (x.weightRow o.vB o.ftz) = [[[.fin false (leNat (memRead x.mem (dBase o.vB) 4)) 0]]] := by
    simp [Tile.weightRow, hsp, x.operandRow_single o.ftz hfb hcb hbb]
  rw [← leBytes_four_zeros (Nat.mod_lt _ (by decide))]
  simp only [Tile.mmaRows, hra, hca, hcb, hw, x.operandRow_single o.ftz hfa hca hba, List.range_one, List.foldl_cons, List.foldl_nil,
    List.flatMap_cons, List.flatMap_nil, x.mmaEntry_single hfa hk, List.append_nil]

/-! ### Transfers and Bronze operations (R234, R324, R327) -/

/-- A COPY of one row between local addresses, the oldest transfer. -/
theorem Mach.dmaTransferDone_row (m : Mach) {t : Nat} {o : EngOp} {r : List EngOp} (hq : (m.tile t).dma = o :: r) (hc : o.code = 256)
    (ha : dSpace o.vA = 0) (hb : dSpace o.vB = 0) (hr : storedRows o.vA = 1)
    (hp : (m.tile t).poisonIn (dBase o.vA) (rowBytes o.vA) = none) :
    m.dmaTransferDone t =
      m.setTile t (Tile.store { m.tile t with dma := r } (dBase o.vB) (memRead (m.tile t).mem (dBase o.vA) (rowBytes o.vA))) := by
  have hread : (m.setTile t { m.tile t with dma := r }).rowRead t ((m.setTile t { m.tile t with dma := r }).tilePart t) o.vA 0 =
      (m.setTile t { m.tile t with dma := r }, .ok (memRead (m.tile t).mem (dBase o.vA) (rowBytes o.vA))) := by
    simp only [Mach.rowRead, ha, if_true, Nat.zero_mul, Nat.add_zero, m.tile_setTile_same]
    rw [show Tile.poisonIn { m.tile t with dma := r } (dBase o.vA) (rowBytes o.vA) = none from hp]
  simp only [Mach.dmaTransferDone, hq, Mach.dmaRun, hc, if_true, hr, Mach.copyRows, hread, Mach.rowWrite, hb, Nat.zero_mul, Nat.add_zero,
    Mach.dmaEnded, m.tile_setTile_same, m.setTile_setTile]

/-- The oldest Bronze operation, a BADD whose sources hold no poison. -/
theorem Mach.bronzeDone_badd (m : Mach) {t : Nat} {o : EngOp} {r : List EngOp} (hq : (m.tile t).brz = o :: r)
    (hp : ∀ e ∈ o.rds, (m.tile t).poisonIn e.1 (e.2 - e.1) = none) (hc : o.code = 388) :
    m.bronzeDone t 0 = m.setTile t (Tile.putRows { m.tile t with brz := r } o.vD ((List.range (dRows o.vA)).map (fun k =>
      addL (modOf o.vA) ((m.tile t).words o.vA k) ((m.tile t).words o.vB k)))) := by
  have hclean : o.rds.findSome? (fun e => Tile.poisonIn { m.tile t with brz := r } e.1 (e.2 - e.1)) = none :=
    List.findSome?_eq_none_iff.2 hp
  simp only [Mach.bronzeDone, hq, Mach.bronzeRun, m.tile_setTile_same, hclean, m.setTile_setTile]
  simp only [Tile.bronzeRows, hc]
  rfl

/-! ### The end of a kernel (R220, R242) -/

theorem Mach.recordFault_outcome (m : Mach) {t : Nat} {f : Nat × Nat × Nat} (hk : m.bit (A.TILE_KFAULT t) 31 = false) (hd : f.2.1 < 2 ^ 64)
    (hpc : f.2.2 < 2 ^ 24) : (m.recordFault t f).tileState t = 4 ∧ (m.recordFault t f).rd (A.TILE_KFAULT t) = BitVec.ofNat 32 (2 ^ 31 + f.1) ∧
      (m.recordFault t f).fld (A.TILE_KFAULT_PC t) 23 0 = f.2.2 ∧ (m.recordFault t f).rd64 (A.TILE_KFAULT_DET_LO t) = f.2.1 ∧
      ((m.recordFault t f).tile t).report = some false := by
  set n := ((m.wr (A.TILE_KFAULT t) (BitVec.ofNat 32 (2 ^ 31 + f.1))).wr (A.TILE_KFAULT_PC t) (BitVec.ofNat 32 f.2.2)) with hn
  have heq : m.recordFault t f =
      ((n.wr64 (A.TILE_KFAULT_DET_LO t) f.2.1).setTile t { m.tile t with fault := none, dmaFail := [], report := some false }).setTileState t 4 := by
    rw [Mach.recordFault, hk]; rfl
  have hrd : ∀ a, a ≠ A.TILE_STS t → (m.recordFault t f).rd a = (n.wr64 (A.TILE_KFAULT_DET_LO t) f.2.1).rd a := fun a ha => by
    rw [heq]; exact Mach.rd_put_other _ _ _ _ _ _ ha
  have hlow : ∀ a, a < A.TILE_KFAULT_DET_LO t → (n.wr64 (A.TILE_KFAULT_DET_LO t) f.2.1).rd a = n.rd a := fun a ha => by
    rw [Mach.wr64, Mach.rd_wr_other _ _ _ _ (by omega), Mach.rd_wr_other _ _ _ _ (by omega)]
  refine ⟨?_, ?_, ?_, ?_, ?_⟩
  · rw [heq]; exact Mach.fld_put_same _ _ _ _ _ (by decide) (by decide)
  · rw [hrd _ (by simp only [A.TILE_KFAULT, A.TILE_STS]; omega), hlow _ (by simp only [A.TILE_KFAULT, A.TILE_KFAULT_DET_LO]; omega), hn,
      Mach.rd_wr_other _ _ _ _ (by simp only [A.TILE_KFAULT, A.TILE_KFAULT_PC]; omega), Mach.rd_wr_same]
  · rw [Mach.fld, hrd _ (by simp only [A.TILE_KFAULT_PC, A.TILE_STS]; omega), hlow _ (by simp only [A.TILE_KFAULT_PC, A.TILE_KFAULT_DET_LO]; omega),
      hn, Mach.rd_wr_same, BitVec.toNat_ofNat, bitsOf_mod32 _ _ _ (by decide)]
    exact Nat.mod_eq_of_lt hpc
  · rw [Mach.rd64, hrd _ (by simp only [A.TILE_KFAULT_DET_LO, A.TILE_STS]; omega), hrd _ (by simp only [A.TILE_KFAULT_DET_LO, A.TILE_STS]; omega)]
    exact rd64_wr64 _ _ _ hd
  · rw [heq]; exact congrArg Tile.report (Mach.tile_setTile_same _ _ _)

/-- Settles O18: each completion by the machine it leaves. -/
theorem engineCompletions : Obligations.EngineCompletions := by
  intro s t x
  refine ⟨fun o hq hc ha hb hk => ?_, fun o hq hc hfa hsp hra hca hrb hcb hba hbb hfb _ _ ha hb hk hwf => ?_,
    fun o r hq hc ha hb hr hp => ?_, fun o r hq hp hc => ?_, fun f hst hf hdr hk _ hd hpc => ?_, fun hst he hdr hf hdma => ?_⟩
  · refine gives_onMach (f := fun m => m.mmaDone t) rfl ?_
    have htile : (s.m.mmaDone t).tile t = Tile.mmaRows { x with arr := [] } o := by
      rw [s.m.mmaDone_alone hq hc ha hb hk]; exact s.m.tile_setTile_same t _
    refine ⟨?_, ?_, fun j hj hwf => ?_⟩
    · rw [htile]; exact Tile.storeRows_arr _ _ _ _
    · rw [s.m.mmaDone_alone hq hc ha hb hk]; exact Mach.accCount_overwrite _ _ _ _
    · rw [htile]; exact Tile.storeRows_below _ (fun r => accAddr_ge _ r 0) hj _ _ hwf
  · refine gives_onMach (f := fun m => m.mmaDone t) rfl ?_
    have htile : (s.m.mmaDone t).tile t = Tile.mmaRows { x with arr := [] } o := by
      rw [s.m.mmaDone_alone hq hc ha hb hk]; exact s.m.tile_setTile_same t _
    have hread := memRead_memWrite x.mem (accAddr (o.x % 8) 0 0)
      (leBytes 8 (leNat (memRead x.mem (dBase o.vA) 4) * leNat (memRead x.mem (dBase o.vB) 4) % 2 ^ 32)) hwf
    rw [leBytes_length] at hread
    rw [htile, Tile.mmaRows_single _ hfa hfb hsp hra hca hcb hba hbb hk, Tile.store_mem, hread, leNat_leBytes]
    exact Nat.mod_eq_of_lt (lt_trans (Nat.mod_lt _ (by decide)) (by decide))
  · refine gives_onMach (f := fun m => m.dmaTransferDone t) rfl ?_
    rw [s.m.dmaTransferDone_row hq hc ha hb hr hp]
    exact ⟨s.m.tile_setTile_same t _, fun _ => rfl⟩
  · refine gives_onMach (f := fun m => m.bronzeDone t 0) rfl ?_
    rw [s.m.bronzeDone_badd hq hp hc]
    exact ⟨s.m.tile_setTile_same t _, fun _ => rfl⟩
  · have hdue : x.dueFault (s.m.tilePc t) = some f := by rw [Tile.dueFault, hf]
    have heq : s.m.kernelFaultRecord t = s.m.recordFault t f := by
      rw [Mach.kernelFaultRecord, hdue]; exact if_pos hdr
    exact gives_due (fun m => m.tileState t = 3) (f := fun m => m.kernelFaultRecord t) rfl hst (heq ▸ s.m.recordFault_outcome hk hd hpc)
  · have hnone : (x.dueFault 0).isNone = true := by rw [Tile.dueFault, hf, he, hdma]; rfl
    refine gives_onMach (f := fun m => if m.tileState t = 3 && (m.tile t).ended && (m.tile t).drained && ((m.tile t).dueFault 0).isNone
      then m.kernelReport t else m) rfl ?_
    rw [hst, he, hdr, hnone]
    exact ⟨Mach.fld_put_same _ _ _ _ _ (by decide) (by decide), congrArg Tile.report (s.m.tile_setTile_same t _),
      congrArg Tile.ended (s.m.tile_setTile_same t _)⟩

end Sys2Proof.Machine

namespace Sys2Proof.Machine

/-! ### The registers that a finished migration leaves (R245, R253) -/

theorem Mach.tileSlot_lt (m : Mach) (t : Nat) : m.tileSlot t < 32 := by
  have h := bitsOf_lt (m.rd (A.CLU_MAP (t / 20) (t % 20 / 4))).toNat (8 * (t % 4) + 4) (8 * (t % 4))
  rwa [show 8 * (t % 4) + 4 + 1 - 8 * (t % 4) = 5 by omega] at h

/-- The map and status of a cluster once its spare serves tile `t`. -/
def Mach.spareServes (m : Mach) (t : Nat) : Mach :=
  let c := t / 20
  ((((m.putBit (A.CLU_FAILED c) (m.tileSlot t) true).put (A.CLU_MAP c (t % 20 / 4)) (8 * (t % 4) + 7) (8 * (t % 4))
    (m.fld (A.CLU_STS c) 4 0)).put (A.CLU_STS c) 4 0 0x1F).putBit (A.TILE_STS t) 30 true)

/-- The remap that asked for the migration of `t` is over. -/
def Mach.remapOver (m : Mach) (t : Nat) : Mach :=
  if m.bit (A.CLU_REMAP (t / 20)) 31 && m.fld (A.CLU_REMAP (t / 20)) 4 0 = t % 20 then m.putBit (A.CLU_REMAP (t / 20)) 31 false else m

/-- A failed unit `t` is healthy again. -/
def Mach.unitHealed (m : Mach) (t : Nat) : Mach := if m.fld (A.FLT_USTS t) 31 29 = 4 then m.put (A.FLT_USTS t) 31 29 1 else m

theorem Mach.remapOver_rd (m : Mach) {t a : Nat} (h : a ≠ A.CLU_REMAP (t / 20)) : (m.remapOver t).rd a = m.rd a := by
  unfold Mach.remapOver
  split
  · exact m.rd_putBit_other _ _ _ _ h
  · rfl

theorem Mach.remapOver_tile (m : Mach) (t u : Nat) : (m.remapOver t).tile u = m.tile u := by
  unfold Mach.remapOver
  split <;> rfl

theorem Mach.unitHealed_rd (m : Mach) {t a : Nat} (h : a ≠ A.FLT_USTS t) : (m.unitHealed t).rd a = m.rd a := by
  unfold Mach.unitHealed
  split
  · exact m.rd_put_other _ _ _ _ _ h
  · rfl

/-- A tile that was idle when it failed is idle again when its spare takes over. -/
theorem Mach.migrationDone_idle (m : Mach) {t : Nat} (bad : List Nat) (h : (m.tile t).migFrom = some 0) : m.migrationDone t bad =
    (((((m.spareServes t).remapOver t).unitHealed t).setTile t { m.tile t with
      migFrom := none, poison := ((m.tile t).poison ++ bad.filter (fun l => l < 0x20000)).eraseDups }).setTileState t 0) := by
  have htile : ((m.spareServes t).remapOver t).tile t = m.tile t := (m.spareServes t).remapOver_tile t t
  have hst : (((m.spareServes t).remapOver t).tile t).migFrom.getD 0 = 0 := by rw [htile, h]; rfl
  have hne : ¬(decide ((((m.spareServes t).remapOver t).tile t).migFrom.getD 0 = 2) ||
      decide ((((m.spareServes t).remapOver t).tile t).migFrom.getD 0 = 3)) = true := by rw [hst]; decide
  rw [← htile]
  exact (if_neg hne).trans (congrArg _ hst)

/-- The low part of a field that has just been written. -/
theorem Mach.fld_put_low (m : Mach) (a : Nat) {hi lo k : Nat} (v : Nat) (hlo : lo ≤ k) (hk : k ≤ hi) (h32 : hi < 32) :
    (m.put a hi lo v).fld a k lo = v % 2 ^ (k + 1 - lo) := by
  rw [Mach.put, Mach.fld_wr_same, BitVec.toNat_ofNat, bitsOf_mod32 _ _ _ (by omega)]
  apply Nat.eq_of_testBit_eq
  intro i
  rw [bitsOf_testBit, withBits_testBit _ _ _ _ _ (by omega), Nat.testBit_mod_two_pow]
  by_cases hi' : i < k + 1 - lo
  · have : lo + i ≤ hi := by omega
    simp [hi', this]
  · simp [hi']

section

variable (m : Mach) {t : Nat}

/-- A finished migration of an idle tile leaves what `spareServes` writes. -/
theorem Mach.migrationDone_rd (bad : List Nat) (h : (m.tile t).migFrom = some 0) {a : Nat} (h1 : a ≠ A.CLU_REMAP (t / 20))
    (h2 : a ≠ A.FLT_USTS t) (h3 : a ≠ A.TILE_STS t) : (m.migrationDone t bad).rd a = (m.spareServes t).rd a := by
  rw [m.migrationDone_idle bad h]
  exact (Mach.rd_put_other _ _ _ _ _ _ h3).trans ((Mach.unitHealed_rd _ h2).trans (Mach.remapOver_rd _ h1))

theorem Mach.spareServes_slot : (m.spareServes t).tileSlot t = m.fld (A.CLU_STS (t / 20)) 4 0 := by
  have hlt : m.fld (A.CLU_STS (t / 20)) 4 0 < 2 ^ 5 := bitsOf_lt _ _ _
  rw [Mach.tileSlot, Mach.spareServes, Mach.fld_putBit_other _ _ _ _ _ _ _ (by simp only [A.CLU_MAP, A.TILE_STS]; omega),
    Mach.fld_put_other _ _ _ _ _ _ _ _ (by simp only [A.CLU_MAP, A.CLU_STS]; omega), Mach.fld_put_low _ _ _ (by omega) (by omega) (by omega),
    show 8 * (t % 4) + 4 + 1 - 8 * (t % 4) = 5 by omega]
  exact Nat.mod_eq_of_lt hlt

theorem Mach.spareServes_failed : (m.spareServes t).bit (A.CLU_FAILED (t / 20)) (m.tileSlot t) = true := by
  rw [Mach.spareServes, Mach.bit_putBit_other _ _ _ _ _ _ (by simp only [A.CLU_FAILED, A.TILE_STS]; omega),
    Mach.bit_put_other _ _ _ _ _ _ _ (by simp only [A.CLU_FAILED, A.CLU_STS]; omega),
    Mach.bit_put_other _ _ _ _ _ _ _ (by simp only [A.CLU_FAILED, A.CLU_MAP]; omega), Mach.bit_putBit_same _ _ _ _ (m.tileSlot_lt t)]

theorem Mach.spareServes_spare (ht : t < 80) : (m.spareServes t).fld (A.CLU_STS (t / 20)) 4 0 = 0x1F := by
  rw [Mach.spareServes, Mach.fld_putBit_other _ _ _ _ _ _ _ (by simp only [A.CLU_STS, A.TILE_STS]; omega)]
  exact Mach.fld_put_same _ _ _ _ _ (by decide) (by decide)

/-- What a finished migration of an idle tile tells in the tile's and the cluster's registers. -/
theorem Mach.migrationDone_outcome (ht : t < 80) (bad : List Nat) (h : (m.tile t).migFrom = some 0) :
    (m.migrationDone t bad).tileState t = 0 ∧ (m.migrationDone t bad).bit (A.TILE_STS t) 30 = true ∧
    (m.migrationDone t bad).fld (A.CLU_STS (t / 20)) 4 0 = 0x1F ∧ (m.migrationDone t bad).tileSlot t = m.fld (A.CLU_STS (t / 20)) 4 0 ∧
    (m.migrationDone t bad).bit (A.CLU_FAILED (t / 20)) (m.tileSlot t) = true := by
  have hrd : ∀ a, 0xc00000 ≤ a → a ≠ A.CLU_REMAP (t / 20) → (m.migrationDone t bad).rd a = (m.spareServes t).rd a := fun a ha h1 =>
    m.migrationDone_rd bad h h1 (by simp only [A.FLT_USTS]; omega) (by simp only [A.TILE_STS]; omega)
  refine ⟨?_, ?_, ?_, ?_, ?_⟩
  · rw [m.migrationDone_idle bad h]
    exact Mach.fld_put_same _ _ _ _ _ (by decide) (by decide)
  · rw [m.migrationDone_idle bad h]
    refine (Mach.bit_put_disjoint _ _ _ _ _ _ (by decide) (by decide) (by decide)).trans ?_
    have hkeep : (((m.spareServes t).remapOver t).unitHealed t).rd (A.TILE_STS t) = (m.spareServes t).rd (A.TILE_STS t) :=
      (Mach.unitHealed_rd _ (by simp only [A.FLT_USTS, A.TILE_STS]; omega)).trans
        (Mach.remapOver_rd _ (by simp only [A.CLU_REMAP, A.TILE_STS]; omega))
    exact (congrArg (fun w : Word => bitOf w.toNat 30) hkeep).trans (Mach.bit_putBit_same _ _ _ _ (by decide))
  · rw [Mach.fld, hrd _ (by simp only [A.CLU_STS]; omega) (by simp only [A.CLU_STS, A.CLU_REMAP]; omega)]
    exact m.spareServes_spare ht
  · rw [Mach.tileSlot, Mach.fld, hrd _ (by simp only [A.CLU_MAP]; omega) (by simp only [A.CLU_MAP, A.CLU_REMAP]; omega)]
    exact m.spareServes_slot
  · rw [Mach.bit, hrd _ (by simp only [A.CLU_FAILED]; omega) (by simp only [A.CLU_FAILED, A.CLU_REMAP]; omega)]
    exact m.spareServes_failed

end

/-! ### The remap command (R253) -/

/-- ERR cleared where the command says so. -/
def Mach.remapCleared (m : Mach) (c v : Nat) : Mach := if bitOf v 30 then m.putBit (A.CLU_REMAP c) 30 false else m

theorem Mach.remapCleared_rd (m : Mach) (c v : Nat) {a : Nat} (h : a ≠ A.CLU_REMAP c) : (m.remapCleared c v).rd a = m.rd a := by
  unfold Mach.remapCleared
  split
  · exact m.rd_putBit_other _ _ _ _ h
  · rfl

theorem Mach.remapCleared_busy (m : Mach) (c v : Nat) : (m.remapCleared c v).bit (A.CLU_REMAP c) 31 = m.bit (A.CLU_REMAP c) 31 := by
  unfold Mach.remapCleared
  split
  · exact m.bit_putBit_bit _ _ _ _ (by decide) (by decide)
  · rfl

/-- CLU_REMAP as a command that starts a migration leaves it. -/
def Mach.remapStarts (m : Mach) (c v : Nat) : Mach :=
  ((m.remapCleared c v).put (A.CLU_REMAP c) 4 0 (bitsOf v 4 0)).putBit (A.CLU_REMAP c) 31 true

theorem Mach.remapStarts_rd (m : Mach) (c v : Nat) {a : Nat} (h : a ≠ A.CLU_REMAP c) : (m.remapStarts c v).rd a = m.rd a :=
  (Mach.rd_putBit_other _ _ _ _ _ h).trans ((Mach.rd_put_other _ _ _ _ _ _ h).trans (m.remapCleared_rd c v h))

/-- A command that names a tile with its spare free starts that tile's migration. -/
theorem Mach.writeRemap_starts (m : Mach) {c v t : Nat} (hc : c = t / 20) (hlt : bitsOf v 4 0 = t % 20) (hv : bitOf v 31 = true)
    (hidle : m.bit (A.CLU_REMAP c) 31 = false) (hs : m.spareUsed c = false) (hl : m.tileLost t = false) :
    m.writeRemap c v = (m.remapStarts c v).migrate t := by
  have htile : 20 * c + bitsOf v 4 0 = t := by omega
  have hrd : ∀ a, a ≠ A.CLU_REMAP c → ((m.remapCleared c v).put (A.CLU_REMAP c) 4 0 (bitsOf v 4 0)).rd a = m.rd a := fun a h =>
    (Mach.rd_put_other _ _ _ _ _ _ h).trans (m.remapCleared_rd c v h)
  have hfree : ((m.remapCleared c v).put (A.CLU_REMAP c) 4 0 (bitsOf v 4 0)).spareUsed c = false := by
    rw [Mach.spareUsed, Mach.bit, hrd _ (by simp only [A.CLU_STS, A.CLU_REMAP]; omega)]; exact hs
  have hlive : ((m.remapCleared c v).put (A.CLU_REMAP c) 4 0 (bitsOf v 4 0)).tileLost (20 * c + bitsOf v 4 0) = false := by
    rw [htile, Mach.tileLost, Mach.bit, hrd _ (by simp only [A.TILE_STS, A.CLU_REMAP]; omega)]; exact hl
  have hbusy : (m.remapCleared c v).bit (A.CLU_REMAP c) 31 = false := (m.remapCleared_busy c v).trans hidle
  have hok : decide (19 < bitsOf v 4 0) = false := decide_eq_false (by omega)
  refine (if_neg (by rw [← Bool.not_eq_true] at hbusy; exact hbusy)).trans ?_
  rw [hv]
  refine (if_neg (by decide)).trans ((if_neg ?_).trans (by rw [htile]; rfl))
  rw [hok]
  simp only [Mach.remapCleared] at hfree hlive
  rw [hfree, hlive]
  decide

/-- The tile and the registers once a migration has begun (R245). -/
theorem Mach.migrate_outcome (m : Mach) {t : Nat} (ht : t < 80) : (m.migrate t).tileState t = 5 ∧ (m.migrate t).spareUsed (t / 20) = true ∧
    ((m.migrate t).tile t).migFrom = some (m.tileState t) := by
  refine ⟨Mach.fld_put_same _ _ _ _ _ (by decide) (by decide), ?_, congrArg Tile.migFrom (m.tile_setTile_same t _)⟩
  exact (Mach.bit_put_other _ _ _ _ _ _ _ (by simp only [A.CLU_STS, A.TILE_STS]; omega)).trans (Mach.bit_putBit_same _ _ _ _ (by decide))

theorem Mach.migrate_rd (m : Mach) {t a : Nat} (h1 : a ≠ A.CLU_STS (t / 20)) (h2 : a ≠ A.TILE_STS t) : (m.migrate t).rd a = m.rd a :=
  (Mach.rd_put_other _ _ _ _ _ _ h2).trans (Mach.rd_putBit_other _ _ _ _ _ h1)

/-- Settles O32: levels by the branch that the gate run takes, migrations by the registers they write. -/
theorem gateAndSpareEvents : Obligations.GateAndSpareEvents := by
  intro s t
  have ht : t.val < 80 := t.isLt
  refine ⟨fun h hon hb hr => ?_, fun h m1 hon hb hr hl hcopy => ?_, fun h m1 hon hb hr hl hcopy => ?_, fun bad hst hfrom => ?_, fun bad hst => ?_,
    fun who c v hc hw hv hidle hlt hs hl => ?_⟩
  · refine gives_onMach (f := fun m => match m.gateOn t with
      | some g => if !g.busy && m.gateReady g then m.levelStart g else m
      | none => m) rfl ?_
    rw [hon]
    exact if_pos (by rw [hb, hr]; rfl)
  · refine gives_onMach (f := fun m => match m.gateOn t with
      | some g => if g.busy && m.gateReady g then m.levelCopied g else m
      | none => m) rfl ?_
    rw [hon]
    refine (if_pos (by rw [hb, hr]; rfl)).trans ?_
    simp only [Mach.levelCopied, hcopy, hl, if_true]
  · refine gives_onMach (f := fun m => match m.gateOn t with
      | some g => if g.busy && m.gateReady g then m.levelCopied g else m
      | none => m) rfl ?_
    rw [hon]
    refine (if_pos (by rw [hb, hr]; rfl)).trans ?_
    simp only [Mach.levelCopied, hcopy, Nat.not_lt.2 hl, if_false]
  · exact gives_due (fun m => m.tileState t = 5) (f := fun m => m.migrationDone t bad) rfl hst (s.m.migrationDone_outcome ht bad hfrom)
  · exact unmoved_not_due (fun m => m.tileState t = 5) (f := fun m => m.migrationDone t bad) rfl hst
  · have hstart := s.m.writeRemap_starts hc hlt hv hidle hs hl
    obtain ⟨hstate, hused, hfrom⟩ := (s.m.remapStarts c v.toNat).migrate_outcome ht
    refine gives_writeWhen rfl hv (s.m.write_CLU_REMAP who _ c v.isLt hw) (hstart ▸ ⟨rfl, hstate, ?_, hc ▸ hused, ?_⟩)
    · refine (congrArg (fun w : Word => bitOf w.toNat 31) (Mach.migrate_rd _ ?_ ?_)).trans (Mach.bit_putBit_same _ _ _ _ (by decide))
      · simp only [A.CLU_REMAP, A.CLU_STS]; omega
      · simp only [A.CLU_REMAP, A.TILE_STS]; omega
    · refine hfrom.trans (congrArg some ?_)
      exact congrArg (fun w : Word => bitsOf w.toNat 3 0) (s.m.remapStarts_rd _ _ (by simp only [A.CLU_REMAP, A.TILE_STS]; omega))

end Sys2Proof.Machine

namespace Sys2Proof.Machine

/-! ### Reads of registers of one word -/

/-- A one-word register, readable in every bit and left by a read as it was. -/
def plainRead (off p o : Nat) : Bool :=
  oneWord off p o && (rowIn (pageRows p) o).any (fun r => fldMask r (fun a => a = .rc) = 0 &&
    BitVec.ofNat 32 (fldMask r (fun a => a ≠ .wo && a ≠ .sec)) = BitVec.allOnes 32)

theorem Mach.readRow_plain (m : Mach) (who : Ident) {p o : Nat} {r : RegRow} (hw : mwInfo p o r = (1, 0)) (hc : fldMask r (fun a => a = .rc) = 0)
    (hm : BitVec.ofNat 32 (fldMask r (fun a => a ≠ .wo && a ≠ .sec)) = BitVec.allOnes 32) : m.readRow who p o r = m.fetchReg who p o := by
  unfold Mach.readRow
  rw [hw]
  dsimp only
  rw [if_neg (by decide), hm, BitVec.and_allOnes, Mach.readClear, hc]
  rfl

theorem Mach.readCmd_plain (m : Mach) {who : Ident} {off p o : Nat} (hr : plainRead off p o = true) (h : m.readOpen who off) :
    m.readCmd who off = { (m.fetchReg who p o).1 with resp := [(0, (m.fetchReg who p o).2)] } := by
  obtain ⟨hs, hreach, hallow⟩ := h
  simp only [plainRead, oneWord, Bool.and_eq_true, decide_eq_true_eq] at hr
  obtain ⟨⟨⟨⟨⟨⟨hp, ho⟩, hal⟩, hlow⟩, ht⟩, hmw⟩, hplain⟩ := hr
  cases hrow : rowIn (pageRows p) o with
  | none => simp [hrow] at hmw
  | some r =>
    simp only [hrow, Option.any_some, Bool.and_eq_true, decide_eq_true_eq] at hmw hplain
    refine Mach.readCmd_of_regRead hs ?_
    subst hp ho
    have hdata : dataMark (resolvePage (off / 0x1000 % 0x1000)) (resolveOff (resolvePage (off / 0x1000 % 0x1000)) (off % 0x1000)) = r.data := by
      rw [dataMark, if_neg (by omega), hrow]
    rw [hdata] at hallow
    simp only [Mach.regRead, hrow, hallow, hreach, hal, m.readRow_plain who hmw hplain.1 hplain.2]
    rw [if_neg (by decide), if_neg (by simp; omega), if_neg (by decide), if_neg (by omega), if_neg (by omega)]

theorem plainRead_SILT_RAW : plainRead A.SILT_RAW 0x051 0x40 = true := by decide

theorem plainRead_SILT_DATA : ∀ p : Fin 16, plainRead (A.SILT_DATA p.val) 0x052 (0x100 + 0x10 * p.val) = true := by decide

theorem Mach.fetchReg_SILT_DATA (m : Mach) (who : Ident) (p : Fin 16) : m.fetchReg who 0x052 (0x100 + 0x10 * p.val) = m.siltData p.val := by
  have hp := p.isLt
  refine (if_pos ?_).trans (by rw [show (0x100 + 0x10 * p.val - 0x100) / 16 = p.val by omega])
  simp only [Bool.and_eq_true, decide_eq_true_eq]
  exact ⟨⟨⟨trivial, by omega⟩, by omega⟩, by omega⟩

theorem Mach.fetchReg_SILT_RAW (m : Mach) (who : Ident) : m.fetchReg who 0x051 0x40 = m.siltRaw := rfl

end Sys2Proof.Machine

namespace Sys2Proof.Machine

/-! ### The entropy source's registers -/

theorem Mach.setSiltState_state (m : Mach) {st : Nat} (h : st < 8) : (m.setSiltState st).siltState = st :=
  (m.fld_put_same _ _ _ _ (by decide) (by decide)).trans (Nat.mod_eq_of_lt h)

theorem Mach.setSiltState_bit_other (m : Mach) (st : Nat) {a : Nat} (i : Nat) (h : a ≠ A.SILT_STS) : (m.setSiltState st).bit a i = m.bit a i :=
  m.bit_put_other _ _ _ _ _ _ h

theorem Mach.siltState_of_rd {m n : Mach} (h : m.rd A.SILT_STS = n.rd A.SILT_STS) : m.siltState = n.siltState :=
  congrArg (fun w : Word => bitsOf w.toNat 2 0) h

theorem Mach.drbgOn_of_rd {m n : Mach} {i : Nat} (h : m.rd (A.DRBG_STS i) = n.rd (A.DRBG_STS i)) : m.drbgOn i = n.drbgOn i :=
  congrArg (fun w : Word => bitOf w.toNat 31) h

/-! ### Start-up (R584) -/

theorem Mach.siltStarted_passed (m : Mach) : (m.siltStarted none).siltState = 1 ∧ (m.siltStarted none).bit A.SILT_CTL 0 = false ∧
    (m.siltStarted none).silt.held = 0 ∧ (m.siltStarted none).silt.next = 0 :=
  ⟨Mach.setSiltState_state _ (by decide),
    (Mach.setSiltState_bit_other _ _ _ (by decide)).trans (m.bit_putBit_same A.SILT_CTL 0 false (by decide)), rfl, rfl⟩

theorem Mach.siltStarted_failed (m : Mach) (i : Fin 38) : (m.siltStarted (some i)).siltState = 4 ∧
    (m.siltStarted (some i)).bit (A.DRBG_STS i.val) 30 = true ∧ (m.siltStarted (some i)).raised = m.raised ++ [(0x21, 0x132, i.val)] :=
  ⟨Mach.setSiltState_state ((m.putBit A.SILT_CTL 0 false).putBit (A.DRBG_STS i) 30 true) (by decide),
    (Mach.setSiltState_bit_other ((m.putBit A.SILT_CTL 0 false).putBit (A.DRBG_STS i) 30 true) _ _
      (by simp only [A.DRBG_STS, A.SILT_STS]; omega)).trans (Mach.bit_putBit_same _ _ _ _ (by decide)), rfl⟩

/-! ### A cell that fails a health test (R586) -/

theorem Mach.putDrbgs_rd (on : Bool) (l : List Nat) {a : Nat} (h : ∀ i ∈ l, a ≠ A.DRBG_STS i) (m : Mach) :
    (l.foldl (fun n i => n.putBit (A.DRBG_STS i) 31 on) m).rd a = m.rd a :=
  foldl_keeps l _ (fun n => n.rd a) (fun n i hi => n.rd_putBit_other _ _ _ _ (h i hi)) m

theorem Mach.putDrbgs_on (on : Bool) (l : List Nat) {i : Nat} (h : i ∈ l) (m : Mach) :
    (l.foldl (fun n i => n.putBit (A.DRBG_STS i) 31 on) m).drbgOn i = on := by
  induction l generalizing m with
  | nil => cases h
  | cons j r ih =>
    rw [List.foldl_cons]
    by_cases hr : i ∈ r
    · exact ih hr _
    · have hij : i = j := (List.mem_cons.1 h).resolve_right hr
      subst hij
      refine (Mach.drbgOn_of_rd (Mach.putDrbgs_rd on r (fun k hk he => hr ?_) _)).trans (m.bit_putBit_same _ _ _ (by decide))
      rwa [show i = k by simp only [A.DRBG_STS] at he; omega]

theorem Mach.stopDrbgs_rd (m : Mach) {a : Nat} (h : a < A.DRBG_STS 0) : m.stopDrbgs.rd a = m.rd a := by
  unfold Mach.stopDrbgs
  exact Mach.putDrbgs_rd false _ (fun i _ => by simp only [A.DRBG_STS] at h ⊢; omega) m

theorem Mach.stopDrbgs_off (m : Mach) (i : Fin 38) : m.stopDrbgs.drbgOn i = false := by
  unfold Mach.stopDrbgs
  exact Mach.putDrbgs_on false _ (List.mem_range.2 i.isLt) m

theorem Mach.stopDrbgs_silt (m : Mach) : m.stopDrbgs.silt = m.silt := by
  unfold Mach.stopDrbgs
  exact foldl_keeps (List.range 38) (fun a i => a.putBit (A.DRBG_STS i) 31 false) Mach.silt (fun _ _ _ => rfl) m

theorem Mach.stopDrbgs_raised (m : Mach) : m.stopDrbgs.raised = m.raised := by
  unfold Mach.stopDrbgs
  exact foldl_keeps (List.range 38) (fun a i => a.putBit (A.DRBG_STS i) 31 false) Mach.raised (fun _ _ _ => rfl) m

/-- The failure of a cell in its registers and counts, before the source stops. -/
def Mach.cellFailed (m : Mach) (c : Nat) (apt : Bool) : Mach :=
  let m := (m.putBit A.SILT_STS (24 + c) true).putBit (A.SILT_CELL c) (if apt then 30 else 31) true
  let m := m.bumpF A.SILT_DISCARD 31 0 m.silt.held
  { m with silt := { m.silt with held := 0, lfsr := 0 } }.bumpF A.SILT_FAILS 1 0 1

/-- The state that a failed source takes (R586). -/
def Mach.stopState (m : Mach) : Nat := if m.fld A.SILT_FAILS 1 0 = 3 then 4 else 3

theorem Mach.siltFail_eq (m : Mach) (c : Nat) (apt : Bool) : m.siltFail c apt =
    (((m.cellFailed c apt).stopDrbgs.putBit A.SILT_CTL 0 false).setSiltState (m.cellFailed c apt).stopState).raiseFault 0x20 0x132
      (c + 256 * b2n apt) := by
  unfold Mach.siltFail Mach.cellFailed Mach.stopState
  rfl

theorem Mach.cellFailed_sts (m : Mach) {c : Nat} (hc : c < 8) (apt : Bool) : (m.cellFailed c apt).bit A.SILT_STS (24 + c) = true :=
  (Mach.bit_bumpF_other _ _ _ _ _ _ _ (by decide)).trans ((Mach.bit_bumpF_other _ _ _ _ _ _ _ (by decide)).trans
    ((Mach.bit_putBit_other _ _ _ _ _ _ (by simp only [A.SILT_STS, A.SILT_CELL]; omega)).trans (m.bit_putBit_same _ _ _ (by omega))))

theorem Mach.cellFailed_held (m : Mach) (c : Nat) (apt : Bool) : (m.cellFailed c apt).silt.held = 0 := rfl

theorem Mach.cellFailed_raised (m : Mach) (c : Nat) (apt : Bool) : (m.cellFailed c apt).raised = m.raised := rfl

theorem Mach.cellFailed_state (m : Mach) (c : Nat) (apt : Bool) :
    (m.cellFailed c apt).stopState = if 2 ≤ m.fld A.SILT_FAILS 1 0 then 4 else 3 := by
  have hlt : m.fld A.SILT_FAILS 1 0 < 4 := bitsOf_lt _ _ _
  have hold : ∀ (k : SiltSt) (n : Nat), ({ ((m.putBit A.SILT_STS (24 + c) true).putBit (A.SILT_CELL c) (if apt then 30 else 31) true).bumpF A.SILT_DISCARD
      31 0 n with silt := k } : Mach).fld A.SILT_FAILS 1 0 = m.fld A.SILT_FAILS 1 0 := fun k n =>
    (Mach.fld_bumpF_other _ _ _ _ _ _ _ _ (by decide)).trans ((Mach.fld_putBit_other _ _ _ _ _ _ _
      (by simp only [A.SILT_FAILS, A.SILT_CELL]; omega)).trans (m.fld_putBit_other _ _ _ _ _ _ (by decide)))
  have hnew : (m.cellFailed c apt).fld A.SILT_FAILS 1 0 = min (m.fld A.SILT_FAILS 1 0 + 1) 3 := by
    refine (Mach.fld_put_same _ _ _ _ _ (by decide) (by decide)).trans ?_
    rw [hold]
    omega
  rw [Mach.stopState, hnew]
  congr 1
  rw [eq_iff_iff]
  omega

/-- The source stopped in the state `st`, with its failure raised. -/
def Mach.siltStops (m : Mach) (st detail : Nat) : Mach := ((m.putBit A.SILT_CTL 0 false).setSiltState st).raiseFault 0x20 0x132 detail

section

variable (m : Mach) {st : Nat} (detail : Nat)

theorem Mach.siltStops_silt : (m.siltStops st detail).silt = m.silt := rfl

theorem Mach.siltStops_raised : (m.siltStops st detail).raised = m.raised ++ [(0x20, 0x132, detail)] := rfl

theorem Mach.siltStops_state (h : st < 8) : (m.siltStops st detail).siltState = st := Mach.setSiltState_state (m.putBit A.SILT_CTL 0 false) h

theorem Mach.siltStops_sts {i : Nat} (h : 2 < i) (h32 : i < 32) : (m.siltStops st detail).bit A.SILT_STS i = m.bit A.SILT_STS i :=
  (Mach.bit_put_disjoint (m.putBit A.SILT_CTL 0 false) _ _ _ _ _ (by decide) h32 (.inr h)).trans (m.bit_putBit_other _ _ _ _ _ (by decide))

theorem Mach.siltStops_drbg (i : Nat) : (m.siltStops st detail).drbgOn i = m.drbgOn i :=
  Mach.drbgOn_of_rd ((Mach.rd_put_other _ _ _ _ _ _ (by simp only [A.DRBG_STS, A.SILT_STS]; omega)).trans
    (m.rd_putBit_other _ _ _ _ (by simp only [A.DRBG_STS, A.SILT_CTL]; omega)))

end

theorem Mach.siltFail_outcome (m : Mach) {c : Nat} (hc : c < 8) (apt : Bool) : (m.siltFail c apt).bit A.SILT_STS (24 + c) = true ∧
    (m.siltFail c apt).silt.held = 0 ∧ (m.siltFail c apt).siltState = (if 2 ≤ m.fld A.SILT_FAILS 1 0 then 4 else 3) ∧
    (∀ i : Fin 38, (m.siltFail c apt).drbgOn i = false) ∧ (m.siltFail c apt).raised = m.raised ++ [(0x20, 0x132, c + 256 * b2n apt)] := by
  have heq : m.siltFail c apt = (m.cellFailed c apt).stopDrbgs.siltStops (m.cellFailed c apt).stopState (c + 256 * b2n apt) := m.siltFail_eq c apt
  have hsts : (m.cellFailed c apt).stopDrbgs.bit A.SILT_STS (24 + c) = true :=
    (congrArg (fun w : Word => bitOf w.toNat (24 + c)) ((m.cellFailed c apt).stopDrbgs_rd (by decide))).trans (m.cellFailed_sts hc apt)
  have hst : (m.cellFailed c apt).stopState < 8 := by unfold Mach.stopState; split <;> decide
  rw [heq, ← m.cellFailed_state c apt]
  refine ⟨?_, ?_, Mach.siltStops_state _ _ hst, fun i => ?_, ?_⟩
  · rw [Mach.siltStops_sts _ _ (by omega) (by omega), hsts]
  · rw [Mach.siltStops_silt, Mach.stopDrbgs_silt, Mach.cellFailed_held]
  · rw [Mach.siltStops_drbg, Mach.stopDrbgs_off]
  · rw [Mach.siltStops_raised, Mach.stopDrbgs_raised, Mach.cellFailed_raised]

end Sys2Proof.Machine

namespace Sys2Proof.Machine

/-! ### Blocks (R585, R587) -/

/-- The largest counts of the enabled cells after a block (R585). -/
def Mach.cellCounts (m : Mach) : Mach :=
  (List.range 8).foldl (fun (k : Mach) c =>
    if k.bit A.SILT_CFG c then
      let (v, k) := k.draw
      let w := v.toNat
      (k.put (A.SILT_CELL c) 25 16 (max (k.fld (A.SILT_CELL c) 25 16) (w % 829))).put (A.SILT_CELL c) 6 0
        (max (k.fld (A.SILT_CELL c) 6 0) (w / 1024 % 81))
    else k) m

theorem Mach.cellCounts_silt (m : Mach) : m.cellCounts.silt = m.silt := by
  unfold Mach.cellCounts
  refine foldl_keeps (List.range 8) _ Mach.silt (fun k c _ => ?_) m
  split <;> rfl

theorem Mach.cellCounts_rd (m : Mach) {a : Nat} (h : ∀ c, a ≠ A.SILT_CELL c) : m.cellCounts.rd a = m.rd a := by
  unfold Mach.cellCounts
  refine foldl_keeps (List.range 8) _ (fun k => k.rd a) (fun k c _ => ?_) m
  dsimp only
  split
  · exact (Mach.rd_put_other _ _ _ _ _ _ (h c)).trans (Mach.rd_put_other _ _ _ _ _ _ (h c))
  · rfl

theorem Mach.siltBlock_eq (m : Mach) : ∃ l : Nat, m.siltBlock = { (m.drawBytes 128).2.cellCounts with
    silt := { (m.drawBytes 128).2.cellCounts.silt with lfsr := l, held := (m.drawBytes 128).2.cellCounts.silt.held + 1 } } := by
  unfold Mach.siltBlock Mach.cellCounts
  exact ⟨_, rfl⟩

theorem Mach.siltBlock_outcome (m : Mach) :
    m.siltBlock.silt.held = m.silt.held + 1 ∧ m.siltBlock.siltState = m.siltState ∧ m.siltBlock.silt.pool = m.silt.pool := by
  obtain ⟨l, hl⟩ := m.siltBlock_eq
  have hrd : (m.drawBytes 128).2.cellCounts.rd A.SILT_STS = m.rd A.SILT_STS :=
    Mach.cellCounts_rd _ fun c => by simp only [A.SILT_STS, A.SILT_CELL]; omega
  have hstate := Mach.siltState_of_rd hrd
  rw [hl]
  simp only [Mach.cellCounts_silt, Mach.drawBytes_silt, true_and, and_true]
  exact hstate

/-- The counts of a released block. -/
def Mach.blockReleased (m : Mach) : Mach :=
  { m with silt := { m.silt with held := m.silt.held - 1, pool := m.silt.pool + 1 } }.bump A.SILT_BLOCKS

theorem Mach.siltRelease_eq (m : Mach) : m.siltRelease = m.blockReleased.seedNext := rfl

theorem Mach.blockReleased_rd (m : Mach) {a : Nat} (h : a ≠ A.SILT_BLOCKS) : m.blockReleased.rd a = m.rd a := Mach.rd_bumpF_other _ _ _ _ _ _ h

theorem Mach.blockReleased_blocks (m : Mach) :
    m.blockReleased.rd A.SILT_BLOCKS = BitVec.ofNat 32 (min ((m.rd A.SILT_BLOCKS).toNat + 1) (2 ^ 32 - 1)) := Mach.rd_bump _ _

theorem Mach.blockReleased_state (m : Mach) : m.blockReleased.siltState = m.siltState := Mach.siltState_of_rd (m.blockReleased_rd (by decide))

theorem Mach.seedNext_idle (m : Mach) (h : m.siltState ≠ 1) : m.seedNext = m := if_neg (by simp [h])

/-- In normal operation a released block adds to the pool. -/
theorem Mach.siltRelease_running (m : Mach) (h : m.siltState = 2) : m.siltRelease = m.blockReleased := by
  rw [m.siltRelease_eq, Mach.seedNext_idle _ (by rw [m.blockReleased_state, h]; decide)]

theorem Mach.countReseed_rd (m : Mach) (i : Nat) {a : Nat} (h1 : a ≠ A.DRBG_STS i) (h2 : ∀ c, a ≠ A.CLU_DRBG c) : (m.countReseed i).rd a = m.rd a := by
  unfold Mach.countReseed
  split
  · exact (Mach.rd_bumpF_other _ _ _ _ _ _ (h2 _)).trans (m.rd_bumpF_other _ _ _ _ _ h1)
  · exact m.rd_bumpF_other _ _ _ _ _ h1

theorem Mach.countReseed_silt (m : Mach) (i : Nat) : (m.countReseed i).silt = m.silt := by
  unfold Mach.countReseed
  split <;> rfl

theorem Mach.countReseed_count (m : Mach) (i : Nat) :
    (m.countReseed i).fld (A.DRBG_STS i) 15 0 = min (m.fld (A.DRBG_STS i) 15 0 + 1) (2 ^ 16 - 1) := by
  have hbump : (m.bumpF (A.DRBG_STS i) 15 0 1).fld (A.DRBG_STS i) 15 0 = min (m.fld (A.DRBG_STS i) 15 0 + 1) (2 ^ 16 - 1) :=
    (m.fld_put_same _ _ _ _ (by decide) (by decide)).trans (Nat.mod_eq_of_lt (by omega))
  unfold Mach.countReseed
  split
  · rw [Mach.fld_bumpF_other _ _ _ _ _ _ _ _ (by simp only [A.DRBG_STS, A.CLU_DRBG]; omega), hbump]
  · exact hbump

/-- The next generator is seeded, in its counts (R587). -/
def Mach.generatorSeeded (m : Mach) : Mach :=
  let i := m.silt.next
  let old := m.silt.ever.contains i
  let m := { m with silt := { m.silt with pool := m.silt.pool - 2, next := i + 1, ever := if old then m.silt.ever else i :: m.silt.ever } }
  if old then m.countReseed i else m.put (A.DRBG_STS i) 15 0 0

theorem Mach.generatorSeeded_sts (m : Mach) : m.generatorSeeded.rd A.SILT_STS = m.rd A.SILT_STS := by
  unfold Mach.generatorSeeded
  dsimp only
  split
  · exact Mach.countReseed_rd _ _ (by simp only [A.SILT_STS, A.DRBG_STS]; omega) (fun c => by simp only [A.SILT_STS, A.CLU_DRBG]; omega)
  · exact Mach.rd_put_other _ _ _ _ _ _ (by simp only [A.SILT_STS, A.DRBG_STS]; omega)

theorem Mach.generatorSeeded_silt (m : Mach) :
    m.generatorSeeded.silt.pool = m.silt.pool - 2 ∧ m.generatorSeeded.silt.next = m.silt.next + 1 ∧ m.generatorSeeded.silt.again = m.silt.again := by
  unfold Mach.generatorSeeded
  dsimp only
  split
  · rw [Mach.countReseed_silt]; exact ⟨rfl, rfl, rfl⟩
  · exact ⟨rfl, rfl, rfl⟩

/-- A generator but the first and the last, at a first start-up, delivers once it is seeded (R584, R587). -/
theorem Mach.seedNext_delivers (m : Mach) (hst : m.siltState = 1) (hp : 2 ≤ m.silt.pool) (hlo : 0 < m.silt.next) (hhi : m.silt.next < 37)
    (ha : m.silt.again = false) : m.seedNext = m.generatorSeeded.putBit (A.DRBG_STS m.silt.next) 31 true := by
  have hagain : m.generatorSeeded.silt.again = false := m.generatorSeeded_silt.2.2.trans ha
  unfold Mach.generatorSeeded at hagain ⊢
  unfold Mach.seedNext
  dsimp only at hagain ⊢
  rw [if_pos (by simp [hst, hp]), if_neg (by omega), hagain, if_neg (by simp; omega), if_neg (by decide)]

end Sys2Proof.Machine

namespace Sys2Proof.Machine

theorem Mach.siltRelease_delivers (m : Mach) (hst : m.siltState = 1) (hp : m.silt.pool = 1) (hlo : 0 < m.silt.next) (hhi : m.silt.next < 37)
    (ha : m.silt.again = false) : m.siltRelease.silt.pool = 0 ∧ m.siltRelease.silt.next = m.silt.next + 1 ∧
      m.siltRelease.drbgOn m.silt.next = true ∧ m.siltRelease.siltState = 1 := by
  have hpool : m.blockReleased.silt.pool = m.silt.pool + 1 := rfl
  have heq : m.siltRelease = m.blockReleased.generatorSeeded.putBit (A.DRBG_STS m.silt.next) 31 true :=
    m.blockReleased.seedNext_delivers (m.blockReleased_state.trans hst) (by omega) hlo hhi ha
  obtain ⟨h2, hnext, -⟩ := m.blockReleased.generatorSeeded_silt
  rw [heq]
  refine ⟨?_, hnext, Mach.bit_putBit_same _ _ _ _ (by decide), ?_⟩
  · exact h2.trans (by omega)
  · refine (Mach.siltState_of_rd ?_).trans (m.blockReleased_state.trans hst)
    exact (Mach.rd_putBit_other _ _ _ _ _ (by simp only [A.SILT_STS, A.DRBG_STS]; omega)).trans m.blockReleased.generatorSeeded_sts

/-! ### RESTART and SILT_CFG (R586, R596) -/

/-- The failure marks of the cells cleared. -/
def Mach.cellsCleared (m : Mach) : Mach :=
  (List.range 8).foldl (fun a c => (a.putBit (A.SILT_CELL c) 31 false).putBit (A.SILT_CELL c) 30 false) m

/-- The source starts again from the start-up tests. -/
def Mach.startsAgain (m : Mach) : Mach := ((m.put A.SILT_STS 31 24 0).putBit A.SILT_CTL 0 true).setSiltState 0

theorem Mach.startsAgain_registers (m : Mach) :
    m.startsAgain.siltState = 0 ∧ m.startsAgain.fld A.SILT_STS 31 24 = 0 ∧ m.startsAgain.bit A.SILT_CTL 0 = true := by
  refine ⟨Mach.setSiltState_state _ (by decide), ?_, ?_⟩
  · exact (Mach.fld_put_disjoint _ _ _ _ _ _ _ (by decide) (by decide) (by decide)).trans
      ((Mach.fld_putBit_other _ _ _ _ _ _ _ (by decide)).trans (m.fld_put_same _ _ _ _ (by decide) (by decide)))
  · exact (Mach.setSiltState_bit_other _ _ _ (by decide)).trans (Mach.bit_putBit_same _ _ _ _ (by decide))

theorem Mach.startsAgain_silt (m : Mach) : m.startsAgain.silt = m.silt := rfl

theorem Mach.siltRestart_failed (m : Mach) (h : m.siltState = 3) :
    m.siltRestart = { m.cellsCleared with silt := { m.cellsCleared.silt with again := true } }.startsAgain := if_pos h

theorem Mach.writeSiltCtl_failed (m : Mach) {v : Nat} (hv : bitOf v 0 = true) (h : m.siltState = 3) :
    m.writeSiltCtl v = { m.cellsCleared with silt := { m.cellsCleared.silt with again := true } }.startsAgain :=
  (if_pos hv).trans (m.siltRestart_failed h)

theorem Mach.writeSiltCtl_outcome (m : Mach) {v : Nat} (hv : bitOf v 0 = true) (h : m.siltState = 3) : (m.writeSiltCtl v).siltState = 0 ∧
    (m.writeSiltCtl v).silt.again = true ∧ (m.writeSiltCtl v).fld A.SILT_STS 31 24 = 0 ∧ (m.writeSiltCtl v).bit A.SILT_CTL 0 = true := by
  rw [m.writeSiltCtl_failed hv h]
  obtain ⟨hstate, hcells, hctl⟩ := Mach.startsAgain_registers { m.cellsCleared with silt := { m.cellsCleared.silt with again := true } }
  exact ⟨hstate, by rw [Mach.startsAgain_silt], hcells, hctl⟩

theorem Mach.writeSiltCtl_refused (m : Mach) {v : Nat} (hv : bitOf v 0 = true) (h : m.siltState ≠ 3) :
    m.writeSiltCtl v = m.putBit A.SILT_STS 7 true := (if_pos hv).trans (if_neg h)

theorem ofNat_low_byte (v : Word) : BitVec.ofNat 32 (v.toNat % 256) = v &&& 0xFF := by
  apply BitVec.eq_of_toNat_eq
  rw [BitVec.toNat_ofNat, BitVec.toNat_and, show (0xFF : Word).toNat = 2 ^ 8 - 1 from rfl, Nat.and_two_pow_sub_one_eq_mod]
  omega

theorem Mach.writeSiltCfg_enables (m : Mach) (v : Word) (h : m.siltState = 3)
    (h4 : 4 ≤ ((List.range 8).filter (fun c => v.toNat.testBit c)).length) : m.writeSiltCfg v.toNat = m.wr A.SILT_CFG (v &&& 0xFF) := by
  have hbits : (List.range 8).filter (fun c => (v.toNat % 256).testBit c) = (List.range 8).filter (fun c => v.toNat.testBit c) :=
    List.filter_congr fun c hc => by
      rw [show (256 : Nat) = 2 ^ 8 from rfl, Nat.testBit_mod_two_pow, decide_eq_true (List.mem_range.1 hc), Bool.true_and]
  rw [← ofNat_low_byte]
  exact if_pos (by rw [hbits, h, decide_eq_true h4]; rfl)

/-! ### Delivery (R589, R597) -/

theorem Mach.siltData_on (m : Mach) {p : Nat} (h : m.drbgOn (22 + p) = true) :
    m.siltData p = (m.draw.2.bump (A.SILT_DCNT p), (Config.freeBits m.free).setWidth 32) := if_pos h

theorem Mach.siltData_off (m : Mach) {p : Nat} (h : m.drbgOn (22 + p) = false) :
    m.siltData p = (m.putBit (A.SILT_DSTS p) 31 true, 0) := if_neg (by simp [h])

theorem Mach.siltRaw_raw (m : Mach) (h : m.lcs = 1) : m.siltRaw = (m.draw.2, (Config.freeBits m.free).setWidth 32) := if_pos h

theorem Mach.siltRaw_other (m : Mach) (h : m.lcs ≠ 1) : m.siltRaw = (m, 0) := if_neg h

theorem gives_read {c : Instr} {s : State} {who : Ident} {off : Nat} {n : Mach} {P : Mach → Prop}
    (hx : exec c s = s.onMach (fun m => m.readCmd who off)) (hr : s.m.readCmd who off = n) (hp : P n) : Gives c s P :=
  gives_onMach hx (by rwa [hr])

/-- Settles O42: each event and access by what it writes. -/
theorem siltRowsComplete : Obligations.SiltRowsComplete := by
  intro s who
  refine ⟨fun h => ?_, fun i h => ?_, fun c apt hst hen hfail => ?_, fun h => ?_, fun h hheld => ?_, fun h hheld hp hlo hhi ha => ?_,
    fun i h hon hp => ?_, fun v hw hv h => ?_, fun v hw hv h => ?_, fun v hw h h4 => ?_, fun p hr hon => ?_, fun p hr hoff => ?_,
    fun hr hl => ?_, fun hr hl => ?_⟩
  · exact gives_due (fun m => m.siltState = 0) (f := fun m => m.siltStarted none) rfl h s.m.siltStarted_passed
  · exact gives_due (fun m => m.siltState = 0) (f := fun m => m.siltStarted (some i)) rfl h (s.m.siltStarted_failed i)
  · refine gives_due (fun m => (m.siltState ≠ 4 && m.bit A.SILT_CFG c && !m.bit A.SILT_STS (24 + c)) = true)
      (f := fun m => m.siltFail c apt) rfl ?_ (s.m.siltFail_outcome c.isLt apt)
    rw [hen, hfail, decide_eq_true hst]; rfl
  · refine gives_due (fun m => (m.siltState = 1 || m.siltState = 2) = true) (f := fun m => m.siltBlock) rfl ?_ s.m.siltBlock_outcome
    rw [Bool.or_eq_true, decide_eq_true_eq, decide_eq_true_eq]; exact h
  · refine gives_due (fun m => (0 < m.silt.held && (m.siltState = 1 || m.siltState = 2)) = true) (f := fun m => m.siltRelease) rfl ?_ ?_
    · rw [h, decide_eq_true hheld]; rfl
    · rw [s.m.siltRelease_running h]
      exact ⟨rfl, rfl, s.m.blockReleased_blocks⟩
  · refine gives_due (fun m => (0 < m.silt.held && (m.siltState = 1 || m.siltState = 2)) = true) (f := fun m => m.siltRelease) rfl ?_
      (s.m.siltRelease_delivers h hp hlo hhi ha)
    rw [h, decide_eq_true hheld]; rfl
  · refine gives_due (fun m => (m.siltState = 2 && m.drbgOn i && 2 ≤ m.silt.pool) = true) (f := fun m => m.drbgReseed i) rfl ?_
      ⟨congrArg SiltSt.pool (Mach.countReseed_silt _ _), Mach.countReseed_count _ _⟩
    rw [h, hon, decide_eq_true hp]; rfl
  · refine gives_writeWhen rfl hv (s.m.write_SILT_CTL who _ v.isLt hw) ?_
    obtain ⟨hstate, hagain, hcells, hctl⟩ := s.m.writeSiltCtl_outcome hv h
    exact ⟨rfl, hstate, hagain, hcells, hctl⟩
  · refine gives_writeWhen rfl hv (s.m.write_SILT_CTL who _ v.isLt hw) ?_
    rw [s.m.writeSiltCtl_refused hv h]
  · refine gives_write rfl (s.m.write_SILT_CFG who _ v.isLt hw) ?_
    rw [s.m.writeSiltCfg_enables v h h4]
    exact ⟨rfl, Mach.rd_wr_same _ _ _⟩
  · refine gives_read rfl (s.m.readCmd_plain (plainRead_SILT_DATA p) hr) ?_
    rw [Mach.fetchReg_SILT_DATA, s.m.siltData_on hon]
    exact ⟨rfl, rfl, Mach.rd_bump _ _⟩
  · refine gives_read rfl (s.m.readCmd_plain (plainRead_SILT_DATA p) hr) ?_
    rw [Mach.fetchReg_SILT_DATA, s.m.siltData_off hoff]
    exact ⟨rfl, Mach.bit_putBit_same _ _ _ _ (by decide)⟩
  · refine gives_read rfl (s.m.readCmd_plain plainRead_SILT_RAW hr) ?_
    rw [Mach.fetchReg_SILT_RAW, s.m.siltRaw_raw hl]
  · refine gives_read rfl (s.m.readCmd_plain plainRead_SILT_RAW hr) ?_
    rw [Mach.fetchReg_SILT_RAW, s.m.siltRaw_other hl]
    exact ⟨rfl, fun _ => rfl⟩

end Sys2Proof.Machine

namespace Sys2Proof.Machine

/-! ### The beginning of a node's work (R379) -/

theorem Mach.gnode_eq {m : Mach} {p g n : Nat} {x : Graph} (h : m.graph p g = some x) : m.gnode p g n = tfind x.nodes n := by
  rw [Mach.gnode, h]; rfl

theorem Mach.gimg_eq {m : Mach} {p g : Nat} {x : Graph} (h : m.graph p g = some x) : m.gimg p g = x.img := by
  rw [Mach.gimg, h]

theorem Mach.graph_setGraph_same (m : Mach) (p g : Nat) (x : Graph) : (m.setGraph p g x).graph p g = some x := tfind_tset_same _ _ _

theorem Mach.setNode_eq {m : Mach} {p g : Nat} {x : Graph} (h : m.graph p g = some x) (n : Nat) (y : GNode) :
    m.setNode p g n y = m.setGraph p g { x with nodes := tset x.nodes n y } := by
  rw [Mach.setNode, h]

theorem Mach.gnode_setNode_same {m : Mach} {p g : Nat} {x : Graph} (h : m.graph p g = some x) (n : Nat) (y : GNode) :
    (m.setNode p g n y).gnode p g n = some y := by
  rw [Mach.setNode_eq h, Mach.gnode_eq (m.graph_setGraph_same p g _)]
  exact tfind_tset_same _ _ _

theorem Mach.setNode_sessions (m : Mach) (p g n : Nat) (y : GNode) : (m.setNode p g n y).loam.sessions = m.loam.sessions := by
  unfold Mach.setNode
  split <;> rfl

theorem Mach.setNode_vecOwner (m : Mach) (p g n : Nat) (y : GNode) (v : Nat) : (m.setNode p g n y).vecOwner v = m.vecOwner v := by
  unfold Mach.setNode
  split <;> rfl

theorem Mach.setNode_phase (m : Mach) (p g n : Nat) (y : GNode) : (m.setNode p g n y).phase = m.phase := by
  unfold Mach.setNode
  split <;> rfl

theorem Mach.begin_ready {m : Mach} {p g n k : Nat} {x : Graph} {y : GNode} (hg : m.graph p g = some x) (hn : tfind x.nodes n = some y)
    (hs : y.st = 1) (hk : nKind x.img n = k) (f : Mach → List Byte → GNode → Mach) :
    m.begin p g n k f = f (m.setNode p g n { y with st := 2 }) x.img { y with st := 2 } := by
  simp only [Mach.begin, Mach.gnode_eq hg, Mach.gimg_eq hg, hn, hs, hk, decide_true, Bool.and_self, if_true]

section

variable {c : Instr} {s : State} {p g n k : Nat} {f : Mach → List Byte → GNode → Mach} {x : Graph} {y : GNode} {P : Mach → Prop}

/-- A dispatched node of the kind that its row names begins its work. -/
theorem gives_begin (hx : exec c s = s.onMach (fun m => m.begin p g n k f)) (hg : s.m.graph p g = some x) (hn : tfind x.nodes n = some y)
    (hs : y.st = 1) (hk : nKind x.img n = k) (hp : P (f (s.m.setNode p g n { y with st := 2 }) x.img { y with st := 2 })) : Gives c s P :=
  gives_onMach hx (by rwa [Mach.begin_ready hg hn hs hk])

end

/-! ### What leaves the table of sessions (R349, R354) -/

theorem MemMoved.loam {p : Nat} {m n : Mach} (h : MemMoved p m n) : n.loam = m.loam := by rw [h.1]

theorem Mach.sendRing_loam (m : Mach) (opc : BitVec 8) (k : Pkt) (r : Bool) : (m.sendRing opc k r).loam = m.loam := by
  unfold Mach.sendRing
  split <;> rfl

theorem Mach.sendTo_loam (m : Mach) (ing : Ingress) (opc : BitVec 8) (k : Pkt) : (m.sendTo ing opc k).loam = m.loam := by
  unfold Mach.sendTo
  split
  · exact m.sendRing_loam _ _ _
  · rfl

theorem Mach.transmit_loam (m : Mach) (d : Option Ingress) (opc : BitVec 8) (k : Pkt) : (m.transmit d opc k).loam = m.loam := by
  unfold Mach.transmit
  split
  · rfl
  · split
    · exact m.sendTo_loam _ _ _
    · exact m.sendRing_loam _ _ _

theorem Mach.sendReq_loam (m : Mach) (k : Pkt) (d : Option Ingress) (n : Option (Nat × Nat × Nat)) : (m.sendReq k d n).loam = m.loam :=
  Mach.transmit_loam _ _ _ _

theorem Mach.sessionPump_keeps (fuel : Nat) (m : Mach) (s : Session) :
    (m.sessionPump s fuel).1.loam = m.loam ∧ (m.sessionPump s fuel).2.node = s.node := by
  induction fuel generalizing m s with
  | zero => exact ⟨rfl, rfl⟩
  | succ fuel ih =>
    unfold Mach.sessionPump
    split
    · exact ⟨rfl, rfl⟩
    · split
      · exact ⟨rfl, rfl⟩
      · obtain ⟨hl, hn⟩ := ih _ _
        exact ⟨hl.trans (m.sendReq_loam _ _ _), hn⟩

theorem Session.stop_node (s : Session) (r d : Nat) : (s.stop r d).node = s.node := by
  unfold Session.stop
  split <;> rfl

theorem Session.enterOp_node (s : Session) : s.enterOp.node = s.node := by
  unfold Session.enterOp
  dsimp only
  split
  · exact Session.stop_node _ _ _
  · rfl

theorem Mach.sendRecord_keeps (m : Mach) (s : Session) (mine : List Nat) :
    (m.sendRecord s mine).1.loam = m.loam ∧ (m.sendRecord s mine).2.node = s.node := by
  unfold Mach.sendRecord Mach.sessionSend
  dsimp only
  split
  · exact ⟨rfl, Session.stop_node _ _ _⟩
  · exact Mach.sessionPump_keeps _ _ _

theorem Mach.vread_loam {m n : Mach} {src p va k : Nat} {r : Except XFail (List Byte)} (h : m.vread src p va k = (n, r)) : n.loam = m.loam := by
  have hm := (m.vread_moved src p va k).1.loam
  rwa [h] at hm

/-- The tiles of a session that starts have dropped their shards and read RUNNING. -/
theorem Mach.sessionTiles_loam (m : Mach) (v : Word) (l : List Nat) :
    (l.foldl (fun a t => ((a.dropShards t).wr (A.TILE_RUN t) v).setTileState t 2) m).loam = m.loam :=
  foldl_keeps l (fun a t => ((a.dropShards t).wr (A.TILE_RUN t) v).setTileState t 2) Mach.loam (fun _ _ _ => rfl) m

/-- The machine with the session `s` added. -/
def Mach.addSession (m : Mach) (s : Session) : Mach := { m with loam := { m.loam with sessions := m.loam.sessions ++ [s] } }

theorem Mach.addSession_nodes {m n : Mach} {s : Session} {id : Nat × Nat × Nat} (h : n.loam = m.loam) (hs : s.node = id) :
    (n.addSession s).loam.sessions.map (·.node) = m.loam.sessions.map (·.node) ++ [id] := by
  rw [Mach.addSession, List.map_append, h, ← hs]; rfl

/-- A session that starts enters the table of sessions, whatever becomes of it. -/
theorem Mach.sessionStart_adds (m : Mach) (p g n : Nat) (b : List Byte) (tiles : List Nat) :
    ∃ (k : Mach) (s : Session), m.sessionStart p g n b tiles = k.addSession s ∧ k.loam = m.loam ∧ s.node = nodeId p g n := by
  unfold Mach.sessionStart
  dsimp only
  have h0 := (m.drawBytes 32).2.sessionTiles_loam (BitVec.ofNat 32 (g * 2 ^ 16 + n)) tiles
  generalize tiles.foldl _ (m.drawBytes 32).2 = m0 at h0 ⊢
  split
  · next m1 e h1 => exact ⟨m1, _, rfl, (Mach.vread_loam h1).trans h0, Session.stop_node _ _ _⟩
  · next m1 d h1 =>
    have hl1 := (Mach.vread_loam h1).trans h0
    split
    · exact ⟨m1, _, rfl, hl1, Session.stop_node _ _ _⟩
    · split
      · exact ⟨m1, _, rfl, hl1, Session.stop_node _ _ _⟩
      · split
        · next m2 e h2 => exact ⟨m2, _, rfl, (Mach.vread_loam h2).trans hl1, Session.stop_node _ _ _⟩
        · next m2 h h2 =>
          have hl2 := (Mach.vread_loam h2).trans hl1
          split
          · exact ⟨m2, _, rfl, hl2, Session.stop_node _ _ _⟩
          · split
            · next m3 e h3 => exact ⟨m3, _, rfl, (Mach.vread_loam h3).trans hl2, Session.stop_node _ _ _⟩
            · next m3 pr h3 =>
              have hl3 := (Mach.vread_loam h3).trans hl2
              split
              · exact ⟨m3, _, rfl, hl3, Session.enterOp_node _⟩
              · exact ⟨_, _, rfl, (Mach.sendRecord_keeps m3 _ _).1.trans hl3, (Mach.sendRecord_keeps m3 _ _).2⟩

theorem Mach.sessionStart_nodes (m : Mach) (p g n : Nat) (b : List Byte) (tiles : List Nat) :
    (m.sessionStart p g n b tiles).loam.sessions.map (·.node) = m.loam.sessions.map (·.node) ++ [nodeId p g n] := by
  obtain ⟨k, s, hk, hl, hs⟩ := m.sessionStart_adds p g n b tiles
  rw [hk, Mach.addSession_nodes hl hs]

end Sys2Proof.Machine

namespace Sys2Proof.Machine

/-! ### Node work by kind (R216, R379) -/

section

variable {m m1 m2 : Mach} {p g n : Nat} {b : List Byte} {y : GNode}

theorem Mach.dmaNode_memory {l : List Byte} (hd : nf b n 0x1C 1 = 0) (hr : m.vread 4 p (nf b n 0x20 8) (nf b n 0x30 4) = (m1, .ok l))
    (hw : m1.vwrite 4 p (nf b n 0x28 8) l = (m2, none)) : m.dmaNode p g n b y = m2.nodeResult (nodeId p g n) 0 0 := by
  simp only [Mach.dmaNode, hd, hr, hw, show ¬((0 : Nat) = 2) by decide, show ¬((0 : Nat) = 1) by decide, if_false]

theorem Mach.dmaNode_tiles {l : List Byte} (hd : nf b n 0x1C 1 = 1) (hr : m.vread 4 p (nf b n 0x20 8) (nf b n 0x30 4) = (m1, .ok l)) :
    m.dmaNode p g n b y =
      (y.tiles.foldl (fun a t => a.setTile t ((a.tile t).store (nf b n 0x28 8) l)) m1).nodeResult (nodeId p g n) 0 0 := by
  simp only [Mach.dmaNode, hd, hr, show ¬((1 : Nat) = 2) by decide, if_false, if_true]

theorem Mach.storeTiles_keep (f : Tile → Tile) (l : List Nat) (m : Mach) :
    (l.foldl (fun a t => a.setTile t (f (a.tile t))) m).nodeRes = m.nodeRes ∧ (l.foldl (fun a t => a.setTile t (f (a.tile t))) m).mem = m.mem :=
  ⟨foldl_keeps l (fun a t => a.setTile t (f (a.tile t))) Mach.nodeRes (fun _ _ _ => rfl) m,
    foldl_keeps l (fun a t => a.setTile t (f (a.tile t))) Mach.mem (fun _ _ _ => rfl) m⟩

theorem Mach.aggNode_done {d : Nat}
    (h : m.aggCommand p (nf b n 0x1E 2) (nf b n 0x1C 1) (nf b n 0x20 8) (some (nodeId p g n)) = (m1, some (0, d))) :
    m.aggNode p g n b = m1.completeNode p g n := by
  simp only [Mach.aggNode, h]

theorem Mach.aggNode_failed {c d : Nat} (hc : c ≠ 0)
    (h : m.aggCommand p (nf b n 0x1E 2) (nf b n 0x1C 1) (nf b n 0x20 8) (some (nodeId p g n)) = (m1, some (c, d))) :
    m.aggNode p g n b = m1.failNode p g n 0x26 c := by
  unfold Mach.aggNode
  rw [h]
  cases c with
  | zero => exact absurd rfl hc
  | succ c => rfl

theorem Mach.mskNode_done (h : m.mskCommand p (nf b n 0x1E 2) (nf b n 0x1C 1) = (m1, 0)) : m.mskNode p g n b = m1.completeNode p g n := by
  simp only [Mach.mskNode, h]

theorem Mach.loadImage_loads {h body : List Byte} (ha : nf b n 0x20 8 % 64 = 0) (hh : m.vread 4 p (nf b n 0x20 8) 64 = (m1, .ok h))
    (hok : imageHead h (nf b n 0x1C 1) = none)
    (hb : m1.vread 4 p (nf b n 0x20 8 + 64) (fieldAt h 8 4 + fieldAt h 0x10 4) = (m2, .ok body))
    (hs : toBytes (sha256 (toNats body)) = slice h 0x20 32) (ht : y.tiles = []) :
    m.loadImage p g n b y = m2.setNode p g n { y with data := h ++ body } := by
  simp only [Mach.loadImage, ha, hh, hok, hb, hs, ht, ne_eq, not_true_eq_false, if_false, List.foldl_nil]

theorem Mach.loadImage_unaligned (ha : nf b n 0x20 8 % 64 ≠ 0) : m.loadImage p g n b y = m.nodeResult (nodeId p g n) 0x21 0 := if_pos ha

theorem Mach.hostNotify_own (hv : m.vecOwner (nf b n 0x1C 1) = some p) :
    m.hostNotify p g n b = (m.hostItem p (nf b n 0x1C 1) 0xFFFE 0 m.phase).nodeResult (nodeId p g n) 0 0 := if_pos hv

theorem Mach.hostNotify_foreign (hv : m.vecOwner (nf b n 0x1C 1) ≠ some p) : m.hostNotify p g n b = m.failNode p g n 0x2A (nf b n 0x1C 1) :=
  if_neg hv

end

end Sys2Proof.Machine

namespace Sys2Proof.Machine

/-! ### The entry state of a kernel (R219) -/

/-- A table filled in order holds what it was filled with. -/
theorem tget_fill {α : Type} (f : Nat → α) (k : Nat) (d : α) {i n : Nat} (h : i < n) (l : Tab α) :
    tget ((List.range n).foldl (fun l i => tset l (i + k) (f i)) l) (i + k) d = f i := by
  induction n with
  | zero => omega
  | succ n ih =>
    rw [List.range_succ, List.foldl_append, List.foldl_cons, List.foldl_nil]
    by_cases hi : i = n
    · rw [hi, tget_tset_same]
    · rw [tget_tset_other _ _ _ _ _ (by omega), ih (by omega)]

/-- The scalar registers at entry: arguments, tile, rank, size, partition, phase. -/
def Tile.entryScalars (x : Tile) (t part : Nat) : Tab DWord :=
  [(9, t), (10, x.target.idxOf t), (11, x.target.length), (12, part), (13, x.disp)].foldl (fun l e => tset l e.1 (BitVec.ofNat 64 e.2))
    ((List.range 8).foldl (fun l i => tset l (i + 1) (BitVec.ofNat 64 (x.args.getD i 0))) [])

/-- The vector registers at entry. -/
def Tile.entryVectors (x : Tile) : Tab Nat := (List.range 8).foldl (fun l i => tset l i (x.vargs.getD i nullDesc)) []

theorem Tile.entryScalars_args (x : Tile) (t part : Nat) {i : Nat} (h : i < 8) :
    (tget (x.entryScalars t part) (i + 1) 0).toNat = x.args.getD i 0 % 2 ^ 64 := by
  have hkeep : tget (x.entryScalars t part) (i + 1) 0 =
      tget ((List.range 8).foldl (fun l i => tset l (i + 1) (BitVec.ofNat 64 (x.args.getD i 0))) []) (i + 1) 0 := by
    unfold Tile.entryScalars
    simp only [List.foldl_cons, List.foldl_nil]
    rw [tget_tset_other _ _ _ _ _ (by omega), tget_tset_other _ _ _ _ _ (by omega), tget_tset_other _ _ _ _ _ (by omega),
      tget_tset_other _ _ _ _ _ (by omega), tget_tset_other _ _ _ _ _ (by omega)]
  rw [hkeep, tget_fill (fun i => BitVec.ofNat 64 (x.args.getD i 0)) 1 0 h, BitVec.toNat_ofNat]

theorem Tile.entryScalars_kernel (x : Tile) (t part : Nat) :
    tget (x.entryScalars t part) 9 0 = BitVec.ofNat 64 t ∧ tget (x.entryScalars t part) 10 0 = BitVec.ofNat 64 (x.target.idxOf t) ∧
    tget (x.entryScalars t part) 11 0 = BitVec.ofNat 64 x.target.length ∧ tget (x.entryScalars t part) 12 0 = BitVec.ofNat 64 part ∧
    tget (x.entryScalars t part) 13 0 = BitVec.ofNat 64 x.disp := by
  unfold Tile.entryScalars
  simp only [List.foldl_cons, List.foldl_nil]
  refine ⟨?_, ?_, ?_, ?_, tget_tset_same _ _ _ _⟩
  · rw [tget_tset_other _ _ _ _ _ (by decide), tget_tset_other _ _ _ _ _ (by decide), tget_tset_other _ _ _ _ _ (by decide),
      tget_tset_other _ _ _ _ _ (by decide), tget_tset_same]
  · rw [tget_tset_other _ _ _ _ _ (by decide), tget_tset_other _ _ _ _ _ (by decide), tget_tset_other _ _ _ _ _ (by decide), tget_tset_same]
  · rw [tget_tset_other _ _ _ _ _ (by decide), tget_tset_other _ _ _ _ _ (by decide), tget_tset_same]
  · rw [tget_tset_other _ _ _ _ _ (by decide), tget_tset_same]

theorem Tile.entryVectors_args (x : Tile) {i : Nat} (h : i < 8) : tget x.entryVectors i 0 = x.vargs.getD i nullDesc :=
  tget_fill (fun i => x.vargs.getD i nullDesc) 0 0 h []

/-- The tile that a kernel finds. -/
def Tile.entered (x : Tile) (t part : Nat) : Tile :=
  { x with s := x.entryScalars t part, v := x.entryVectors, link := [], loops := [], ftz := false, sr := false, ended := false,
           fault := none, report := none, dmaFail := [], chSent := [], chGot := [], tbars := [], tbarNow := false,
           arr := [], dma := [], brz := [], gen := [], noise := [], chain := [] }

/-- The counters and the fault record of a tile cleared (R249, R251). -/
def Mach.countersCleared (m : Mach) (t : Nat) : Mach :=
  [0, 4, 8, 12, 16, 20, 24, 28].foldl (fun a o => a.wr (A.CNT_CYC_LO t + o) 0) ((m.wr (A.TILE_SFLAGS t) 0).putBit (A.TILE_KFAULT t) 31 false)

theorem Mach.kernelEntry_eq (m : Mach) (t : Nat) : m.kernelEntry t =
    ((((m.setTile t ((m.tile t).entered t (m.tilePart t))).countersCleared t).setTilePc t ((m.tile t).cbase + (m.tile t).entry)).setTileState t 2) := by
  unfold Mach.kernelEntry Mach.countersCleared Tile.entered Tile.entryScalars Tile.entryVectors
  rfl

theorem Mach.countersCleared_tile (m : Mach) (t u : Nat) : (m.countersCleared t).tile u = m.tile u := rfl

theorem Mach.countersCleared_rd (m : Mach) {t a : Nat} (h1 : a ≠ A.TILE_SFLAGS t) (h2 : a ≠ A.TILE_KFAULT t)
    (h3 : a < A.CNT_CYC_LO t ∨ A.CNT_CYC_LO t + 28 < a) : (m.countersCleared t).rd a = m.rd a := by
  unfold Mach.countersCleared
  refine (foldl_keeps _ _ (fun k => k.rd a) (fun k o ho => k.rd_wr_other _ _ _ ?_) _).trans
    ((Mach.rd_putBit_other _ _ _ _ _ h2).trans (m.rd_wr_other _ _ _ h1))
  simp only [List.mem_cons, List.not_mem_nil, or_false] at ho
  omega

/-- Registers cleared in turn read 0. -/
theorem Mach.rd_clearAll (c : Nat) {o : Nat} (l : List Nat) (h : o ∈ l) (m : Mach) : (l.foldl (fun a o => a.wr (c + o) 0) m).rd (c + o) = 0 := by
  induction l generalizing m with
  | nil => cases h
  | cons j r ih =>
    by_cases hr : o ∈ r
    · exact ih hr _
    · obtain rfl : o = j := (List.mem_cons.1 h).resolve_right hr
      refine (foldl_keeps r _ (fun k => k.rd (c + o)) (fun k i hi => k.rd_wr_other _ _ _ ?_) _).trans (m.rd_wr_same _ _)
      intro he
      exact hr (by rwa [show o = i by omega])

theorem Mach.countersCleared_instr (m : Mach) (t : Nat) : (m.countersCleared t).rd64 (A.CNT_INSTR_LO t) = 0 := by
  have hz : ∀ o ∈ [0, 4, 8, 12, 16, 20, 24, 28], (m.countersCleared t).rd (A.CNT_CYC_LO t + o) = 0 := fun o ho => Mach.rd_clearAll _ _ ho _
  have hlo := hz 8 (by decide)
  have hhi := hz 12 (by decide)
  rw [show A.CNT_CYC_LO t + 8 = A.CNT_INSTR_LO t by simp only [A.CNT_CYC_LO, A.CNT_INSTR_LO]; omega] at hlo
  rw [show A.CNT_CYC_LO t + 12 = A.CNT_INSTR_LO t + 4 by simp only [A.CNT_CYC_LO, A.CNT_INSTR_LO]; omega] at hhi
  rw [Mach.rd64, hlo, hhi]; rfl

theorem Mach.countersCleared_flags (m : Mach) (t : Nat) : (m.countersCleared t).rd (A.TILE_SFLAGS t) = 0 := by
  unfold Mach.countersCleared
  refine (foldl_keeps _ _ (fun k => k.rd (A.TILE_SFLAGS t)) (fun k o ho => k.rd_wr_other _ _ _ ?_) _).trans
    ((Mach.rd_putBit_other _ _ _ _ _ ?_).trans (m.rd_wr_same _ _))
  · simp only [A.TILE_SFLAGS, A.CNT_CYC_LO]; omega
  · simp only [A.TILE_SFLAGS, A.TILE_KFAULT]; omega

/-- The registers that the entry of a kernel leaves, but for the tile's state and program counter. -/
theorem Mach.kernelEntry_rd (m : Mach) {t a : Nat} (h1 : a ≠ A.TILE_STS t) (h2 : a ≠ A.TILE_PC t) :
    (m.kernelEntry t).rd a = ((m.setTile t ((m.tile t).entered t (m.tilePart t))).countersCleared t).rd a := by
  rw [m.kernelEntry_eq t]
  exact (Mach.rd_put_other _ _ _ _ _ _ h1).trans (Mach.rd_put_other _ _ _ _ _ _ h2)

theorem Mach.kernelEntry_tile (m : Mach) (t : Nat) : (m.kernelEntry t).tile t = (m.tile t).entered t (m.tilePart t) := by
  rw [m.kernelEntry_eq t]
  exact (Mach.countersCleared_tile _ t t).trans (m.tile_setTile_same t _)

theorem Mach.kernelEntry_pc (m : Mach) (t : Nat) : (m.kernelEntry t).tilePc t = ((m.tile t).cbase + (m.tile t).entry) % 2 ^ 24 := by
  rw [m.kernelEntry_eq t]
  exact (Mach.fld_put_other _ _ _ _ _ _ _ _ (by simp only [A.TILE_PC, A.TILE_STS]; omega)).trans
    (Mach.fld_put_same _ _ _ _ _ (by decide) (by decide))

theorem Mach.kernelEntry_state (m : Mach) (t : Nat) : (m.kernelEntry t).tileState t = 2 := by
  rw [m.kernelEntry_eq t]
  exact Mach.fld_put_same _ _ _ _ _ (by decide) (by decide)

theorem Mach.kernelEntry_flags (m : Mach) (t : Nat) : (m.kernelEntry t).rd (A.TILE_SFLAGS t) = 0 := by
  rw [m.kernelEntry_rd (by simp only [A.TILE_SFLAGS, A.TILE_STS]; omega) (by simp only [A.TILE_SFLAGS, A.TILE_PC]; omega),
    Mach.countersCleared_flags]

theorem Mach.kernelEntry_instr (m : Mach) (t : Nat) : (m.kernelEntry t).rd64 (A.CNT_INSTR_LO t) = 0 := by
  rw [Mach.rd64, m.kernelEntry_rd (by simp only [A.CNT_INSTR_LO, A.TILE_STS]; omega) (by simp only [A.CNT_INSTR_LO, A.TILE_PC]; omega),
    m.kernelEntry_rd (by simp only [A.CNT_INSTR_LO, A.TILE_STS]; omega) (by simp only [A.CNT_INSTR_LO, A.TILE_PC]; omega)]
  exact Mach.countersCleared_instr _ t

/-- Another tile keeps its registers and its state. -/
theorem Mach.kernelEntry_other (m : Mach) {t u : Nat} (h : u ≠ t) :
    (m.kernelEntry t).tile u = m.tile u ∧ (m.kernelEntry t).tileState u = m.tileState u := by
  refine ⟨?_, ?_⟩
  · rw [m.kernelEntry_eq t]
    exact (Mach.countersCleared_tile _ t u).trans (m.tile_setTile_other t u _ h)
  · refine congrArg (fun w : Word => bitsOf w.toNat 3 0) ((m.kernelEntry_rd ?_ ?_).trans (Mach.countersCleared_rd _ ?_ ?_ ?_))
    · simp only [A.TILE_STS]; omega
    · simp only [A.TILE_STS, A.TILE_PC]; omega
    · simp only [A.TILE_STS, A.TILE_SFLAGS]; omega
    · simp only [A.TILE_STS, A.TILE_KFAULT]; omega
    · simp only [A.TILE_STS, A.CNT_CYC_LO]; omega

/-- R219: what a kernel finds when it starts. -/
theorem kernelEntry_outcome (m : Mach) (t u : Fin 80) :
    let x := m.tile t
    let n := m.kernelEntry t
    n.tileState t = 2 ∧ n.tilePc t = (x.cbase + x.entry) % 2 ^ 24 ∧ n.rd (A.TILE_SFLAGS t.val) = 0 ∧ n.rd64 (A.CNT_INSTR_LO t.val) = 0 ∧
    (∀ i, i < 8 → (tget (n.tile t).s (i + 1) 0).toNat = x.args.getD i 0 % 2 ^ 64) ∧
    tget (n.tile t).s 9 0 = BitVec.ofNat 64 t.val ∧ tget (n.tile t).s 10 0 = BitVec.ofNat 64 (x.target.idxOf t.val) ∧
    tget (n.tile t).s 11 0 = BitVec.ofNat 64 x.target.length ∧ tget (n.tile t).s 12 0 = BitVec.ofNat 64 (m.tilePart t) ∧
    tget (n.tile t).s 13 0 = BitVec.ofNat 64 x.disp ∧ (∀ i, i < 8 → tget (n.tile t).v i 0 = x.vargs.getD i nullDesc) ∧
    (n.tile t).link = [] ∧ (n.tile t).loops = [] ∧ (n.tile t).ftz = false ∧ (n.tile t).sr = false ∧ (n.tile t).mem = x.mem ∧
    (u ≠ t → n.tile u = m.tile u ∧ n.tileState u = m.tileState u) := by
  intro x n
  have htile : n.tile t = x.entered t (m.tilePart t) := m.kernelEntry_tile t
  obtain ⟨h9, h10, h11, h12, h13⟩ := x.entryScalars_kernel t (m.tilePart t)
  rw [htile]
  exact ⟨m.kernelEntry_state t, m.kernelEntry_pc t, m.kernelEntry_flags t, m.kernelEntry_instr t, fun i hi => x.entryScalars_args t _ hi,
    h9, h10, h11, h12, h13, fun i hi => x.entryVectors_args hi, rfl, rfl, rfl, rfl, rfl,
    fun hu => m.kernelEntry_other fun he => hu (Fin.ext he)⟩

end Sys2Proof.Machine

namespace Sys2Proof.Machine

/-- The work of a TILE_KERNEL node: kernels, or a session, which waits for its generator. -/
def Mach.tileKernel (m : Mach) (p g n : Nat) : Mach :=
  m.begin p g n 1 (fun m' b y =>
    if nf b n 0x1C 1 = 0x80 then if m.drbgOn 0 then m'.sessionStart p g n b y.tiles else m
    else y.tiles.foldl (fun a t => a.kernelStart p g n b y.tiles t) m')

/-- Settles O28: the work of each kind by `gives_begin`, the entry state by `kernelEntry_outcome`. -/
theorem nodeWorkAndKernelEntry : Obligations.NodeWorkAndKernelEntry := by
  refine ⟨fun s p g n x y hg hn hs => ?_, kernelEntry_outcome⟩
  intro b y' w k
  have hnode : w.gnode p g n.toNat = some y' := Mach.gnode_setNode_same hg n.toNat y'
  have hsess : w.loam.sessions = s.m.loam.sessions := s.m.setNode_sessions _ _ _ _
  have hvec : ∀ v, w.vecOwner v = s.m.vecOwner v := s.m.setNode_vecOwner _ _ _ _
  refine ⟨fun hk hr => ?_, fun hk hr hd => ?_, fun hk => ?_, fun m1 m2 l hk hd hr hw => ?_, fun m1 l hk hd hr => ?_, fun m1 d hk ha => ?_,
    fun m1 c d hk hc ha => ?_, fun m1 hk hm => ?_, fun hk => ?_, fun hk => ?_, fun hk => ?_, fun hk => ?_, fun hk => ?_, fun hk hv => ?_,
    fun hk hv => ?_, fun m1 m2 h body hk ha hh hok hb hsum ht => ?_, fun hk ha => ?_⟩
  · refine gives_onMach (f := fun m => m.tileKernel p g n.toNat) rfl ?_
    rw [Mach.tileKernel, Mach.begin_ready hg hn hs hk]
    exact if_neg hr
  · refine gives_onMach (f := fun m => m.tileKernel p g n.toNat) rfl ?_
    have heq : s.m.tileKernel p g n.toNat = w.sessionStart p g n.toNat b y.tiles := by
      rw [Mach.tileKernel, Mach.begin_ready hg hn hs hk]
      exact (if_pos hr).trans (if_pos hd)
    rw [heq, Mach.sessionStart_nodes, hsess]
    exact ⟨rfl, rfl⟩
  · exact gives_begin rfl hg hn hs hk rfl
  · refine gives_begin rfl hg hn hs hk ?_
    rw [Mach.dmaNode_memory hd hr hw]
    exact ⟨rfl, rfl⟩
  · refine gives_begin rfl hg hn hs hk ?_
    rw [Mach.dmaNode_tiles hd hr]
    obtain ⟨hres, hmem⟩ := Mach.storeTiles_keep (fun z => z.store (nf b n.toNat 0x28 8) l) y.tiles m1
    refine ⟨congrArg (· ++ [((p.val, g.val, n.toNat), 0, 0)]) hres, hmem, fun t ht => ?_⟩
    rw [ht]
    exact m1.tile_setTile_same t _
  · exact gives_begin rfl hg hn hs hk (Mach.aggNode_done ha)
  · exact gives_begin rfl hg hn hs hk (Mach.aggNode_failed hc ha)
  · exact gives_begin rfl hg hn hs hk (Mach.mskNode_done hm)
  · exact gives_begin rfl hg hn hs hk rfl
  · exact gives_begin rfl hg hn hs hk rfl
  · exact gives_begin rfl hg hn hs hk ⟨rfl, hnode⟩
  · exact gives_begin rfl hg hn hs hk ⟨rfl, hnode⟩
  · exact gives_begin rfl hg hn hs hk rfl
  · refine gives_begin rfl hg hn hs hk ((Mach.hostNotify_own ((hvec _).trans hv)).trans ?_)
    rw [Mach.setNode_phase]
  · exact gives_begin rfl hg hn hs hk (Mach.hostNotify_foreign fun h => hv ((hvec _).symm.trans h))
  · exact gives_begin rfl hg hn hs hk (Mach.loadImage_loads (y := y') ha hh hok hb hsum ht)
  · exact gives_begin rfl hg hn hs hk (Mach.loadImage_unaligned ha)

end Sys2Proof.Machine

namespace Sys2Proof.Machine

/-! ### Traces leave the tables of graphs (R402) -/

theorem Mach.traceStore_loam (p : Nat) (m : Mach) (item : List Byte) : (m.traceStore p item).loam = m.loam := by
  have hl := (m.vwrite_moved 4 p (m.rd64 (A.TRACE_BASE_LO p) + 64 * m.qSlot (traceBlock p)) item).loam
  unfold Mach.traceStore
  dsimp only
  split
  · next m' hw => rw [hw] at hl; exact hl
  · next m' e hw => rw [hw] at hl; exact hl

theorem Mach.lossyPush_loam (m : Mach) (b : Nat) (item : List Byte) {store : Mach → List Byte → Mach} (h : ∀ k i, (store k i).loam = k.loam) :
    (m.lossyPush b item store).loam = m.loam := by
  have hmark : (m.lossyMark b store).loam = m.loam := by
    unfold Mach.lossyMark
    split
    · split
      · exact h _ _
      · rfl
    · rfl
  unfold Mach.lossyPush
  dsimp only
  split
  · exact (h _ _).trans hmark
  · exact hmark

theorem Mach.trace_loam (m : Mach) (p kind : Nat) (b2 b16 : List Byte) : (m.trace p kind b2 b16).loam = m.loam := by
  unfold Mach.trace
  split
  · exact m.lossyPush_loam _ _ (Mach.traceStore_loam p)
  · rfl

/-! ### Starts (R384) -/

theorem Mach.stampReady_regs (m : Mach) (p g : Nat) : (m.stampReady p g).regs = m.regs := by
  unfold Mach.stampReady
  split
  · rfl
  · split <;> rfl

theorem Mach.startGraph_state (m : Mach) (p g : Nat) : (m.startGraph p g).grState p g = 3 := by
  have hst : (m.setGrState p g 3).grState p g = 3 := m.fld_put_same _ _ _ _ (by decide) (by decide)
  exact (Mach.fld_of_act (congrArg Regs.act ((m.setGrState p g 3).stampReady_regs p g)) _ _ _).trans hst

/-! ### Dispatch (R385, R387, R394) -/

/-- A pass of dispatch has begun: the partition's step, where one was given, is taken up. -/
def Mach.passBegun (m : Mach) (p : Nat) : Mach :=
  { m with loam := { m.loam with lastPass := tset m.loam.lastPass p m.phs.edges, step := m.loam.step.filter (· ≠ p) } }

theorem Mach.loamDispatch_waits (m : Mach) {p : Nat} (ht : m.fld (A.LOAM_MODE p) 1 0 = 2) (hs : p ∉ m.loam.step) :
    m.loamDispatch p = { m with loam := { m.loam with lastPass := tset m.loam.lastPass p m.phs.edges } } := by
  have hc : m.loam.step.contains p = false := by simpa using hs
  simp only [Mach.loamDispatch, ht, hc, decide_true, Bool.not_false, Bool.and_self, if_true]

theorem Mach.loamDispatch_walks (m : Mach) {p : Nat} (ht : m.fld (A.LOAM_MODE p) 1 0 ≠ 2) :
    m.loamDispatch p = (m.passBegun p).dispatchWalk p ((m.readyNodes p).mergeSort before) [] 32 := by
  simp only [Mach.loamDispatch, ht, decide_false, Bool.false_and, Bool.false_eq_true, if_false]
  rfl

/-- A node that targets no tile and needs no queue is dispatched as soon as its pass comes to it. -/
theorem Mach.dispatchWalk_free {m : Mach} {p g n e r o : Nat} {y : GNode} {quota : Nat} (hq : quota ≠ 0) (hst : m.grState p g = 3)
    (hy : m.gnode p g n = some y) (ht : nTarget (m.gimg p g) n = []) (h6 : nKind (m.gimg p g) n ≠ 6) (h7 : nKind (m.gimg p g) n ≠ 7) :
    m.dispatchWalk p [(g, n, e, r, o)] [] quota =
      (m.setNode p g n { y with st := 1, at_ := m.phs.edges, tiles := [] }).trace p 1 (traceNode g n) (leBytes 10 (nf (m.gimg p g) n 0x10 10)) := by
  have hneeds : needs (m.gimg p g) n [] = [] := by simp [needs, h6, h7]
  simp only [Mach.dispatchWalk, hq, hst, ht, List.filter_nil, hneeds, List.any_nil, Mach.targetOf, List.isEmpty_nil, if_true, hy,
    ne_eq, not_true_eq_false, decide_false, Bool.or_self, Bool.false_eq_true, if_false]

end Sys2Proof.Machine

namespace Sys2Proof.Machine

/-! ### Events of a node in progress (R216, R386, R395) -/

/-- The event `f` of a node, where the node's graph has it. -/
def Mach.onNode (m : Mach) (p g n : Nat) (f : GNode → Mach) : Mach :=
  match m.gnode p g n with
  | some y => f y
  | none => m

theorem Mach.onNode_some {m : Mach} {p g n : Nat} {y : GNode} (h : m.gnode p g n = some y) (f : GNode → Mach) : m.onNode p g n f = f y := by
  rw [Mach.onNode, h]

section

variable {c : Instr} {s : State} {p g n : Nat} {y : GNode}

/-- A node's event that is due. -/
theorem gives_node {q : Mach → GNode → Bool} {f : Mach → GNode → Mach} {P : Mach → Prop}
    (hx : exec c s = s.onMach (fun m => m.onNode p g n (fun y => if q m y then f m y else m))) (hy : s.m.gnode p g n = some y)
    (hd : q s.m y = true) (hp : P (f s.m y)) : Gives c s P := by
  refine gives_onMach hx ?_
  rwa [Mach.onNode_some hy, if_pos hd]

/-- A node's event that is not due. -/
theorem unmoved_node {q : Mach → GNode → Bool} {f : Mach → GNode → Mach}
    (hx : exec c s = s.onMach (fun m => m.onNode p g n (fun y => if q m y then f m y else m))) (hy : s.m.gnode p g n = some y)
    (hd : q s.m y = false) : Unmoved c s := by
  refine unmoved_onMach hx ?_
  rw [Mach.onNode_some hy, hd]
  rfl

end

/-! ### The end of a load (R216) -/

/-- An image placed in a tile leaves the results of nodes. -/
theorem Mach.placeImage_nodeRes (m : Mach) (r : Nat) (d : List Byte) (t : Nat) : (m.placeImage r d t).nodeRes = m.nodeRes := by
  unfold Mach.placeImage
  dsimp only
  split <;> rfl

theorem Mach.setNode_nodeRes (m : Mach) (p g n : Nat) (y : GNode) : (m.setNode p g n y).nodeRes = m.nodeRes := by
  unfold Mach.setNode
  split <;> rfl

theorem Mach.setNode_tile (m : Mach) (p g n : Nat) (y : GNode) (t : Nat) :
    (m.setNode p g n y).tile t = m.tile t ∧ (m.setNode p g n y).tileState t = m.tileState t := by
  unfold Mach.setNode
  split <;> exact ⟨rfl, rfl⟩

theorem Mach.loadDone_nodeRes (m : Mach) (p g n : Nat) (b : List Byte) (y : GNode) :
    (m.loadDone p g n b y).nodeRes = m.nodeRes ++ [(nodeId p g n, 0, 0)] := by
  refine congrArg (· ++ [(nodeId p g n, 0, 0)]) ((Mach.setNode_nodeRes _ _ _ _ _).trans ?_)
  exact foldl_keeps y.tiles (fun a t => a.placeImage (nf b n 0x1C 1) y.data t) Mach.nodeRes (fun k t _ => k.placeImage_nodeRes _ _ t) m

/-- An image placed in a tile that was loading: the tile is idle, and has the image. -/
theorem Mach.placeImage_outcome (m : Mach) (r : Nat) (d : List Byte) {t : Nat} (h : m.tileState t = 1) :
    (m.placeImage r d t).tileState t = 0 ∧
      tfind ((m.placeImage r d t).tile t).images r = some (fieldAt d 8 4, fieldAt d 0xC 4, fieldAt d 6 2, fieldAt d 0x18 4) := by
  unfold Mach.placeImage
  dsimp only
  rw [if_pos]
  · refine ⟨Mach.fld_put_same _ _ _ _ _ (by decide) (by decide), ?_⟩
    exact (congrArg (fun x : Tile => tfind x.images r) (Mach.tile_setTile_same _ t _)).trans (tfind_tset_same _ _ _)
  · exact (Mach.fld_wr_other _ _ _ _ _ _ (by simp only [A.TILE_STS, A.TILE_CODE_MAP_LO]; omega)).trans
      ((Mach.fld_wr_other _ _ _ _ _ _ (by simp only [A.TILE_STS, A.TILE_CODE_MAP_LO]; omega)).trans h)

/-! ### Results (R386, R395) -/

theorem Mach.takeResult_done {m : Mach} {p g n d : Nat} (h : m.nodeRes = [(nodeId p g n, 0, d)]) :
    m.takeResult p g n = ({ m with nodeRes := [] } : Mach).completeNode p g n := by
  simp [Mach.takeResult, h]

theorem Mach.takeResult_failed {m : Mach} {p g n c d : Nat} (hc : c ≠ 0) (h : m.nodeRes = [(nodeId p g n, c, d)]) :
    m.takeResult p g n = ({ m with nodeRes := [] } : Mach).failNode p g n c d := by
  simp [Mach.takeResult, h, hc]

theorem Mach.nodeComplete_result {m : Mach} {p g n : Nat} {y : GNode} (hy : m.gnode p g n = some y) (hst : y.st = 2)
    (hk : ¬ (nKind (m.gimg p g) n = 1 ∧ nf (m.gimg p g) n 0x1C 1 ≠ 0x80)) : m.nodeComplete p g n = m.takeResult p g n := by
  simp only [Mach.nodeComplete, hy, hst, ne_eq, not_true_eq_false, if_false]
  rw [if_neg]
  rwa [Bool.and_eq_true, decide_eq_true_eq, decide_eq_true_eq]

theorem Mach.nodeComplete_kernel {m : Mach} {p g n : Nat} {y : GNode} (hy : m.gnode p g n = some y) (hst : y.st = 2)
    (hk : nKind (m.gimg p g) n = 1) (hr : nf (m.gimg p g) n 0x1C 1 ≠ 0x80) : m.nodeComplete p g n = m.kernelNodeDone p g n y := by
  simp only [Mach.nodeComplete, hy, hst, hk, hr, ne_eq, not_true_eq_false, not_false_eq_true, decide_true, Bool.and_self, if_false, if_true]

/-- A kernel on one tile that has completed there. -/
theorem Mach.kernelNodeDone_single {m : Mach} {p g n t : Nat} {y : GNode} (ht : y.tiles = [t]) (hb : y.bad = false)
    (hn : (m.tile t).node = some (nodeId p g n)) (hr : (m.tile t).report = some true) :
    m.kernelNodeDone p g n y = (m.tileDone t).completeNode p g n := by
  simp [Mach.kernelNodeDone, ht, hb, hn, hr]

/-! ### The end of a graph (R386, R395) -/

/-- A graph that has failed or been aborted ends: only its state moves, where it has no vector and keeps its handle. -/
theorem Mach.endGraph_plain {m : Mach} {p g st : Nat} {x : Graph} (hg : m.graph p g = some x) (hst : st ≠ 4) (ha : gAutoRel x.img = false)
    (hv : (fieldAt x.img 0x32 1).testBit 7 = false) : m.endGraph p g st = m.setGrState p g st := by
  simp only [Mach.endGraph, Mach.gimg_eq hg, hst, ha, hv, Bool.false_and, Bool.false_eq_true, if_false]

theorem Mach.freeGraph_graph (m : Mach) (p g : Nat) : (m.freeGraph p g).graph p g = none := tfind_terase _ _

theorem Mach.freeGraph_state (m : Mach) (p g : Nat) : (m.freeGraph p g).grState p g = 0 := by
  unfold Mach.freeGraph Mach.grState
  dsimp only
  rw [Mach.fld_wr_other _ _ _ _ _ _ (by simp only [A.GR_STS, A.GR_DONE]; omega), Mach.fld_wr_other _ _ _ _ _ _ (by simp only [A.GR_STS, A.GR_ERR_DET]; omega),
    Mach.fld_wr_other _ _ _ _ _ _ (by simp only [A.GR_STS, A.GR_ERR_NODE]; omega), Mach.fld_wr_same]
  rfl

theorem Mach.freeGraph_rd (m : Mach) {p g a : Nat} (h : a < A.GR_STS p g) : (m.freeGraph p g).rd a = m.rd a := by
  have h1 : a ≠ A.GR_DONE p g ∧ a ≠ A.GR_ERR_DET p g ∧ a ≠ A.GR_ERR_NODE p g ∧ a ≠ A.GR_STS p g := by
    simp only [A.GR_STS, A.GR_DONE, A.GR_ERR_DET, A.GR_ERR_NODE] at h ⊢; omega
  obtain ⟨hd, he, hn, hs⟩ := h1
  unfold Mach.freeGraph
  dsimp only
  rw [Mach.rd_wr_other _ _ _ _ hd, Mach.rd_wr_other _ _ _ _ he, Mach.rd_wr_other _ _ _ _ hn, Mach.rd_wr_other _ _ _ _ hs]
  rfl

/-- A submission given up: refused with SUBMIT_TIMEOUT, and its handle free (R381). -/
theorem Mach.submitEnd_outcome (m : Mach) (p : Fin 16) (g : Fin 64) (x : Graph) :
    (m.submitEnd p g x).graph p g = none ∧ (m.submitEnd p g x).grState p g = 0 ∧
      (m.submitEnd p g x).rd (A.LOAM_LAST_ERR p.val) = BitVec.ofNat 32 (0x0F + 256 * (x.img.length / 64)) := by
  refine ⟨Mach.freeGraph_graph _ _ _, Mach.freeGraph_state _ _ _, ?_⟩
  rw [Mach.submitEnd, Mach.freeGraph_rd _ (by simp only [A.LOAM_LAST_ERR, A.GR_STS]; omega)]
  exact Mach.rd_wr_same _ _ _

end Sys2Proof.Machine

namespace Sys2Proof.Machine

theorem Mach.snapshotDone_held {m : Mach} {p g : Nat} {x : Graph} {h : HeldPkt} (hg : m.graph p g = some x) (hw : x.whole = true)
    (hst : m.grState p g = 1) (hs : x.sub = some h) : m.snapshotDone p g = (m.snapCheck p g x).1.snapAnswer h (m.snapCheck p g x).2 := by
  simp only [Mach.snapshotDone, hg, hs, hst, hw, decide_true, Bool.and_self, if_true]

/-- The event `f` of a graph, where the handle has one. -/
def Mach.onGraph (m : Mach) (p g : Nat) (f : Graph → Mach) : Mach :=
  match m.graph p g with
  | some x => f x
  | none => m

theorem Mach.onGraph_some {m : Mach} {p g : Nat} {x : Graph} (h : m.graph p g = some x) (f : Graph → Mach) : m.onGraph p g f = f x := by
  rw [Mach.onGraph, h]

/-- A graph's event that is due. -/
theorem gives_graph {c : Instr} {s : State} {p g : Nat} {x : Graph} {q : Mach → Graph → Bool} {f : Mach → Graph → Mach} {P : Mach → Prop}
    (hx : exec c s = s.onMach (fun m => m.onGraph p g (fun x => if q m x then f m x else m))) (hg : s.m.graph p g = some x)
    (hd : q s.m x = true) (hp : P (f s.m x)) : Gives c s P := by
  refine gives_onMach hx ?_
  rwa [Mach.onGraph_some hg, if_pos hd]

section

variable (s : State) (p : Fin 16) (g : Fin 64)

/-- A held graph starts when its phase is reached, and not before (R384). -/
theorem startPhaseReached_events :
    (s.m.grState p g = 2 → gStart (s.m.gimg p g) = 2 → gStartPhase (s.m.gimg p g) ≤ s.m.phase → s.m.running = true →
      Gives (.startPhaseReached p g) s (fun m => m.grState p g = 3 ∧ m = s.m.startGraph p g)) ∧
    (s.m.grState p g = 2 → gStart (s.m.gimg p g) = 2 → s.m.phase < gStartPhase (s.m.gimg p g) → Unmoved (.startPhaseReached p g) s) := by
  refine ⟨fun hst hs hp hr => ?_, fun _ _ hp => ?_⟩
  · refine gives_due
      (fun m => (m.grState p g = 2 && gStart (m.gimg p g) = 2 && gStartPhase (m.gimg p g) ≤ m.phase && m.running) = true)
      (f := fun m => m.startGraph p g) rfl ?_ ⟨s.m.startGraph_state p g, rfl⟩
    rw [hst, hs, hr, decide_eq_true hp]; rfl
  · refine unmoved_not_due
      (fun m => (m.grState p g = 2 && gStart (m.gimg p g) = 2 && gStartPhase (m.gimg p g) ≤ m.phase && m.running) = true)
      (f := fun m => m.startGraph p g) rfl ?_
    rw [decide_eq_false (Nat.not_le.2 hp), Bool.and_false, Bool.false_and]
    exact Bool.false_ne_true

variable {s p}

/-- A pass of dispatch that is due (R387). -/
theorem gives_pass {P : Mach → Prop} (hr : s.m.running = true) (hp : s.m.pageOn (0x100 + p) = true)
    (he : tfind s.m.loam.lastPass p ≠ some s.m.phs.edges) (h : P (s.m.loamDispatch p)) : Gives (.loamDispatch p) s P := by
  refine gives_due (fun m => (m.running && m.pageOn (0x100 + p) && tfind m.loam.lastPass p ≠ some m.phs.edges) = true)
    (f := fun m => m.loamDispatch p) rfl ?_ h
  rw [hr, hp, decide_eq_true he]; rfl

variable {g}

/-- With one node ready, and that of a kind that needs no tile and no queue, the pass dispatches it. -/
theorem Mach.loamDispatch_one {m : Mach} {n e r o : Nat} {y : GNode} (hn : m.readyNodes p = [(g.val, n, e, r, o)])
    (hm : m.fld (A.LOAM_MODE p.val) 1 0 ≠ 2) (hst : m.grState p g = 3) (hy : m.gnode p g n = some y) (ht : nTarget (m.gimg p g) n = [])
    (h6 : nKind (m.gimg p g) n ≠ 6) (h7 : nKind (m.gimg p g) n ≠ 7) :
    (m.loamDispatch p).gnode p g n = some { y with st := 1, at_ := m.phs.edges, tiles := [] } := by
  obtain ⟨x, hx, -⟩ := Option.bind_eq_some_iff.1 hy
  rw [m.loamDispatch_walks hm, hn, List.mergeSort_singleton,
    Mach.dispatchWalk_free (m := m.passBegun p) (y := y) (by decide) hst hy ht h6 h7]
  refine Eq.trans ?_ (Mach.gnode_setNode_same (m := m.passBegun p) (x := x) hx n { y with st := 1, at_ := m.phs.edges, tiles := [] })
  simp only [Mach.gnode, Mach.graph, Mach.trace_loam]
  rfl

/-- Waits, loads and results of a node in progress (R216, R386, R395). -/
theorem node_events {n : BitVec 16} {y : GNode} (hy : s.m.gnode p g n.toNat = some y) (hst : y.st = 2) :
    let b := s.m.gimg p g
    (nKind b n.toNat = 8 → y.at_ < s.m.phs.edges → s.m.running = true → nf b n.toNat 0x20 8 ≤ s.m.phase →
      Gives (.waitPhaseReached p g n) s (fun m => m = s.m.completeNode p g n.toNat)) ∧
    (nKind b n.toNat = 8 → s.m.phase < nf b n.toNat 0x20 8 → Unmoved (.waitPhaseReached p g n) s) ∧
    (nKind b n.toNat = 9 → y.at_ < s.m.phs.edges → s.m.running = true → nf b n.toNat 0x20 4 ≤ s.m.ctr p (nf b n.toNat 0x1E 2) →
      Gives (.waitCountMet p g n) s (fun m => m = s.m.completeNode p g n.toNat)) ∧
    (nKind b n.toNat = 12 → y.data ≠ [] → (∀ t ∈ y.tiles, s.m.loadWaits t (nf b n.toNat 0x1C 1) y.data = false) →
      Gives (.loadImageDone p g n) s (fun m => m.nodeRes = s.m.nodeRes ++ [((p.val, g.val, n.toNat), 0, 0)] ∧
        ∀ t : Fin 80, y.tiles = [t.val] → s.m.tileState t = 1 → m.tileState t = 0 ∧
          tfind (m.tile t).images (nf b n.toNat 0x1C 1) = some (fieldAt y.data 8 4, fieldAt y.data 0xC 4, fieldAt y.data 6 2, fieldAt y.data 0x18 4))) := by
  intro b
  refine ⟨fun hk he hr hp => ?_, fun hk hp => ?_, fun hk he hr hc => ?_, fun hk hd hw => ?_⟩
  · refine gives_node (q := fun m y => y.st = 2 && nKind (m.gimg p g) n.toNat = 8 && y.at_ < m.phs.edges && m.running &&
        nf (m.gimg p g) n.toNat 0x20 8 ≤ m.phase) (f := fun m _ => m.completeNode p g n.toNat) rfl hy ?_ rfl
    rw [hst, hk, hr, decide_eq_true he, decide_eq_true hp]; rfl
  · refine unmoved_node (q := fun m y => y.st = 2 && nKind (m.gimg p g) n.toNat = 8 && y.at_ < m.phs.edges && m.running &&
        nf (m.gimg p g) n.toNat 0x20 8 ≤ m.phase) (f := fun m _ => m.completeNode p g n.toNat) rfl hy ?_
    rw [decide_eq_false (Nat.not_le.2 hp), Bool.and_false]
  · refine gives_node (q := fun m y => y.st = 2 && nKind (m.gimg p g) n.toNat = 9 && y.at_ < m.phs.edges && m.running &&
        nf (m.gimg p g) n.toNat 0x20 4 ≤ m.ctr p (nf (m.gimg p g) n.toNat 0x1E 2)) (f := fun m _ => m.completeNode p g n.toNat) rfl hy ?_ rfl
    rw [hst, hk, hr, decide_eq_true he, decide_eq_true hc]; rfl
  · refine gives_node (q := fun m y => y.st = 2 && nKind (m.gimg p g) n.toNat = 0x0C && y.data ≠ [] &&
        y.tiles.all (fun t => !m.loadWaits t (nf (m.gimg p g) n.toNat 0x1C 1) y.data))
      (f := fun m y => m.loadDone p g n.toNat (m.gimg p g) y) rfl hy ?_ ⟨s.m.loadDone_nodeRes _ _ _ _ _, fun t ht hload => ?_⟩
    · rw [hst, hk, decide_eq_true hd, List.all_eq_true.2 fun t ht => by rw [hw t ht]; rfl]; rfl
    · obtain ⟨hstate, himg⟩ := s.m.placeImage_outcome (nf b n.toNat 0x1C 1) y.data hload
      obtain ⟨htile, hkeep⟩ := (s.m.placeImage (nf b n.toNat 0x1C 1) y.data t).setNode_tile p g n.toNat { y with data := [] } t
      have heq : s.m.loadDone p g n.toNat b y =
          ((s.m.placeImage (nf b n.toNat 0x1C 1) y.data t).setNode p g n.toNat { y with data := [] }).nodeResult (nodeId p g n.toNat) 0 0 := by
        rw [Mach.loadDone, ht]; rfl
      rw [heq]
      exact ⟨hkeep.trans hstate, (congrArg (fun x : Tile => tfind x.images (nf b n.toNat 0x1C 1)) htile).trans himg⟩

end

/-- Settles O29: passes by `gives_pass`, a node's events by `node_events`, the ends of graphs by the machine they leave. -/
theorem graphEventsComplete : Obligations.GraphEventsComplete := by
  intro s p g
  obtain ⟨hstart, hheld⟩ := startPhaseReached_events s p g
  refine ⟨hstart, hheld, fun hr hp he hn hm => ?_, fun hr hp he hm hs => ?_, fun n e r o y hr hp he hn hm hst hy ht h6 h7 => ?_,
    fun n y hy hst => ?_, fun x hg hst hlive ha hv => ?_, fun x hg hw hst hslot => ?_, fun x h hg hw hst hs => ?_⟩
  · refine gives_pass hr hp he ?_
    rw [s.m.loamDispatch_walks hm, hn, List.mergeSort_nil]
    exact ⟨tfind_tset_same _ _ _, rfl, fun h => by simpa using (List.mem_filter.1 h).2⟩
  · refine gives_pass hr hp he ?_
    rw [s.m.loamDispatch_waits hm hs]
    exact ⟨rfl, tfind_tset_same _ _ _⟩
  · exact gives_pass hr hp he (Mach.loamDispatch_one hn hm hst hy ht h6 h7)
  · obtain ⟨hphase, hwait, hcount, hload⟩ := node_events hy hst
    refine ⟨hphase, hwait, hcount, hload, fun d hk hres => ?_, fun c d hc hk hres => ?_, fun t hk hreg ht hbad hnode hrep => ?_⟩
    · exact gives_onMach (f := fun m => m.nodeComplete p g n.toNat) rfl
        ((Mach.nodeComplete_result hy hst hk).trans (Mach.takeResult_done hres))
    · exact gives_onMach (f := fun m => m.nodeComplete p g n.toNat) rfl
        ((Mach.nodeComplete_result hy hst hk).trans (Mach.takeResult_failed hc hres))
    · exact gives_onMach (f := fun m => m.nodeComplete p g n.toNat) rfl
        ((Mach.nodeComplete_kernel hy hst hk hreg).trans (Mach.kernelNodeDone_single ht hbad hnode hrep))
  · have hend : (if x.aborted then 6 else 5) ≠ 4 := by split <;> decide
    refine gives_graph (q := fun m x => m.grState p g = 7 && !x.nodes.any (fun y => y.2.live))
      (f := fun m x => m.endGraph p g (if x.aborted then 6 else 5)) rfl hg ?_ ?_
    · have hnone : x.nodes.any (fun y => y.2.live) = false := List.any_eq_false.2 fun y hy => by rw [hlive y hy]; exact Bool.false_ne_true
      rw [hst, hnone]; rfl
    · rw [Mach.endGraph_plain hg hend ha hv]
      refine ⟨(s.m.fld_put_same _ _ _ _ (by decide) (by decide)).trans (Nat.mod_eq_of_lt ?_), rfl⟩
      split <;> decide
  · refine gives_graph (q := fun m x => !x.whole && m.grState p g = 1 && 64 * 1024 < m.phs.edges - x.lastSlot)
      (f := fun m x => m.submitEnd p g x) rfl hg ?_ (s.m.submitEnd_outcome p g x)
    rw [hw, hst, decide_eq_true hslot]; rfl
  · exact gives_onMach (f := fun m => m.snapshotDone p g) rfl (Mach.snapshotDone_held hg hw hst hs)

end Sys2Proof.Machine

namespace Sys2Proof.Machine

/-! ### Shares of products (R355, R357) -/

/-- The shares of the two parties, in any ring: what a triple and the opened differences `d` and `e` give. -/
theorem tripleShares_add {R : Type} [CommRing R] {x y a0 a1 b0 b1 c0 c1 d e : R} (hc : c0 + c1 = (a0 + a1) * (b0 + b1))
    (hd : d = x - (a0 + a1)) (he : e = y - (b0 + b1)) :
    (c0 + d * b0 + e * a0 + d * e) + (c1 + d * b1 + e * a1) = x * y := by
  subst hd he
  linear_combination hc

theorem natCast_m64 (n : Nat) : ((m64 n : Nat) : ZMod (2 ^ 64)) = n := ZMod.natCast_mod n _

theorem natCast_sub64 (a b : Nat) : ((sub64 a b : Nat) : ZMod (2 ^ 64)) = a - b := by
  rw [sub64, ZMod.natCast_mod, Nat.cast_sub (le_add_left (Nat.mod_lt b (by decide)).le), Nat.cast_add, ZMod.natCast_self, ZMod.natCast_mod, add_zero]

/-- The two parties' product shares: party 0 alone adds `d * e`. -/
theorem mulShare_cast (a b c d e : Nat) : ((mulShare 0 a b c d e : Nat) : ZMod (2 ^ 64)) = c + d * b + e * a + d * e ∧
    ((mulShare 1 a b c d e : Nat) : ZMod (2 ^ 64)) = c + d * b + e * a := by
  simp only [mulShare, natCast_m64]
  constructor <;> push_cast <;> simp

theorem andShare_cast (a b c d e : Nat) : ((andShare 0 a b c d e : Nat) : ZMod 2) = c + d * b + e * a + d * e ∧
    ((andShare 1 a b c d e : Nat) : ZMod 2) = c + d * b + e * a := by
  simp only [andShare, ZMod.natCast_mod]
  constructor <;> push_cast <;> simp

/-- Products of 64-bit shares (R357). -/
theorem mulShares_add {x0 x1 y0 y1 a0 a1 b0 b1 c0 c1 : Nat} (hc : (c0 + c1) % 2 ^ 64 = (a0 + a1) * (b0 + b1) % 2 ^ 64) :
    let d := m64 (sub64 x0 a0 + sub64 x1 a1)
    let e := m64 (sub64 y0 b0 + sub64 y1 b1)
    (mulShare 0 a0 b0 c0 d e + mulShare 1 a1 b1 c1 d e) % 2 ^ 64 = (x0 + x1) * (y0 + y1) % 2 ^ 64 := by
  have hopen : ∀ u0 u1 v0 v1 : Nat, ((m64 (sub64 u0 v0 + sub64 u1 v1) : Nat) : ZMod (2 ^ 64)) = (u0 + u1) - (v0 + v1) := by
    intro u0 u1 v0 v1
    rw [natCast_m64, Nat.cast_add, natCast_sub64, natCast_sub64]
    ring
  intro d e
  have ht := (ZMod.natCast_eq_natCast_iff' _ _ _).2 hc
  rw [← ZMod.natCast_eq_natCast_iff', Nat.cast_add, (mulShare_cast ..).1, (mulShare_cast ..).2]
  push_cast at ht ⊢
  exact tripleShares_add ht (hopen x0 x1 a0 a1) (hopen y0 y1 b0 b1)

/-- ANDs of bit shares (R357): modulo 2 the sum is the difference. -/
theorem andShares_add {x0 x1 y0 y1 a0 a1 b0 b1 c0 c1 : Nat} (hc : (c0 + c1) % 2 = (a0 + a1) * (b0 + b1) % 2) :
    let d := (x0 + a0 + (x1 + a1)) % 2
    let e := (y0 + b0 + (y1 + b1)) % 2
    (andShare 0 a0 b0 c0 d e + andShare 1 a1 b1 c1 d e) % 2 = (x0 + x1) * (y0 + y1) % 2 := by
  have hopen : ∀ u0 u1 v0 v1 : Nat, (((u0 + v0 + (u1 + v1)) % 2 : Nat) : ZMod 2) = (u0 + u1) - (v0 + v1) := by
    intro u0 u1 v0 v1
    rw [ZMod.natCast_mod, CharTwo.sub_eq_add]
    push_cast
    ring
  intro d e
  have ht := (ZMod.natCast_eq_natCast_iff' _ _ _).2 hc
  rw [← ZMod.natCast_eq_natCast_iff', Nat.cast_add, (andShare_cast ..).1, (andShare_cast ..).2]
  push_cast at ht ⊢
  exact tripleShares_add ht (hopen x0 x1 a0 a1) (hopen y0 y1 b0 b1)

theorem dealItem_products (a0 a1 b0 b1 c1 : Nat) :
    dealItem 0 [a0, a1, b0, b1, c1] = ((a0, b0, sub64 (m64 ((a0 + a1) * (b0 + b1))) c1), (a1, b1, c1)) := by
  simp [dealItem]

/-- The dealer's arithmetic triple is right (R355). -/
theorem dealItem_right (a0 a1 b0 b1 c1 : Nat) :
    let w := dealItem 0 [a0, a1, b0, b1, c1]
    (w.1.2.2 + w.2.2.2) % 2 ^ 64 = (w.1.1 + w.2.1) * (w.1.2.1 + w.2.2.1) % 2 ^ 64 := by
  rw [dealItem_products, ← ZMod.natCast_eq_natCast_iff', Nat.cast_add, natCast_sub64, natCast_m64, sub_add_cancel]

/-- Settles O34: products and ANDs by `tripleShares_add`, the dealer's triples by `dealItem_right`. -/
theorem sharesMultiply : Obligations.SharesMultiply := fun _ _ _ _ a0 a1 b0 b1 _ c1 =>
  ⟨mulShares_add, andShares_add, dealItem_right a0 a1 b0 b1 c1⟩

end Sys2Proof.Machine

namespace Sys2Proof.Machine

/-! ### AES-256 answers 16 bytes (R16) -/

theorem xorBytes_length (a b : Bytes) : (xorBytes a b).length = min a.length b.length := List.length_zipWith

/-- A fold over the numbers from `lo` on keeps what each step takes from `i` to `i + 1`. -/
theorem foldl_rangeFrom {σ : Type} {P : Nat → σ → Prop} {g : σ → Nat → σ} {lo : Nat}
    (hstep : ∀ (i : Nat) (s : σ), lo ≤ i → P i s → P (i + 1) (g s i)) (n : Nat) {s : σ} (h : P lo s) :
    P (lo + n) ((rangeFrom lo n).foldl g s) := by
  induction n with
  | zero => exact h
  | succ n ih =>
    rw [rangeFrom, List.range_succ, List.map_append, List.foldl_append]
    exact hstep _ _ (Nat.le_add_right lo n) ih

/-- The first `n` words of a key schedule, of four bytes each. -/
structure KeyWords (n : Nat) (w : Array Bytes) : Prop where
  size : w.size = n
  bytes : ∀ x ∈ w, x.length = 4

theorem KeyWords.length_getD {n i : Nat} {w : Array Bytes} (h : KeyWords n w) (hi : i < n) : (w.getD i []).length = 4 := by
  have hs : i < w.size := h.size.symm ▸ hi
  rw [Array.getD_eq_getD_getElem?, Array.getElem?_eq_getElem hs]
  exact h.bytes _ (Array.getElem_mem hs)

theorem KeyWords.push {n : Nat} {w : Array Bytes} {x : Bytes} (h : KeyWords n w) (hx : x.length = 4) : KeyWords (n + 1) (w.push x) where
  size := by rw [Array.size_push, h.size]
  bytes y hy := (Array.mem_push.1 hy).elim (h.bytes y) fun e => e ▸ hx

/-- The schedule of a 32-byte key: 60 words. -/
theorem aesSchedule_words {key : Bytes} (h : key.length = 32) : KeyWords 60 (aesSchedule key) := by
  refine foldl_rangeFrom (P := fun n (s : Array Bytes × Nat) => KeyWords n s.1) (fun i s hi hw => hw.push ?_) 52 ⟨by simp, ?_⟩
  · have ht : (s.1.getD (i - 1) []).length = 4 := hw.length_getD (by omega)
    rw [xorBytes_length, hw.length_getD (by omega)]
    generalize s.1.getD (i - 1) [] = t at ht ⊢
    split
    · have hrot : (t.drop 1 ++ t.take 1).length = 4 := by simp [ht]
      split
      · next x r hr =>
        rw [hr] at hrot
        simp only [List.length_cons, List.length_map] at hrot ⊢
        omega
      · next hr => rw [hr] at hrot; cases hrot
    · split
      · rw [List.length_map, ht]; rfl
      · rw [ht]; rfl
  · intro x hx
    obtain ⟨i, hi, rfl⟩ := List.mem_map.1 (List.mem_toArray.1 hx)
    have := List.mem_range.1 hi
    simp only [List.length_take, List.length_drop]
    omega

theorem roundKey_length {w : Array Bytes} (h : KeyWords 60 w) {r : Nat} (hr : r < 15) : (roundKey w r).length = 16 := by
  simp only [roundKey, List.length_append]
  rw [h.length_getD (by omega), h.length_getD (by omega), h.length_getD (by omega), h.length_getD (by omega)]

theorem aesBlockW_length {w : Array Bytes} (h : KeyWords 60 w) (b : Bytes) : (aesBlockW w b).length = 16 := by
  simp only [aesBlockW, xorBytes_length, shiftRows, List.length_map, List.length_range, roundKey_length h (r := 14) (by decide)]
  rfl

/-! ### CTR mode is its own inverse (R16) -/

/-- The key stream of CTR mode, of `n` blocks. -/
def keyStream (w : Array Bytes) (nonce : Bytes) (c n : Nat) : Bytes :=
  ((List.range n).map (fun i => aesBlockW w (nonce ++ beBytes 4 ((c + i) % 2 ^ 32)))).flatten

theorem xorBytes_append_right (b k l : Bytes) : xorBytes b (k ++ l) = xorBytes b k ++ xorBytes (b.drop k.length) l := by
  induction k generalizing b with
  | nil => simp [xorBytes]
  | cons x k ih =>
    cases b with
    | nil => simp [xorBytes]
    | cons y b => exact congrArg ((y ^^^ x) :: ·) (ih b)

theorem xorBytes_take {k : Bytes} {n : Nat} (b : Bytes) (h : k.length ≤ n) : xorBytes (b.take n) k = xorBytes b k := by
  have ht : (xorBytes b k).take n = xorBytes (b.take n) (k.take n) := List.take_zipWith
  rw [List.take_of_length_le h, List.take_of_length_le (by rw [xorBytes_length]; omega)] at ht
  exact ht.symm

theorem xorBytes_cancel {a k : Bytes} (h : a.length ≤ k.length) : xorBytes (xorBytes a k) k = a := by
  induction a generalizing k with
  | nil => rfl
  | cons x a ih =>
    cases k with
    | nil => cases h
    | cons y k => exact congrArg₂ List.cons (Nat.xor_xor_cancel_right x y) (ih (Nat.le_of_succ_le_succ h))

section

variable {w : Array Bytes} (hw : KeyWords 60 w)
include hw

theorem keyStream_length (nonce : Bytes) (c n : Nat) : (keyStream w nonce c n).length = 16 * n := by
  induction n with
  | zero => rfl
  | succ n ih =>
    rw [keyStream, List.range_succ, List.map_append, List.flatten_append, List.length_append]
    rw [keyStream] at ih
    simp only [ih, List.map_cons, List.map_nil, List.flatten_singleton, aesBlockW_length hw]
    omega

/-- Block by block or at once, CTR mode adds the key stream. -/
theorem ctr32_eq (nonce : Bytes) (c : Nat) (b : Bytes) : ctr32 w nonce c b = xorBytes b (keyStream w nonce c (cdiv b.length 16)) := by
  rw [ctr32]
  generalize cdiv b.length 16 = n
  induction n with
  | zero => simp [keyStream, xorBytes]
  | succ n ih =>
    have hlen := keyStream_length hw nonce c n
    rw [keyStream] at ih hlen ⊢
    simp only [List.range_succ, List.map_append, List.flatten_append, List.map_cons, List.map_nil, List.flatten_singleton]
    rw [ih, xorBytes_append_right, hlen, xorBytes_take _ (aesBlockW_length hw _).le]

theorem ctr32_ctr32 (nonce : Bytes) (c : Nat) (b : Bytes) : ctr32 w nonce c (ctr32 w nonce c b) = b := by
  have hb : b.length ≤ (keyStream w nonce c (cdiv b.length 16)).length := by
    rw [keyStream_length hw, cdiv]; omega
  rw [ctr32_eq hw, ctr32_eq hw, xorBytes_length, Nat.min_eq_left hb, xorBytes_cancel hb]

end

/-- Opening what was sealed: the tag is compared before a byte is given out. -/
theorem gcmOpen_gcmSeal (key nonce aad pt tag : Bytes) : gcmOpen key nonce aad (gcmSeal key nonce aad pt).1 tag =
    if (gcmSeal key nonce aad pt).2 = tag then some (ctr32 (aesSchedule key) nonce 2 (ctr32 (aesSchedule key) nonce 2 pt)) else none := by
  rw [gcmOpen, gcmSeal]

/-- Settles O36: the right tag opens to CTR mode done twice, `ctr32_ctr32`; another tag opens to nothing. -/
theorem sealedOpens : Obligations.SealedOpens := by
  intro key nonce aad pt hkey _
  refine ⟨?_, fun tag ht => ?_⟩
  · rw [gcmOpen_gcmSeal, if_pos rfl, ctr32_ctr32 (aesSchedule_words hkey)]
  · rw [gcmOpen_gcmSeal, if_neg ht.symm]

end Sys2Proof.Machine

namespace Sys2Proof.Machine

/-! ### The session of a tile -/

/-- The event `f` of a tile's session, where the tile has one. -/
def Mach.onSession (m : Mach) (t : Nat) (f : Session → Mach) : Mach :=
  match m.sessionOn t with
  | some x => f x
  | none => m

theorem Mach.onSession_some {m : Mach} {t : Nat} {x : Session} (h : m.sessionOn t = some x) (f : Session → Mach) : m.onSession t f = f x := by
  rw [Mach.onSession, h]

section

variable {c : Instr} {s : State} {t : Nat} {x : Session} {q : Mach → Session → Bool} {f : Mach → Session → Mach}

/-- A session's event that is due. -/
theorem gives_session {P : Mach → Prop} (hx : exec c s = s.onMach (fun m => m.onSession t (fun x => if q m x then f m x else m)))
    (ht : s.m.sessionOn t = some x) (hd : q s.m x = true) (hp : P (f s.m x)) : Gives c s P := by
  refine gives_onMach hx ?_
  rwa [Mach.onSession_some ht, if_pos hd]

/-- A session's event that is not due leaves the data as it was (log entry 1). -/
theorem unmoved_session (hx : exec c s = s.onMach (fun m => m.onSession t (fun x => if q m x then f m x else m)))
    (ht : s.m.sessionOn t = some x) (hd : q s.m x = false) : Unmoved c s := by
  refine unmoved_onMach hx ?_
  rw [Mach.onSession_some ht, hd, if_neg Bool.false_ne_true]

end

/-! ### An op begins (R349, R359, R369, R590) -/

/-- Op `c` of session `s` may begin. -/
def Session.opReady (m : Mach) (s : Session) (c : Nat) : Bool :=
  s.state = 1 && s.op < s.ops && !s.began && s.opc = c && s.rnd = 0 && s.outq.isEmpty && (s.role = 2 || 0 < s.round) &&
    (!s.draws || (m.mskUnits s.part).any (fun u => m.drbgOn (2 + u)))

theorem Session.opReady_other {m : Mach} {s : Session} {c : Nat} (h : s.opc ≠ c) : s.opReady m c = false := by
  simp only [Session.opReady, decide_eq_false h, Bool.and_false, Bool.false_and]

/-- The op is ready where the session runs between rounds and what it draws from delivers. -/
theorem Session.opReady_next {m : Mach} {s : Session} (hst : s.state = 1) (hop : s.op < s.ops) (hb : s.began = false) (hrnd : s.rnd = 0)
    (hq : s.outq = []) (hr : s.role = 2 ∨ 0 < s.round) (hd : s.draws = true → ∃ u ∈ m.mskUnits s.part, m.drbgOn (2 + u) = true) :
    s.opReady m s.opc = true := by
  have hround : (s.role = 2 || 0 < s.round : Bool) = true := by
    rw [← Bool.decide_or, decide_eq_true hr]
  have hdraws : (!s.draws || (m.mskUnits s.part).any (fun u => m.drbgOn (2 + u))) = true := by
    cases hs : s.draws with
    | false => rfl
    | true => rw [List.any_eq_true.2 (hd hs), Bool.or_true]
  rw [Session.opReady, decide_eq_true hst, decide_eq_true hop, hb, decide_eq_true hrnd, hq, hround, hdraws]
  simp

/-- The row of each op is that op of the tile's session. -/
theorem exec_sessionOp {t : Fin 80} {c : Instr} {code : Nat} (h : SessionOp t c code) (s : State) :
    exec c s = s.onMach (fun m => m.onSession t (fun x => if x.opReady m code then (m.opBegin x).1.setSession (m.opBegin x).2 else m)) := by
  refine (show ∀ e ∈ (_ : List (Instr × Nat)), exec e.1 s = s.onMach (fun m => m.sessionOp t e.2) from ?_) (c, code) h
  simp only [List.forall_mem_cons, List.not_mem_nil, false_imp_iff, implies_true, and_true]
  and_intros <;> rfl

theorem Mach.opBegin_opens {m m1 m2 : Mach} {x : Session} {a b : List Nat} (ha : m.getVec x (x.cur 2 2) = (m1, some a))
    (hb : m1.getVec x (x.cur 4 2) = (m2, some b)) : m.opBegin x = m2.opStep { x with began := true, ins := [a, b] } [] := by
  simp only [Mach.opBegin, ha, hb]

theorem Mach.opBegin_fails {m m1 : Mach} {x : Session} (h : m.getVec x (x.cur 2 2) = (m1, none)) : m.opBegin x = (m1, x.stop 7 2) := by
  simp only [Mach.opBegin, h]

/-! ### What an op gives (R357, R359) -/

section

variable (m : Mach) {x : Session} (res : List Nat) {a : List Nat}

theorem Mach.opStep_cmul (hc : x.opc = 0x11) (hi : x.ins = [a, []]) :
    m.opStep x res = m.opEnd { x with saved := [] } (some (a.map (fun v => x.p0 * v % 2 ^ 64))) := by
  simp only [Mach.opStep, hc, hi]
  rfl

theorem Mach.opStep_cadd (hc : x.opc = 0x12) (hi : x.ins = [a, []]) :
    m.opStep x res = m.opEnd { x with saved := [] } (some (a.map (fun v => (v + pub x.role x.p0) % 2 ^ 64))) := by
  simp only [Mach.opStep, hc, hi]
  rfl

theorem Mach.opStep_product (hc : x.opc = 0x20) (hp : x.phase = 1) :
    m.opStep x res = m.opEnd { x with saved := [] } (some res) := by
  simp only [Mach.opStep, hc, hp]
  rfl

theorem Mach.opStep_squares (hc : x.opc = 0x21) (hp : x.phase = 1) :
    m.opStep x res = m.opEnd { x with saved := [] } (some [res.sum % 2 ^ 64]) := by
  simp only [Mach.opStep, hc, hp]
  rfl

variable {m}

theorem Mach.opEnd_stored {m1 m2 : Mach} {x1 : Session} (hv : m.putVec x (x.cur 6 2) a = (m1, .ok x1)) (hs : m1.writeStatus x1 = (m2, none)) :
    m.opEnd x (some a) = (m2, { x1 with op := x1.op + 1 }.enterOp) := by
  have hop : ({ x1 with op := x1.op + 1 - 1 } : Session) = x1 := by rw [Nat.add_sub_cancel]
  simp only [Mach.opEnd, hv, hop, hs]

end

/-- Settles O33: the rows by `exec_sessionOp`, the results by what `shareStep` gives for each code. -/
theorem sessionOperations : Obligations.SessionOperations := by
  refine ⟨fun s t c code x hc ht hst hop hb hrnd hq hr hd => ?_, fun m x res a => ?_⟩
  · have hrow := exec_sessionOp hc s
    have hready := Session.opReady_next hst hop hb hrnd hq hr hd
    refine ⟨?_, ?_, fun hne => unmoved_session hrow ht (Session.opReady_other hne)⟩
    · rintro rfl m1 m2 a b ha hb
      exact gives_session hrow ht hready (by rw [Mach.opBegin_opens ha hb])
    · rintro rfl m1 ha
      exact gives_session hrow ht hready (by rw [Mach.opBegin_fails ha])
  · refine ⟨m.opStep_cmul res, fun hc hi hr => ?_, fun hc hi hr => ?_, m.opStep_product res, m.opStep_squares res,
      fun m1 x1 hv m2 hs => Mach.opEnd_stored hv hs⟩
    · rw [m.opStep_cadd res hc hi, hr]; rfl
    · rw [m.opStep_cadd res hc hi, hr]; rfl

end Sys2Proof.Machine

namespace Sys2Proof.Machine

theorem Session.stop_running {s : Session} (h : s.state = 1) (r d : Nat) : s.stop r d = { s with state := 3, reason := r, detail := d } :=
  if_neg (by rw [h]; decide)

/-! ### The end of a session (R370, R371) -/

theorem Mach.writeStatus_moved (m : Mach) (s : Session) : MemMoved s.part m (m.writeStatus s).1 := by
  unfold Mach.writeStatus
  split
  · exact .refl _ _
  · exact m.vwrite_moved _ _ _ _

/-- An ended session has left the table, and its node has its result. -/
theorem Mach.endSession_outcome (m : Mach) (s : Session) :
    (∀ y ∈ (m.endSession s).loam.sessions, y.node ≠ s.node) ∧ (m.endSession s).nodeRes = m.nodeRes ++ [(s.node, 0, 0)] := by
  unfold Mach.endSession
  dsimp only
  have hw : (m.writeStatus s).1.nodeRes = m.nodeRes := by rw [(m.writeStatus_moved s).1]
  refine ⟨fun y hy => ?_, congrArg (· ++ [(s.node, 0, 0)]) (Eq.trans ?_ hw)⟩
  · rw [Mach.nodeResult, foldl_keeps s.tiles _ Mach.loam fun a t _ => by split <;> rfl] at hy
    simpa using (List.mem_filter.1 hy).2
  · exact foldl_keeps s.tiles _ Mach.nodeRes (fun a t _ => by split <;> rfl) _

/-- SESSION_END of the tile's session `x`: it has stopped, or has run its last op. -/
def Mach.sessionEnds (m : Mach) (x : Session) : Mach :=
  if x.state = 3 then m.endSession x
  else if x.op = x.ops && x.ops ≠ 0 && (x.role = 2 || 0 < x.round) then m.endSession { x with state := 2 } else m

theorem Mach.sessionEnds_stopped (m : Mach) {x : Session} (h : x.state = 3) : m.sessionEnds x = m.endSession x := if_pos h

theorem Mach.sessionEnds_finished (m : Mach) {x : Session} (hst : x.state = 1) (hop : x.op = x.ops) (hops : x.ops ≠ 0) (hround : 0 < x.round) :
    m.sessionEnds x = m.endSession { x with state := 2 } := by
  have hlast : (x.op = x.ops && x.ops ≠ 0 && (x.role = 2 || 0 < x.round)) = true := by
    rw [decide_eq_true hop, decide_eq_true hops, decide_eq_true hround, Bool.or_true]; rfl
  rw [Mach.sessionEnds, if_neg (by rw [hst]; decide), if_pos hlast]

theorem gives_sessionEnd {s : State} {t : Fin 80} {x : Session} {P : Mach → Prop} (ht : s.m.sessionOn t = some x) (h : P (s.m.sessionEnds x)) :
    Gives (.sessionEnd t) s P :=
  gives_onMach (f := fun m => m.onSession t m.sessionEnds) rfl (by rwa [Mach.onSession_some ht])

/-- Session `x` runs still when its PH_DEADLINE is reached (R372). -/
def Mach.overdue (m : Mach) (x : Session) : Bool :=
  x.state = 1 && !x.desc.isEmpty && x.d 0x68 8 ≠ 0 && x.d 0x68 8 ≤ m.phase && m.running

theorem Mach.not_overdue {m : Mach} {x : Session} (h : m.phase < x.d 0x68 8) : m.overdue x = false := by
  rw [Mach.overdue, decide_eq_false (Nat.not_le.2 h), Bool.and_false, Bool.false_and]

/-! ### Records (R356) -/

/-- A record of the present round under another session id stops the session with EXCH. -/
theorem Mach.readRecord_foreign {m m1 : Mach} {x : Session} {h : List Byte}
    (hr : m.vread 5 x.part ((x.d 0x30 8 + x.round % 2 * x.d 0x70 4) % 2 ^ 48) 64 = (m1, .ok h))
    (hround : fieldAt h 8 4 = x.round) (hid : fieldAt h 0 8 ≠ x.d 8 8) :
    m.readRecord x = (m1, { x with recs := x.recs + 1 }.stop 3 x.round) := by
  have hd : ∀ o n, ({ x with recs := x.recs + 1 } : Session).d o n = x.d o n := fun _ _ => rfl
  unfold Mach.readRecord
  dsimp only
  rw [show m.vread 5 ({ x with recs := x.recs + 1 } : Session).part _ 64 = _ from hr]
  simp only [hround, hd, Nat.lt_irrefl, if_false, hid, ne_eq, not_true_eq_false, not_false_eq_true, decide_true, decide_false,
    Bool.false_or, Bool.true_or, if_true]

/-- Settles O35: each event by its condition, the ends by `Mach.endSession_outcome`. -/
theorem sessionEventsComplete : Obligations.SessionEventsComplete := by
  intro s t x ht
  refine ⟨fun hst hr hrnd hs hc => ?_, fun hst hr hrnd hs hq hc => ?_, fun hst hdesc hd hp hrun => ?_, fun hst hp => ?_, fun hst => ?_,
    fun hst hop hops hround => ?_, fun m1 h hv hround hid => Mach.readRecord_foreign hv hround hid⟩
  · refine gives_session (q := fun m x => x.state = 1 && x.role ≠ 2 && x.rnd ≠ 0 && x.sentRec && x.recs < m.ctr x.part x.exchCtr)
      (f := fun m x => (m.readRecord x).1.setSession (m.readRecord x).2) rfl ht ?_ rfl
    rw [decide_eq_true hst, decide_eq_true hr, decide_eq_true hrnd, hs, decide_eq_true hc]; rfl
  · refine gives_session
      (q := fun m x => x.state = 1 && x.role ≠ 2 && 2 ≤ x.rnd && !x.sentRec && x.outq.isEmpty && x.batches < m.ctr x.part x.tripleCtr)
      (f := fun m x => ((m.readBatch x).1.tryRound (m.readBatch x).2).1.setSession ((m.readBatch x).1.tryRound (m.readBatch x).2).2) rfl ht ?_ rfl
    rw [decide_eq_true hst, decide_eq_true hr, hrnd, hs, hq, decide_eq_true hc]; rfl
  · refine gives_session (q := Mach.overdue)
      (f := fun m x => m.setSession (x.stop 5 0)) rfl ht ?_ (by rw [Session.stop_running hst])
    rw [Mach.overdue, decide_eq_true hst, List.isEmpty_eq_false_iff.2 hdesc, decide_eq_true hd, decide_eq_true hp, hrun]; rfl
  · exact unmoved_session (q := Mach.overdue) (f := fun m x => m.setSession (x.stop 5 0)) rfl ht (Mach.not_overdue hp)
  · obtain ⟨hleft, hres⟩ := s.m.endSession_outcome x
    refine gives_sessionEnd ht ?_
    rw [s.m.sessionEnds_stopped hst]
    exact ⟨hleft, hres, rfl⟩
  · obtain ⟨hleft, -⟩ := s.m.endSession_outcome { x with state := 2 }
    refine gives_sessionEnd ht ?_
    rw [s.m.sessionEnds_finished hst hop hops hround]
    exact ⟨hleft, rfl⟩

end Sys2Proof.Machine

namespace Sys2Proof.Machine

/-! ### Refused submissions (R381, R382) -/

/-- `r` is what a submission of partition `p` comes to that machine `m` refuses with `code` and index `idx`: the NAK carries both, the
refusal is counted and kept as the last, and no graph is taken up. -/
def Mach.Refused (m : Mach) (p code idx : Nat) (r : Mach × Option PRes) : Prop :=
  r.2 = some (.no 0x13 (code + 256 * idx)) ∧ r.1.loam = m.loam ∧ r.1.rd (A.LOAM_LAST_ERR p) = BitVec.ofNat 32 (code + 256 * idx) ∧
    r.1.rd (A.LOAM_ERRCNT p) = BitVec.ofNat 32 (min ((m.rd (A.LOAM_ERRCNT p)).toNat + 1) (2 ^ 32 - 1))

/-- The answer to a submission that is refused. -/
def Mach.refusal (m : Mach) (p code idx : Nat) : Mach × Option PRes := ((m.refuseGraph p code idx).1, some (m.refuseGraph p code idx).2)

theorem Mach.refusal_refused (m : Mach) (p : Nat) {code idx : Nat} (hc : code < 256) (hi : idx < 2 ^ 16) :
    m.Refused p code idx (m.refusal p code idx) := by
  have hd : (code + 256 * idx) % 2 ^ 40 = code + 256 * idx := Nat.mod_eq_of_lt (by omega)
  have hne : A.LOAM_ERRCNT p ≠ A.LOAM_LAST_ERR p := by simp only [A.LOAM_ERRCNT, A.LOAM_LAST_ERR]; omega
  exact ⟨congrArg (fun d => some (PRes.no 0x13 d)) hd, rfl, Mach.rd_wr_same _ _ _,
    (Mach.rd_wr_other _ _ _ _ hne).trans (m.rd_bump _)⟩

section

variable {m : Mach} {p c d : Nat} {ing : Ingress} {k : Pkt}

theorem Mach.submitValue_badHead (hf : k.isFirst = true) (hl : 64 ≤ k.payload.length) (h : headCheck k.payload = some (c, d)) :
    m.submitValue p ing k = m.refusal p c d := by
  simp only [Mach.submitValue, hf, Nat.not_lt.2 hl, h, if_true, if_false]
  rfl

theorem Mach.submitValue_noSpace (hf : k.isFirst = true) (hl : 64 ≤ k.payload.length) (h : headCheck k.payload = none)
    (hs : m.takeSpace p (gLen k.payload) = .error (c, d)) : m.submitValue p ing k = m.refusal p c d := by
  simp only [Mach.submitValue, hf, Nat.not_lt.2 hl, h, hs, if_true, if_false]
  rfl

/-- The image of a submission by reference has been read when its header is checked. -/
theorem Mach.submitRef_badHead {m1 : Mach} {b : List Byte} (hl : 64 ≤ fieldAt k.payload 8 4)
    (hr : m.vread 4 p (fieldAt k.payload 0 8) (min (fieldAt k.payload 8 4) (2 ^ 26)) = (m1, .ok b)) (h : headCheck b = some (c, d)) :
    m.submitRef p ing k = m1.refusal p c d := by
  simp only [Mach.submitRef, Nat.not_lt.2 hl, hr, h, Option.some_or, if_false]
  rfl

theorem Mach.graphSubmit_value (h : k.operand.toNat.testBit 0 = false) : m.graphSubmit ing k = m.submitValue k.part.val ing k := by
  rw [Mach.graphSubmit, h]
  rfl

theorem Mach.graphSubmit_ref (h : k.operand.toNat.testBit 0 = true) : m.graphSubmit ing k = m.submitRef k.part.val ing k := by
  rw [Mach.graphSubmit, h]
  rfl

end

theorem headCheck_magic {b : List Byte} (h : fieldAt b 0 4 ≠ 0x4C394648) : headCheck b = some (1, 0) := if_pos h

theorem headCheck_version {b : List Byte} (hm : fieldAt b 0 4 = 0x4C394648) (h : fieldAt b 4 2 ≠ 1) : headCheck b = some (2, 4) :=
  (if_neg (not_not.2 hm)).trans (if_pos h)

/-- Settles O31: each way of submission ends in `Mach.refusal`. A graph that is read by reference is checked at the packet, before a handle
is taken (log entry 34). -/
theorem submissionRefusals : Obligations.SubmissionRefusals := by
  intro m ing k c d hc hd refused
  refine ⟨fun hv hf hl h => ?_, fun hv hf hl h hs => ?_, fun m1 b hv hl hr h => ?_, fun _ => headCheck_magic, fun _ => headCheck_version⟩
  · rw [Mach.graphSubmit_value hv, Mach.submitValue_badHead hf hl h]
    exact m.refusal_refused _ hc hd
  · rw [Mach.graphSubmit_value hv, Mach.submitValue_noSpace hf hl h hs]
    exact m.refusal_refused _ hc hd
  · rw [Mach.graphSubmit_ref hv, Mach.submitRef_badHead hl hr h]
    exact m1.refusal_refused _ hc hd

end Sys2Proof.Machine

namespace Sys2Proof.Machine

/-! ### Entries of a table after one is set -/

theorem mem_tset_same {α : Type} (t : Tab α) (k : Nat) (v : α) : (k, v) ∈ tset t k v := by
  fun_induction tset t k v with
  | case1 => exact List.mem_cons_self
  | case2 => exact List.mem_cons_self
  | case3 => exact List.mem_cons_self
  | case4 j w r _ _ ih => exact List.mem_cons_of_mem _ ih

/-- An entry stays, but where it is the one that its key finds. -/
theorem mem_tset_of_mem {α : Type} {t : Tab α} {k : Nat} {e : Nat × α} (v : α) (h : e ∈ t) :
    e ∈ tset t k v ∨ (e.1 = k ∧ tfind t k = some e.2) := by
  fun_induction tset t k v with
  | case1 => exact absurd h List.not_mem_nil
  | case2 => exact .inl (List.mem_cons_of_mem _ h)
  | case3 w r _ =>
    rcases List.mem_cons.1 h with rfl | hr
    · exact .inr ⟨rfl, if_pos rfl⟩
    · exact .inl (List.mem_cons_of_mem _ hr)
  | case4 j w r _ hne ih =>
    rcases List.mem_cons.1 h with rfl | hr
    · exact .inl List.mem_cons_self
    · exact (ih hr).imp (List.mem_cons_of_mem _) (fun hf => ⟨hf.1, (if_neg (Ne.symm hne)).trans hf.2⟩)

/-- With rising keys, the entry that is set is the only one of its key. -/
theorem eq_or_mem_of_mem_tset {α : Type} {t : Tab α} {k : Nat} {v : α} {e : Nat × α} (hs : t.Pairwise (fun a b => a.1 < b.1))
    (h : e ∈ tset t k v) : e = (k, v) ∨ (e ∈ t ∧ e.1 ≠ k) := by
  fun_induction tset t k v with
  | case1 => exact .inl (List.mem_singleton.1 h)
  | case2 j w r hlt =>
    refine (List.mem_cons.1 h).imp_right fun hr => ⟨hr, ?_⟩
    rcases List.mem_cons.1 hr with rfl | hr
    · exact Nat.ne_of_gt hlt
    · exact Nat.ne_of_gt (hlt.trans ((List.pairwise_cons.1 hs).1 e hr))
  | case3 w r _ =>
    exact (List.mem_cons.1 h).imp_right fun hr => ⟨List.mem_cons_of_mem _ hr, Nat.ne_of_gt ((List.pairwise_cons.1 hs).1 e hr)⟩
  | case4 j w r _ hne ih =>
    rcases List.mem_cons.1 h with rfl | hr
    · exact .inr ⟨List.mem_cons_self, Ne.symm hne⟩
    · exact (ih (List.pairwise_cons.1 hs).2 hr).imp_right (fun hf => ⟨List.mem_cons_of_mem _ hf.1, hf.2⟩)

/-! ### The nodes of a graph after one has completed (R386) -/

/-- One is taken from the count of node `j`. -/
def releaseDep (l : Tab GNode) (j : Nat) : Tab GNode :=
  match tfind l j with
  | some z => tset l j { z with deps := z.deps - 1 }
  | none => l

/-- The nodes of `x` after node `n`, which was `y`, has completed. -/
def Graph.completed (x : Graph) (n : Nat) (y : GNode) : Tab GNode :=
  (nSucc x.img n).foldl releaseDep (tset x.nodes n { y with st := 3, data := [] })

theorem releaseDep_some {l : Tab GNode} {j : Nat} {z : GNode} (h : tfind l j = some z) :
    releaseDep l j = tset l j { z with deps := z.deps - 1 } := by
  rw [releaseDep, h]

/-- Some node other than `n` has not completed. -/
def Unfinished (n : Nat) (l : Tab GNode) : Prop := ∃ z ∈ l, z.1 ≠ n ∧ z.2.st ≠ 3

theorem Unfinished.tset_self {n : Nat} {l : Tab GNode} (y : GNode) (h : Unfinished n l) : Unfinished n (tset l n y) := by
  obtain ⟨z, hz, hne, hst⟩ := h
  exact ⟨z, (mem_tset_of_mem y hz).resolve_right (fun hf => hne hf.1), hne, hst⟩

theorem Unfinished.releaseDep {n : Nat} {l : Tab GNode} (j : Nat) (h : Unfinished n l) : Unfinished n (releaseDep l j) := by
  cases hf : tfind l j with
  | none => rwa [Machine.releaseDep, hf]
  | some w =>
    rw [releaseDep_some hf]
    obtain ⟨z, hz, hne, hst⟩ := h
    rcases mem_tset_of_mem { w with deps := w.deps - 1 } hz with hmem | ⟨hkey, hfound⟩
    · exact ⟨z, hmem, hne, hst⟩
    · have hw : w = z.2 := Option.some.inj (hf.symm.trans hfound)
      exact ⟨_, mem_tset_same l j _, hkey ▸ hne, hw ▸ hst⟩

theorem Unfinished.completed {n : Nat} {x : Graph} (y : GNode) (h : Unfinished n x.nodes) : Unfinished n (x.completed n y) :=
  List.foldlRecOn (motive := Unfinished n) _ _ (h.tset_self _) (fun _ hl j _ => hl.releaseDep j)

/-- The last node of a graph, where it has no successors. -/
theorem Graph.completed_last {x : Graph} {n : Nat} (y : GNode) (hs : nSucc x.img n = []) (hall : ∀ z ∈ x.nodes, z.1 = n ∨ z.2.st = 3)
    (hord : x.nodes.Pairwise (fun a b => a.1 < b.1)) : ∀ z ∈ x.completed n y, z.2.st = 3 := by
  intro z hz
  rw [Graph.completed, hs, List.foldl_nil] at hz
  rcases eq_or_mem_of_mem_tset hord hz with rfl | ⟨hmem, hne⟩
  · rfl
  · exact (hall z hmem).resolve_left hne

/-- With one successor, its count and the node itself are all that moves. -/
theorem Graph.completed_single {x : Graph} {n j : Nat} {z : GNode} (y : GNode) (hj : j ≠ n) (hs : nSucc x.img n = [j])
    (hz : tfind x.nodes j = some z) : tfind (x.completed n y) j = some { z with deps := z.deps - 1 } ∧
      tfind (x.completed n y) n = some { y with st := 3, data := [] } := by
  have hfind : tfind (tset x.nodes n { y with st := 3, data := [] }) j = some z := (tfind_tset_other _ _ _ _ hj).trans hz
  rw [Graph.completed, hs, List.foldl_cons, List.foldl_nil, releaseDep_some hfind]
  exact ⟨tfind_tset_same _ _ _, (tfind_tset_other _ _ _ _ hj.symm).trans (tfind_tset_same _ _ _)⟩

/-! ### The machine after a completion -/

theorem Mach.stampReady_stopped {m : Mach} {p g : Nat} (h : m.grState p g ≠ 3) : m.stampReady p g = m := if_pos h

/-- Ready ticks are no part of a graph's image. -/
theorem Mach.stampReady_gimg (m : Mach) (p g : Nat) : (m.stampReady p g).gimg p g = m.gimg p g := by
  unfold Mach.stampReady
  split
  · rfl
  · split
    · rfl
    · next x hx =>
      rw [Mach.gimg_eq (m.graph_setGraph_same p g _), Mach.gimg_eq hx]

theorem Mach.stampReady_grState (m : Mach) (p g : Nat) : (m.stampReady p g).grState p g = m.grState p g :=
  Mach.fld_of_act (congrArg Regs.act (m.stampReady_regs p g)) _ _ _

theorem Mach.addDone_regs (m : Mach) (p v : Nat) : (m.addDone p v).regs = m.regs := by
  unfold Mach.addDone
  split <;> rfl

/-- A graph that keeps its handle is DONE when its last node has completed (R384). -/
theorem Mach.endGraph_done {m : Mach} {p g : Nat} (ha : gAutoRel (m.gimg p g) = false) : (m.endGraph p g 4).grState p g = 4 := by
  have heq : m.endGraph p g 4 = (m.setGrState p g 4).addDone p (fieldAt (m.gimg p g) 0x30 2) := by
    simp only [Mach.endGraph, ha, if_true, Bool.false_eq_true, if_false]
  rw [heq]
  exact (Mach.fld_of_act (congrArg Regs.act (Mach.addDone_regs _ _ _)) _ _ _).trans
    (m.fld_put_same _ _ _ _ (by decide) (by decide))

/-- Graph `x` with node `n`, which was `y`, completed and counted in GR_DONE. -/
def Mach.nodeCounted (m : Mach) (p g n : Nat) (x : Graph) (y : GNode) : Mach :=
  (m.setGraph p g { x with nodes := x.completed n y }).wr (A.GR_DONE p g) (m.rd (A.GR_DONE p g) + 1)

theorem Mach.nodeCounted_state (m : Mach) (p g n : Nat) (x : Graph) (y : GNode) :
    (m.nodeCounted p g n x y).grState p g = m.grState p g :=
  Mach.fld_wr_other _ _ _ _ _ _ (by simp only [A.GR_STS, A.GR_DONE]; omega)

theorem Mach.nodeCounted_graph (m : Mach) (p g n : Nat) (x : Graph) (y : GNode) :
    (m.nodeCounted p g n x y).graph p g = some { x with nodes := x.completed n y } :=
  m.graph_setGraph_same p g _

theorem Mach.nodeCounted_stamped_state (m : Mach) (p g n : Nat) (x : Graph) (y : GNode) :
    ((m.nodeCounted p g n x y).stampReady p g).grState p g = m.grState p g :=
  (Mach.stampReady_grState _ _ _).trans (m.nodeCounted_state p g n x y)

section

variable {m : Mach} {p g n : Nat} {x : Graph} {y : GNode}

/-- A node without a counter of its own completes, in a partition that traces nothing. -/
theorem Mach.completeNode_eq (hg : m.graph p g = some x) (hy : tfind x.nodes n = some y) (hd : doneCtr (nf x.img n 0xE 2) = none)
    (ht : m.bit (A.TRACE_CFG p) 31 = false) : m.completeNode p g n =
      if m.grState p g = 3 ∧ ∀ z ∈ x.completed n y, z.2.st = 3 then ((m.nodeCounted p g n x y).stampReady p g).endGraph p g 4
      else (m.nodeCounted p g n x y).stampReady p g := by
  have hdone : (m.nodeCounted p g n x y).addDone p (nf x.img n 0xE 2) = m.nodeCounted p g n x y := by rw [Mach.addDone, hd]
  have htrace : (m.nodeCounted p g n x y).trace p 2 (traceNode g n) [] = m.nodeCounted p g n x y := by
    have hbit : (m.nodeCounted p g n x y).bit (A.TRACE_CFG p) 31 = false :=
      (Mach.bit_wr_other _ _ _ _ _ (by simp only [A.TRACE_CFG, A.GR_DONE]; omega)).trans ht
    rw [Mach.trace, hbit, Bool.false_and]; rfl
  have hraw : m.completeNode p g n =
      (let c := (((m.nodeCounted p g n x y).addDone p (nf x.img n 0xE 2)).trace p 2 (traceNode g n) []).stampReady p g
       if c.grState p g = 3 && (x.completed n y).all (fun z => z.2.st = 3) then c.endGraph p g 4 else c) := by
    rw [Mach.completeNode, hg, Mach.gnode_eq hg, hy]; rfl
  rw [hraw, hdone, htrace]
  simp only [Mach.nodeCounted_stamped_state, Bool.and_eq_true, decide_eq_true_eq, List.all_eq_true]

/-- A completion that is not the graph's last. -/
theorem Mach.completeNode_on (hg : m.graph p g = some x) (hy : tfind x.nodes n = some y) (hd : doneCtr (nf x.img n 0xE 2) = none)
    (ht : m.bit (A.TRACE_CFG p) 31 = false) (h : m.grState p g = 3 → ∃ z ∈ x.completed n y, z.2.st ≠ 3) :
    m.completeNode p g n = (m.nodeCounted p g n x y).stampReady p g := by
  refine (Mach.completeNode_eq hg hy hd ht).trans (if_neg fun ⟨hst, hall⟩ => ?_)
  obtain ⟨z, hz, hne⟩ := h hst
  exact hne (hall z hz)

/-- In a graph that no longer runs, a completion makes no node ready and ends nothing. -/
theorem Mach.completeNode_stopped (hg : m.graph p g = some x) (hy : tfind x.nodes n = some y) (hd : doneCtr (nf x.img n 0xE 2) = none)
    (ht : m.bit (A.TRACE_CFG p) 31 = false) (hst : m.grState p g ≠ 3) : m.completeNode p g n = m.nodeCounted p g n x y :=
  (Mach.completeNode_on hg hy hd ht (absurd · hst)).trans (Mach.stampReady_stopped ((m.nodeCounted_state p g n x y).trans_ne hst))

end

/-- Settles O30: the nodes by `Graph.completed`, the machine by `Mach.completeNode_eq`. -/
theorem nodeCompletion : Obligations.NodeCompletion := by
  intro m p g n x y hg hy hd ht ha r
  refine ⟨fun hst => ?_, fun hst hs hall hord => ?_, fun hst hleft => ?_, fun j z hj hs hz hst => ?_⟩
  · have hr : r = m.nodeCounted p g n x y := Mach.completeNode_stopped hg hy hd ht hst
    rw [hr]
    exact ⟨m.nodeCounted_state p g n x y, Mach.rd_wr_same _ _ _⟩
  · have hr : r = ((m.nodeCounted p g n x y).stampReady p g).endGraph p g 4 :=
      (Mach.completeNode_eq hg hy hd ht).trans (if_pos ⟨hst, Graph.completed_last y hs hall hord⟩)
    rw [hr]
    refine Mach.endGraph_done ?_
    rwa [Mach.stampReady_gimg, Mach.gimg_eq (m.nodeCounted_graph p g n x y)]
  · obtain ⟨z, hz, -, hne⟩ := Unfinished.completed y hleft
    have hr : r = (m.nodeCounted p g n x y).stampReady p g := Mach.completeNode_on hg hy hd ht (fun _ => ⟨z, hz, hne⟩)
    rw [hr, Mach.nodeCounted_stamped_state, hst]
  · have hr : r = m.nodeCounted p g n x y := Mach.completeNode_stopped hg hy hd ht hst
    rw [hr]
    exact ⟨_, m.nodeCounted_graph p g n x y, Graph.completed_single y hj hs hz⟩

end Sys2Proof.Machine

namespace Sys2Proof.Machine

/-! ### Commands on a handle (R384, R401) -/

section

variable {m : Mach} {p g : Nat}

theorem Mach.loamCommand_start (h : m.grState p g = 2) : m.loamCommand p 1 g = (m.startGraph p g).loamRes p g 0 := by
  simp [Mach.loamCommand, Mach.loamStart, h]

theorem Mach.loamCommand_abort (h : m.grState p g = 2 ∨ m.grState p g = 3) :
    m.loamCommand p 2 g = (m.abortGraph p g 0 0x30 0).loamRes p g 0 := by
  rcases h with h | h <;> simp [Mach.loamCommand, h]

theorem Mach.loamCommand_release (h : m.grState p g = 4 ∨ m.grState p g = 5 ∨ m.grState p g = 6) :
    m.loamCommand p 3 g = (m.freeGraph p g).loamRes p g 0 := by
  rcases h with h | h | h <;> simp [Mach.loamCommand, h]

/-- START, ABORT and RELEASE find a free handle. -/
theorem Mach.loamCommand_free {op : Nat} (hop : op = 1 ∨ op = 2 ∨ op = 3) (h : m.grState p g = 0) : m.loamCommand p op g = m.loamRes p g 2 := by
  rcases hop with rfl | rfl | rfl <;> simp [Mach.loamCommand, h]

/-- START, ABORT and RELEASE find a graph in SNAPSHOT. -/
theorem Mach.loamCommand_snapshot {op : Nat} (hop : op = 1 ∨ op = 2 ∨ op = 3) (h : m.grState p g = 1) :
    m.loamCommand p op g = m.loamRes p g 1 := by
  rcases hop with rfl | rfl | rfl <;> simp [Mach.loamCommand, Mach.loamStart, h]

theorem Mach.loamCommand_step (h : m.fld (A.LOAM_MODE p) 1 0 = 2) :
    m.loamCommand p 4 g = ({ m with loam := { m.loam with step := p :: m.loam.step } } : Mach).loamRes p 0 0 := if_pos h

theorem Mach.loamCommand_step_outside (h : m.fld (A.LOAM_MODE p) 1 0 ≠ 2) : m.loamCommand p 4 g = m.loamRes p 0 6 := if_neg h

end

theorem Mach.loamRes_rd (m : Mach) (p h code : Nat) :
    (m.loamRes p h code).rd (A.LOAM_RES p) = BitVec.ofNat 32 (2 ^ 31 + h * 256 + code) := Mach.rd_wr_same _ _ _

theorem Mach.loamRes_grState (m : Mach) (p : Fin 16) (h code : Nat) (g : Nat) : (m.loamRes p h code).grState p g = m.grState p g :=
  Mach.fld_wr_other _ _ _ _ _ _ (by simp only [A.GR_STS, A.LOAM_RES]; omega)

theorem tfind_terase_other {α : Type} (t : Tab α) {k j : Nat} (h : j ≠ k) : tfind (terase t k) j = tfind t j := by
  have hf : (terase t k).filter (fun e => e.1 = j) = t.filter (fun e => e.1 = j) := by
    rw [terase, List.filter_filter]
    refine List.filter_congr fun e _ => ?_
    by_cases he : e.1 = j
    · rw [he, decide_eq_true h, Bool.and_true]
    · rw [decide_eq_false he, Bool.false_and]
  rw [tfind_eq_filter, tfind_eq_filter, hf]

/-- The release of a handle leaves the partition's other graphs. -/
theorem Mach.freeGraph_other (m : Mach) (p : Nat) {g h : Nat} (hne : h ≠ g) :
    (m.freeGraph p g).graph p h = m.graph p h ∧ (m.freeGraph p g).grState p h = m.grState p h := by
  refine ⟨tfind_terase_other _ (by omega), ?_⟩
  have hsts : A.GR_STS p h ≠ A.GR_STS p g ∧ A.GR_STS p h ≠ A.GR_ERR_NODE p g ∧ A.GR_STS p h ≠ A.GR_ERR_DET p g ∧
      A.GR_STS p h ≠ A.GR_DONE p g := by
    simp only [A.GR_STS, A.GR_ERR_NODE, A.GR_ERR_DET, A.GR_DONE]; omega
  obtain ⟨hst, hnode, hdet, hdone⟩ := hsts
  unfold Mach.freeGraph Mach.grState
  dsimp only
  rw [Mach.fld_wr_other _ _ _ _ _ _ hdone, Mach.fld_wr_other _ _ _ _ _ _ hdet, Mach.fld_wr_other _ _ _ _ _ _ hnode,
    Mach.fld_wr_other _ _ _ _ _ _ hst]
  rfl

section

variable {s : State} {who : Ident} {p : Fin 16} {P : Mach → Prop}

/-- A command of LOAM_CMD that the window takes up. -/
theorem gives_loamCommand {c : Instr} {op : Nat} (g : Fin 64)
    (hx : exec c s = s.onMach (fun m => m.writeCmd who (A.LOAM_CMD p.val) (256 * g.val + op))) (hop : op < 16)
    (hopen : s.m.writeOpen who (A.LOAM_CMD p.val)) (hdone : s.m.bit (A.LOAM_RES p.val) 31 = true)
    (hP : P (s.m.loamCommand p op g).answered) : Gives c s P := by
  have hcode : bitsOf (256 * g.val + op) 3 0 = op := by simp only [bitsOf, Nat.shiftRight_eq_div_pow]; omega
  have hhandle : bitsOf (256 * g.val + op) 13 8 = g.val := by simp only [bitsOf, Nat.shiftRight_eq_div_pow]; omega
  refine gives_write hx (s.m.write_LOAM_CMD who _ p (by omega) hopen) ?_
  rwa [Mach.writeLoamCmd, if_pos hdone, hcode, hhandle]

/-- What START, ABORT and RELEASE have in common. -/
theorem gives_handleCommand {g : Fin 64} (hopen : s.m.writeOpen who (A.LOAM_CMD p.val)) (hdone : s.m.bit (A.LOAM_RES p.val) 31 = true)
    (hP : ∀ op, op = 1 ∨ op = 2 ∨ op = 3 → P (s.m.loamCommand p op g).answered) :
    ∀ c ∈ [Instr.loamStart who p g, .loamAbort who p g, .loamRelease who p g], Gives c s P := by
  simp only [List.forall_mem_cons, List.not_mem_nil, false_implies, implies_true, and_true]
  exact ⟨gives_loamCommand g rfl (by decide) hopen hdone (hP 1 (by decide)), gives_loamCommand g rfl (by decide) hopen hdone (hP 2 (by decide)),
    gives_loamCommand g rfl (by decide) hopen hdone (hP 3 (by decide))⟩

end

/-! ### Modes (R392) -/

section

variable {m : Mach} {who : Ident} {p v : Nat}

theorem Mach.writeLoamMode_same (h : v % 4 = m.fld (A.LOAM_MODE p) 1 0) : m.writeLoamMode who p v = m := if_pos h

/-- Partition 0 sets TEST, from NORMAL and while no graph holds a handle. -/
theorem Mach.writeLoamMode_test (hv : v % 4 = 2) (hc : m.fld (A.LOAM_MODE p) 1 0 = 0) (hw : who = .part 0) (hh : m.handles p = []) :
    m.writeLoamMode who p v = m.put (A.LOAM_MODE p) 1 0 2 := by
  simp [Mach.writeLoamMode, Mach.setMode, hv, hc, hw, hh]

/-- Partition 0 and Kaolin set RECOVERY, which keeps the mode that it leaves. -/
theorem Mach.writeLoamMode_recovery (hv : v % 4 = 3) (hc : m.fld (A.LOAM_MODE p) 1 0 < 2) (hw : who = .part 0 ∨ who = .kaolin) :
    m.writeLoamMode who p v =
      ({ m with loam := { m.loam with modeFrom := tset m.loam.modeFrom p (m.fld (A.LOAM_MODE p) 1 0) } } : Mach).put (A.LOAM_MODE p) 1 0 3 := by
  have hcur : m.fld (A.LOAM_MODE p) 1 0 = 0 ∨ m.fld (A.LOAM_MODE p) 1 0 = 1 := by omega
  have hne : ¬ 3 = m.fld (A.LOAM_MODE p) 1 0 := by omega
  simp [Mach.writeLoamMode, Mach.setMode, hv, hcur, hw, hne]

theorem Mach.writeLoamMode_rejected (hv : v % 4 = 1 ∨ (v % 4 = 2 ∧ m.handles p ≠ []) ∨ (v % 4 = 2 ∧ who ≠ .part 0))
    (hc : v % 4 ≠ m.fld (A.LOAM_MODE p) 1 0) : m.writeLoamMode who p v = m.putBit (A.LOAM_STS p) 31 true := by
  rcases hv with hv | ⟨hv, hh⟩ | ⟨hv, hw⟩
  · rw [hv] at hc
    simp [Mach.writeLoamMode, hv, hc]
  · rw [hv] at hc
    simp [Mach.writeLoamMode, hv, hc, hh]
  · rw [hv] at hc
    simp [Mach.writeLoamMode, hv, hc, hw]

end

/-! ### Counters, bindings, the snapshot area (R390, R391, R401) -/

theorem Mach.writeCtrVal_selected (m : Mach) (p : Nat) (v : Word) :
    (m.writeCtrVal p v.toNat).ctr p (m.fld (A.LOAM_CTR_SEL p) 11 0) = v.toNat :=
  (tget_tset_same _ _ _ _).trans (Nat.mod_eq_of_lt v.isLt)

theorem Mach.writeCtrVal_other (m : Mach) {p v q c : Nat} (hc : c < 4096) (h : q ≠ p ∨ c ≠ m.fld (A.LOAM_CTR_SEL p) 11 0) :
    (m.writeCtrVal p v).ctr q c = m.ctr q c := by
  have hsel : m.fld (A.LOAM_CTR_SEL p) 11 0 < 4096 := bitsOf_lt _ 11 0
  exact tget_tset_other _ _ _ _ _ (by omega)

/-- The binding of a queue reads back as the word that is kept of a write: VALID and the counter (R391). -/
theorem Mach.queueCtr_wr (m : Mach) (p q v : Nat) :
    (m.wr (qbKey p q) (BitVec.ofNat 32 (bitsOf v 15 15 * 2 ^ 15 + bitsOf v 11 0))).queueCtr p q =
      if bitOf v 15 then some (bitsOf v 11 0) else none := by
  have hvalid : bitsOf v 15 15 < 2 := bitsOf_lt v 15 15
  have hctr : bitsOf v 11 0 < 4096 := bitsOf_lt v 11 0
  have h15 : bitsOf (bitsOf v 15 15 * 2 ^ 15 + bitsOf v 11 0) 15 15 = bitsOf v 15 15 := by
    rw [bitsOf, Nat.shiftRight_eq_div_pow]; omega
  have h11 : bitsOf (bitsOf v 15 15 * 2 ^ 15 + bitsOf v 11 0) 11 0 = bitsOf v 11 0 := by
    rw [bitsOf, Nat.shiftRight_zero]; omega
  rw [Mach.queueCtr, Mach.bit_eq_fld, Mach.fld_wr_same, Mach.fld_wr_same, BitVec.toNat_ofNat, bitsOf_mod32 _ _ _ (by decide),
    bitsOf_mod32 _ _ _ (by decide), h15, h11, bitOf_eq_bitsOf]

theorem Mach.writeQb_own {m : Mach} {p : Nat} (v : Nat) (h : m.queueOwner (m.fld (A.LOAM_QB_SEL p) 13 0) = some p) :
    m.writeQb p v = m.wr (qbKey p (m.fld (A.LOAM_QB_SEL p) 13 0)) (BitVec.ofNat 32 (bitsOf v 15 15 * 2 ^ 15 + bitsOf v 11 0)) :=
  if_pos h

theorem Mach.writeQb_foreign {m : Mach} {p : Nat} (v : Nat) (h : m.queueOwner (m.fld (A.LOAM_QB_SEL p) 13 0) ≠ some p) : m.writeQb p v = m :=
  if_neg h

/-- Word 2 of the snapshot area's registers is LOAM_SNAP_SIZE. -/
theorem exec_loamSnapWrite_size (who : Ident) (p : Fin 16) (v : Word) (s : State) :
    exec (.loamSnapWrite who p 2 v) s = s.onMach (fun m => m.writeCmd who (A.LOAM_SNAP_SIZE p.val) v.toNat) := by
  have hoff : A.LOAM_SNAP_BASE_LO p.val + 4 * (2 : Fin 3).val = A.LOAM_SNAP_SIZE p.val := by
    simp only [A.LOAM_SNAP_BASE_LO, A.LOAM_SNAP_SIZE, Fin.val_two]; omega
  show s.onMach (fun m => m.writeCmd who (A.LOAM_SNAP_BASE_LO p.val + 4 * (2 : Fin 3).val) v.toNat) = _
  rw [hoff]

theorem Mach.writeSnapSize_taken {m : Mach} {who : Ident} {p : Nat} (v : Nat) (hw : who = .part 0) (hh : m.handles p = []) :
    m.writeSnapSize who p v = m.wr (A.LOAM_SNAP_SIZE p) (BitVec.ofNat 32 (v % 2 ^ 16)) :=
  if_pos (by simp [Mach.snapWritable, hw, hh])

theorem Mach.writeSnapSize_held {m : Mach} {who : Ident} {p : Nat} (v : Nat) (hh : m.handles p ≠ []) :
    m.writeSnapSize who p v = m.putBit (A.LOAM_STS p) 31 true :=
  if_neg (by simp [Mach.snapWritable, hh])

section

variable {s : State} {who : Ident} {p : Fin 16}

/-- Commands of the window on handle `g` (R384, R401). -/
theorem loamCommands_on_handle (g : Fin 64) (hopen : s.m.writeOpen who (A.LOAM_CMD p.val)) (hdone : s.m.bit (A.LOAM_RES p.val) 31 = true) :
    let res (code : Nat) : Word := BitVec.ofNat 32 (2 ^ 31 + g.val * 256 + code)
    (s.m.grState p g = 2 → Gives (.loamStart who p g) s (fun m => m.resp = [(0, 0)] ∧ m.grState p g = 3 ∧ m.rd (A.LOAM_RES p.val) = res 0)) ∧
    (s.m.grState p g = 2 ∨ s.m.grState p g = 3 → Gives (.loamAbort who p g) s (fun m => m.rd (A.LOAM_RES p.val) = res 0 ∧
      m = ((s.m.abortGraph p g 0 0x30 0).loamRes p g 0).answered)) ∧
    (s.m.grState p g = 4 ∨ s.m.grState p g = 5 ∨ s.m.grState p g = 6 → Gives (.loamRelease who p g) s (fun m => m.resp = [(0, 0)] ∧
      m.graph p g = none ∧ m.grState p g = 0 ∧ m.rd (A.LOAM_RES p.val) = res 0 ∧
      ∀ h : Fin 64, h ≠ g → m.graph p h = s.m.graph p h ∧ m.grState p h = s.m.grState p h)) ∧
    (s.m.grState p g = 0 → ∀ c ∈ [Instr.loamStart who p g, .loamAbort who p g, .loamRelease who p g],
      Gives c s (fun m => m = (s.m.loamRes p g 2).answered)) ∧
    (s.m.grState p g = 1 → ∀ c ∈ [Instr.loamStart who p g, .loamAbort who p g, .loamRelease who p g],
      Gives c s (fun m => m = (s.m.loamRes p g 1).answered)) := by
  intro res
  refine ⟨fun hst => ?_, fun hst => ?_, fun hst => ?_, fun hst => ?_, fun hst => ?_⟩
  · refine gives_loamCommand g rfl (by decide) hopen hdone ?_
    rw [Mach.loamCommand_start hst]
    exact ⟨rfl, (Mach.loamRes_grState _ p g 0 g).trans (s.m.startGraph_state p g), Mach.loamRes_rd _ _ _ _⟩
  · refine gives_loamCommand g rfl (by decide) hopen hdone ?_
    rw [Mach.loamCommand_abort hst]
    exact ⟨Mach.loamRes_rd _ _ _ _, rfl⟩
  · refine gives_loamCommand g rfl (by decide) hopen hdone ?_
    rw [Mach.loamCommand_release hst]
    refine ⟨rfl, s.m.freeGraph_graph p g, (Mach.loamRes_grState _ p g 0 g).trans (s.m.freeGraph_state p g), Mach.loamRes_rd _ _ _ _,
      fun h hne => ?_⟩
    obtain ⟨hgraph, hstate⟩ := s.m.freeGraph_other p (Fin.val_ne_of_ne hne)
    exact ⟨hgraph, (Mach.loamRes_grState _ p g 0 h).trans hstate⟩
  · exact gives_handleCommand hopen hdone fun op hop => congrArg Mach.answered (Mach.loamCommand_free hop hst)
  · exact gives_handleCommand hopen hdone fun op hop => congrArg Mach.answered (Mach.loamCommand_snapshot hop hst)

variable (v : Word)

/-- Writes of LOAM_MODE (R392). -/
theorem loamMode_writes (hopen : s.m.writeOpen who (A.LOAM_MODE p.val)) :
    (v.toNat % 4 = s.m.fld (A.LOAM_MODE p.val) 1 0 → Gives (.loamModeWrite who p v) s (fun m => m = s.m.answered)) ∧
    (v.toNat % 4 = 2 → s.m.fld (A.LOAM_MODE p.val) 1 0 = 0 → who = .part 0 → s.m.handles p = [] → Gives (.loamModeWrite who p v) s (fun m =>
      m.resp = [(0, 0)] ∧ m.fld (A.LOAM_MODE p.val) 1 0 = 2 ∧ m.loam = s.m.loam)) ∧
    (v.toNat % 4 = 3 → s.m.fld (A.LOAM_MODE p.val) 1 0 < 2 → who = .part 0 ∨ who = .kaolin → Gives (.loamModeWrite who p v) s (fun m =>
      m.resp = [(0, 0)] ∧ m.fld (A.LOAM_MODE p.val) 1 0 = 3 ∧ tfind m.loam.modeFrom p = some (s.m.fld (A.LOAM_MODE p.val) 1 0))) ∧
    ((v.toNat % 4 = 1 ∨ (v.toNat % 4 = 2 ∧ s.m.handles p ≠ []) ∨ (v.toNat % 4 = 2 ∧ who ≠ .part 0)) →
      v.toNat % 4 ≠ s.m.fld (A.LOAM_MODE p.val) 1 0 → Gives (.loamModeWrite who p v) s (fun m =>
        m = (s.m.putBit (A.LOAM_STS p.val) 31 true).answered ∧ m.bit (A.LOAM_STS p.val) 31 = true ∧
        m.fld (A.LOAM_MODE p.val) 1 0 = s.m.fld (A.LOAM_MODE p.val) 1 0)) := by
  have hwrite := s.m.write_LOAM_MODE who v.toNat p v.isLt hopen
  refine ⟨fun h => ?_, fun hv hc hw hh => ?_, fun hv hc hw => ?_, fun hv hc => ?_⟩
  · exact gives_write rfl hwrite (congrArg Mach.answered (Mach.writeLoamMode_same h))
  · refine gives_write rfl hwrite ?_
    rw [Mach.writeLoamMode_test hv hc hw hh]
    exact ⟨rfl, s.m.fld_put_same _ _ _ _ (by decide) (by decide), rfl⟩
  · refine gives_write rfl hwrite ?_
    rw [Mach.writeLoamMode_recovery hv hc hw]
    exact ⟨rfl, Mach.fld_put_same _ _ _ _ _ (by decide) (by decide), tfind_tset_same _ _ _⟩
  · refine gives_write rfl hwrite ?_
    rw [Mach.writeLoamMode_rejected hv hc]
    exact ⟨rfl, s.m.bit_putBit_same _ _ _ (by decide), s.m.fld_putBit_other _ _ _ _ _ _ (by simp only [A.LOAM_MODE, A.LOAM_STS]; omega)⟩

end

/-- Settles O27: each command and each write by the machine that it makes. HANDLE reads 0 after STEP (log entry 17), and ABORT finds a
graph in SNAPSHOT in the wrong state (log entry 33). -/
theorem loamWindowComplete : Obligations.LoamWindowComplete := by
  refine ⟨fun s who p hopen hdone => ⟨fun g => loamCommands_on_handle g hopen hdone, fun ht => ?_, fun ht => ?_⟩,
    fun s who p v => ⟨loamMode_writes v, fun hopen => ?_, fun hopen hq => ?_, fun hopen hq => ?_, fun hopen hw hh => ?_, fun hopen hh => ?_,
      fun hopen => ?_⟩⟩
  · refine gives_loamCommand (op := 4) 0 rfl (by decide) hopen hdone ?_
    rw [Mach.loamCommand_step ht]
    exact ⟨rfl, List.mem_cons_self, Mach.loamRes_rd _ _ _ _⟩
  · exact gives_loamCommand (op := 4) 0 rfl (by decide) hopen hdone (congrArg Mach.answered (Mach.loamCommand_step_outside ht))
  · exact gives_write rfl (s.m.write_LOAM_CTR_VAL who v.toNat p v.isLt hopen)
      ⟨rfl, s.m.writeCtrVal_selected p v, fun _ _ hc h => s.m.writeCtrVal_other hc h⟩
  · refine gives_write rfl (s.m.write_LOAM_QB who v.toNat p v.isLt hopen) ⟨rfl, ?_⟩
    rw [Mach.writeQb_own _ hq]
    exact s.m.queueCtr_wr p _ v.toNat
  · exact gives_write rfl (s.m.write_LOAM_QB who v.toNat p v.isLt hopen) (congrArg Mach.answered (Mach.writeQb_foreign _ hq))
  · refine gives_write (exec_loamSnapWrite_size who p v s) (s.m.write_LOAM_SNAP_SIZE who v.toNat p v.isLt hopen) ?_
    rw [Mach.writeSnapSize_taken _ hw hh]
    refine ⟨rfl, (s.m.fld_wr_same _ _ _ _).trans ?_⟩
    rw [BitVec.toNat_ofNat, bitsOf_mod32 _ _ _ (by decide)]
    exact Nat.mod_mod _ _
  · exact gives_write (exec_loamSnapWrite_size who p v s) (s.m.write_LOAM_SNAP_SIZE who v.toNat p v.isLt hopen)
      (congrArg Mach.answered (Mach.writeSnapSize_held _ hh))
  · exact gives_write rfl (s.m.write_TRACE_CFG who v.toNat p v.isLt hopen) ⟨rfl, rfl⟩

end Sys2Proof.Machine

namespace Sys2Proof.Machine

/-! ### The end of a link key's grace period (R481, log entry 22) -/

/-- What a command gives, its answer has. -/
theorem Gives.of_exec {c : Instr} {s : State} {n : Mach} {P : Mach → Prop} (h : Gives c s P) (hx : exec c s = .next (s.after n)) : P n := by
  obtain ⟨m, hm, hp⟩ := h
  have hs : s.after m = s.after n := Host.Outcome.next.inj (hm.symm.trans hx)
  have hmn : m = n := congrArg State.m hs
  exact hmn ▸ hp

/-- The end of a grace period clears ALT.VALID where ALT.ROLE is PREV, and leaves it where a next key has been named in ALT since the SWAP. -/
theorem Mach.graceEnd_valid (m : Mach) (p : Nat) : (m.graceEnd p).bit (A.HRMP_LKEY_ALT p) 31 =
    (m.bit (A.HRMP_LKEY_ALT p) 31 && !m.bit (A.HRMP_LKEY_ALT p) 30) := by
  unfold Mach.graceEnd
  dsimp only
  split_ifs with h
  · have hrole : m.bit (A.HRMP_LKEY_ALT p) 30 = true := h
    rw [hrole, Bool.not_true, Bool.and_false]
    exact Mach.bit_putBit_same _ _ _ _ (by decide)
  · have hrole : m.bit (A.HRMP_LKEY_ALT p) 30 = false := Bool.eq_false_of_not_eq_true h
    rw [hrole, Bool.not_false, Bool.and_true]
    rfl

/-- LKEY_GRACE_END at a slot boundary at or after the grace period's end. -/
theorem exec_lkeyGraceEnd_due {s : State} {p : Fin 16} {t : Nat} (hg : tfind s.m.net.grace p.val = some t)
    (he : s.m.phs.slotEdge = true) (ht : t ≤ s.m.phase) : exec (.lkeyGraceEnd p) s = .next (s.after (s.m.graceEnd p.val)) := by
  change execLkeyGraceEnd p s = _
  simp only [execLkeyGraceEnd, State.onMach_eq, hg, he, ht, decide_true, Bool.and_self, if_true]

/-- Partition 0 at the end of its grace period, in which it has named slot 5 as its next key: HRMP_LKEY_ALT is VALID with ROLE NEXT. -/
def nextKeyNamed : State :=
  let m := State.reset.m.wr (A.HRMP_LKEY_ALT 0) 0x80000005
  { State.reset with m := { m with net := { m.net with grace := [(0, 0)] }, phs := { m.phs with slotEdge := true } } }

/-- Refutes O10: HRMP_LKEY_ALT can be written during a grace period (R491). Where it has come to name the next key, ROLE NEXT, the end of
the grace period leaves ALT.VALID set, since R481 clears it for the old key (log entry 22). The statement's clause for LKEY_GRACE_END
has no premise about ROLE. -/
theorem not_portWritesComplete : ¬ Obligations.PortWritesComplete := by
  unfold Obligations.PortWritesComplete
  intro h
  obtain ⟨-, -, -, -, -, -, hgrace, -⟩ := h nextKeyNamed (.part 0) 0
  have hx := exec_lkeyGraceEnd_due (s := nextKeyNamed) (p := 0) (t := 0) rfl rfl (Nat.zero_le _)
  have hclear : (nextKeyNamed.m.graceEnd 0).bit (A.HRMP_LKEY_ALT 0) 31 = false := (hgrace 0 0 rfl rfl (Nat.zero_le _)).of_exec hx
  have hstands : (nextKeyNamed.m.graceEnd 0).bit (A.HRMP_LKEY_ALT 0) 31 = true := (Mach.graceEnd_valid _ 0).trans (by decide)
  exact Bool.false_ne_true (hclear.symm.trans hstands)

end Sys2Proof.Machine

namespace Sys2Proof.Machine

/-- A command whose meaning makes `n` of the machine gives whatever `n` is. -/
theorem gives_made {c : Instr} {s : State} {f : Mach → Mach} {n : Mach} {P : Mach → Prop} (hx : exec c s = s.onMach f) (hn : f s.m = n)
    (hp : P n) : Gives c s P := gives_onMach hx (hn.symm ▸ hp)

/-! ### Machines with the same registers -/

theorem Mach.fld_of_rd {m k : Mach} {a : Nat} (h : m.rd a = k.rd a) (hi lo : Nat) : m.fld a hi lo = k.fld a hi lo := by
  rw [Mach.fld, h, Mach.fld]
theorem Mach.bit_of_rd {m k : Mach} {a : Nat} (h : m.rd a = k.rd a) (i : Nat) : m.bit a i = k.bit a i := by rw [Mach.bit, h, Mach.bit]
theorem Mach.rd_of_regs {m k : Mach} (h : m.regs = k.regs) (a : Nat) : m.rd a = k.rd a := Mach.rd_of_act (congrArg Regs.act h) a
theorem Mach.fld_of_regs {m k : Mach} (h : m.regs = k.regs) (a hi lo : Nat) : m.fld a hi lo = k.fld a hi lo :=
  Mach.fld_of_act (congrArg Regs.act h) a hi lo
theorem Mach.bit_of_regs {m k : Mach} (h : m.regs = k.regs) (a i : Nat) : m.bit a i = k.bit a i :=
  Mach.bit_of_act (congrArg Regs.act h) a i

/-! ### What the counters of a ring port leave as it was (R455, R456) -/

/-- The register of a ring port at `a` is one of pages k = 1 and k = 2, which hold the port's counters and queue blocks. -/
def portCount (a : Nat) : Prop := 0x1000 ≤ a % 0x8000 ∧ a % 0x8000 < 0x3000

/-- Registers of ports at different places of their port's pages are different registers (R453). -/
theorem portReg_ne {a b n k : Nat} (h : a % 0x8000 ≠ b % 0x8000) : a + 0x8000 * n ≠ b + 0x8000 * k := by omega

theorem portCount_of {a n : Nat} (h : 0x1000 ≤ a % 0x8000 ∧ a % 0x8000 < 0x3000) : portCount (a + 0x8000 * n) := by
  unfold portCount; omega

theorem not_portCount_of {a n : Nat} (h : a % 0x8000 < 0x1000 ∨ 0x3000 ≤ a % 0x8000) : ¬ portCount (a + 0x8000 * n) := by
  unfold portCount; omega

theorem portCount_vcBlock {n vc i : Nat} (hvc : vc < 4) (hi : i < 0x20) : portCount (vcBlock n vc + i) := by
  unfold portCount vcBlock; omega

/-- `k` raises the faults of `m` and holds its registers, but for the counts of ring ports. -/
structure Mach.SameButCounts (k m : Mach) : Prop where
  raised : k.raised = m.raised
  rd : ∀ b, ¬ portCount b → k.rd b = m.rd b

namespace Mach.SameButCounts
variable {k m j : Mach}

theorem refl (m : Mach) : m.SameButCounts m := ⟨rfl, fun _ _ => rfl⟩

theorem trans (h : k.SameButCounts m) (g : m.SameButCounts j) : k.SameButCounts j :=
  ⟨h.raised.trans g.raised, fun b hb => (h.rd b hb).trans (g.rd b hb)⟩

theorem bump (m : Mach) {a : Nat} (ha : portCount a) : (m.bump a).SameButCounts m :=
  ⟨rfl, fun _ hb => Mach.rd_bumpF_other _ _ _ _ _ _ (fun e => hb (e ▸ ha))⟩

theorem foldl {α : Type} (l : List α) (g : Mach → α → Mach) (h : ∀ (m : Mach), ∀ x ∈ l, (g m x).SameButCounts m) (m : Mach) :
    (l.foldl g m).SameButCounts m :=
  ⟨foldl_keeps l g Mach.raised (fun a x hx => (h a x hx).raised) m,
    fun b hb => foldl_keeps l g (fun a => a.rd b) (fun a x hx => (h a x hx).rd b hb) m⟩

theorem fld (h : k.SameButCounts m) {b : Nat} (hb : ¬ portCount b) (hi lo : Nat) : k.fld b hi lo = m.fld b hi lo := by
  rw [Mach.fld, h.rd b hb, Mach.fld]

theorem bit (h : k.SameButCounts m) {b : Nat} (hb : ¬ portCount b) (i : Nat) : k.bit b i = m.bit b i := by
  rw [Mach.bit, h.rd b hb, Mach.bit]

theorem ringUp (h : k.SameButCounts m) (n : Nat) : k.ringUp n = m.ringUp n := by
  rw [Mach.ringUp, h.fld (not_portCount_of (by decide)), Mach.ringUp]

theorem node (h : k.SameButCounts m) : k.node = m.node := h.fld (by unfold portCount; decide) 19 0

/-- No entry of a route table is a counter (R457). -/
theorem not_portCount_route {t e : Nat} (h : e < 64) : ¬ portCount (routeAddr t e) ∧ ¬ portCount (routeAddr t e + 4) := by
  unfold routeAddr portCount A.ROUTE_LO
  split_ifs <;> omega

theorem routeEntry (h : k.SameButCounts m) (hf : k.net.folded = m.net.folded) (t : Nat) {e : Nat} (he : e < 64) :
    k.routeEntry t e = m.routeEntry t e := by
  simp only [Mach.routeEntry, h.fld (not_portCount_route he).1, h.ringUp, hf]

/-- Counting moves no route (R439). -/
theorem route (h : k.SameButCounts m) (hf : k.net.folded = m.net.folded) (t dst : Nat) : k.route t dst = m.route t dst := by
  have hfind : (List.range 64).find? (fun e => k.bit (routeAddr t e) 31 && k.fld (routeAddr t e) 19 0 ≤ dst &&
        dst ≤ k.fld (routeAddr t e + 4) 19 0) =
      (List.range 64).find? (fun e => m.bit (routeAddr t e) 31 && m.fld (routeAddr t e) 19 0 ≤ dst &&
        dst ≤ m.fld (routeAddr t e + 4) 19 0) :=
    List.find?_congr fun e he => by
      obtain ⟨hlo, hhi⟩ := not_portCount_route (t := t) (List.mem_range.1 he)
      rw [h.bit hlo, h.fld hlo, h.fld hhi]
  unfold Mach.route
  rw [h.node, hfind]
  split_ifs
  · rfl
  · split
    · rfl
    · rename_i e he
      simp only [h.routeEntry hf t (List.mem_range.1 (List.mem_of_find?_eq_some he)), h.ringUp]

theorem creditNeeded (h : k.SameButCounts m) (f : TxFrame) : k.creditNeeded f = m.creditNeeded f := by
  have hcfg : ¬ portCount (A.BRL_PORT_CFG f.port) := not_portCount_of (by decide)
  unfold Mach.creditNeeded
  cases f.transit with
  | none => rfl
  | some i => dsimp only; rw [h.bit hcfg]

/-- Counting moves no credit (R433, R435). -/
theorem hasCredit (h : k.SameButCounts m) (hs : k.net.crSize = m.net.crSize) (hr : k.net.crRecv = m.net.crRecv)
    (ht : k.net.crSent = m.net.crSent) (f : TxFrame) : k.hasCredit f = m.hasCredit f := by
  have hc : k.credit = m.credit := by unfold Mach.credit; rw [hs, hr, ht]
  rw [Mach.hasCredit, h.creditNeeded, hc, Mach.hasCredit]

end Mach.SameButCounts

end Sys2Proof.Machine

namespace Sys2Proof.Machine

/-! ### Frames that leave (R431 to R433) -/

@[simp] theorem Mach.freeCredits_sent (m : Mach) (n vc p l : Nat) : (m.freeCredits n vc p l).net.sent = m.net.sent := rfl
@[simp] theorem Mach.freeCredits_txq (m : Mach) (n vc p l : Nat) : (m.freeCredits n vc p l).net.txq = m.net.txq := rfl
@[simp] theorem Mach.freeCredits_crSent (m : Mach) (n vc p l : Nat) : (m.freeCredits n vc p l).net.crSent = m.net.crSent := rfl

/-- A frame that starts goes from the queue to the line, and its fragments count as sent in its pool or share (R433). -/
theorem Mach.startRing_outcome (m : Mach) (n : Nat) (f : TxFrame) (pre : Bool) :
    (m.startRing n f pre).net.sent = m.net.sent ++ [f] ∧ (m.startRing n f pre).net.txq = dropFirst m.net.txq f ∧
    tget (m.startRing n f pre).net.crSent (crKey n f.vc f.pkt.part.val) 0 =
      (tget m.net.crSent (crKey n f.vc f.pkt.part.val) 0 + f.frags) % 2 ^ 32 := by
  unfold Mach.startRing
  dsimp only
  cases f.transit <;> cases pre <;> simp

theorem Mach.frameStart_next {m : Mach} {n room : Nat} {vc : Option Nat} {f : TxFrame} (hu : m.ringUp n = true)
    (hf : m.nextRingFrame n vc room = some f) : m.frameStart n vc room = m.startRing n f vc.isSome := by
  rw [Mach.frameStart, if_pos hu, hf]

@[simp] theorem Mach.enqueue_regs (m : Mach) (f : TxFrame) : (m.enqueue f).regs = m.regs := rfl
theorem Mach.enqueue_rd (m : Mach) (f : TxFrame) (a : Nat) : (m.enqueue f).rd a = m.rd a := Mach.rd_of_regs (m.enqueue_regs f) a

/-! ### A frame in transit (R428, R439) -/

/-- The fragment `x` has been decoded and the context of its VC is closed: a correction is counted (R421, R428). -/
def Mach.fragTaken (m : Mach) (n : Nat) (x : Frag) : Mach :=
  let k := if x.corrected = 0 then m else m.bump (A.BRL_CORR n)
  { k with net := { k.net with asm := tset k.net.asm (4 * n + x.vc) {} } }

theorem Mach.fragTaken_same (m : Mach) (n : Nat) (x : Frag) : (m.fragTaken n x).SameButCounts m := by
  unfold Mach.fragTaken
  dsimp only
  split_ifs
  · exact ⟨rfl, fun _ _ => rfl⟩
  · have h := SameButCounts.bump m (a := A.BRL_CORR n) (portCount_of (by decide))
    exact ⟨h.raised, h.rd⟩

theorem Mach.fragTaken_net (m : Mach) (n : Nat) (x : Frag) :
    (m.fragTaken n x).net = { m.net with asm := tset m.net.asm (4 * n + x.vc) {} } := by
  unfold Mach.fragTaken
  dsimp only
  split_ifs <;> rfl

/-- A good DATA fragment that is FIRST and LAST, on a closed context, is a whole frame (R428). -/
theorem Mach.fragIn_whole (m : Mach) (n : Nat) {x : Frag} (ht : x.typ = 1) (hf : x.first = true) (hl : x.last = true)
    (hu : x.uncorrectable = false) (hc : x.crcOk = true) (ho : (tget m.net.asm (4 * n + x.vc) {}).isOpen = false) :
    m.fragIn n x = (m.fragTaken n x).frameIn n x.vc (x.body.take x.nbytes) 1 := by
  by_cases hz : x.corrected = 0 <;>
    simp [Mach.fragIn, Mach.dataFrag, Mach.framePart, Mach.fragTaken, ht, hf, hl, hu, hc, ho, hz]

/-- The frame of packet `k` that came in on ring port `n` and leaves by port `g` (R435, R439). -/
def transitFrame (n vc g : Nat) (opc : BitVec 8) (k : Pkt) : TxFrame :=
  { port := g, vc := vc, opc := opc, pkt := k, dest := none, transit := some n,
    recovery := decide (opc = 0x71) && bitOf (fieldAt k.payload 1 1) 0 }

/-- A whole frame has been counted at port `n` and VC `vc` (R410, R455). -/
def Mach.frameCounted (m : Mach) (n vc : Nat) : Mach := (m.bump (A.BRL_RX_FRAMES n)).bump (A.Q_ITEMS (vcBlock n vc))

theorem Mach.frameCounted_same (m : Mach) (n : Nat) {vc : Nat} (hvc : vc < 4) : (m.frameCounted n vc).SameButCounts m :=
  (SameButCounts.bump _ (portCount_vcBlock hvc (by decide))).trans (SameButCounts.bump m (portCount_of (by decide)))

@[simp] theorem Mach.frameCounted_net (m : Mach) (n vc : Nat) : (m.frameCounted n vc).net = m.net := rfl

theorem Mach.frameCounted_rxFrames (m : Mach) (n vc : Nat) : (m.frameCounted n vc).rd (A.BRL_RX_FRAMES n) =
    BitVec.ofNat 32 (min ((m.rd (A.BRL_RX_FRAMES n)).toNat + 1) (2 ^ 32 - 1)) := by
  have hne : A.BRL_RX_FRAMES n ≠ A.Q_ITEMS (vcBlock n vc) := by
    simp only [A.BRL_RX_FRAMES, A.Q_ITEMS, vcBlock]; omega
  exact (Mach.rd_bumpF_other _ _ _ _ _ _ hne).trans (m.rd_bump _)

theorem Mach.fragTaken_rxFrames (m : Mach) (n : Nat) (x : Frag) :
    (m.fragTaken n x).rd (A.BRL_RX_FRAMES n) = m.rd (A.BRL_RX_FRAMES n) := by
  unfold Mach.fragTaken
  dsimp only
  split_ifs
  · rfl
  · exact Mach.rd_bumpF_other m (A.BRL_CORR n) _ _ _ _ (portReg_ne (by decide))

/-- A whole good frame of VC2 or VC3 for another node waits at the egress that its route gives (R428, R439). -/
theorem Mach.frameIn_transit (m : Mach) {n vc g frags : Nat} {b : List Byte} {opc : BitVec 8} {k : Pkt} (hb : parsePkt b = (opc, k))
    (hlen : fragsOf k.plen.toNat k.enc = frags) (hvc : k.vc.toNat = vc) (h2 : 2 ≤ vc) (hd : k.dst.toNat ≠ 0xFFFFF)
    (hr : m.route n k.dst.toNat = some g) (hg : g < 8) :
    m.frameIn n vc b frags = (m.frameCounted n vc).enqueue (transitFrame n vc g opc k) := by
  have hr' : (m.frameCounted n vc).route n k.dst.toNat = some g :=
    ((m.frameCounted_same n (hvc ▸ k.vc.isLt)).route rfl _ _).trans hr
  have h2' : ¬ vc < 2 := by omega
  have hg' : g ≠ 8 := by omega
  unfold Mach.frameCounted at *
  simp [Mach.frameIn, transitFrame, hb, hlen, hvc, h2', hd, hr']

/-- A whole frame that lacks credit at its egress waits there (R428, R435). -/
theorem Mach.transitIn_waits {m j : Mach} {n room : Nat} {x : Frag} {f : TxFrame} (hup : m.ringUp n = true)
    (hx : m.fragIn n x = j.enqueue f) (hq : j.net.txq = m.net.txq) (hc : j.hasCredit f = false) : m.transitIn n [x] room = j.enqueue f := by
  have hstays : (j.enqueue f).ringEligible room f = false := by
    have h : (j.enqueue f).hasCredit f = false := hc
    simp [Mach.ringEligible, h]
  simp [Mach.transitIn, hup, hx, hq, hstays]

/-! ### RING_CTL for this node (R440, R448) -/

/-- A well-formed RING_CTL for this node is handled here, and goes no further. -/
theorem Mach.ringCtlIn_own {m : Mach} {n op : Nat} {k : Pkt} {handle : Mach → Mach} (hu : m.ringUp n = true) (hk : ringCtlOk k op = true)
    (hd : k.dst.toNat = m.node) (hb : k.dst.toNat ≠ 0xFFFFF) : m.ringCtlIn n k op handle = handle m := by
  simp [Mach.ringCtlIn, hu, hk, hd, hd ▸ hb]

theorem gives_ringCtl {c : Instr} {s : State} {n : Fin 8} {op : Nat} {k : Pkt} {handle : Mach → Mach} {P : Mach → Prop}
    (hx : exec c s = s.onMach (fun m => m.ringCtlIn n.val k op handle)) (hu : s.m.ringUp n.val = true)
    (hd : k.dst.toNat = s.m.node) (hb : k.dst.toNat ≠ 0xFFFFF) (hk : ringCtlOk k op = true) (hp : P (handle s.m)) : Gives c s P :=
  gives_onMach hx (by rwa [Mach.ringCtlIn_own hu hk hd hb])

/-! ### The statement -/

theorem gives_brlTransit {s : State} {n : Fin 8} {x : Frag} {room : Nat} {f : TxFrame} (hu : s.m.ringUp n.val = true)
    (hx : s.m.fragIn n.val x = ((s.m.fragTaken n.val x).frameCounted n.val x.vc).enqueue f) (hc : s.m.hasCredit f = false) :
    Gives (.brlTransit n [x] room) s (fun m => m.net.txq = s.m.net.txq ++ [f] ∧
      m.rd (A.BRL_RX_FRAMES n.val) = BitVec.ofNat 32 (min ((s.m.rd (A.BRL_RX_FRAMES n.val)).toNat + 1) (2 ^ 32 - 1))) := by
  have hvc : x.vc < 4 := bitsOf_lt _ 7 6
  have hsame := ((s.m.fragTaken n.val x).frameCounted_same n.val hvc).trans (s.m.fragTaken_same n.val x)
  have hrx := ((s.m.fragTaken n.val x).frameCounted_rxFrames n.val x.vc).trans (by rw [s.m.fragTaken_rxFrames])
  have hnet := (Mach.frameCounted_net _ n.val x.vc).trans (s.m.fragTaken_net n.val x)
  generalize (s.m.fragTaken n.val x).frameCounted n.val x.vc = j at *
  have hq : j.net.txq = s.m.net.txq := by rw [hnet]
  have hcredit : j.hasCredit f = false := (hsame.hasCredit (by rw [hnet]) (by rw [hnet]) (by rw [hnet]) f).trans hc
  exact gives_made rfl (Mach.transitIn_waits hu hx hq hcredit) ⟨by rw [Mach.enqueue_txq, hq], by rw [Mach.enqueue_rd, hrx]⟩

/-- Settles O7: a frame by `Mach.startRing_outcome`, transit by `Mach.transitIn_waits`, credits by the tables that hold them, RING_CTL by
`Mach.ringCtlIn_own`. That one command is the start of a frame, with the open VC and the room that it is told, is log entry 23. -/
theorem ringPacketsComplete : Obligations.RingPacketsComplete := by
  refine ⟨fun s n hu => ⟨fun openVc room f hf => ?_, fun x room g opc k ht hf hl hun hcrc h2 ho hpk hfr hvc hd hr hg => ?_, ?_,
    fun vc part count => ?_⟩, fun s n k hu hd hb => ?_⟩
  · exact gives_made rfl (Mach.frameStart_next hu hf) (s.m.startRing_outcome _ _ _)
  · intro f hc
    refine gives_brlTransit hu ?_ hc
    rw [s.m.fragIn_whole n.val ht hf hl hun hcrc ho]
    refine Mach.frameIn_transit _ hpk hfr hvc h2 hd ?_ hg
    rw [(s.m.fragTaken_same n.val x).route (congrArg (fun a => a.folded) (s.m.fragTaken_net n.val x))]
    exact hr
  · exact gives_made rfl (if_pos hu) ⟨rfl, rfl⟩
  · exact gives_made rfl (if_pos hu) ⟨tget_tset_same _ _ _ _, fun k hk => tget_tset_other _ _ _ _ _ hk⟩
  · refine ⟨?_, ?_, ?_, ?_, ?_, ?_⟩ <;> exact fun hk => gives_ringCtl rfl hu hd hb hk rfl

end Sys2Proof.Machine

namespace Sys2Proof.Machine

/-! ### Lanes (R420, R425) -/

theorem lanesOf_le (map : Nat) : lanesOf map ≤ 16 := by
  simpa [lanesOf] using List.length_filter_le (fun i => map.testBit i) (List.range 16)

section
variable (m : Mach) (n : Nat)

@[simp] theorem Mach.setLanes_lanes (map : Nat) : (m.setLanes n map).lanes n = map := tget_tset_same _ _ _ _

theorem Mach.setLanes_count (map : Nat) : (m.setLanes n map).fld (A.BRL_PORT_STS n) 20 16 = Machine.lanesOf map :=
  (Mach.fld_put_same _ _ _ _ _ (by decide) (by decide)).trans (Nat.mod_eq_of_lt (Nat.lt_of_le_of_lt (lanesOf_le map) (by decide)))

/-- A new lane map leaves the state of the port. -/
theorem Mach.setLanes_state (map : Nat) : (m.setLanes n map).fld (A.BRL_PORT_STS n) 2 0 = m.fld (A.BRL_PORT_STS n) 2 0 :=
  Mach.fld_put_disjoint _ _ _ _ _ _ _ (by decide) (by decide) (by decide)

theorem Mach.setLanes_rd (map : Nat) {b : Nat} (hb : b ≠ A.BRL_PORT_STS n) : (m.setLanes n map).rd b = m.rd b :=
  Mach.rd_put_other _ _ _ _ _ _ hb

/-! ### A port that leaves service (R443, R446) -/

theorem Mach.broadcast_same (op flags ttl arg0 arg1 : Nat) : (m.broadcast op flags ttl arg0 arg1).SameButCounts m := by
  unfold Mach.broadcast
  refine .foldl _ _ (fun a i _ => ?_) m
  split_ifs
  · exact ⟨rfl, fun _ _ => rfl⟩
  · exact .refl a

theorem Mach.noRoute_same (t : Nat) : (m.noRoute t).SameButCounts m := .bump m (portCount_of (by decide))

/-- Taking a port down counts the frames that it rewinds, and leaves every other register (R410, R443). -/
theorem Mach.voidPort_same : (m.voidPort n).SameButCounts m := by
  have h : ((List.range 4).foldl (fun a vc =>
      if (tget a.net.asm (4 * n + vc) {}).isOpen && !(tget a.net.asm (4 * n + vc) {}).bad then a.bump (A.Q_BAD (vcBlock n vc)) else a)
      m).SameButCounts m := by
    refine .foldl _ _ (fun a vc hvc => ?_) m
    split_ifs
    · exact .bump a (portCount_vcBlock (List.mem_range.1 hvc) (by decide))
    · exact .refl a
  exact ⟨h.raised, h.rd⟩

/-- A frame that waited for a folded port takes its new egress, or is counted in BRL_NOROUTE; a broadcast is dropped (R446). -/
def Mach.reroute (f : TxFrame) : Mach :=
  let t := f.transit.getD 8
  match m.route t f.pkt.dst.toNat with
  | some g => if f.pkt.dst.toNat = 0xFFFFF then m else m.enqueue { f with port := if g = 8 then 31 else g }
  | none => if f.pkt.dst.toNat = 0xFFFFF then m else m.noRoute t

theorem Mach.reroute_same (f : TxFrame) : (m.reroute f).SameButCounts m := by
  unfold Mach.reroute
  dsimp only
  split
  · split_ifs <;> exact ⟨rfl, fun _ _ => rfl⟩
  · split_ifs
    · exact .refl m
    · exact m.noRoute_same _

/-- A fold sets FOLDED where an entry names the port, and besides counts what loses its route (R446). -/
theorem Mach.fold_same : (m.fold n).SameButCounts (if (m.entriesOf n).isEmpty then m else m.putBit (A.BRL_PORT_STS n) 7 true) := by
  unfold Mach.fold
  dsimp only
  refine (SameButCounts.foldl _ _ (fun a f _ => a.reroute_same f) _).trans ?_
  split_ifs <;> exact ⟨rfl, fun _ _ => rfl⟩

theorem Mach.fold_outcome : (m.fold n).fld (A.BRL_PORT_STS n) 2 0 = m.fld (A.BRL_PORT_STS n) 2 0 ∧
    (m.fold n).rd (A.BRL_PORT_EVT n) = m.rd (A.BRL_PORT_EVT n) := by
  have h := m.fold_same n
  have hs := h.fld (b := A.BRL_PORT_STS n) (not_portCount_of (by decide)) 2 0
  have he := h.rd (A.BRL_PORT_EVT n) (not_portCount_of (by decide))
  split_ifs at hs he
  · exact ⟨hs, he⟩
  · exact ⟨hs.trans (Mach.fld_putBit_disjoint _ _ _ _ _ _ (by decide) (by decide)),
      he.trans (Mach.rd_putBit_other _ _ _ _ _ (portReg_ne (by decide)))⟩

theorem Mach.portDownQuiet_outcome : (m.portDownQuiet n).fld (A.BRL_PORT_STS n) 2 0 = 0 ∧
    (m.portDownQuiet n).rd (A.BRL_PORT_EVT n) = m.rd (A.BRL_PORT_EVT n) := by
  let k := ((m.put (A.BRL_PORT_STS n) 2 0 0).putBit (A.BRL_PORT_CTL n) 0 false).setLanes n 0
  obtain ⟨hs, he⟩ := (k.voidPort n).fold_outcome n
  have hv := k.voidPort_same n
  refine ⟨hs.trans ((hv.fld (not_portCount_of (by decide)) 2 0).trans ?_), he.trans ((hv.rd _ (not_portCount_of (by decide))).trans ?_)⟩
  · rw [Mach.setLanes_state, Mach.fld_putBit_other _ _ _ _ _ _ _ (portReg_ne (by decide)),
      Mach.fld_put_same _ _ _ _ _ (by decide) (by decide), Nat.zero_mod]
  · rw [Mach.setLanes_rd _ _ _ (portReg_ne (by decide)), Mach.rd_putBit_other _ _ _ _ _ (portReg_ne (by decide)),
      Mach.rd_put_other _ _ _ _ _ _ (portReg_ne (by decide))]

/-- The notices of a port that has gone down: DOWN entries for the partner, and a fault (R426, R445). -/
def Mach.downNotice : Mach :=
  ({ m with net := { m.net with ctlOut := m.net.ctlOut ++ [CtlEntry.mk n 6 (leBytes 7 0)] } }).raiseFault 0x62 (0xC0 + n)
    (m.rd (A.BRL_PORT_EVT n)).toNat

theorem Mach.downNotice_raised : (m.downNotice n).raised = m.raised ++ [(0x62, 0xC0 + n, (m.rd (A.BRL_PORT_EVT n)).toNat)] := rfl

theorem Mach.portDown_same (i : Nat) :
    (m.portDown n i).SameButCounts (((m.putBit (A.BRL_PORT_EVT n) i true).portDownQuiet n).downNotice n) :=
  Mach.broadcast_same _ _ _ _ _ _

/-- A port that goes DOWN by a cause shows it in its state and in the event bit of the cause, and raises a fault (R445). -/
theorem Mach.portDown_outcome {i : Nat} (hi : i < 32) : (m.portDown n i).fld (A.BRL_PORT_STS n) 2 0 = 0 ∧
    (m.portDown n i).bit (A.BRL_PORT_EVT n) i = true ∧ ∃ d, (0x62, 0xC0 + n, d) ∈ (m.portDown n i).raised := by
  obtain ⟨hs, he⟩ := (m.putBit (A.BRL_PORT_EVT n) i true).portDownQuiet_outcome n
  have h := m.portDown_same n i
  have hevt : ((m.putBit (A.BRL_PORT_EVT n) i true).portDownQuiet n).bit (A.BRL_PORT_EVT n) i = true := by
    rw [Mach.bit, he]
    exact Mach.bit_putBit_same _ _ _ _ hi
  refine ⟨(h.fld (not_portCount_of (by decide)) 2 0).trans hs, (h.bit (not_portCount_of (by decide)) i).trans hevt, ?_⟩
  rw [h.raised, Mach.downNotice_raised]
  exact ⟨_, List.mem_append_right _ List.mem_cons_self⟩

/-! ### A laser fails (R420) -/

/-- A lane whose laser has failed is out of service. -/
def Mach.laneLost (lane : Nat) : Mach := (m.putBit (A.BRL_OPT_FAIL n) lane true).setLanes n (withBits (m.lanes n) lane lane 0)

/-- The spare is tuned to the frequency of a lane, and the lane retrains. -/
def Mach.spareIn (lane : Nat) : Mach :=
  let k := ((m.putBit (A.BRL_OPT_SPARE n) 31 true).put (A.BRL_OPT_SPARE n) 3 0 lane).putBit (A.BRL_OPT_LASER n) 16 true
  let k := (k.putBit (A.BRL_PORT_STS n) 6 true).putBit (A.BRL_PORT_EVT n) 3 true
  { k with net := { k.net with retrain := tset k.net.retrain n lane } }

theorem Mach.ringLaserFail_eq (lane : Nat) : m.ringLaserFail n lane = if m.bit (A.BRL_OPT_SPARE n) 31 = true
    then (m.laneLost n lane).raiseFault 0x61 (0xC0 + n) lane
    else ((m.laneLost n lane).spareIn n lane).raiseFault 0x60 (0xC0 + n) lane := rfl

theorem Mach.laneLost_outcome {lane : Nat} (h : lane < 16) : (m.laneLost n lane).bit (A.BRL_OPT_FAIL n) lane = true ∧
    ((m.laneLost n lane).lanes n).testBit lane = false ∧ (m.laneLost n lane).rd (A.BRL_OPT_SPARE n) = m.rd (A.BRL_OPT_SPARE n) := by
  unfold Mach.laneLost
  refine ⟨?_, ?_, ?_⟩
  · rw [Mach.bit, Mach.setLanes_rd _ _ _ (portReg_ne (by decide))]
    exact Mach.bit_putBit_same _ _ _ _ (by omega)
  · simp [withBits_testBit]
  · rw [Mach.setLanes_rd _ _ _ (portReg_ne (by decide)), Mach.rd_putBit_other _ _ _ _ _ (portReg_ne (by decide))]

theorem Mach.spareIn_outcome {lane : Nat} (h : lane < 16) : (m.spareIn n lane).bit (A.BRL_OPT_SPARE n) 31 = true ∧
    (m.spareIn n lane).fld (A.BRL_OPT_SPARE n) 3 0 = lane ∧ (m.spareIn n lane).bit (A.BRL_PORT_EVT n) 3 = true ∧
    (m.spareIn n lane).rd (A.BRL_OPT_FAIL n) = m.rd (A.BRL_OPT_FAIL n) := by
  have hspare : (m.spareIn n lane).rd (A.BRL_OPT_SPARE n) =
      ((m.putBit (A.BRL_OPT_SPARE n) 31 true).put (A.BRL_OPT_SPARE n) 3 0 lane).rd (A.BRL_OPT_SPARE n) := by
    refine (Mach.rd_putBit_other _ _ _ _ _ (portReg_ne (by decide))).trans ?_
    rw [Mach.rd_putBit_other _ _ _ _ _ (portReg_ne (by decide)), Mach.rd_putBit_other _ _ _ _ _ (portReg_ne (by decide))]
  refine ⟨?_, ?_, Mach.bit_putBit_same _ _ _ _ (by decide), ?_⟩
  · rw [Mach.bit, hspare]
    exact (Mach.bit_put_disjoint _ _ _ _ _ _ (by decide) (by decide) (by decide)).trans (Mach.bit_putBit_same _ _ _ _ (by decide))
  · rw [Mach.fld, hspare]
    exact (Mach.fld_put_same _ _ _ _ _ (by decide) (by decide)).trans (Nat.mod_eq_of_lt h)
  · refine (Mach.rd_putBit_other _ _ _ _ _ (portReg_ne (by decide))).trans ?_
    rw [Mach.rd_putBit_other _ _ _ _ _ (portReg_ne (by decide)), Mach.rd_putBit_other _ _ _ _ _ (portReg_ne (by decide)),
      Mach.rd_put_other _ _ _ _ _ _ (portReg_ne (by decide)), Mach.rd_putBit_other _ _ _ _ _ (portReg_ne (by decide))]

/-- A laser fails with the spare in use: the port has one lane fewer. -/
theorem Mach.ringLaserFail_used {lane : Nat} (hu : m.bit (A.BRL_OPT_SPARE n) 31 = true) :
    m.ringLaserFail n lane = (m.laneLost n lane).raiseFault 0x61 (0xC0 + n) lane := by rw [m.ringLaserFail_eq, if_pos hu]

/-- A laser fails with the spare unused: the spare takes the lane. -/
theorem Mach.ringLaserFail_unused {lane : Nat} (hu : m.bit (A.BRL_OPT_SPARE n) 31 = false) :
    m.ringLaserFail n lane = ((m.laneLost n lane).spareIn n lane).raiseFault 0x60 (0xC0 + n) lane := by
  rw [m.ringLaserFail_eq, if_neg (by simp [hu])]

theorem Mach.ringLaserFail_outcome {lane : Nat} (h : lane < 16) :
    (m.ringLaserFail n lane).bit (A.BRL_OPT_FAIL n) lane = true ∧ ((m.ringLaserFail n lane).lanes n).testBit lane = false ∧
    (m.ringLaserFail n lane).bit (A.BRL_OPT_SPARE n) 31 = true ∧
    (m.bit (A.BRL_OPT_SPARE n) 31 = true → (m.ringLaserFail n lane).raised = m.raised ++ [(0x61, 0xC0 + n, lane)]) ∧
    (m.bit (A.BRL_OPT_SPARE n) 31 = false → (m.ringLaserFail n lane).fld (A.BRL_OPT_SPARE n) 3 0 = lane ∧
      (m.ringLaserFail n lane).bit (A.BRL_PORT_EVT n) 3 = true ∧
      (m.ringLaserFail n lane).raised = m.raised ++ [(0x60, 0xC0 + n, lane)]) := by
  obtain ⟨hfail, hlane, hspare⟩ := m.laneLost_outcome n h
  cases hu : m.bit (A.BRL_OPT_SPARE n) 31 with
  | true =>
    rw [m.ringLaserFail_used n hu]
    exact ⟨hfail, hlane, (Mach.bit_of_rd hspare 31).trans hu, fun _ => rfl, nofun⟩
  | false =>
    rw [m.ringLaserFail_unused n hu]
    obtain ⟨hs, hl, he, hf⟩ := (m.laneLost n lane).spareIn_outcome n h
    exact ⟨(Mach.bit_of_rd hf lane).trans hfail, hlane, hs, nofun, fun _ => ⟨hl, he, rfl⟩⟩

/-- The lane that the spare serves is back, and a LANES entry says so (R426, R444). -/
theorem Mach.laneRetrained_outcome (period : Nat) {lane : Nat} (hl : tfind m.net.retrain n = some lane) (hu : m.ringUp n = true) :
    (m.laneRetrained n period).lanes n = withBits (m.lanes n) lane lane 1 ∧ (m.laneRetrained n period).net.ctlOut =
      m.net.ctlOut ++ [CtlEntry.mk n 5 (leBytes 1 0 ++ leBytes 2 ((m.laneRetrained n period).lanes n) ++ leBytes 4 period)] := by
  have hu' : ({ m with net := { m.net with retrain := terase m.net.retrain n } } : Mach).ringUp n = true := hu
  have hlanes : (m.laneRetrained n period).lanes n = withBits (m.lanes n) lane lane 1 := by
    simp only [Mach.laneRetrained, hl, hu', if_true]
    exact Mach.setLanes_lanes _ _ _
  refine ⟨hlanes, ?_⟩
  rw [hlanes]
  simp only [Mach.laneRetrained, hl, hu', if_true]
  rfl

/-! ### Training (R443, R444) -/

theorem Mach.startTraining_regs :
    (m.startTraining n).regs = ((m.put (A.BRL_PORT_STS n) 2 0 1).putBit (A.BRL_PORT_CTL n) 0 true).regs := rfl

/-- A port that starts training is in training, with TRAIN set, and waits for no retry. -/
theorem Mach.startTraining_outcome : (m.startTraining n).fld (A.BRL_PORT_STS n) 2 0 = 1 ∧
    (m.startTraining n).bit (A.BRL_PORT_CTL n) 0 = true ∧ n ∉ (m.startTraining n).net.overrun := by
  refine ⟨?_, ?_, by simp [Mach.startTraining]⟩
  · rw [Mach.fld_of_regs (m.startTraining_regs n), Mach.fld_putBit_other _ _ _ _ _ _ _ (portReg_ne (by decide)),
      Mach.fld_put_same _ _ _ _ _ (by decide) (by decide)]
    rfl
  · rw [Mach.bit_of_regs (m.startTraining_regs n), Mach.bit_putBit_same _ _ _ _ (by decide)]

theorem Mach.trainOverrun_regs : (m.trainOverrun n).regs =
    (((m.put (A.BRL_PORT_STS n) 2 0 0).putBit (A.BRL_PORT_CTL n) 0 false).setLanes n 0).regs := rfl

/-- A step of training that overruns its bound takes the port DOWN, with a retry to come. -/
theorem Mach.trainOverrun_outcome : (m.trainOverrun n).fld (A.BRL_PORT_STS n) 2 0 = 0 ∧ n ∈ (m.trainOverrun n).net.overrun := by
  refine ⟨?_, List.mem_cons_self⟩
  rw [Mach.fld_of_regs (m.trainOverrun_regs n), Mach.setLanes_state, Mach.fld_putBit_other _ _ _ _ _ _ _ (portReg_ne (by decide)),
    Mach.fld_put_same _ _ _ _ _ (by decide) (by decide), Nat.zero_mod]

/-- The partner of a port has named itself in TRAIN entries. -/
def Mach.peerSeen (node port : Nat) : Mach := (m.put (A.BRL_PEER n) 19 0 node).put (A.BRL_PEER n) 26 24 port

/-- A port that training leaves FAULTED. -/
def Mach.trainFaulted : Mach := (m.put (A.BRL_PORT_STS n) 2 0 3).putBit (A.BRL_PORT_CTL n) 0 false

/-- The lanes that both ends of a link have in service. -/
def Mach.commonLanes (map : Nat) : Nat :=
  let own := (m.rd (A.BRL_OPT_LASER n)).toNat &&& (0xFFFF ^^^ (m.rd (A.BRL_OPT_FAIL n)).toNat)
  (if m.bit (A.BRL_OPT_SPARE n) 31 && m.bit (A.BRL_OPT_LASER n) 16 then own ||| 2 ^ m.fld (A.BRL_OPT_SPARE n) 3 0 else own) &&& map

/-- The credits that the partner gives: its shares and pools (R433, R434). -/
def creditSizes (n : Nat) (sizes : List Nat) (t : Tab Nat) : Tab Nat :=
  (List.range 34).foldl (fun a i => tset a (if i < 32 then 64 * n + i else 64 * n + 16 * (i - 30)) (sizes.getD i 0)) t

/-- Training goes on with the lanes common to both ends, and with `credits` in the table of the partner's sizes. -/
def Mach.trainAgreed (tick map : Nat) (credits : Tab Nat) : Mach :=
  let k := m.setLanes n (m.commonLanes n map)
  { k with net := { k.net with peerTick := tset k.net.peerTick n tick, peerLanes := tset k.net.peerLanes n map, crSize := credits } }

/-- TRAIN entries end in one of three ways: a node id of this device's own, a partner that does not fit, or agreement (R442, R444). -/
theorem Mach.trainIn_eq (node port tick map : Nat) (sizes : List Nat) (h : m.fld (A.BRL_PORT_STS n) 2 0 = 1) :
    m.trainIn n node port tick map sizes =
      let k := m.peerSeen n node port
      if node = k.node then ((k.putBit (A.BRL_PORT_EVT n) 4 true).trainFaulted n).raiseFault 0x63 (0xC0 + n) node
      else if tick ≠ k.fld A.PHS_CFG 1 0 || Machine.lanesOf (k.commonLanes n map) < 8 then k.trainFaulted n
      else k.trainAgreed n tick map (creditSizes n sizes k.net.crSize) := by
  rw [Mach.trainIn, if_neg (not_not.2 h)]
  rfl

theorem Mach.peerSeen_peer {node port : Nat} (hn : node < 2 ^ 20) (hp : port < 8) :
    (m.peerSeen n node port).fld (A.BRL_PEER n) 19 0 = node ∧ (m.peerSeen n node port).fld (A.BRL_PEER n) 26 24 = port := by
  unfold Mach.peerSeen
  constructor
  · rw [Mach.fld_put_disjoint _ _ _ _ _ _ _ (by decide) (by decide) (by decide), Mach.fld_put_same _ _ _ _ _ (by decide) (by decide)]
    exact Nat.mod_eq_of_lt hn
  · rw [Mach.fld_put_same _ _ _ _ _ (by decide) (by decide)]
    exact Nat.mod_eq_of_lt hp

theorem Mach.peerSeen_rd (node port : Nat) {b : Nat} (hb : b ≠ A.BRL_PEER n) : (m.peerSeen n node port).rd b = m.rd b := by
  rw [Mach.peerSeen, Mach.rd_put_other _ _ _ _ _ _ hb, Mach.rd_put_other _ _ _ _ _ _ hb]

theorem Mach.trainFaulted_outcome : (m.trainFaulted n).fld (A.BRL_PORT_STS n) 2 0 = 3 ∧
    (m.trainFaulted n).rd (A.BRL_PEER n) = m.rd (A.BRL_PEER n) ∧ (m.trainFaulted n).rd (A.BRL_PORT_EVT n) = m.rd (A.BRL_PORT_EVT n) := by
  unfold Mach.trainFaulted
  refine ⟨?_, ?_, ?_⟩
  · exact (Mach.fld_putBit_other _ _ _ _ _ _ _ (portReg_ne (by decide))).trans (Mach.fld_put_same _ _ _ _ _ (by decide) (by decide))
  · rw [Mach.rd_putBit_other _ _ _ _ _ (portReg_ne (by decide)), Mach.rd_put_other _ _ _ _ _ _ (portReg_ne (by decide))]
  · rw [Mach.rd_putBit_other _ _ _ _ _ (portReg_ne (by decide)), Mach.rd_put_other _ _ _ _ _ _ (portReg_ne (by decide))]

theorem Mach.trainAgreed_regs (tick map : Nat) (credits : Tab Nat) :
    (m.trainAgreed n tick map credits).regs = (m.setLanes n (m.commonLanes n map)).regs := rfl

theorem Mach.trainAgreed_rd (tick map : Nat) (credits : Tab Nat) {b : Nat} (hb : b ≠ A.BRL_PORT_STS n) :
    (m.trainAgreed n tick map credits).rd b = m.rd b :=
  (Mach.rd_of_regs (m.trainAgreed_regs n tick map credits) b).trans (m.setLanes_rd n _ hb)

theorem Mach.trainAgreed_peerLanes (tick map : Nat) (credits : Tab Nat) :
    (m.trainAgreed n tick map credits).net.peerLanes = tset m.net.peerLanes n map := rfl

/-- What the entries of a partner leave, by whether it bears this device's node id and by its TICK code (R442, R443). -/
theorem Mach.trainIn_outcome {node port : Nat} (tick map : Nat) (sizes : List Nat) (h : m.fld (A.BRL_PORT_STS n) 2 0 = 1)
    (hn : node < 2 ^ 20) (hp : port < 8) :
    let k := m.trainIn n node port tick map sizes
    k.fld (A.BRL_PEER n) 19 0 = node ∧ k.fld (A.BRL_PEER n) 26 24 = port ∧
    (node = m.node → k.fld (A.BRL_PORT_STS n) 2 0 = 3 ∧ k.bit (A.BRL_PORT_EVT n) 4 = true ∧
      k.raised = m.raised ++ [(0x63, 0xC0 + n, node)]) ∧
    (node ≠ m.node → tick ≠ m.fld A.PHS_CFG 1 0 → k.fld (A.BRL_PORT_STS n) 2 0 = 3) ∧
    (k.fld (A.BRL_PORT_STS n) 2 0 = 1 → tget k.net.peerLanes n 0 = map) := by
  obtain ⟨hnode, hport⟩ := m.peerSeen_peer n hn hp
  have hown : (m.peerSeen n node port).node = m.node :=
    Mach.fld_of_rd (m.peerSeen_rd n node port (by simp only [A.BRL_NODE, A.BRL_PEER]; omega)) 19 0
  have hcfg : (m.peerSeen n node port).fld A.PHS_CFG 1 0 = m.fld A.PHS_CFG 1 0 :=
    Mach.fld_of_rd (m.peerSeen_rd n node port (by simp only [A.PHS_CFG, A.BRL_PEER]; omega)) 1 0
  have hpeer : ∀ (j : Mach), j.rd (A.BRL_PEER n) = (m.peerSeen n node port).rd (A.BRL_PEER n) →
      j.fld (A.BRL_PEER n) 19 0 = node ∧ j.fld (A.BRL_PEER n) 26 24 = port := fun j hj => by
    rw [Mach.fld, Mach.fld, hj]
    exact ⟨hnode, hport⟩
  dsimp only
  rw [m.trainIn_eq n _ _ _ _ _ h]
  dsimp only
  rw [hown, hcfg]
  split_ifs with hdup hbad
  · let q := (m.peerSeen n node port).putBit (A.BRL_PORT_EVT n) 4 true
    obtain ⟨hs, hq, he⟩ := q.trainFaulted_outcome n
    have hregs := (q.trainFaulted n).raiseFault_regs 0x63 (0xC0 + n) node
    have hst := (Mach.fld_of_regs hregs (A.BRL_PORT_STS n) 2 0).trans hs
    have hevt := (Mach.bit_of_rd ((Mach.rd_of_regs hregs _).trans he) 4).trans (Mach.bit_putBit_same _ _ _ _ (by decide))
    obtain ⟨h1, h2⟩ := hpeer _ ((Mach.rd_of_regs hregs _).trans (hq.trans (Mach.rd_putBit_other _ _ _ _ _ (portReg_ne (by decide)))))
    exact ⟨h1, h2, fun _ => ⟨hst, hevt, rfl⟩, fun hne => absurd hdup hne, fun h1 => absurd (hst.symm.trans h1) (by decide)⟩
  · obtain ⟨hs, hq, -⟩ := (m.peerSeen n node port).trainFaulted_outcome n
    obtain ⟨h1, h2⟩ := hpeer _ hq
    exact ⟨h1, h2, fun he => absurd he hdup, fun _ _ => hs, fun h1 => absurd (hs.symm.trans h1) (by decide)⟩
  · obtain ⟨h1, h2⟩ := hpeer _ ((m.peerSeen n node port).trainAgreed_rd n tick map _ (portReg_ne (by decide)))
    exact ⟨h1, h2, fun he => absurd he hdup, fun _ ht => absurd (by simp [ht]) hbad,
      fun _ => by rw [Mach.trainAgreed_peerLanes, tget_tset_same]⟩

/-- All steps of training are done: the port is UP, its link delay stands, and its counts of credits start again (R433, R444). -/
def Mach.linkSet (echo : List (Nat × Nat)) : Mach :=
  let k := ((m.put (A.BRL_PORT_STS n) 2 0 2).putBit (A.BRL_PORT_CTL n) 0 false).wr (A.PHS_LINKDLY n) (BitVec.ofNat 32 (linkDelay echo))
  { k with net := { k.net with
      crRecv := tdrop k.net.crRecv (fun j => j / 64 = n), crSent := tdrop k.net.crSent (fun j => j / 64 = n),
      crFree := tdrop k.net.crFree (fun j => j / 64 = n) } }

/-- Folded entries revert where AUTOREVERT is set, and LINK_UP goes out (R447, R449). -/
theorem Mach.trained_same (echo : List (Nat × Nat)) : (m.trained n echo).SameButCounts
    (if (m.linkSet n echo).bit (A.BRL_PORT_CFG n) 1 then (m.linkSet n echo).revertPort n else m.linkSet n echo) :=
  Mach.broadcast_same _ _ _ _ _ _

theorem linkdly_ne {n k : Nat} (hn : n < 8) {a : Nat} (ha : 0x300000 ≤ a) : A.PHS_LINKDLY n ≠ a + 0x8000 * k := by
  simp only [A.PHS_LINKDLY]; omega

theorem Mach.linkSet_regs (echo : List (Nat × Nat)) : (m.linkSet n echo).regs =
    (((m.put (A.BRL_PORT_STS n) 2 0 2).putBit (A.BRL_PORT_CTL n) 0 false).wr (A.PHS_LINKDLY n)
      (BitVec.ofNat 32 (linkDelay echo))).regs := rfl

theorem Mach.linkSet_outcome (echo : List (Nat × Nat)) (hn : n < 8) : (m.linkSet n echo).fld (A.BRL_PORT_STS n) 2 0 = 2 ∧
    (m.linkSet n echo).bit (A.BRL_PORT_CTL n) 0 = false ∧
    (m.linkSet n echo).rd (A.PHS_LINKDLY n) = BitVec.ofNat 32 (linkDelay echo) := by
  have h := m.linkSet_regs n echo
  rw [Mach.fld_of_regs h, Mach.bit_of_regs h, Mach.rd_of_regs h]
  refine ⟨?_, ?_, Mach.rd_wr_same _ _ _⟩
  · rw [Mach.fld_wr_other _ _ _ _ _ _ (linkdly_ne hn (by decide)).symm, Mach.fld_putBit_other _ _ _ _ _ _ _ (portReg_ne (by decide)),
      Mach.fld_put_same _ _ _ _ _ (by decide) (by decide)]
    rfl
  · rw [Mach.bit_wr_other _ _ _ _ _ (linkdly_ne hn (by decide)).symm, Mach.bit_putBit_same _ _ _ _ (by decide)]

/-- Reverting leaves the state of the port, and every register but its status (R447). -/
theorem Mach.revertPort_outcome : (m.revertPort n).fld (A.BRL_PORT_STS n) 2 0 = m.fld (A.BRL_PORT_STS n) 2 0 ∧
    ∀ b, b ≠ A.BRL_PORT_STS n → (m.revertPort n).rd b = m.rd b :=
  ⟨Mach.fld_putBit_disjoint _ _ _ _ _ _ (by decide) (by decide), fun _ hb => Mach.rd_putBit_other _ _ _ _ _ hb⟩

theorem Mach.trained_outcome (echo : List (Nat × Nat)) (hn : n < 8) : (m.trained n echo).ringUp n = true ∧
    (m.trained n echo).bit (A.BRL_PORT_CTL n) 0 = false ∧
    (m.trained n echo).rd (A.PHS_LINKDLY n) = BitVec.ofNat 32 (linkDelay echo) := by
  have h := m.trained_same n echo
  obtain ⟨hs, hc, hd⟩ := m.linkSet_outcome n echo hn
  obtain ⟨rs, ro⟩ := (m.linkSet n echo).revertPort_outcome n
  have hdly : ¬ portCount (A.PHS_LINKDLY n) := by unfold portCount A.PHS_LINKDLY; omega
  have hrest : ∀ b : Nat, ¬ portCount b → b ≠ A.BRL_PORT_STS n → (m.trained n echo).rd b = (m.linkSet n echo).rd b := by
    intro b hb hne
    refine (h.rd b hb).trans ?_
    split_ifs
    · exact ro b hne
    · rfl
  have hup : (m.trained n echo).fld (A.BRL_PORT_STS n) 2 0 = 2 := by
    refine (h.fld (not_portCount_of (by decide)) 2 0).trans ?_
    split_ifs
    · exact rs.trans hs
    · exact hs
  refine ⟨decide_eq_true hup, ?_, ?_⟩
  · exact (Mach.bit_of_rd (hrest _ (not_portCount_of (by decide)) (portReg_ne (by decide))) 0).trans hc
  · exact (hrest _ hdly (linkdly_ne hn (by decide))).trans hd

end

/-! ### The statement -/

/-- Settles O8: each event by what it makes of its port. The link delay of an even count of exchanges is log entry 13. -/
theorem ringLinkStates : Obligations.RingLinkStates := by
  refine fun s n => ⟨fun hl => ?_, fun noCtl hu hc => ?_, fun count hu hc => ?_, fun lane => ?_, fun period lane hl hu => ?_,
    fun map hu => ?_, fun ht hc => ?_, fun node port tick map sizes ht => ?_, fun echo ht => ?_, fun ht => ?_, fun ho ht => ?_⟩
  · exact gives_made rfl (if_pos hl) (s.m.portDown_outcome n.val (i := 2) (by decide))
  · exact gives_made rfl (if_pos (by simpa [hu] using hc)) (s.m.portDown_outcome n.val (i := 0) (by decide))
  · exact gives_made rfl (if_pos (by simpa [hu] using hc)) (s.m.portDown_outcome n.val (i := 1) (by decide))
  · exact gives_onMach (f := fun m => m.ringLaserFail n.val lane.val) rfl (s.m.ringLaserFail_outcome n.val lane.isLt)
  · exact gives_onMach (f := fun m => m.laneRetrained n.val period.toNat) rfl (s.m.laneRetrained_outcome n.val period.toNat hl hu)
  · exact gives_made rfl (if_pos hu) ⟨s.m.setLanes_lanes n.val _, s.m.setLanes_count n.val _⟩
  · obtain ⟨hs, hctl, -⟩ := s.m.startTraining_outcome n.val
    exact gives_made rfl (if_pos (by simp [ht, hc])) ⟨hs, hctl⟩
  · exact gives_onMach (f := fun m => m.trainIn n.val node.toNat port.val tick.toNat map.toNat sizes) rfl
      (s.m.trainIn_outcome n.val tick.toNat map.toNat sizes ht node.isLt port.isLt)
  · exact gives_made rfl (if_pos ht) (s.m.trained_outcome n.val echo n.isLt)
  · exact gives_made rfl (if_pos ht) (s.m.trainOverrun_outcome n.val)
  · obtain ⟨hs, -, hov⟩ := s.m.startTraining_outcome n.val
    exact gives_made rfl (if_pos (by simp [ho, ht])) ⟨hs, hov⟩

end Sys2Proof.Machine

namespace Sys2Proof.Machine

/-! ### Step 10 of a packet whose window has an entry (R473 to R475) -/

section
variable {m : Mach} {k : Pkt} {e : WinEntry} (hb : m.banks k.part.val ≠ [])
  (hw : m.winOf k.part.val k.src.toNat k.queue.toNat = some e)
include hb hw

/-- Among the 64 values from E on, a value done is a duplicate, a value held is held already, and any other goes on where E expects it or
its queue is unordered (R473). -/
theorem Mach.window_inside (hd : sub32 k.seq.toNat e.e < 64) : m.window k = (m.setWin e,
    if k.seq.toNat ∈ e.done then .dup else if ∃ x ∈ e.held, x.1 = k.seq.toNat then .heldDup
    else if sub32 k.seq.toNat e.e = 0 ∨ k.cls = 1 then .go (e.cold = some k.seq.toNat) else .hold) := by
  have hbank : (m.banks k.part.val).isEmpty = false := by simpa using hb
  simp only [Mach.window, hbank, hw, if_pos hd, Bool.false_eq_true, if_false, List.contains_iff_mem, List.any_eq_true, decide_eq_true_eq,
    Bool.or_eq_true]
  split_ifs <;> rfl

/-- Below E a value goes on only in the cold span of its window (R473, R475). -/
theorem Mach.window_below (hd : 2 ^ 31 ≤ sub32 k.seq.toNat e.e) :
    m.window k = (m.setWin e, if e.inSpan k.seq.toNat && !e.seen.contains k.seq.toNat then .go true else .dup) := by
  have hbank : (m.banks k.part.val).isEmpty = false := by simpa using hb
  have hout : ¬ sub32 k.seq.toNat e.e < 64 := by omega
  simp only [Mach.window, hbank, hw, if_neg hout, if_pos hd, Bool.false_eq_true, if_false]

/-- A value beyond the window draws RNR (R473). -/
theorem Mach.window_beyond (hout : ¬ sub32 k.seq.toNat e.e < 64) (hd : ¬ 2 ^ 31 ≤ sub32 k.seq.toNat e.e) :
    m.window k = (m.setWin e, .rnr) := by
  have hbank : (m.banks k.part.val).isEmpty = false := by simpa using hb
  simp only [Mach.window, hbank, hw, if_neg hout, if_neg hd, Bool.false_eq_true, if_false]

/-- A value inside the window that is neither done nor held (R473). -/
theorem Mach.window_fresh (hd : sub32 k.seq.toNat e.e < 64) (hdone : k.seq.toNat ∉ e.done) (hheld : ∀ x ∈ e.held, x.1 ≠ k.seq.toNat) :
    m.window k = (m.setWin e, if sub32 k.seq.toNat e.e = 0 ∨ k.cls = 1 then .go (e.cold = some k.seq.toNat) else .hold) := by
  have hnot : ¬ ∃ x ∈ e.held, x.1 = k.seq.toNat := fun ⟨x, hx, h⟩ => hheld x hx h
  rw [Mach.window_inside hb hw hd, if_neg hdone, if_neg hnot]

/-- Whatever its class, the packet touches its window's entry and nothing else (R474). -/
theorem Mach.window_touches : (m.window k).1 = m.setWin e := by
  by_cases hin : sub32 k.seq.toNat e.e < 64
  · rw [Mach.window_inside hb hw hin]
  · by_cases hbelow : 2 ^ 31 ≤ sub32 k.seq.toNat e.e
    · rw [Mach.window_below hb hw hbelow]
    · rw [Mach.window_beyond hb hw hin hbelow]

end

/-! ### Completion of the packet that E expects (R473) -/

theorem sub32_self (a : Nat) : sub32 a a = 0 := by unfold sub32; omega

/-- The distance of R473 from a number E of 32 bits. -/
theorem sub32_of_lt {a b : Nat} (h : b < 2 ^ 32) : sub32 a b = (a + 2 ^ 32 - b) % 2 ^ 32 := by rw [sub32, Nat.mod_eq_of_lt h]

theorem advanceE_of_not_done {e : WinEntry} (h : e.e ∉ e.done) (fuel : Nat) : advanceE e fuel = e := by
  cases fuel with
  | zero => rfl
  | succ fuel => rw [advanceE, if_neg (by simpa using h)]

theorem advanceE_of_done {e : WinEntry} (h : e.e ∈ e.done) (fuel : Nat) :
    advanceE e (fuel + 1) = advanceE { e with done := e.done.filter (· ≠ e.e), e := (e.e + 1) % 2 ^ 32 } fuel := by
  rw [advanceE, if_pos (by simpa using h)]

/-- Where nothing later is done and no cold span lasts, the expected packet's completion moves E on by one (R473). -/
theorem WinEntry.complete_expected {e : WinEntry} (hd : e.done = []) (hc : e.cold = none) :
    e.complete e.e = { e with e := (e.e + 1) % 2 ^ 32, done := [] } := by
  have hmove : advanceE { e with done := [e.e] } 65 = { e with e := (e.e + 1) % 2 ^ 32, done := [] } := by
    rw [advanceE_of_done List.mem_cons_self]
    simpa using advanceE_of_not_done (e := { e with e := (e.e + 1) % 2 ^ 32, done := [] }) List.not_mem_nil 64
  have hnear : sub32 e.e e.e < 64 := by rw [sub32_self]; decide
  rw [WinEntry.complete, if_pos hnear, hd, hmove]
  dsimp only
  rw [hc]

/-! ### The statement -/

/-- Settles O21, by the place of the packet's number inside, below or beyond its window. -/
theorem sequenceWindows : Obligations.SequenceWindows := by
  intro m k e hb hw he
  have hsub := sub32_of_lt (a := k.seq.toNat) he
  dsimp only
  rw [← hsub]
  refine ⟨fun hd hdone => ?_, fun hd hdone ⟨h, hh⟩ => ?_, fun hd hdone hheld => ?_, fun h0 hd hcls hdone hheld => ?_,
    fun h0 hd hcls hdone hheld => ?_, fun hd hcold => ?_, fun hout hd => ?_, ?_, WinEntry.complete_expected⟩
  · rw [Mach.window_inside hb hw hd, if_pos hdone]
  · rw [Mach.window_inside hb hw hd, if_neg hdone, if_pos ⟨_, hh, rfl⟩]
  · rw [Mach.window_fresh hb hw (by omega) hdone hheld, if_pos (.inl hd)]
    exact ⟨_, rfl⟩
  · rw [Mach.window_fresh hb hw hd hdone hheld, if_neg (by omega)]
  · rw [Mach.window_fresh hb hw hd hdone hheld, if_pos (.inr hcls)]
    exact ⟨_, rfl⟩
  · have hspan : e.inSpan k.seq.toNat = false := by rw [WinEntry.inSpan, hcold]
    rw [Mach.window_below hb hw hd, hspan]
    rfl
  · rw [Mach.window_beyond hb hw (by omega) (by omega)]
  · rw [Mach.window_touches hb hw]
    rfl

end Sys2Proof.Machine

namespace Sys2Proof.Machine

/-! ### Registers of ingest ports -/

/-- Registers of ingest ports at different places of their port's pages are different registers (R484). -/
theorem ethReg_ne {a b n k : Nat} (h : a % 0x4000 ≠ b % 0x4000) : a + 0x4000 * n ≠ b + 0x4000 * k := by omega

section
variable (m : Mach) (n : Nat)

/-! ### Frames dropped (R461, R462) -/

/-- A frame that is no accepted command datagram moves the counter of its cause. -/
theorem Mach.ethDrop_outcome (f : EthFrame) :
    (m.ethVerdict n f = .badFcs → m.ethDrop n f = m.bump (A.ETH_RX_FCS n)) ∧
    (m.ethVerdict n f = .drop → m.ethDrop n f = m.bump (A.ETH_RX_DROP n)) ∧
    (m.ethVerdict n f = .ip → m.ethDrop n f = m.bump (A.ETH_RX_IP n)) := by
  refine ⟨?_, ?_, ?_⟩ <;> exact fun h => by rw [Mach.ethDrop, h]

/-! ### Link state (R464) -/

/-- A bit of ETH_STS above STATE leaves the state of the port (R485). -/
theorem Mach.ethState_putBit {i : Nat} (hi : 2 < i) (b : Bool) : (m.putBit (A.ETH_STS n) i b).ethState n = m.ethState n :=
  Mach.fld_putBit_disjoint _ _ _ _ _ _ (by decide) (.inr hi)

/-- The state of a port is a field of ETH_STS alone. -/
theorem Mach.ethState_of_rd {m k : Mach} {n : Nat} (h : m.rd (A.ETH_STS n) = k.rd (A.ETH_STS n)) : m.ethState n = k.ethState n :=
  Mach.fld_of_rd h 2 0

theorem Mach.ethState_put {v : Nat} (hv : v < 8) : (m.put (A.ETH_STS n) 2 0 v).ethState n = v :=
  (Mach.fld_put_same _ _ _ _ _ (by decide) (by decide)).trans (Nat.mod_eq_of_lt hv)

/-- The port is DOWN, and the event bit of the cause is set (R464). -/
def Mach.ethLost (i : Nat) : Mach := (m.put (A.ETH_STS n) 2 0 0).putBit (A.ETH_EVT n) i true

theorem Mach.ethLost_state (i : Nat) : (m.ethLost n i).ethState n = 0 :=
  (Mach.ethState_of_rd (Mach.rd_putBit_other _ _ _ _ _ (ethReg_ne (by decide)))).trans (m.ethState_put n (by decide))

theorem Mach.ethLost_event {i : Nat} (hi : i < 32) : (m.ethLost n i).bit (A.ETH_EVT n) i = true := Mach.bit_putBit_same _ _ _ _ hi

theorem Mach.ethLost_rd (i : Nat) {b : Nat} (hs : b ≠ A.ETH_STS n) (he : b ≠ A.ETH_EVT n) : (m.ethLost n i).rd b = m.rd b := by
  rw [Mach.ethLost, Mach.rd_putBit_other _ _ _ _ _ he, Mach.rd_put_other _ _ _ _ _ _ hs]

theorem Mach.ethLost_raised (i : Nat) : (m.ethLost n i).raised = m.raised := rfl

theorem Mach.ethPortDown_outcome (ber : Bool) : (m.ethPortDown n ber).ethState n = 0 ∧
    (m.ethPortDown n ber).bit (A.ETH_EVT n) (if ber then 1 else 0) = true ∧
    ∃ d, (m.ethPortDown n ber).raised = m.raised ++ [(0x69, 0xD0 + n, d)] := by
  cases ber with
  | false => exact ⟨m.ethLost_state n 0, m.ethLost_event n (by decide), _, rfl⟩
  | true =>
    refine ⟨?_, ?_, _, rfl⟩
    · exact ((m.ethLost n 1).ethState_putBit n (by decide) true).trans (m.ethLost_state n 1)
    · exact (Mach.bit_putBit_other (m.ethLost n 1) _ _ _ _ _ (ethReg_ne (by decide))).trans (m.ethLost_event n (by decide))

/-! ### A laser fails (R464) -/

/-- The port's spare laser is tuned to a lane. -/
def Mach.ethTuned (lane : Nat) : Mach :=
  ((m.putBit (A.ETH_OPT_SPARE n) 31 true).put (A.ETH_OPT_SPARE n) 1 0 lane).putBit (A.ETH_OPT_LASER n) 4 true

theorem Mach.ethTuned_lane {lane : Nat} (h : lane < 4) : (m.ethTuned n lane).fld (A.ETH_OPT_SPARE n) 1 0 = lane :=
  (Mach.fld_putBit_other _ _ _ _ _ _ _ (ethReg_ne (by decide))).trans
    ((Mach.fld_put_same _ _ _ _ _ (by decide) (by decide)).trans (Nat.mod_eq_of_lt h))

theorem Mach.ethTuned_rd (lane : Nat) {b : Nat} (hs : b ≠ A.ETH_OPT_SPARE n) (hl : b ≠ A.ETH_OPT_LASER n) :
    (m.ethTuned n lane).rd b = m.rd b := by
  rw [Mach.ethTuned, Mach.rd_putBit_other _ _ _ _ _ hl, Mach.rd_put_other _ _ _ _ _ _ hs, Mach.rd_putBit_other _ _ _ _ _ hs]

/-- A port that was not DOWN trains again. -/
def Mach.ethRestart : Mach := if m.ethState n = 0 then m else m.put (A.ETH_STS n) 2 0 1

theorem Mach.ethRestart_state (h : m.ethState n ≠ 0) : (m.ethRestart n).ethState n = 1 := by
  rw [Mach.ethRestart, if_neg h, m.ethState_put n (by decide)]

theorem Mach.ethRestart_rd {b : Nat} (h : b ≠ A.ETH_STS n) : (m.ethRestart n).rd b = m.rd b := by
  unfold Mach.ethRestart
  split_ifs
  · rfl
  · exact Mach.rd_put_other _ _ _ _ _ _ h

theorem Mach.ethRestart_raised : (m.ethRestart n).raised = m.raised := by
  unfold Mach.ethRestart
  split_ifs <;> rfl

/-- The spare serves a lane: the port retrains, and says in status and event that the spare is in use. -/
def Mach.ethSpareIn (lane : Nat) : Mach :=
  (((m.ethTuned n lane).ethRestart n).putBit (A.ETH_STS n) 3 true).putBit (A.ETH_EVT n) 2 true

/-- Beside what tuning the spare writes, only status and event change. -/
theorem Mach.ethSpareIn_rd (lane : Nat) {b : Nat} (hs : b ≠ A.ETH_STS n) (he : b ≠ A.ETH_EVT n) :
    (m.ethSpareIn n lane).rd b = (m.ethTuned n lane).rd b := by
  rw [Mach.ethSpareIn, Mach.rd_putBit_other _ _ _ _ _ he, Mach.rd_putBit_other _ _ _ _ _ hs, Mach.ethRestart_rd _ _ hs]

theorem Mach.ethSpareIn_state (lane : Nat) (h : m.ethState n ≠ 0) : (m.ethSpareIn n lane).ethState n = 1 := by
  have htuned : (m.ethTuned n lane).ethState n = m.ethState n :=
    Mach.ethState_of_rd (m.ethTuned_rd n lane (ethReg_ne (by decide)) (ethReg_ne (by decide)))
  calc (m.ethSpareIn n lane).ethState n
    _ = (((m.ethTuned n lane).ethRestart n).putBit (A.ETH_STS n) 3 true).ethState n :=
        Mach.ethState_of_rd (Mach.rd_putBit_other _ _ _ _ _ (ethReg_ne (by decide)))
    _ = ((m.ethTuned n lane).ethRestart n).ethState n := Mach.ethState_putBit _ _ (by decide) _
    _ = 1 := Mach.ethRestart_state _ _ (htuned ▸ h)

theorem Mach.ethSpareIn_raised (lane : Nat) : (m.ethSpareIn n lane).raised = m.raised := (m.ethTuned n lane).ethRestart_raised n

/-- A laser fails with the spare in use: the port goes DOWN. -/
theorem Mach.ethLaserFail_used {lane : Nat} (hu : m.bit (A.ETH_OPT_SPARE n) 31 = true) : ∃ d, m.ethLaserFail n lane =
    ((m.putBit (A.ETH_OPT_FAIL n) lane true).ethLost n 0).raiseFault 0x69 (0xD0 + n) d := ⟨_, if_pos hu⟩

/-- A laser fails with the spare unused: the spare takes its lane. -/
theorem Mach.ethLaserFail_unused {lane : Nat} (hu : m.bit (A.ETH_OPT_SPARE n) 31 = false) : m.ethLaserFail n lane =
    ((m.putBit (A.ETH_OPT_FAIL n) lane true).ethSpareIn n lane).raiseFault 0x68 (0xD0 + n) lane := if_neg (by simp [hu])

theorem Mach.raiseFault_bit (src u d a i : Nat) : (m.raiseFault src u d).bit a i = m.bit a i :=
  Mach.bit_of_regs (m.raiseFault_regs src u d) a i
theorem Mach.raiseFault_fld (src u d a hi lo : Nat) : (m.raiseFault src u d).fld a hi lo = m.fld a hi lo :=
  Mach.fld_of_regs (m.raiseFault_regs src u d) a hi lo
theorem Mach.raiseFault_ethState (src u d : Nat) : (m.raiseFault src u d).ethState n = m.ethState n := m.raiseFault_fld src u d _ 2 0

theorem Mach.ethLaserFail_outcome {lane : Nat} (h : lane < 4) : (m.ethLaserFail n lane).bit (A.ETH_OPT_FAIL n) lane = true ∧
    (m.bit (A.ETH_OPT_SPARE n) 31 = true → (m.ethLaserFail n lane).ethState n = 0 ∧
      ∃ d, (m.ethLaserFail n lane).raised = m.raised ++ [(0x69, 0xD0 + n, d)]) ∧
    (m.bit (A.ETH_OPT_SPARE n) 31 = false → (m.ethState n ≠ 0 → (m.ethLaserFail n lane).ethState n = 1) ∧
      (m.ethLaserFail n lane).fld (A.ETH_OPT_SPARE n) 1 0 = lane ∧
      (m.ethLaserFail n lane).raised = m.raised ++ [(0x68, 0xD0 + n, lane)]) := by
  have hfail : (m.putBit (A.ETH_OPT_FAIL n) lane true).bit (A.ETH_OPT_FAIL n) lane = true := Mach.bit_putBit_same _ _ _ _ (by omega)
  have hstate : (m.putBit (A.ETH_OPT_FAIL n) lane true).ethState n = m.ethState n :=
    Mach.ethState_of_rd (Mach.rd_putBit_other _ _ _ _ _ (ethReg_ne (by decide)))
  have hraised : (m.putBit (A.ETH_OPT_FAIL n) lane true).raised = m.raised := rfl
  cases hu : m.bit (A.ETH_OPT_SPARE n) 31 with
  | true =>
    obtain ⟨d, hd⟩ := m.ethLaserFail_used n (lane := lane) hu
    rw [hd, Mach.raiseFault_bit, Mach.raiseFault_ethState, Mach.raiseFault_raised]
    generalize m.putBit (A.ETH_OPT_FAIL n) lane true = k at *
    exact ⟨(Mach.bit_of_rd (k.ethLost_rd n 0 (ethReg_ne (by decide)) (ethReg_ne (by decide))) lane).trans hfail,
      fun _ => ⟨k.ethLost_state n 0, d, by rw [k.ethLost_raised, hraised]⟩, nofun⟩
  | false =>
    rw [m.ethLaserFail_unused n hu, Mach.raiseFault_bit, Mach.raiseFault_fld, Mach.raiseFault_ethState, Mach.raiseFault_raised]
    generalize m.putBit (A.ETH_OPT_FAIL n) lane true = k at *
    have hspare := k.ethSpareIn_rd n lane (b := A.ETH_OPT_SPARE n) (ethReg_ne (by decide)) (ethReg_ne (by decide))
    have hfails := k.ethSpareIn_rd n lane (b := A.ETH_OPT_FAIL n) (ethReg_ne (by decide)) (ethReg_ne (by decide))
    refine ⟨(Mach.bit_of_rd ?_ lane).trans hfail, nofun, fun _ => ⟨fun hs => ?_, ?_, ?_⟩⟩
    · exact hfails.trans (k.ethTuned_rd n lane (ethReg_ne (by decide)) (ethReg_ne (by decide)))
    · exact k.ethSpareIn_state n lane (hstate ▸ hs)
    · exact (Mach.fld_of_rd hspare 1 0).trans (k.ethTuned_lane n h)
    · rw [k.ethSpareIn_raised, hraised]

/-! ### Training and transmit (R464, R467) -/

theorem Mach.ethTrained_outcome : ((m.put (A.ETH_STS n) 2 0 2).putBit (A.ETH_STS n) 4 false).ethUp n = true ∧
    ((m.put (A.ETH_STS n) 2 0 2).putBit (A.ETH_STS n) 4 false).bit (A.ETH_STS n) 4 = false :=
  ⟨decide_eq_true (((m.put (A.ETH_STS n) 2 0 2).ethState_putBit n (by decide) false).trans (m.ethState_put n (by decide))),
    Mach.bit_putBit_same _ _ _ _ (by decide)⟩

/-- The next frame goes from the queue to the line and is counted. -/
theorem Mach.ethTxStart_next {room : Nat} {f : TxFrame} (hu : m.ethUp n = true) (hf : m.nextEthFrame (8 + n) room = some f) :
    (m.ethTxStart n room).net.sent = m.net.sent ++ [f] ∧ (m.ethTxStart n room).net.txq = dropFirst m.net.txq f ∧
    (m.ethTxStart n room).rd (A.ETH_TX_FRAMES n) =
      BitVec.ofNat 32 (min ((m.rd (A.ETH_TX_FRAMES n)).toNat + 1) (2 ^ 32 - 1)) := by
  rw [Mach.ethTxStart, if_pos hu, hf]
  exact ⟨rfl, rfl, Mach.rd_bump _ _⟩

end

/-! ### The statement -/

/-- Settles O9: drops by the counter of their verdict, a laser failure by whether the spare is in use, and the other events by the fields of
ETH_STS that they write. -/
theorem ingestPortsComplete : Obligations.IngestPortsComplete := by
  refine fun s n => ⟨fun f => ?_, fun ber hu => ?_, fun lane => ?_, fun hdown hauto hforce hlost hunit hlight => ?_, fun ht => ?_,
    fun room f hu hf => ?_⟩
  · exact gives_onMach (f := fun m => m.ethDrop n.val f) rfl (s.m.ethDrop_outcome n.val f)
  · exact gives_made rfl (if_pos hu) (s.m.ethPortDown_outcome n.val ber)
  · exact gives_onMach (f := fun m => m.ethLaserFail n.val lane.val) rfl (s.m.ethLaserFail_outcome n.val lane.isLt)
  · exact gives_made rfl (if_pos (by simp [hdown, hauto, hforce, hlost, hunit, hlight])) (s.m.ethState_put n.val (by decide))
  · exact gives_made rfl (if_pos ht) (s.m.ethTrained_outcome n.val)
  · exact gives_onMach (f := fun m => m.ethTxStart n.val room) rfl (s.m.ethTxStart_next n.val hu hf)

end Sys2Proof.Machine

namespace Sys2Proof.Machine

/-! ### Every command answers, from the data alone -/

/-- The meaning of every command is a change of the data half: it looks neither at the queue nor at the pins. -/
theorem exec_onMach (c : Instr) : ∃ f : Mach → Mach, ∀ s : State, exec c s = s.onMach f := by
  cases c <;> (refine ⟨?_, fun s => ?_⟩; rotate_left; unfold exec; dsimp only; rfl)

/-- With no command waiting the block idles. -/
theorem step_idle {s : State} (h : s.pending = []) : step s = .next s := by
  simp only [step, h]

/-- A step takes the front command away and answers what it makes of the data, whatever waits behind it. -/
theorem step_front (c : Instr) : ∃ f : Mach → Mach, ∀ (s : State) (rest : List Instr), s.pending = c :: rest →
    step s = .next { m := f s.m, pins := (f s.m).outputs, pending := rest } := by
  obtain ⟨f, hf⟩ := exec_onMach c
  refine ⟨f, fun s rest h => ?_⟩
  simp only [step, h, hf]
  rfl

/-- Every step answers a state with the front command gone, and idles where there is none. -/
theorem step_answers (s : State) : ∃ t, step s = .next t ∧ t.pending = s.pending.tail ∧ (s.pending = [] → t = s) ∧
    (s.pending ≠ [] → t.pins = t.m.outputs) := by
  cases hq : s.pending with
  | nil => exact ⟨s, step_idle hq, hq, fun _ => rfl, fun h => absurd rfl h⟩
  | cons c rest =>
    obtain ⟨f, hf⟩ := step_front c
    exact ⟨_, hf s rest hq, rfl, fun h => absurd h (List.cons_ne_nil c rest), fun _ => rfl⟩

/-- Settles O56: the meaning of a command is a change of the data half, which the queue is no part of. -/
theorem stepRunsFrontCommand : Obligations.StepRunsFrontCommand := by
  intro c rest other s
  obtain ⟨f, hf⟩ := exec_onMach c
  refine ⟨rfl, fun t ht => ?_⟩
  rw [hf] at ht ⊢
  cases ht
  exact ⟨rfl, rfl⟩

/-- Settles O57, by what a step answers with and without a command waiting. -/
theorem everyStepAnswers : Obligations.EveryStepAnswers := by
  intro s
  obtain ⟨t, hs, ht⟩ := step_answers s
  refine ⟨⟨t, hs⟩, fun u hu => ?_⟩
  cases hs.symm.trans hu
  exact ht

/-! ### Runs over a queue -/

/-- A run goes on with what the first step answers. -/
theorem runFor_succ {s t : State} (k : Nat) (h : step s = .next t) : runFor (k + 1) s = runFor k t := by
  simp only [runFor, h]

/-- A step keeps the pins with the registers. -/
theorem step_pinsFollow {s t : State} (h : step s = .next t) (hp : PinsFollow s) : PinsFollow t := by
  obtain ⟨u, hu, -, hidle, hpins⟩ := step_answers s
  cases hu.symm.trans h
  by_cases hq : s.pending = []
  · rwa [hidle hq]
  · exact hpins hq

/-- As many steps as commands wait leave no command waiting. -/
theorem runFor_worksOff (q : List Instr) : ∀ s : State, s.pending = q →
    ∃ t, runFor q.length s = some t ∧ t.pending = [] ∧ (PinsFollow s → PinsFollow t) := by
  induction q with
  | nil => exact fun s hq => ⟨s, rfl, hq, id⟩
  | cons c rest ih =>
    intro s hq
    obtain ⟨u, hu, hrest, -, -⟩ := step_answers s
    rw [hq] at hrest
    obtain ⟨t, ht, hdone, hpins⟩ := ih u hrest
    exact ⟨t, (runFor_succ rest.length hu).trans ht, hdone, fun hp => hpins (step_pinsFollow hu hp)⟩

/-- Commands behind a queue wait until it is worked off. -/
theorem runFor_append (a b : List Instr) : ∀ s : State, runFor (a ++ b).length { s with pending := a ++ b } =
    (runFor a.length { s with pending := a }).bind (fun t => runFor b.length { t with pending := b }) := by
  induction a with
  | nil => exact fun _ => rfl
  | cons c rest ih =>
    intro s
    obtain ⟨f, hf⟩ := step_front c
    have hall := hf { s with pending := c :: rest ++ b } (rest ++ b) rfl
    have hfirst := hf { s with pending := c :: rest } rest rfl
    rw [List.length_cons, runFor_succ _ hfirst]
    exact (runFor_succ _ hall).trans (ih { m := f s.m, pins := (f s.m).outputs, pending := rest })

/-- Settles O60: the queue is worked off by `runFor_worksOff`, and in parts by `runFor_append`. -/
theorem queueIsWorkedOff : Obligations.QueueIsWorkedOff := fun s a b =>
  ⟨runFor_worksOff s.pending s rfl, runFor_append a b s⟩

end Sys2Proof.Machine

namespace Sys2Proof.Machine

/-! ### The registers of the interrupt sources (R600) -/

theorem INT_SRC_STS_inj {x y : Nat} (hx : x < 1024) (hy : y < 1024) (h : x ≠ y) : A.INT_SRC_STS y ≠ A.INT_SRC_STS x := by
  simp only [A.INT_SRC_STS]
  split <;> split <;> omega

theorem INT_CFG_inj {x y : Nat} (hx : x < 1024) (hy : y < 1024) (h : x ≠ y) : A.INT_CFG y ≠ A.INT_CFG x := by
  simp only [A.INT_CFG]
  split <;> split <;> omega

theorem INT_CFG_ne_SRC_STS {x y : Nat} (hx : x < 1024) (hy : y < 1024) : A.INT_CFG y ≠ A.INT_SRC_STS x := by
  simp only [A.INT_CFG, A.INT_SRC_STS]
  split <;> split <;> omega

/-- The source registers stand in their own pages. -/
theorem INT_SRC_STS_range {x : Nat} (hx : x < 1024) : 0x033800 ≤ A.INT_SRC_STS x ∧ A.INT_SRC_STS x < 0x036000 := by
  simp only [A.INT_SRC_STS]
  split <;> omega

theorem INT_CFG_range {x : Nat} (hx : x < 1024) : 0x032800 ≤ A.INT_CFG x ∧ A.INT_CFG x < 0x035000 := by
  simp only [A.INT_CFG]
  split <;> omega

/-! ### A source moves (R601) -/

section

variable (m : Mach)

theorem Mach.srcState_of_rd {m n : Mach} {x : Nat} (h : m.rd (A.INT_SRC_STS x) = n.rd (A.INT_SRC_STS x)) : m.srcState x = n.srcState x :=
  congrArg (fun w : Word => bitsOf w.toNat 31 30) h

theorem Mach.srcCount_of_rd {m n : Mach} {x : Nat} (h : m.rd (A.INT_SRC_STS x) = n.rd (A.INT_SRC_STS x)) : m.srcCount x = n.srcCount x :=
  congrArg (fun w : Word => bitsOf w.toNat 7 0) h

theorem Mach.srcCount_lt (x : Nat) : m.srcCount x < 256 := bitsOf_lt _ 7 0

theorem Mach.setSrc_state (x : Nat) {st : Nat} (count : Nat) (h : st < 4) : (m.setSrc x st count).srcState x = st := by
  have hput : ((m.put (A.INT_SRC_STS x) 31 30 st).put (A.INT_SRC_STS x) 7 0 count).srcState x = st :=
    (Mach.fld_put_disjoint _ _ _ _ _ _ _ (by decide) (by decide) (by decide)).trans
      ((m.fld_put_same _ _ _ _ (by decide) (by decide)).trans (Nat.mod_eq_of_lt h))
  unfold Mach.setSrc
  dsimp only
  split
  · exact hput
  · exact (Mach.fld_put_disjoint _ _ _ _ _ _ _ (by decide) (by decide) (by decide)).trans hput

theorem Mach.setSrc_count (x st : Nat) {count : Nat} (h : count < 256) : (m.setSrc x st count).srcCount x = count := by
  have hput : ((m.put (A.INT_SRC_STS x) 31 30 st).put (A.INT_SRC_STS x) 7 0 count).srcCount x = count :=
    (Mach.fld_put_same _ _ _ _ _ (by decide) (by decide)).trans (Nat.mod_eq_of_lt h)
  unfold Mach.setSrc
  dsimp only
  split
  · exact hput
  · exact (Mach.fld_put_disjoint _ _ _ _ _ _ _ (by decide) (by decide) (by decide)).trans hput

theorem Mach.setSrc_mem (x st count : Nat) : (m.setSrc x st count).mem = m.mem := by
  unfold Mach.setSrc
  dsimp only
  split <;> rfl

theorem Mach.fire_idle {x : Nat} (h : m.srcState x = 0) : m.fire x = (m.setSrc x 1 0).noteFirst x := by
  simp only [Mach.fire, h]

theorem Mach.fire_pending {x : Nat} (h : m.srcState x = 1) : m.fire x = m.setSrc x 1 (min (m.srcCount x + 1) 255) := by
  simp only [Mach.fire, h]

/-- The first firing in service is noted for the next delivery (R612). -/
theorem Mach.fire_served {x : Nat} (h : m.srcState x = 2) :
    m.fire x = (if m.srcCount x = 0 then m.noteFirst x else m).setSrc x 2 (min (m.srcCount x + 1) 255) := by
  simp only [Mach.fire, h]

theorem Mach.fire_idle_outcome {x : Nat} (h : m.srcState x = 0) : (m.fire x).srcState x = 1 ∧ (m.fire x).srcCount x = 0 := by
  rw [m.fire_idle h]
  exact ⟨m.setSrc_state x 0 (by decide), m.setSrc_count x 1 (by decide)⟩

theorem Mach.fire_pending_outcome {x : Nat} (h : m.srcState x = 1) :
    (m.fire x).srcState x = 1 ∧ (m.fire x).srcCount x = min (m.srcCount x + 1) 255 := by
  rw [m.fire_pending h]
  exact ⟨m.setSrc_state x _ (by decide), m.setSrc_count x 1 (by omega)⟩

theorem Mach.fire_served_outcome {x : Nat} (h : m.srcState x = 2) :
    (m.fire x).srcState x = 2 ∧ (m.fire x).srcCount x = min (m.srcCount x + 1) 255 := by
  rw [m.fire_served h]
  exact ⟨Mach.setSrc_state _ x _ (by decide), Mach.setSrc_count _ x 2 (by omega)⟩

theorem Mach.pendClear_pending {x : Nat} (h : m.srcState x = 1) : m.pendClear x = m.setSrc x 0 0 := if_pos h

theorem Mach.pendClear_other {x : Nat} (h : m.srcState x ≠ 1) : m.pendClear x = m := if_neg h

theorem Mach.pendClear_outcome {x : Nat} (h : m.srcState x = 1) : (m.pendClear x).srcState x = 0 ∧ (m.pendClear x).srcCount x = 0 := by
  rw [m.pendClear_pending h]
  exact ⟨m.setSrc_state x 0 (by decide), m.setSrc_count x 0 (by decide)⟩

theorem Mach.complete_last {x : Nat} (h : m.srcCount x = 0) : (m.complete x).srcState x = 0 := by
  rw [Mach.complete, if_pos h]
  exact m.setSrc_state x 0 (by decide)

theorem Mach.complete_again {x : Nat} (h : m.srcCount x ≠ 0) :
    (m.complete x).srcState x = 1 ∧ (m.complete x).srcCount x = m.srcCount x - 1 := by
  have hlt := m.srcCount_lt x
  rw [Mach.complete, if_neg h]
  exact ⟨m.setSrc_state x _ (by decide), m.setSrc_count x 1 (by omega)⟩

/-- What moves source `x` alone: no register but the source's own, and no memory. -/
def Mach.MovesSource (m : Mach) (x : Nat) (n : Mach) : Prop :=
  n.mem = m.mem ∧ ∀ a, a ≠ A.INT_SRC_STS x → n.rd a = m.rd a

theorem Mach.setSrc_moves (x st count : Nat) : m.MovesSource x (m.setSrc x st count) := ⟨m.setSrc_mem x st count, (m.setSrc_frame x st count).2⟩

theorem Mach.fire_moves (x : Nat) : m.MovesSource x (m.fire x) := by
  refine ⟨?_, (m.fire_frame x).2⟩
  unfold Mach.fire
  dsimp only
  split
  · exact m.setSrc_mem x 1 0
  · exact m.setSrc_mem x 1 _
  · rw [Mach.setSrc_mem]
    split <;> rfl

theorem Mach.pendClear_moves (x : Nat) : m.MovesSource x (m.pendClear x) := by
  unfold Mach.pendClear
  split
  · exact m.setSrc_moves x 0 0
  · exact ⟨rfl, fun _ _ => rfl⟩

theorem Mach.complete_moves (x : Nat) : m.MovesSource x (m.complete x) := by
  unfold Mach.complete
  split
  · exact m.setSrc_moves x 0 0
  · exact m.setSrc_moves x 1 _

/-- Where one source moves, every other stands, and so does the configuration of all. -/
theorem Mach.MovesSource.others {m n : Mach} {x : Nat} (h : m.MovesSource x n) (hx : x < 1024) {y : Nat} (hy : y < 1024) (hne : x ≠ y) :
    n.srcState y = m.srcState y ∧ n.srcCount y = m.srcCount y ∧ (∀ z : Fin 1024, n.rd (A.INT_CFG z) = m.rd (A.INT_CFG z)) ∧ n.mem = m.mem := by
  obtain ⟨hmem, hrd⟩ := h
  have hsts := hrd _ (INT_SRC_STS_inj hx hy hne)
  exact ⟨Mach.srcState_of_rd hsts, Mach.srcCount_of_rd hsts, fun z => hrd _ (INT_CFG_ne_SRC_STS hx z.isLt), hmem⟩

end

/-- Settles O43: what each move makes of its source, and that no other source moves. -/
theorem sourceStates : Obligations.SourceStates := by
  intro m x y hne
  have hval : x.val ≠ y.val := fun h => hne (Fin.ext h)
  refine ⟨m.fire_idle_outcome, m.fire_pending_outcome, m.fire_served_outcome, m.pendClear_outcome, m.pendClear_other, m.complete_last,
    m.complete_again, fun f hf => ?_⟩
  have hmoves : m.MovesSource x (f m x) := by
    simp only [List.mem_cons, List.not_mem_nil, or_false] at hf
    rcases hf with rfl | rfl | rfl
    · exact m.fire_moves x
    · exact m.pendClear_moves x
    · exact m.complete_moves x
  exact hmoves.others x.isLt y.isLt hval

end Sys2Proof.Machine

namespace Sys2Proof.Machine

/-! ### Writes of the fault registers (R631, R633, R635, R648) -/

/-- A clear of FLT_FIRST_STS.VALID zeroes the device record (R631). -/
theorem Mach.writeFirst_clears (m : Mach) {v : Nat} (h : bitOf v 31 = true) :
    (m.writeFirst v).rd A.FLT_FIRST_STS = 0 ∧ (m.writeFirst v).rd A.FLT_FIRST_DET = 0 ∧ (m.writeFirst v).rd64 A.FLT_FIRST_PH_LO = 0 ∧
      (m.writeFirst v).rd A.FLT_OVF = 0 ∧ (m.writeFirst v).flt = m.flt := by
  unfold Mach.writeFirst
  rw [if_pos h]
  refine ⟨?_, ?_, ?_, Mach.rd_wr_same _ _ _, rfl⟩ <;>
    simp (disch := decide) [Mach.rd64, Mach.wr64, Mach.rd_wr_other]

theorem Mach.writeQuiesce_alive (m : Mach) (v : Nat) (h : m.flt.dead = false) :
    m.writeQuiesce v = m.wr A.FLT_QUIESCE (m.rd A.FLT_QUIESCE &&& ~~~(BitVec.ofNat 32 v)) := if_neg (by simp [h])

theorem Mach.writeQuiesce_dead (m : Mach) (v : Nat) (h : m.flt.dead = true) : m.writeQuiesce v = m := if_pos h

theorem Mach.writeEgress_resumes (m : Mach) {v : Nat} (hb : bitOf v 0 = true) (h : m.flt.dead = false) :
    m.writeEgress v = m.putBit A.FLT_EGRESS 0 false := if_pos (by simp [hb, h])

theorem Mach.writeEgress_dead (m : Mach) (v : Nat) (h : m.flt.dead = true) : m.writeEgress v = m := if_neg (by simp [h])

theorem Mach.writeReact_taken (m : Mach) (c : Nat) {v : Nat} (h : bitsOf v 21 12 < 512) :
    m.writeReact c v = m.wr (A.FLT_REACT c) (BitVec.ofNat 32 ((v &&& 0x3FF0DE) ||| fixedBits c)) := if_neg (by omega)

theorem Mach.writeReact_ignored (m : Mach) (c : Nat) {v : Nat} (h : 512 ≤ bitsOf v 21 12) : m.writeReact c v = m := if_pos h

/-- The writable bits of a reaction word, and the fixed ones, as words. -/
theorem reactWord_ofNat (v : Word) (f : Nat) :
    BitVec.ofNat 32 ((v.toNat &&& 0x3FF0DE) ||| f) = (v &&& 0x3FF0DE) ||| BitVec.ofNat 32 f := by
  rw [BitVec.ofNat_or, BitVec.ofNat_and, BitVec.ofNat_toNat, BitVec.setWidth_eq]
  rfl

/-- Settles O48: a case per register and per outcome of its write. -/
theorem faultWritesComplete : Obligations.FaultWritesComplete := by
  intro s who v
  refine ⟨fun hw hb => ?_, fun hw => ?_, fun hw hd => ?_, fun hw hd => ?_, fun hw hd hb => ?_, fun hw hd => ?_, fun c hw hi => ?_,
    fun c hw hi => ?_⟩
  · exact gives_writeWhen rfl hb (s.m.write_FLT_FIRST_STS who v.toNat v.isLt hw) ⟨rfl, s.m.writeFirst_clears hb⟩
  · exact gives_write rfl (s.m.write_FLT_UCLR who v.toNat v.isLt hw)
      ⟨rfl, tfind_terase _ _, fun u hu => tfind_terase_other _ hu⟩
  · refine gives_write rfl (s.m.write_FLT_QUIESCE who v.toNat v.isLt hw) ⟨rfl, ?_⟩
    rw [Mach.answered_rd, Mach.writeQuiesce_alive _ _ hd, Mach.rd_wr_same, BitVec.ofNat_toNat, BitVec.setWidth_eq]
  · exact gives_write rfl (s.m.write_FLT_QUIESCE who v.toNat v.isLt hw) (by rw [Mach.writeQuiesce_dead _ _ hd])
  · refine gives_write rfl (s.m.write_FLT_EGRESS who v.toNat v.isLt hw) ⟨rfl, ?_⟩
    rw [Mach.writeEgress_resumes _ hb hd]
    exact Mach.bit_putBit_same _ _ _ _ (by decide)
  · exact gives_write rfl (s.m.write_FLT_EGRESS who v.toNat v.isLt hw) (by rw [Mach.writeEgress_dead _ _ hd])
  · refine gives_write rfl (s.m.write_FLT_REACT who v.toNat c v.isLt hw) ⟨rfl, ?_⟩
    rw [Mach.answered_rd, Mach.writeReact_taken _ _ hi, Mach.rd_wr_same, reactWord_ofNat]
  · exact gives_write rfl (s.m.write_FLT_REACT who v.toNat c v.isLt hw) (by rw [Mach.writeReact_ignored _ _ hi])

end Sys2Proof.Machine

namespace Sys2Proof.Machine

/-! ### The I3C address (R693) -/

theorem Mach.setDyn_outcome (m : Mach) (a : BitVec 7) : (m.setDyn a.toNat).bit A.MGT_I3C 31 = true ∧
    (m.setDyn a.toNat).fld A.MGT_I3C 30 24 = a.toNat ∧ (m.setDyn a.toNat).fld A.MGT_I3C 6 0 = m.fld A.MGT_I3C 6 0 := by
  refine ⟨?_, ?_, ?_⟩
  · exact (Mach.bit_put_disjoint _ _ _ _ _ _ (by decide) (by decide) (by decide)).trans (m.bit_putBit_same _ _ _ (by decide))
  · exact (Mach.fld_put_same _ _ _ _ _ (by decide) (by decide)).trans (Nat.mod_eq_of_lt a.isLt)
  · exact (Mach.fld_put_disjoint _ _ _ _ _ _ _ (by decide) (by decide) (by decide)).trans
      (m.fld_putBit_disjoint _ _ _ _ _ (by decide) (by decide))

/-- The dynamic address goes (R693). -/
def Mach.dropDyn (m : Mach) : Mach := (m.putBit A.MGT_I3C 31 false).put A.MGT_I3C 30 24 0

theorem Mach.dropDyn_outcome (m : Mach) : m.dropDyn.bit A.MGT_I3C 31 = false ∧ m.dropDyn.fld A.MGT_I3C 30 24 = 0 ∧
    m.dropDyn.fld A.MGT_I3C 6 0 = m.fld A.MGT_I3C 6 0 := by
  refine ⟨?_, ?_, ?_⟩
  · exact (Mach.bit_put_disjoint _ _ _ _ _ _ (by decide) (by decide) (by decide)).trans (m.bit_putBit_same _ _ _ (by decide))
  · exact Mach.fld_put_same _ _ _ _ _ (by decide) (by decide)
  · exact (Mach.fld_put_disjoint _ _ _ _ _ _ _ (by decide) (by decide) (by decide)).trans
      (m.fld_putBit_disjoint _ _ _ _ _ (by decide) (by decide))

/-- A target without a dynamic address takes the one that it is given, where `p` says that the code is for it. -/
theorem gives_address {c : Instr} {s : State} {a : BitVec 7} (p : Mach → Bool)
    (hx : exec c s = s.onMach (fun m => if p m && !m.bit A.MGT_I3C 31 then m.setDyn a.toNat else m)) (hp : p s.m = true)
    (hd : s.m.bit A.MGT_I3C 31 = false) : Gives c s (fun m => m.bit A.MGT_I3C 31 = true ∧ m.fld A.MGT_I3C 30 24 = a.toNat ∧
      m.fld A.MGT_I3C 6 0 = s.m.fld A.MGT_I3C 6 0) :=
  gives_onMach hx (by rw [hp, hd]; exact s.m.setDyn_outcome a)

/-- Settles O53: a case per code and per instruction; those that only set what they name hold by what they set. -/
theorem managementComplete : Obligations.ManagementComplete := by
  intro s a static ev bits
  refine ⟨fun hd => ?_, rfl, fun hd => ?_, fun hd hs => ?_, fun hs => ?_, gives_onMach (f := Mach.dropDyn) rfl s.m.dropDyn_outcome,
    ⟨_, rfl, rfl, rfl⟩, ⟨_, rfl, rfl, rfl⟩, ⟨_, rfl, rfl⟩, ⟨_, rfl, rfl⟩, ⟨_, rfl, rfl⟩, ⟨_, rfl, rfl, rfl, rfl⟩, ⟨_, rfl, rfl, rfl⟩,
    ⟨_, rfl, rfl, rfl, rfl⟩, ⟨_, rfl, rfl, rfl, rfl⟩, ⟨_, rfl, rfl, rfl, rfl⟩, fun hl => ?_, fun hl => ?_⟩
  · obtain ⟨m, hm, hset, haddr, -⟩ := gives_address (c := .entdaa a true) (fun _ => true) rfl rfl hd
    exact ⟨m, hm, hset, haddr⟩
  · exact unmoved_not_due (fun m => (true && !m.bit A.MGT_I3C 31) = true) (f := fun m => m.setDyn a.toNat) rfl (by simp [hd])
  · obtain ⟨m, hm, hset, haddr, hstatic⟩ := gives_address (c := .setdasa static a) (fun m => decide (static.toNat = m.fld A.MGT_I3C 6 0)) rfl
      (decide_eq_true hs) hd
    exact ⟨m, hm, hset, haddr, hstatic.trans hs.symm⟩
  · exact unmoved_not_due (fun m => (decide (static.toNat = m.fld A.MGT_I3C 6 0) && !m.bit A.MGT_I3C 31) = true)
      (f := fun m => m.setDyn a.toNat) rfl (by simp [hs])
  · refine gives_onMach (f := fun m => if m.lcs ≤ 1 then m.scan 0 bits else m.jtag 0 [(0, 0)]) rfl ?_
    rw [if_pos hl]
    exact ⟨rfl, rfl, rfl⟩
  · refine gives_onMach (f := fun m => if m.lcs ≤ 1 then m.scan 0 bits else m.jtag 0 [(0, 0)]) rfl ?_
    rw [if_neg (by omega)]
    exact ⟨rfl, rfl, rfl⟩

end Sys2Proof.Machine

namespace Sys2Proof.Machine

/-! ### Writes by access types alone (R8) -/

section

variable (m : Mach) {p o k v : Nat} {r : RegRow}

theorem Mach.plainWords_row (hr : rowIn (pageRows p) o = some r) (hk : m.cellOf p o = some k) :
    m.plainWords p [(o, v)] = m.plainWrite k r v := by
  simp only [Mach.plainWords, List.foldl_cons, List.foldl_nil, hr, hk]

/-- A row whose fields are RW or PW, or not written at all: `mask` is what a write sets. -/
def rwRow (r : RegRow) (mask : Nat) : Bool :=
  fldMask r (fun a => a = .sh) = 0 && fldMask r (fun a => a = .rw || a = .pw) = mask && fldMask r (fun a => a = .w1c) = 0 &&
    fldMask r (fun a => a = .w1s) = 0

theorem Mach.plainWrite_rw {mask : Nat} (h : rwRow r mask = true) : m.plainWrite k r v =
    m.wr k ((m.rd k &&& ~~~(BitVec.ofNat 32 mask)) ||| (BitVec.ofNat 32 v &&& BitVec.ofNat 32 mask)) := by
  simp only [rwRow, Bool.and_eq_true, decide_eq_true_eq] at h
  obtain ⟨⟨⟨hsh, hrw⟩, hc⟩, hs⟩ := h
  unfold Mach.plainWrite
  simp only [hsh, hrw, hc, hs, ne_eq, not_true_eq_false, if_false, BitVec.ofNat_eq_ofNat, BitVec.and_zero, BitVec.not_zero,
    BitVec.and_allOnes, BitVec.or_zero]

/-- A field inside the written mask takes the written value. -/
theorem bitsOf_masked (old w mask : Word) {hi lo : Nat} (h32 : hi < 32) (hm : ∀ i, lo ≤ i → i ≤ hi → mask.toNat.testBit i = true) :
    bitsOf ((old &&& ~~~mask) ||| (w &&& mask)).toNat hi lo = bitsOf w.toNat hi lo := by
  apply Nat.eq_of_testBit_eq
  intro i
  rw [bitsOf_testBit, bitsOf_testBit]
  by_cases hi' : i < hi + 1 - lo
  · have hbit := hm (lo + i) (by omega) (by omega)
    have hlt : lo + i < 32 := by omega
    simp only [BitVec.testBit_toNat] at hbit ⊢
    simp [hbit]
  · simp [hi']

theorem Mach.plainWords_fld {mask hi lo : Nat} (hr : (rowIn (pageRows p) o).any (fun r => rwRow r mask) = true) (hk : m.cellOf p o = some k)
    (hv : v < 2 ^ 32) (h32 : hi < 32) (hm : ∀ i, lo ≤ i → i ≤ hi → (BitVec.ofNat 32 mask).toNat.testBit i = true) :
    (m.plainWords p [(o, v)]).fld k hi lo = bitsOf v hi lo := by
  cases hrow : rowIn (pageRows p) o with
  | none => simp [hrow] at hr
  | some r =>
    rw [hrow] at hr
    rw [m.plainWords_row hrow hk, m.plainWrite_rw hr, Mach.fld_wr_same, bitsOf_masked _ _ _ h32 hm, BitVec.toNat_ofNat, Nat.mod_eq_of_lt hv]

end

/-! ### The control cores' registers (R622) -/

theorem CC_THRESH_row : ∀ c : Fin 8, (rowIn (pageRows 0x031) (0x104 + 32 * c.val)).any (fun r => rwRow r 0xF) = true := by decide

theorem CC_CTL_row : ∀ c : Fin 8, (rowIn (pageRows 0x031) (0x100 + 32 * c.val)).any (fun r => rwRow r 1) = true := by decide

theorem Mach.writeThresh_fld (m : Mach) (c : Fin 8) {v : Nat} (hv : v < 2 ^ 32) :
    (m.plainWords 0x031 [(0x104 + 32 * c.val, v)]).fld (A.CC_THRESH c.val) 3 0 = bitsOf v 3 0 := by
  refine m.plainWords_fld (CC_THRESH_row c) ?_ hv (by decide) fun i _ hi => ?_
  · simp only [Mach.cellOf, A.CC_THRESH]
    norm_num
    omega
  · interval_cases i <;> rfl

theorem Mach.writeCcCtl_bit (m : Mach) (c : Fin 8) {v : Nat} (hv : v < 2 ^ 32) :
    (m.plainWords 0x031 [(0x100 + 32 * c.val, v)]).bit (A.CC_CTL c.val) 0 = bitOf v 0 := by
  rw [Mach.bit_eq_fld, bitOf_eq_bitsOf]
  rw [m.plainWords_fld (CC_CTL_row c) ?_ hv (by decide) fun i _ hi => ?_]
  · simp only [Mach.cellOf, A.CC_CTL]
    norm_num
    omega
  · obtain rfl : i = 0 := by omega
    rfl

/-! ### A class O source's configuration (R611) -/

theorem row_INT_CFG {src : Nat} (hs : src < 512) : oneWord (A.INT_CFG src) 0x032 (0x800 + 4 * src) = true := by
  have hpage : A.INT_CFG src / 0x1000 % 0x1000 = 0x032 := by simp only [A.INT_CFG, if_pos hs]; omega
  have hoff : A.INT_CFG src % 0x1000 = 0x800 + 4 * src := by simp only [A.INT_CFG, if_pos hs]; omega
  have hal : A.INT_CFG src % 4 = 0 := by simp only [A.INT_CFG, if_pos hs]; omega
  have hres : resolveOff 0x032 (0x800 + 4 * src) = 0x800 + 4 * src := by
    rw [resolveOff, show pageDecw 0x032 = 10 by decide]
    omega
  have hrow : rowIn (pageRows 0x032) (0x800 + 4 * src) = rowsInt2.head? := by
    rw [show pageRows 0x032 = rowsInt2 by decide]
    simp [rowIn, rowsInt2, RegRow.of]
    omega
  rw [oneWord, hpage, hoff, hal, hres, show resolvePage 0x032 = 0x032 by decide, hrow]
  simp [rowsInt2, mwInfo, RegRow.of]
  omega

theorem Mach.commit_INT_CFG (m : Mach) (who : Ident) {src : Nat} (v : Nat) :
    m.commit who 0x032 [(0x800 + 4 * src, v)] = m.writeOCfg src v := by
  have hsrc : (0x800 + 4 * src - 0x800) / 4 = src := by omega
  generalize 0x800 + 4 * src = o at *
  simp [Mach.commit, queueBase, Mach.cellOf, Mach.writeFltInt, hsrc]

theorem Mach.write_INT_CFG (m : Mach) (who : Ident) {src v : Nat} (hs : src < 512) (hv : v < 2 ^ 32) (h : m.writeOpen who (A.INT_CFG src)) :
    m.writeCmd who (A.INT_CFG src) v = (m.writeOCfg src v).answered := by
  rw [m.writeCmd_word who (A.INT_CFG src) 0x032 (0x800 + 4 * src) v (row_INT_CFG hs) hv h, m.commit_INT_CFG who v]
  rfl

theorem Mach.writeOCfg_taken (m : Mach) (src : Nat) {v : Nat} (h : bitOf v 30 = true → m.vecOwner (bitsOf v 29 24) = some 0) :
    m.writeOCfg src v = m.wr (A.INT_CFG src) (BitVec.ofNat 32 (v &&& 0xFFFF000F)) := by
  refine if_neg fun hc => ?_
  simp only [Bool.and_eq_true, decide_eq_true_eq] at hc
  exact hc.2 (h hc.1)

theorem Mach.writeOCfg_refused (m : Mach) (src : Nat) {v : Nat} (hb : bitOf v 30 = true) (h : m.vecOwner (bitsOf v 29 24) ≠ some 0) :
    m.writeOCfg src v = m.putBit A.INT_STS 30 true := if_pos (by simp [hb, h])

/-! ### Owner registers (R617) -/

section

variable (m : Mach) {n v a : Nat}

theorem Mach.maskSrcs_rd (p : Nat → Bool) (h : ∀ s < 1024, a ≠ A.INT_CFG s) : (m.maskSrcs p).rd a = m.rd a := by
  refine foldl_keeps _ _ (fun b => b.rd a) (fun b s hs => ?_) m
  exact Mach.rd_putBit_other _ _ _ _ _ (h s (List.mem_range.1 (List.mem_filter.1 hs).1))

theorem sum_map_range_four (g : Nat → Nat) : ((List.range 4).map g).sum = (List.range 4).foldl (fun s k => s + g k) 0 := by
  simp [List.range_succ, add_assoc]

/-- The owner bytes as the interrupt owner registers put them together. -/
theorem ownBytes_word (w : Word) : BitVec.ofNat 32 (((List.range 4).map (fun k => ownByte w.toNat k * 2 ^ (8 * k))).sum) = w &&& 0x8F8F8F8F := by
  rw [← ownBytes_sum w, sum_map_range_four]

theorem Mach.srcActive_none (h : ∀ y : Fin 1024, m.srcState y = 0) {s : Nat} (hs : s ∈ List.range 1024) : m.srcActive s = false := by
  simp only [Mach.srcActive, h ⟨s, List.mem_range.1 hs⟩, ne_eq, not_true_eq_false, decide_false]

theorem Mach.writeHvOwn_idle (hn : n < 16) (w : Word) (h : ∀ y : Fin 1024, m.srcState y = 0) :
    (m.writeHvOwn n w.toNat).rd (A.INT_HV_OWN n) = w &&& 0x8F8F8F8F := by
  unfold Mach.writeHvOwn
  dsimp only
  rw [if_neg, Mach.maskSrcs_rd _ _ fun s hs => ?_, Mach.rd_wr_same, ownBytes_word]
  · have := (INT_CFG_range hs).1
    simp only [A.INT_HV_OWN]
    omega
  · rw [List.any_eq_true]
    rintro ⟨s, hs, hc⟩
    simp [m.srcActive_none h hs] at hc

theorem Mach.writeTOwn_idle (hn : n < 16) (w : Word) (h : ∀ y : Fin 1024, m.srcState y = 0) :
    (m.writeTOwn n w.toNat).rd (A.INT_T_OWN n) = w &&& 0x8F8F8F8F := by
  unfold Mach.writeTOwn
  dsimp only
  rw [if_neg, Mach.maskSrcs_rd _ _ fun s hs => ?_, Mach.rd_wr_same, ownBytes_word]
  · have := (INT_CFG_range hs).1
    simp only [A.INT_T_OWN]
    omega
  · rw [List.any_eq_true]
    rintro ⟨s, hs, hc⟩
    simp [m.srcActive_none h hs] at hc

end

/-! ### T_MSET, T_MCLR and T_PCLR (R616) -/

section

variable {α : Type} (l : List α) (g : Mach → α → Mach) (P Q : Mach → Prop)

/-- What the turn of one member establishes, and the others leave, holds at the end. -/
theorem foldl_establishes {x : α} (hx : x ∈ l) (hset : ∀ a, P a → Q (g a x)) (hP : ∀ a, ∀ y ∈ l, P a → P (g a y))
    (hQ : ∀ a, ∀ y ∈ l, Q a → Q (g a y)) (m : Mach) (hm : P m) : Q (l.foldl g m) := by
  have hend : ∀ (r : List α) (b : Mach), (∀ y ∈ r, y ∈ l) → Q b → Q (r.foldl g b) := fun r => by
    induction r with
    | nil => exact fun b _ hb => hb
    | cons y r ih => exact fun b hr hb => ih _ (fun z hz => hr z (List.mem_cons_of_mem _ hz)) (hQ b y (hr y List.mem_cons_self) hb)
  have hgo : ∀ (r : List α) (b : Mach), x ∈ r → (∀ y ∈ r, y ∈ l) → P b → Q (r.foldl g b) := fun r => by
    induction r with
    | nil => exact fun b hxr => absurd hxr List.not_mem_nil
    | cons y r ih =>
      intro b hxr hr hb
      have hrest : ∀ z ∈ r, z ∈ l := fun z hz => hr z (List.mem_cons_of_mem _ hz)
      rcases List.mem_cons.1 hxr with rfl | hxr
      · exact hend r _ hrest (hset b hb)
      · exact ih _ hxr hrest (hP b y (hr y List.mem_cons_self) hb)
  exact hgo l m hx (fun _ hy => hy) hm

end

section

variable (m : Mach) {who : Ident} {k i v : Nat}

/-- Partition 0, and the owner of the source, may act on it. -/
theorem Mach.mem_tBits (hi : i < 32) (h : who = .part 0 ∨ ∃ p : Fin 16, who = .part p ∧ m.srcOwner (512 + 32 * k + i) = some p.val) :
    512 + 32 * k + i ∈ m.tBits who k := by
  refine List.mem_filter.2 ⟨List.mem_map.2 ⟨i, List.mem_range.2 hi, rfl⟩, ?_⟩
  rcases h with rfl | ⟨p, rfl, ho⟩
  · rfl
  · simp [ho]

/-- The sources that a writer acts on are those of the word. -/
theorem Mach.tBits_range {s : Nat} (h : s ∈ m.tBits who k) : ∃ j < 32, s = 512 + 32 * k + j := by
  obtain ⟨j, hj, rfl⟩ := List.mem_map.1 (List.mem_filter.1 h).1
  exact ⟨j, List.mem_range.1 hj, rfl⟩

/-- One turn of a write of the bits. -/
def tTurn (k v : Nat) (f : Mach → Nat → Mach) (a : Mach) (s : Nat) : Mach := if v.testBit (s - 512 - 32 * k) then f a s else a

theorem tTurn_set {f : Mach → Nat → Mach} (a : Mach) (h : v.testBit i = true) : tTurn k v f a (512 + 32 * k + i) = f a (512 + 32 * k + i) := by
  rw [tTurn, show 512 + 32 * k + i - 512 - 32 * k = i by omega, if_pos h]

/-- What `f` keeps, a turn keeps. -/
theorem tTurn_keeps {f : Mach → Nat → Mach} {P : Mach → Prop} {a : Mach} {s : Nat} (ha : P a) (h : P (f a s)) : P (tTurn k v f a s) := by
  unfold tTurn
  split
  · exact h
  · exact ha

theorem Mach.writeTBits_establishes {f : Mach → Nat → Mach} (P Q : Mach → Prop) (hi : i < 32) (hb : v.testBit i = true)
    (hown : who = .part 0 ∨ ∃ p : Fin 16, who = .part p ∧ m.srcOwner (512 + 32 * k + i) = some p.val)
    (hset : ∀ a, P a → Q (f a (512 + 32 * k + i))) (hP : ∀ a, ∀ j < 32, P a → P (f a (512 + 32 * k + j)))
    (hQ : ∀ a, ∀ j < 32, Q a → Q (f a (512 + 32 * k + j))) (hm : P m) : Q (m.writeTBits who k v f) := by
  refine foldl_establishes _ (tTurn k v f) P Q (m.mem_tBits hi hown) (fun a ha => ?_) (fun a y hy ha => ?_) (fun a y hy ha => ?_) m hm
  · rw [tTurn_set a hb]
    exact hset a ha
  · obtain ⟨j, hj, rfl⟩ := m.tBits_range hy
    exact tTurn_keeps ha (hP a j hj ha)
  · obtain ⟨j, hj, rfl⟩ := m.tBits_range hy
    exact tTurn_keeps ha (hQ a j hj ha)

/-- A mask bit of one source stands where another's is written. -/
theorem Mach.srcMasked_putBit {x y : Nat} (hx : x < 1024) (hy : y < 1024) (b : Bool) (h : x ≠ y) :
    (m.putBit (A.INT_CFG y) 31 b).srcMasked x = m.srcMasked x := Mach.bit_putBit_other _ _ _ _ _ _ (INT_CFG_inj hy hx (Ne.symm h))

theorem Mach.writeTMask_set (b : Bool) (hk : k < 16) (hi : i < 32) (hb : v.testBit i = true)
    (hown : who = .part 0 ∨ ∃ p : Fin 16, who = .part p ∧ m.srcOwner (512 + 32 * k + i) = some p.val) :
    (m.writeTBits who k v (fun a s => a.putBit (A.INT_CFG s) 31 b)).srcMasked (512 + 32 * k + i) = b := by
  refine m.writeTBits_establishes (fun _ => True) (fun a => a.srcMasked (512 + 32 * k + i) = b) hi hb hown
    (fun a _ => a.bit_putBit_same _ _ _ (by decide)) (fun _ _ _ _ => trivial) (fun a j hj ha => ?_) trivial
  by_cases hj' : i = j
  · subst hj'
    exact a.bit_putBit_same _ _ _ (by decide)
  · rwa [a.srcMasked_putBit (by omega) (by omega) b (by omega)]

theorem Mach.writeTPclr_clears (hk : k < 16) (hi : i < 32) (hb : v.testBit i = true) (hp : m.srcState (512 + 32 * k + i) = 1)
    (hown : who = .part 0 ∨ ∃ p : Fin 16, who = .part p ∧ m.srcOwner (512 + 32 * k + i) = some p.val) :
    (m.writeTPclr who k v).srcState (512 + 32 * k + i) = 0 := by
  have hidle : ∀ a : Mach, a.srcState (512 + 32 * k + i) = 0 → (a.pendClear (512 + 32 * k + i)).srcState (512 + 32 * k + i) = 0 :=
    fun a ha => by rwa [a.pendClear_other (by omega)]
  have hother : ∀ (a : Mach), ∀ j < 32, i ≠ j → (a.pendClear (512 + 32 * k + j)).srcState (512 + 32 * k + i) = a.srcState (512 + 32 * k + i) :=
    fun a j hj hne => ((a.pendClear_moves _).others (by omega) (by omega) (by omega)).1
  refine m.writeTBits_establishes (fun a => a.srcState (512 + 32 * k + i) = 1 ∨ a.srcState (512 + 32 * k + i) = 0)
    (fun a => a.srcState (512 + 32 * k + i) = 0) hi hb hown (fun a ha => ?_) (fun a j hj ha => ?_) (fun a j hj ha => ?_) (Or.inl hp)
  · exact ha.elim (fun h1 => (a.pendClear_outcome h1).1) (hidle a)
  · by_cases hj' : i = j
    · subst hj'
      exact Or.inr (ha.elim (fun h1 => (a.pendClear_outcome h1).1) (hidle a))
    · rwa [hother a j hj hj']
  · by_cases hj' : i = j
    · subst hj'
      exact hidle a ha
    · rwa [hother a j hj hj']

/-- A partition leaves the sources of another as they are. -/
theorem Mach.writeTMset_foreign {p : Fin 16} (hk : k < 16) (hi : i < 32) (hp : p ≠ 0) (ho : m.srcOwner (512 + 32 * k + i) ≠ some p.val) :
    (m.writeTMset (.part p) k v).srcMasked (512 + 32 * k + i) = m.srcMasked (512 + 32 * k + i) := by
  refine foldl_keeps _ _ (fun a => a.srcMasked (512 + 32 * k + i)) (fun a s hs => ?_) m
  obtain ⟨j, hj, rfl⟩ := m.tBits_range hs
  have hne : i ≠ j := by
    rintro rfl
    simpa [hp, ho] using (List.mem_filter.1 hs).2
  split
  · exact a.srcMasked_putBit (by omega) (by omega) true (by omega)
  · rfl

end

/-! ### Completions by a host (R602) -/

theorem Mach.writeHcmpl_served (m : Mach) {p v : Nat} (hs : m.srcState (v % 1024) = 2) (hh : m.bit (A.INT_SRC_STS (v % 1024)) 26 = true)
    (hp : tfind m.irq.host (v % 1024) = some p) : m.writeHcmpl p v = m.complete (v % 1024) := if_pos (by simp [hs, hh, hp])

theorem Mach.writeHcmpl_spurious (m : Mach) {p v : Nat} (hs : m.srcState (v % 1024) ≠ 2) :
    m.writeHcmpl p v = (m.bump A.INT_SPURIOUS_CMPL).bump (A.INT_HSPUR p) := if_neg (by simp [hs])

/-- No source register counts the configurations of a partition. -/
theorem INT_OWN_ne_PART_STS {a p : Nat} (ha : a < 0x061020) : a ≠ partReg A.PART_STS p := by
  simp only [partReg, A.PART_STS]
  omega

/-- Settles O45: a case per register and per outcome of its write. -/
theorem interruptWritesComplete : Obligations.InterruptWritesComplete := by
  intro s who v x
  have hx : x < 1024 := Nat.mod_lt _ (by decide)
  refine ⟨fun hw => ?_, fun hw hlt => ?_, fun hw hge => ?_, fun hw hlt hs => ?_, fun p hw hs hh hp => ?_, fun p hw hs => ?_,
    fun k i hb hown => ⟨fun hw => ?_, fun hw => ?_, fun hw hs => ?_⟩, fun k i p hp ho hw => ?_, fun n hw hidle => ?_, fun n hw hidle => ?_,
    fun src hlt hw hv => ?_, fun src hlt hw hb hv => ?_, fun c hw => ?_, fun c hw => ?_⟩
  · exact gives_write rfl (s.m.write_INT_DOORBELL who v.toNat v.isLt hw) ⟨rfl, fun h => (s.m.fire_idle_outcome h).1⟩
  · exact gives_write rfl (s.m.write_INT_SW_PEND who v.toNat v.isLt hw) (congrArg Mach.answered (if_pos hlt))
  · exact gives_write rfl (s.m.write_INT_SW_PEND who v.toNat v.isLt hw) (congrArg Mach.answered (if_neg (Nat.not_lt.2 hge)))
  · refine gives_write rfl (s.m.write_INT_O_PCLR who v.toNat v.isLt hw) ⟨rfl, ?_⟩
    rw [show s.m.writeOPclr v.toNat = s.m.pendClear x from if_pos hlt]
    exact (s.m.pendClear_outcome hs).1
  · exact gives_write rfl (s.m.write_INT_HCMPL who v.toNat p v.isLt hw) (congrArg Mach.answered (s.m.writeHcmpl_served hs hh hp))
  · exact gives_write rfl (s.m.write_INT_HCMPL who v.toNat p v.isLt hw) (congrArg Mach.answered (s.m.writeHcmpl_spurious hs))
  · exact gives_write rfl (s.m.write_T_MSET who v.toNat k v.isLt hw) ⟨rfl, s.m.writeTMask_set true k.isLt i.isLt hb hown⟩
  · exact gives_write rfl (s.m.write_T_MCLR who v.toNat k v.isLt hw) ⟨rfl, s.m.writeTMask_set false k.isLt i.isLt hb hown⟩
  · exact gives_write rfl (s.m.write_T_PCLR who v.toNat k v.isLt hw) ⟨rfl, s.m.writeTPclr_clears k.isLt i.isLt hb hs hown⟩
  · exact gives_write rfl (s.m.write_T_MSET (.part p) v.toNat k v.isLt hw) (s.m.writeTMset_foreign k.isLt i.isLt hp ho)
  · refine gives_write rfl (s.m.write_INT_HV_OWN who v.toNat n v.isLt hw) ⟨rfl, ?_⟩
    rw [Mach.answered_rd, Mach.tracked_rd _ _ _ fun p _ => INT_OWN_ne_PART_STS (by simp only [A.INT_HV_OWN]; omega)]
    exact s.m.writeHvOwn_idle n.isLt v hidle
  · refine gives_write rfl (s.m.write_INT_T_OWN who v.toNat n v.isLt hw) ⟨rfl, ?_⟩
    rw [Mach.answered_rd, Mach.tracked_rd _ _ _ fun p _ => INT_OWN_ne_PART_STS (by simp only [A.INT_T_OWN]; omega)]
    exact s.m.writeTOwn_idle n.isLt v hidle
  · refine gives_write rfl (s.m.write_INT_CFG who hlt v.isLt hw) ⟨rfl, ?_⟩
    rw [Mach.answered_rd, s.m.writeOCfg_taken _ hv, Mach.rd_wr_same, BitVec.ofNat_and, BitVec.ofNat_toNat, BitVec.setWidth_eq]
    rfl
  · exact gives_write rfl (s.m.write_INT_CFG who hlt v.isLt hw) (congrArg Mach.answered (s.m.writeOCfg_refused _ hb hv))
  · exact gives_write rfl (s.m.write_CC_THRESH who v.toNat c v.isLt hw) ⟨rfl, s.m.writeThresh_fld c v.isLt⟩
  · exact gives_write rfl (s.m.write_CC_CTL who v.toNat c v.isLt hw) ⟨rfl, s.m.writeCcCtl_bit c v.isLt⟩

end Sys2Proof.Machine

namespace Sys2Proof.Machine

/-! ### Routing (R605) -/

section

variable (m : Mach)

theorem Mach.routeSources_none (h : m.routable = []) : m.routeSources.irq = m.irq := by
  simp only [Mach.routeSources, h, List.foldl_nil, List.append_nil]

theorem Mach.routeSources_one {x c : Nat} (h : m.routable = [x]) (hc : m.pickCore [] x = some c) :
    m.routeSources = { m with irq := { m.irq with transit := m.irq.transit ++ [(c, x)] } } := by
  simp only [Mach.routeSources, h, List.foldl_cons, List.foldl_nil, hc, List.nil_append]

/-! ### Entry and exit (R606 to R608) -/

/-- A core shows its handlers in CC_STS and CC_CUR alone. -/
theorem Mach.showCore_frame (c : Nat) : (m.showCore c).irq = m.irq ∧
    ∀ a, a ≠ A.CC_STS c → a ≠ A.CC_CUR c → (m.showCore c).rd a = m.rd a := by
  unfold Mach.showCore
  dsimp only
  split
  · exact ⟨rfl, fun a hs hc => by rw [Mach.rd_wr_other _ _ _ _ hc, Mach.rd_put_other _ _ _ _ _ _ hs, Mach.rd_put_other _ _ _ _ _ _ hs]⟩
  · exact ⟨rfl, fun a hs hc => by rw [Mach.rd_wr_other _ _ _ _ hc, Mach.rd_put_other _ _ _ _ _ _ hs, Mach.rd_put_other _ _ _ _ _ _ hs]⟩

theorem CC_STS_ne_CUR (c : Nat) : A.CC_STS c ≠ A.CC_CUR c := by simp only [A.CC_STS, A.CC_CUR]; omega

theorem Mach.showCore_inExit (c : Nat) : (m.showCore c).inExit c = m.inExit c := by
  unfold Mach.showCore Mach.inExit
  dsimp only
  split <;>
    rw [Mach.bit_wr_other _ _ _ _ _ (CC_STS_ne_CUR c), Mach.bit_put_disjoint _ _ _ _ _ _ (by decide) (by decide) (by decide),
      Mach.bit_put_disjoint _ _ _ _ _ _ (by decide) (by decide) (by decide)]

/-- The innermost handler, as CC_STS and CC_CUR show it. -/
theorem Mach.showCore_handler {c pr src n : Nat} {below : List (Nat × Nat × Nat)} (h : tget m.irq.stack c [] = (pr, src, n) :: below)
    (hd : below.length < 31) (hp : pr < 32) : (m.showCore c).rd (A.CC_CUR c) = BitVec.ofNat 32 (2 ^ 31 + n * 2 ^ 16 + src) ∧
      (m.showCore c).fld (A.CC_STS c) 20 16 = below.length + 1 ∧ (m.showCore c).fld (A.CC_STS c) 4 0 = pr := by
  simp only [Mach.showCore, h]
  refine ⟨Mach.rd_wr_same _ _ _, ?_, ?_⟩
  · rw [Mach.fld_wr_other _ _ _ _ _ _ (CC_STS_ne_CUR c), Mach.fld_put_disjoint _ _ _ _ _ _ _ (by decide) (by decide) (by decide),
      Mach.fld_put_same _ _ _ _ _ (by decide) (by decide)]
    exact Nat.mod_eq_of_lt (by simp only [List.length_cons]; omega)
  · rw [Mach.fld_wr_other _ _ _ _ _ _ (CC_STS_ne_CUR c), Mach.fld_put_same _ _ _ _ _ (by decide) (by decide)]
    exact Nat.mod_eq_of_lt hp

/-- The handler of `x` on top of the stack of core `c`. -/
def Mach.pushed (m : Mach) (c x : Nat) : Mach :=
  { m with irq := { m.irq with stack := tset m.irq.stack c ((m.srcPrio x, x, m.srcCount x) :: tget m.irq.stack c []) } }

/-- Source `x` is in service at core `c`, or at a host. -/
def Mach.servedAt (m : Mach) (c x : Nat) (host : Bool) : Mach :=
  ((m.setSrc x 2 0).put (A.INT_SRC_STS x) 29 27 c).putBit (A.INT_SRC_STS x) 26 host

theorem Mach.enterHandler_eq {c : Nat} (x : Nat) (h : m.inExit c = false) : m.enterHandler c x =
    ((((m.pushed c x).servedAt c x false).putBit (A.CC_STS c) 6 false).bump (A.CC_ENTRIES c)).showCore c := by
  unfold Mach.enterHandler
  dsimp only
  rw [h]
  rfl

theorem Mach.servedAt_outcome {c : Nat} (x : Nat) (host : Bool) (hc : c < 8) :
    (m.servedAt c x host).srcState x = 2 ∧ (m.servedAt c x host).srcCount x = 0 ∧
      (m.servedAt c x host).fld (A.INT_SRC_STS x) 29 27 = c ∧ (m.servedAt c x host).bit (A.INT_SRC_STS x) 26 = host := by
  refine ⟨?_, ?_, ?_, Mach.bit_putBit_same _ _ _ _ (by decide)⟩
  · exact ((Mach.fld_putBit_disjoint _ _ _ _ _ _ (by decide) (by decide)).trans
      (Mach.fld_put_disjoint _ _ _ _ _ _ _ (by decide) (by decide) (by decide))).trans (m.setSrc_state x 0 (by decide))
  · exact ((Mach.fld_putBit_disjoint _ _ _ _ _ _ (by decide) (by decide)).trans
      (Mach.fld_put_disjoint _ _ _ _ _ _ _ (by decide) (by decide) (by decide))).trans (m.setSrc_count x 2 (by decide))
  · rw [Mach.servedAt, Mach.fld_putBit_disjoint _ _ _ _ _ _ (by decide) (by decide), Mach.fld_put_same _ _ _ _ _ (by decide) (by decide)]
    exact Nat.mod_eq_of_lt (by omega)

theorem Mach.setSrc_irq (x st count : Nat) : (m.setSrc x st count).irq = m.irq := by
  unfold Mach.setSrc
  dsimp only
  split <;> rfl

theorem Mach.enterHandler_outcome {c x : Nat} (hc : c < 8) (hx : x < 512) (h : m.inExit c = false) (hd : (tget m.irq.stack c []).length < 31) :
    (m.enterHandler c x).srcState x = 2 ∧ (m.enterHandler c x).srcCount x = 0 ∧
      tget (m.enterHandler c x).irq.stack c [] = (m.srcPrio x, x, m.srcCount x) :: tget m.irq.stack c [] ∧
      (m.enterHandler c x).fld (A.INT_SRC_STS x) 29 27 = c ∧ (m.enterHandler c x).bit (A.INT_SRC_STS x) 26 = false ∧
      (m.enterHandler c x).rd (A.CC_CUR c) = BitVec.ofNat 32 (2 ^ 31 + m.srcCount x * 2 ^ 16 + x) ∧
      (m.enterHandler c x).fld (A.CC_STS c) 20 16 = (tget m.irq.stack c []).length + 1 ∧
      (m.enterHandler c x).fld (A.CC_STS c) 4 0 = m.srcPrio x := by
  rw [m.enterHandler_eq x h]
  obtain ⟨hstate, hcount, hcore, hhost⟩ := (m.pushed c x).servedAt_outcome x false hc
  generalize hn : (((m.pushed c x).servedAt c x false).putBit (A.CC_STS c) 6 false).bump (A.CC_ENTRIES c) = n
  have hstack : tget n.irq.stack c [] = (m.srcPrio x, x, m.srcCount x) :: tget m.irq.stack c [] := by
    rw [← hn, show ((((m.pushed c x).servedAt c x false).putBit (A.CC_STS c) 6 false).bump (A.CC_ENTRIES c)).irq = (m.pushed c x).irq from
      Mach.setSrc_irq _ x 2 0]
    exact tget_tset_same _ _ _ _
  have hrange := INT_SRC_STS_range (show x < 1024 by omega)
  have hne : A.INT_SRC_STS x ≠ A.CC_STS c ∧ A.INT_SRC_STS x ≠ A.CC_CUR c ∧ A.INT_SRC_STS x ≠ A.CC_ENTRIES c := by
    simp only [A.CC_STS, A.CC_CUR, A.CC_ENTRIES]
    omega
  obtain ⟨hsts, hcur, hent⟩ := hne
  obtain ⟨hirq, hframe⟩ := n.showCore_frame c
  have hsrc : (n.showCore c).rd (A.INT_SRC_STS x) = ((m.pushed c x).servedAt c x false).rd (A.INT_SRC_STS x) := by
    rw [hframe _ hsts hcur, ← hn]
    exact (Mach.rd_bumpF_other _ _ _ _ _ _ hent).trans (Mach.rd_putBit_other _ _ _ _ _ hsts)
  obtain ⟨hcurw, hdepth, hprio⟩ := n.showCore_handler hstack hd (lt_of_lt_of_le (bitsOf_lt _ 3 0) (by decide))
  exact ⟨(Mach.srcState_of_rd hsrc).trans hstate, (Mach.srcCount_of_rd hsrc).trans hcount, by rw [hirq]; exact hstack,
    (Mach.fld_of_rd hsrc 29 27).trans hcore, (Mach.bit_of_rd hsrc 26).trans hhost, hcurw, hdepth, hprio⟩

/-- What is routed to core `c` leaves the way. -/
def Mach.arrived (m : Mach) (e : Nat × Nat) : Mach := { m with irq := { m.irq with transit := m.irq.transit.erase e } }

theorem Mach.coreEntry_enters {c x : Nat} (h : m.irq.transit.find? (fun e => e.1 = c) = some (c, x)) (hs : m.srcState x = 1)
    (hx : m.inExit c = false) (hp : m.coreRp c < m.srcPrio x + 1) : m.coreEntry c = (m.arrived (c, x)).enterHandler c x := by
  simp [Mach.coreEntry, h, hs, hx, hp, Mach.arrived]

theorem Mach.coreEntry_none {c : Nat} (h : m.irq.transit.find? (fun e => e.1 = c) = none) : m.coreEntry c = m := by
  simp only [Mach.coreEntry, h]

theorem Mach.coreExit_begins {c : Nat} (hne : tget m.irq.stack c [] ≠ []) (h : m.inExit c = false) :
    m.coreExit c = m.putBit (A.CC_STS c) 6 true := by
  simp [Mach.coreExit, hne, h]

theorem Mach.coreExit_ends {c : Nat} (hne : tget m.irq.stack c [] ≠ []) (h : m.inExit c = true) : (m.coreExit c).inExit c = false ∧
    tget (m.coreExit c).irq.stack c [] = (tget m.irq.stack c []).tail := by
  rw [Mach.coreExit, if_neg (by simpa using hne), if_pos h]
  refine ⟨(Mach.showCore_inExit _ c).trans ?_, ?_⟩
  · exact m.bit_putBit_same _ _ _ (by decide)
  · rw [(Mach.showCore_frame _ c).1]
    exact tget_tset_same _ _ _ _

theorem Mach.coreExit_idle {c : Nat} (h : tget m.irq.stack c [] = []) : m.coreExit c = m := if_pos (by simp [h])

theorem Mach.coreComplete_served {c x : Nat} (hs : m.srcState x = 2) (hh : m.bit (A.INT_SRC_STS x) 26 = false)
    (hc : m.fld (A.INT_SRC_STS x) 29 27 = c) : m.coreComplete c x = m.complete x := if_pos (by simp [hs, hh, hc])

theorem Mach.coreComplete_spurious (c : Nat) {x : Nat} (hs : m.srcState x ≠ 2) : m.coreComplete c x = m.bump A.INT_SPURIOUS_CMPL :=
  if_neg (by simp [hs])

/-! ### Hosts (R612, R613) -/

/-- The item of source `x` stands in the host event queue of `p`, or is dropped there. -/
def Mach.hostTold (m : Mach) (x p : Nat) : Mach := m.hostItem p (m.srcVec x) x (m.srcCount x) (tget m.irq.first x 0).toNat

theorem Mach.hostDeliver_eq (x p : Nat) : m.hostDeliver x p =
    { (m.hostTold x p).servedAt 0 x true with
      irq := { ((m.hostTold x p).servedAt 0 x true).irq with host := tset ((m.hostTold x p).servedAt 0 x true).irq.host x p } } := by
  rw [Mach.hostDeliver, ← Mach.hostTold]
  rfl

theorem Mach.hostDeliver_outcome (x p : Nat) : (m.hostDeliver x p).srcState x = 2 ∧ (m.hostDeliver x p).srcCount x = 0 ∧
    (m.hostDeliver x p).bit (A.INT_SRC_STS x) 26 = true ∧ tfind (m.hostDeliver x p).irq.host x = some p := by
  obtain ⟨hstate, hcount, -, hhost⟩ := (m.hostTold x p).servedAt_outcome x true (c := 0) (by decide)
  rw [m.hostDeliver_eq]
  generalize (m.hostTold x p).servedAt 0 x true = n at *
  exact ⟨hstate, hcount, hhost, tfind_tset_same _ _ _⟩

theorem Mach.deliverTo_masked {x : Nat} (h : m.srcMasked x = true) : m.deliverTo x = none := if_neg (by simp [h])

/-- The head item of a host event queue leaves the queue (R613). -/
def Mach.hostPopped (m : Mach) (p : Nat) : Mach :=
  { (m.qConsume (hostBlock p) 1) with qitems := terase m.qitems (2 ^ 16 * hostBlock p + m.fld (A.Q_PTR (hostBlock p)) 15 0 % 64) }

theorem Mach.qConsume_rd {b n a : Nat} (h : a ≠ A.Q_PTR b) : (m.qConsume b n).rd a = m.rd a := by
  unfold Mach.qConsume
  exact m.rd_put_other _ _ _ _ _ h

theorem Mach.hostPopped_rd {p a : Nat} (h : a ≠ A.Q_PTR (hostBlock p)) : (m.hostPopped p).rd a = m.rd a :=
  (Mach.rd_of_regs rfl a).trans (m.qConsume_rd h)

/-- Without a valid destination the item is lost, and counted. -/
theorem Mach.hostSend_lost {p : Nat} (h : m.bit (A.INT_HDEST p) 31 = false) : m.hostSend p = (m.hostPopped p).bump (A.INT_HLOST p) := by
  have hbit : (m.hostPopped p).bit (A.INT_HDEST p) 31 = false :=
    (Mach.bit_of_rd (m.hostPopped_rd (by simp only [A.INT_HDEST, A.Q_PTR, hostBlock]; omega)) 31).trans h
  unfold Mach.hostSend
  dsimp only
  rw [← Mach.hostPopped, hbit]
  rfl

theorem Mach.hostSend_lost_outcome {p : Nat} (h : m.bit (A.INT_HDEST p) 31 = false) :
    (m.hostSend p).rd (A.INT_HLOST p) = BitVec.ofNat 32 (min ((m.rd (A.INT_HLOST p)).toNat + 1) (2 ^ 32 - 1)) ∧
      (m.hostSend p).net.txq = m.net.txq := by
  rw [m.hostSend_lost h, Mach.rd_bump, m.hostPopped_rd (by simp only [A.INT_HLOST, A.INT_HDEST, A.Q_PTR, hostBlock]; omega)]
  exact ⟨rfl, rfl⟩

end

/-! ### Wake (R618) -/

/-- What the turn of one member establishes, and the turns of the others leave, holds at the end where no member stands twice. -/
theorem foldl_once {α : Type} (g : Mach → α → Mach) (P Q : Mach → Prop) (x : α) (hset : ∀ a, P a → Q (g a x))
    (hP : ∀ a y, y ≠ x → P a → P (g a y)) (hQ : ∀ a y, y ≠ x → Q a → Q (g a y)) :
    ∀ l : List α, l.Nodup → x ∈ l → ∀ m, P m → Q (l.foldl g m) := by
  have hend : ∀ (l : List α) (m : Mach), x ∉ l → Q m → Q (l.foldl g m) := fun l => by
    induction l with
    | nil => exact fun _ _ hm => hm
    | cons y r ih => exact fun m hx hm => ih _ (List.not_mem_of_not_mem_cons hx) (hQ m y (List.ne_of_not_mem_cons hx).symm hm)
  intro l
  induction l with
  | nil => exact fun _ hx => absurd hx List.not_mem_nil
  | cons y r ih =>
    intro hnd hx m hm
    obtain ⟨hy, hr⟩ := List.nodup_cons.1 hnd
    rcases List.mem_cons.1 hx with rfl | hx
    · exact hend r _ hy (hset m hm)
    · exact ih hr hx _ (hP m y (fun h => hy (h ▸ hx)) hm)

section

variable (m : Mach)

/-- The clocks run again, and the latches are noted. -/
def Mach.awoken (m : Mach) (l : Nat) : Mach :=
  (m.put A.PWR_STS 1 0 0).put A.INT_WAKE 3 0 ((m.put A.PWR_STS 1 0 0).fld A.INT_WAKE 3 0 ||| l)

theorem Mach.wake_eq (l : Nat) : m.wake l = ((List.range 4).filter (fun i => l.testBit i)).foldl (fun a i => a.fire i) (m.awoken l) := rfl

theorem Mach.wake_rd (l : Nat) {a : Nat} (h : ∀ i < 4, a ≠ A.INT_SRC_STS i) : (m.wake l).rd a = (m.awoken l).rd a := by
  rw [Mach.wake_eq]
  exact foldl_keeps _ _ (fun b => b.rd a) (fun b i hi => (b.fire_frame i).2 _ (h i (List.mem_range.1 (List.mem_filter.1 hi).1))) _

theorem Mach.wake_outcome (l : BitVec 4) {i : Nat} (hi : i < 4) (hl : l.toNat.testBit i = true) (hs : m.srcState i = 0) :
    (m.wake l.toNat).fld A.PWR_STS 1 0 = 0 ∧ (m.wake l.toNat).fld A.INT_WAKE 3 0 = m.fld A.INT_WAKE 3 0 ||| l.toNat ∧
      (m.wake l.toNat).srcState i = 1 ∧ (m.wake l.toNat).srcCount i = 0 := by
  have hwake : m.fld A.INT_WAKE 3 0 ||| l.toNat < 2 ^ 4 := Nat.or_lt_two_pow (bitsOf_lt _ 3 0) l.isLt
  have hrange : ∀ j < 4, 0x033800 ≤ A.INT_SRC_STS j := fun j hj => (INT_SRC_STS_range (by omega)).1
  have hpwr : ∀ j < 4, A.PWR_STS ≠ A.INT_SRC_STS j := fun j hj => by simp only [A.PWR_STS, A.INT_SRC_STS, if_pos (show j < 512 by omega)]; omega
  have hnote : ∀ j < 4, A.INT_WAKE ≠ A.INT_SRC_STS j := fun j hj => by simp only [A.INT_WAKE]; have := hrange j hj; omega
  have hidle : (m.awoken l.toNat).srcState i = 0 := by
    refine (Mach.srcState_of_rd ?_).trans hs
    rw [Mach.awoken, Mach.rd_put_other _ _ _ _ _ _ (hnote i hi).symm, Mach.rd_put_other _ _ _ _ _ _ (hpwr i hi).symm]
  have hfired : (m.wake l.toNat).srcState i = 1 ∧ (m.wake l.toNat).srcCount i = 0 := by
    have hother : ∀ (a : Mach) (j : Nat), j ≠ i → (a.fire j).rd (A.INT_SRC_STS i) = a.rd (A.INT_SRC_STS i) := fun a j hj =>
      (a.fire_frame j).2 _ (by simp only [A.INT_SRC_STS]; split <;> split <;> omega)
    refine foldl_once _ (fun a => a.srcState i = 0) (fun a => a.srcState i = 1 ∧ a.srcCount i = 0) i (fun a => a.fire_idle_outcome)
      (fun a j hj ha => (Mach.srcState_of_rd (hother a j hj)).trans ha)
      (fun a j hj ha => ⟨(Mach.srcState_of_rd (hother a j hj)).trans ha.1, (Mach.srcCount_of_rd (hother a j hj)).trans ha.2⟩)
      _ (List.nodup_range.filter _) (List.mem_filter.2 ⟨List.mem_range.2 hi, hl⟩) _ hidle
  refine ⟨?_, ?_, hfired⟩
  · rw [Mach.fld_of_rd (m.wake_rd l.toNat hpwr), Mach.awoken, Mach.fld_put_other _ _ _ _ _ _ _ _ (by decide),
      Mach.fld_put_same _ _ _ _ _ (by decide) (by decide)]
    rfl
  · rw [Mach.fld_of_rd (m.wake_rd l.toNat hnote), Mach.awoken, Mach.fld_put_same _ _ _ _ _ (by decide) (by decide),
      Mach.fld_put_other _ _ _ _ _ _ _ _ (by decide)]
    exact Nat.mod_eq_of_lt hwake

end

theorem gives_hostDelivery {s : State} {src : BitVec 10} {p : Nat} (h : s.m.deliverTo src.toNat = some p) {P : Mach → Prop}
    (hp : P (s.m.hostDeliver src.toNat p)) : Gives (.hostDelivery src) s P :=
  gives_onMach (f := fun m => match m.deliverTo src.toNat with | some p => m.hostDeliver src.toNat p | none => m) rfl (by rw [h]; exact hp)

theorem unmoved_hostDelivery {s : State} {src : BitVec 10} (h : s.m.deliverTo src.toNat = none) : Unmoved (.hostDelivery src) s :=
  unmoved_onMach (f := fun m => match m.deliverTo src.toNat with | some p => m.hostDeliver src.toNat p | none => m) rfl (by rw [h])

/-- Settles O44: a case per event and per outcome. -/
theorem interruptEventsComplete : Obligations.InterruptEventsComplete := by
  intro s c
  refine ⟨fun h => ?_, fun x h hc => ?_, fun x h hs hx hp hd => ?_, fun h => ?_, fun hne hx => ?_, fun hne hx => ?_, fun h => ?_,
    fun src hs hh hc => ?_, fun src hs => ?_, fun src p h => ?_, fun src h => ?_, fun p h => ?_, fun p h hd => ?_, fun l i hp hl hs => ?_⟩
  · exact gives_onMach (f := Mach.routeSources) rfl (s.m.routeSources_none h)
  · refine gives_onMach (f := Mach.routeSources) rfl ?_
    rw [s.m.routeSources_one h hc]
    exact ⟨rfl, rfl, fun _ => rfl⟩
  · refine gives_onMach (f := fun m => m.coreEntry c.val) rfl ?_
    rw [s.m.coreEntry_enters h hs hx hp]
    exact (s.m.arrived (c.val, x.val)).enterHandler_outcome c.isLt x.isLt hx hd
  · exact unmoved_onMach (f := fun m => m.coreEntry c.val) rfl (s.m.coreEntry_none h)
  · refine gives_onMach (f := fun m => m.coreExit c.val) rfl ?_
    rw [s.m.coreExit_begins hne hx]
    exact ⟨s.m.bit_putBit_same _ _ _ (by decide), rfl⟩
  · exact gives_onMach (f := fun m => m.coreExit c.val) rfl (s.m.coreExit_ends hne hx)
  · exact unmoved_onMach (f := fun m => m.coreExit c.val) rfl (s.m.coreExit_idle h)
  · exact gives_onMach (f := fun m => m.coreComplete c.val src.toNat) rfl (s.m.coreComplete_served hs hh hc)
  · exact gives_onMach (f := fun m => m.coreComplete c.val src.toNat) rfl (s.m.coreComplete_spurious c.val hs)
  · exact gives_hostDelivery h (s.m.hostDeliver_outcome src.toNat p.val)
  · exact unmoved_hostDelivery (s.m.deliverTo_masked h)
  · exact gives_due (fun m => m.qOcc (hostBlock p.val) ≠ 0) (f := fun m => m.hostSend p.val) rfl h rfl
  · exact gives_due (fun m => m.qOcc (hostBlock p.val) ≠ 0) (f := fun m => m.hostSend p.val) rfl h (s.m.hostSend_lost_outcome hd)
  · have hl0 : l ≠ 0 := by
      rintro rfl
      simp at hl
    exact gives_due (fun m => (decide (m.fld A.PWR_STS 1 0 = 1) && decide (l ≠ 0)) = true) (f := fun m => m.wake l.toNat) rfl
      (by rw [decide_eq_true hp, decide_eq_true hl0]; rfl) (s.m.wake_outcome l i.isLt hl hs)

end Sys2Proof.Machine

namespace Sys2Proof.Machine

/-! ### Fault inputs (R626, R630) -/

section

variable (m : Mach) {src u detail cls : Nat}

/-- A fault that a command raised, or a unit detects. -/
theorem Mach.faultInput_classed (hc : srcClass src u = some cls) (hi : m.flt.inj.contains (src, u, detail) = false) :
    m.faultInput src u detail = if m.raised.contains (src, u, detail) then
      ({ m with raised := m.raised.erase (src, u, detail) } : Mach).handleFault src u cls detail false
    else (m.detected src u detail).handleFault src u cls detail false := by
  simp only [Mach.faultInput, hc, hi, Bool.false_eq_true, if_false]

theorem Mach.faultInput_unclassed (hc : srcClass src u = none) : m.faultInput src u detail = m := by
  simp only [Mach.faultInput, hc]

end

/-- What the latching of a fault input does. -/
def Mach.faultLatched (m : Mach) (src u detail : Nat) : Mach :=
  if m.isGone everyTarget then { m.countDiscard with raised := m.raised.erase (src, u, detail) } else m.faultInput src u detail

theorem Mach.faultLatched_awake (m : Mach) (src u detail : Nat) (h : m.isGone everyTarget = false) :
    m.faultLatched src u detail = m.faultInput src u detail := if_neg (by simp [h])

/-! ### Leases (R637) -/

section

variable (m : Mach)

theorem Mach.wayBack_flt (c u : Nat) : (m.wayBack c u).flt = m.flt := by
  unfold Mach.wayBack
  split
  · split <;> rfl
  · rfl

theorem Mach.sessionFailed_flt (node : Nat × Nat × Nat) : (m.sessionFailed node).flt = m.flt := by
  unfold Mach.sessionFailed
  split <;> rfl

theorem Mach.setNode_flt (p g n : Nat) (y : GNode) : (m.setNode p g n y).flt = m.flt := by
  unfold Mach.setNode
  split <;> rfl

theorem Mach.xferFail_flt (p g n d : Nat) : (m.xferFail p g n d).flt = m.flt := by
  unfold Mach.xferFail
  split
  · exact m.setNode_flt p g n _
  · rfl

/-- What a resource goes back to leaves the fault controller as it was. -/
theorem Mach.leaseBack_flt (kind u : Nat) : (m.leaseBack kind u).flt = m.flt := by
  unfold Mach.leaseBack
  split
  · exact foldl_keeps _ _ (fun a => a.flt) (fun a c _ => a.wayBack_flt c _) m
  · rfl
  · refine foldl_keeps _ _ (fun a => a.flt) (fun a n _ => ?_) m
    split
    · exact a.sessionFailed_flt n
    · exact a.xferFail_flt _ _ _ _
  · rfl

/-- The lease of that kind and unit is on record as reclaimed. -/
def Mach.leaseNoted (m : Mach) (kind u : Nat) : Mach := { m with flt := { m.flt with reclaimed := (kind, u) :: m.flt.reclaimed } }

theorem Mach.leaseReclaim_outcome (kind u : Nat) : (kind, u) ∈ (m.leaseReclaim kind u).flt.reclaimed ∧
    (kind = 5 → (m.leaseReclaim kind u).raised = m.raised ++ [(0x91, 0x14F, 5 + u * 2 ^ 16)]) ∧
    (kind = 2 → ∀ e ∈ (m.leaseReclaim kind u).tiles, ∀ r ∈ e.2.inbox, (tget e.2.chTab r.ch (.none, .none)).1 ≠ .tile u) := by
  refine ⟨?_, ?_, ?_⟩
  · change (kind, u) ∈ ((m.leaseNoted kind u).leaseBack kind u).flt.reclaimed
    rw [Mach.leaseBack_flt]
    exact List.mem_cons_self
  · rintro rfl
    rfl
  · rintro rfl e he r hr
    obtain ⟨e', -, rfl⟩ := List.mem_map.1 (show e ∈ m.tiles.map (fun e => (e.1, { e.2 with inbox := e.2.inbox.filter (fun r =>
      (tget e.2.chTab r.ch (.none, .none)).1 ≠ .tile u) })) from he)
    exact of_decide_eq_true (List.mem_filter.1 hr).2

/-! ### The pin (R639) -/

/-- ERR_N rises, and its minimum has run. -/
def Mach.errReleased (m : Mach) : Mach := (m.putBit A.FLT_PIN 30 false).putBit A.FLT_PIN 31 false

theorem Mach.errReleased_outcome : m.errReleased.bit A.FLT_PIN 30 = false ∧ m.errReleased.bit A.FLT_PIN 31 = false ∧
    m.errReleased.outputs.errN = true := by
  have hdriven : m.errReleased.bit A.FLT_PIN 30 = false :=
    (Mach.bit_putBit_bit _ _ _ _ _ (by decide) (by decide)).trans (m.bit_putBit_same _ _ _ (by decide))
  exact ⟨hdriven, Mach.bit_putBit_same _ _ _ _ (by decide), congrArg (fun b => !b) hdriven⟩

end

/-- Settles O47: a case per event and per outcome. -/
theorem faultEventsComplete : Obligations.FaultEventsComplete := by
  intro s
  refine ⟨fun src u detail cls hg hc hi hr => ?_, fun src u detail cls hg hc hi hr => ?_, fun src u detail hg hc => ?_, fun hd hh => ?_,
    fun hh => ?_, fun u g he hu hne => ?_, fun u g heq => ?_, fun k u hd => ?_, fun c hc ht => ?_, fun c hc => ?_⟩
  · refine gives_onMach (f := fun m => m.faultLatched src.toNat u.toNat detail.toNat) rfl ?_
    rw [Mach.faultLatched_awake _ _ _ _ hg, Mach.faultInput_classed _ hc hi, if_pos hr]
  · refine gives_onMach (f := fun m => m.faultLatched src.toNat u.toNat detail.toNat) rfl ?_
    rw [Mach.faultLatched_awake _ _ _ _ hg, Mach.faultInput_classed _ hc hi, if_neg (by simpa using hr)]
  · refine unmoved_onMach (f := fun m => m.faultLatched src.toNat u.toNat detail.toNat) rfl ?_
    rw [Mach.faultLatched_awake _ _ _ _ hg, Mach.faultInput_unclassed _ hc]
  · exact gives_due (fun m => (m.bit A.FLT_PIN 30 && !m.bit A.FLT_PIN 3) = true) (f := Mach.errReleased) rfl (by rw [hd, hh]; rfl)
      s.m.errReleased_outcome
  · exact unmoved_not_due (fun m => (m.bit A.FLT_PIN 30 && !m.bit A.FLT_PIN 3) = true) (f := Mach.errReleased) rfl (by simp [hh])
  · exact gives_due (fun m => (m.phs.slotEdge && unitUsed u.toNat && decide (m.unitState u.toNat ≠ g.toNat)) = true)
      (f := fun m => m.mgmtMismatch u.toNat g.toNat) rfl (by simp [he, hu, hne]) rfl
  · exact unmoved_not_due (fun m => (m.phs.slotEdge && unitUsed u.toNat && decide (m.unitState u.toNat ≠ g.toNat)) = true)
      (f := fun m => m.mgmtMismatch u.toNat g.toNat) rfl (by simp [heq])
  · obtain ⟨hmem, hraised, hinbox⟩ := s.m.leaseReclaim_outcome k.val u.toNat
    exact gives_due (fun m => m.leaseDue k.val u.toNat = true) (f := fun m => m.leaseReclaim k.val u.toNat) rfl hd
      ⟨hmem, fun h => hraised (congrArg Fin.val h), fun h => hinbox (congrArg Fin.val h)⟩
  · exact gives_due (fun m => (decide ((m.rd (A.FLT_CNT (c.val + 1))).toNat = 2 ^ 32 - 1) && !m.flt.satTold.contains (c.val + 1)) = true)
      (f := fun m => ({ m with flt := { m.flt with satTold := (c.val + 1) :: m.flt.satTold } } : Mach).raiseFault 0x92 0x14F (c.val + 1)) rfl
      (by rw [ht, decide_eq_true hc]; rfl) ⟨rfl, List.mem_cons_self⟩
  · exact unmoved_not_due (fun m => (decide ((m.rd (A.FLT_CNT (c.val + 1))).toNat = 2 ^ 32 - 1) && !m.flt.satTold.contains (c.val + 1)) = true)
      (f := fun m => ({ m with flt := { m.flt with satTold := (c.val + 1) :: m.flt.satTold } } : Mach).raiseFault 0x92 0x14F (c.val + 1)) rfl
      (by simp only [decide_eq_false (show ¬ (s.m.rd (A.FLT_CNT (c.val + 1))).toNat = 2 ^ 32 - 1 by omega), Bool.false_and, Bool.false_eq_true, not_false_eq_true])

end Sys2Proof.Machine

namespace Sys2Proof.Machine

/-! ### Items of the lossy queues (R410, R413) -/

/-- What the parts of an arrival at a lossy queue keep, the arrival keeps. -/
theorem Mach.lossyPush_keeps {β : Type} (F : Mach → β) (m : Mach) (b : Nat) (item : List Byte) {store : Mach → List Byte → Mach}
    (hs : ∀ k i, F (store k i) = F k) (hg : ∀ (k : Mach) g, F { k with net := { k.net with gaps := g } } = F k)
    (hd : ∀ k : Mach, F (k.bump (A.Q_DROPS b)) = F k) : F (m.lossyPush b item store) = F m := by
  have hmark : F (m.lossyMark b store) = F m := by
    unfold Mach.lossyMark
    split
    · split
      · rw [hs, hg]
      · rfl
    · rfl
  unfold Mach.lossyPush
  dsimp only
  split
  · rw [hs, hmark]
  · rw [hd, hg, hmark]

/-- A stored item changes the queue's own registers. -/
theorem Mach.qStore_rd (m : Mach) (b : Nat) (item : List Byte) {a : Nat} (h : a < b ∨ b + 0x20 ≤ a) : (m.qStore b item).rd a = m.rd a := by
  unfold Mach.qStore Mach.qCommit Mach.bump
  dsimp only
  rw [Mach.rd_put_other _ _ _ _ _ _ (by simp only [A.Q_CAP]; omega), Mach.rd_bumpF_other _ _ _ _ _ _ (by simp only [A.Q_ITEMS]; omega),
    Mach.rd_put_other _ _ _ _ _ _ (by simp only [A.Q_PTR]; omega)]
  rfl

/-! ### The records of a fault (R630) -/

section

variable (m : Mach) {src u cls detail : Nat} {inj : Bool}

/-- The unit's own record takes the fault. -/
def Mach.unitRecorded (m : Mach) (src u cls detail : Nat) (inj : Bool) : Mach :=
  match tfind m.flt.units u with
  | some e => { m with flt := { m.flt with units := tset m.flt.units u { e with merged := true } } }
  | none => { m with flt := { m.flt with units := tset m.flt.units u (UnitErr.mk src cls detail m.phase false inj) } }

/-- The device's record takes its first fault. -/
def Mach.firstLatched (m : Mach) (src u cls detail : Nat) (inj : Bool) : Mach :=
  (((m.wr A.FLT_FIRST_STS (BitVec.ofNat 32 (2 ^ 31 + cls * 2 ^ 27 + b2n inj * 2 ^ 26 + src * 2 ^ 16 + u))).wr A.FLT_FIRST_DET
    (BitVec.ofNat 32 detail)).wr64 A.FLT_FIRST_PH_LO m.phase).wr A.FLT_OVF (BitVec.ofNat 32 (2 ^ cls))

/-- A further fault is only marked. -/
def Mach.overflowed (m : Mach) (cls : Nat) : Mach := (m.putBit A.FLT_FIRST_STS 30 true).putBit A.FLT_OVF cls true

theorem Mach.unitRecorded_regs : (m.unitRecorded src u cls detail inj).regs = m.regs := by
  unfold Mach.unitRecorded
  split <;> rfl

theorem Mach.unitRecorded_phase : (m.unitRecorded src u cls detail inj).phase = m.phase := by
  unfold Mach.unitRecorded
  split <;> rfl

theorem Mach.unitRecorded_new (h : tfind m.flt.units u = none) :
    tfind (m.unitRecorded src u cls detail inj).flt.units u = some ⟨src, cls, detail, m.phase, false, inj⟩ := by
  simp only [Mach.unitRecorded, h]
  exact tfind_tset_same _ _ _

theorem Mach.unitRecorded_merged {e : UnitErr} (h : tfind m.flt.units u = some e) :
    tfind (m.unitRecorded src u cls detail inj).flt.units u = some { e with merged := true } := by
  simp only [Mach.unitRecorded, h]
  exact tfind_tset_same _ _ _

theorem Mach.unitRecorded_other {w : Nat} (h : w ≠ u) : tfind (m.unitRecorded src u cls detail inj).flt.units w = tfind m.flt.units w := by
  unfold Mach.unitRecorded
  split <;> exact tfind_tset_other _ _ _ _ h

theorem Mach.latchFault_first (h : m.bit A.FLT_FIRST_STS 31 = false) :
    m.latchFault src u cls detail inj = ((m.unitRecorded src u cls detail inj).firstLatched src u cls detail inj, true) := by
  have hbit := (Mach.bit_of_regs (m.unitRecorded_regs (src := src) (u := u) (cls := cls) (detail := detail) (inj := inj)) A.FLT_FIRST_STS 31).trans h
  unfold Mach.latchFault
  exact if_neg (ne_true_of_eq_false hbit)

theorem Mach.latchFault_again (h : m.bit A.FLT_FIRST_STS 31 = true) :
    m.latchFault src u cls detail inj = ((m.unitRecorded src u cls detail inj).overflowed cls, false) := by
  have hbit := (Mach.bit_of_regs (m.unitRecorded_regs (src := src) (u := u) (cls := cls) (detail := detail) (inj := inj)) A.FLT_FIRST_STS 31).trans h
  unfold Mach.latchFault
  exact if_pos hbit

/-- Either way the unit's record is as the fault leaves it. -/
theorem Mach.latchFault_flt : (m.latchFault src u cls detail inj).1.flt = (m.unitRecorded src u cls detail inj).flt := by
  cases h : m.bit A.FLT_FIRST_STS 31 with
  | true => rw [m.latchFault_again h]; rfl
  | false => rw [m.latchFault_first h]; rfl

/-- The record's word holds what the fault is. -/
theorem firstWord_fields (hs : src < 256) (hu : u < 2 ^ 12) (hc : cls ≤ 5) (w : Word)
    (hw : w = BitVec.ofNat 32 (2 ^ 31 + cls * 2 ^ 27 + b2n inj * 2 ^ 26 + src * 2 ^ 16 + u)) :
    bitOf w.toNat 31 = true ∧ bitOf w.toNat 30 = false ∧ bitsOf w.toNat 29 27 = cls ∧ bitsOf w.toNat 23 16 = src ∧ bitsOf w.toNat 11 0 = u := by
  have hinj : b2n inj ≤ 1 := by cases inj <;> decide
  subst hw
  simp only [bitOf_eq_bitsOf, bitsOf, Nat.shiftRight_eq_div_pow, BitVec.toNat_ofNat, decide_eq_true_eq, decide_eq_false_iff_not]
  omega

theorem Mach.firstLatched_outcome (hs : src < 256) (hu : u < 2 ^ 12) (hc : cls ≤ 5) :
    (m.firstLatched src u cls detail inj).bit A.FLT_FIRST_STS 31 = true ∧ (m.firstLatched src u cls detail inj).bit A.FLT_FIRST_STS 30 = false ∧
      (m.firstLatched src u cls detail inj).fld A.FLT_FIRST_STS 29 27 = cls ∧ (m.firstLatched src u cls detail inj).fld A.FLT_FIRST_STS 23 16 = src ∧
      (m.firstLatched src u cls detail inj).fld A.FLT_FIRST_STS 11 0 = u ∧
      (m.firstLatched src u cls detail inj).rd A.FLT_FIRST_DET = BitVec.ofNat 32 detail ∧
      (m.firstLatched src u cls detail inj).rd64 A.FLT_FIRST_PH_LO = m.phase ∧
      (m.firstLatched src u cls detail inj).rd A.FLT_OVF = BitVec.ofNat 32 (2 ^ cls) := by
  have hsts : (m.firstLatched src u cls detail inj).rd A.FLT_FIRST_STS =
      BitVec.ofNat 32 (2 ^ 31 + cls * 2 ^ 27 + b2n inj * 2 ^ 26 + src * 2 ^ 16 + u) := by
    simp (disch := decide) only [Mach.firstLatched, Mach.wr64, Mach.rd_wr_other, Mach.rd_wr_same]
  obtain ⟨h31, h30, hcls, hsrc, hunit⟩ := firstWord_fields hs hu hc _ hsts
  refine ⟨h31, h30, hcls, hsrc, hunit, ?_, ?_, Mach.rd_wr_same _ _ _⟩
  · simp (disch := decide) only [Mach.firstLatched, Mach.wr64, Mach.rd_wr_other, Mach.rd_wr_same]
  · rw [← rd64_wr64 (m.wr A.FLT_OVF 0) A.FLT_FIRST_PH_LO m.phase m.phase_lt]
    simp (disch := decide) only [Mach.rd64, Mach.firstLatched, Mach.wr64, Mach.rd_wr_other, Mach.rd_wr_same]

theorem Mach.overflowed_outcome (hc : cls ≤ 5) : (m.overflowed cls).bit A.FLT_FIRST_STS 30 = true ∧ (m.overflowed cls).bit A.FLT_OVF cls = true ∧
    (m.overflowed cls).fld A.FLT_FIRST_STS 29 0 = m.fld A.FLT_FIRST_STS 29 0 ∧ (m.overflowed cls).rd A.FLT_FIRST_DET = m.rd A.FLT_FIRST_DET := by
  refine ⟨?_, Mach.bit_putBit_same _ _ _ _ (by omega), ?_, ?_⟩
  · exact (Mach.bit_putBit_other _ _ _ _ _ _ (by decide)).trans (m.bit_putBit_same _ _ _ (by decide))
  · exact (Mach.fld_putBit_other _ _ _ _ _ _ _ (by decide)).trans (m.fld_putBit_disjoint _ _ _ _ _ (by decide) (by decide))
  · simp (disch := decide) only [Mach.overflowed, Mach.rd_putBit_other]

theorem Mach.latchFault_outcome (hs : src < 256) (hu : u < 2 ^ 12) (hc : cls ≤ 5) :
    let r := m.latchFault src u cls detail inj
    (m.bit A.FLT_FIRST_STS 31 = false → r.2 = true ∧ r.1.bit A.FLT_FIRST_STS 31 = true ∧ r.1.bit A.FLT_FIRST_STS 30 = false ∧
      r.1.fld A.FLT_FIRST_STS 29 27 = cls ∧ r.1.fld A.FLT_FIRST_STS 23 16 = src ∧ r.1.fld A.FLT_FIRST_STS 11 0 = u ∧
      r.1.rd A.FLT_FIRST_DET = BitVec.ofNat 32 detail ∧ r.1.rd64 A.FLT_FIRST_PH_LO = m.phase ∧ r.1.rd A.FLT_OVF = BitVec.ofNat 32 (2 ^ cls)) ∧
    (m.bit A.FLT_FIRST_STS 31 = true → r.2 = false ∧ r.1.bit A.FLT_FIRST_STS 30 = true ∧ r.1.bit A.FLT_OVF cls = true ∧
      r.1.fld A.FLT_FIRST_STS 29 0 = m.fld A.FLT_FIRST_STS 29 0 ∧ r.1.rd A.FLT_FIRST_DET = m.rd A.FLT_FIRST_DET) := by
  refine ⟨fun h => ?_, fun h => ?_⟩
  · rw [m.latchFault_first h, ← m.unitRecorded_phase (src := src) (u := u) (cls := cls) (detail := detail) (inj := inj)]
    exact ⟨rfl, Mach.firstLatched_outcome _ hs hu hc⟩
  · have hregs := m.unitRecorded_regs (src := src) (u := u) (cls := cls) (detail := detail) (inj := inj)
    rw [m.latchFault_again h, ← Mach.fld_of_regs hregs, ← Mach.rd_of_regs hregs]
    exact ⟨rfl, Mach.overflowed_outcome _ hc⟩

/-- The records stand in FLT_FIRST_STS to FLT_OVF and in the fault controller. -/
theorem Mach.latchFault_frame : (m.latchFault src u cls detail inj).1.own = m.own ∧ (m.latchFault src u cls detail inj).1.mem = m.mem ∧
    (m.latchFault src u cls detail inj).1.irq = m.irq ∧
    ∀ a, a < 0x020020 ∨ 0x020034 ≤ a → (m.latchFault src u cls detail inj).1.rd a = m.rd a := by
  have hunit : (m.unitRecorded src u cls detail inj).own = m.own ∧ (m.unitRecorded src u cls detail inj).mem = m.mem ∧
      (m.unitRecorded src u cls detail inj).irq = m.irq := by
    unfold Mach.unitRecorded
    split <;> exact ⟨rfl, rfl, rfl⟩
  have hregs := m.unitRecorded_regs (src := src) (u := u) (cls := cls) (detail := detail) (inj := inj)
  obtain ⟨hown, hmem, hirq⟩ := hunit
  cases h : m.bit A.FLT_FIRST_STS 31 with
  | true =>
    rw [m.latchFault_again h]
    refine ⟨hown, hmem, hirq, fun a ha => ?_⟩
    rw [← Mach.rd_of_regs hregs, Mach.overflowed, Mach.rd_putBit_other _ _ _ _ _ (by simp only [A.FLT_OVF]; omega),
      Mach.rd_putBit_other _ _ _ _ _ (by simp only [A.FLT_FIRST_STS]; omega)]
  | false =>
    rw [m.latchFault_first h]
    refine ⟨hown, hmem, hirq, fun a ha => ?_⟩
    have hne : a ≠ A.FLT_OVF ∧ a ≠ A.FLT_FIRST_PH_LO + 4 ∧ a ≠ A.FLT_FIRST_PH_LO ∧ a ≠ A.FLT_FIRST_DET ∧ a ≠ A.FLT_FIRST_STS := by
      simp only [A.FLT_OVF, A.FLT_FIRST_PH_LO, A.FLT_FIRST_DET, A.FLT_FIRST_STS]
      omega
    obtain ⟨h1, h2, h3, h4, h5⟩ := hne
    rw [← Mach.rd_of_regs hregs, Mach.firstLatched, Mach.wr64, Mach.rd_wr_other _ _ _ _ h1, Mach.rd_wr_other _ _ _ _ h2,
      Mach.rd_wr_other _ _ _ _ h3, Mach.rd_wr_other _ _ _ _ h4, Mach.rd_wr_other _ _ _ _ h5]

/-! ### The handling of a fault (R632 to R634, R640) -/

/-- The fault is counted for its class, its unit, and as recoverable (R640). -/
def Mach.faultCounted (m : Mach) (u cls : Nat) : Mach :=
  let m := (m.bump (A.FLT_CNT cls)).bumpF (A.FLT_USTS u) 15 0 1
  if 2 ≤ cls then m.bump A.FLT_RECOV else m

/-- A fault of class 2 leaves an active unit degraded (R634). -/
def Mach.degraded (m : Mach) (u cls : Nat) : Mach := if cls = 2 && m.unitState u = 1 then m.setUnit u 2 else m

/-- The fault is counted and latched, and its unit degraded. -/
def Mach.faultTaken (m : Mach) (src u cls detail : Nat) (inj : Bool) : Mach :=
  ((m.faultCounted u cls).latchFault src u cls detail inj).1.degraded u cls

/-- The fault is logged and told (R644, R699, R562). -/
def Mach.faultTold (m : Mach) (src u cls detail bits : Nat) (first inj : Bool) : Mach :=
  let m := m.logFault src u cls detail bits first inj
  let m := if m.drives cls then m.putBit A.MGT_ALERT 3 true else m
  if unitShared u then { m with att := { m.att with service := true } } else m

theorem Mach.escalate_plain (h82 : src ≠ 0x82) (h84 : src ≠ 0x84) : m.escalate src u cls = (m, src, u, cls) := if_neg (by simp [h82, h84])

theorem Mach.handleFault_eq (h82 : src ≠ 0x82) (h84 : src ≠ 0x84) : ∃ first, m.handleFault src u cls detail inj =
    (((m.faultTaken src u cls detail inj).faultTold src u cls detail ((m.faultTaken src u cls detail inj).taken src u cls) first inj).react
      src u cls ((m.faultTaken src u cls detail inj).taken src u cls)).ownAction src u detail := by
  refine ⟨((m.faultCounted u cls).latchFault src u cls detail inj).2, ?_⟩
  unfold Mach.handleFault
  rw [m.escalate_plain h82 h84]
  rfl

theorem Mach.react_none : m.react src u cls 0 = m := by
  have hbit : ∀ i, bitOf 0 i = false := Nat.zero_testBit
  simp only [Mach.react, hbit, Bool.false_eq_true, if_false]

theorem Mach.ownAction_none (h : src ∉ [0x01, 0x02, 0x03, 0x04, 0x05, 0x30, 0x81, 0x90]) : m.ownAction src u detail = m := by
  simp only [List.mem_cons, List.not_mem_nil, or_false, not_or] at h
  obtain ⟨h01, h02, h03, h04, h05, h30, h81, h90⟩ := h
  simp [Mach.ownAction, h01, h02, h03, h04, h05, h30, h81, h90]

/-- What the reactions are drawn from (R632). -/
theorem Mach.taken_congr {m n : Mach} (hown : n.own = m.own) (hreact : n.rd (A.FLT_REACT cls) = m.rd (A.FLT_REACT cls))
    (hpin : n.rd A.FLT_PIN = m.rd A.FLT_PIN) (hch : ∀ ch < 64, n.rd (A.MEM_CH_STS ch) = m.rd (A.MEM_CH_STS ch))
    (hmsk : ∀ k, n.rd (A.MSK_OWN k) = m.rd (A.MSK_OWN k)) (hout : 3 ≤ n.unitState u ↔ 3 ≤ m.unitState u) :
    n.taken src u cls = m.taken src u cls := by
  have howner : n.unitOwner u = m.unitOwner u := by
    unfold Mach.unitOwner
    split
    · rw [Mach.tileOwner, hown, Mach.tileOwner]
    · split
      · rename_i hu
        simp only [Bool.and_eq_true, decide_eq_true_eq] at hu
        have hrd := hch (u - 0x80) (by omega)
        rw [Mach.chOwner, Mach.bit_of_rd hrd, Mach.fld_of_rd hrd, Mach.chOwner]
      · split
        · have hrd := hmsk ((u - 0xF0) / 4)
          rw [Mach.ownLane, Mach.bit_of_rd hrd, Mach.fld_of_rd hrd, Mach.ownLane]
        · rw [Mach.wayOwner, hown, Mach.wayOwner]
  have hword : n.reactWord cls = m.reactWord cls := by
    rw [Mach.reactWord, Mach.drives, hreact, Mach.fld_of_rd hpin, Mach.reactWord, Mach.drives]
  simp only [Mach.taken, howner, hword, hout]

/-- The registers that the taking of a fault changes lie below FLT_CFG, and in the unit's status. -/
theorem Mach.faultCounted_frame (hc : cls ≤ 5) : (m.faultCounted u cls).own = m.own ∧ (m.faultCounted u cls).mem = m.mem ∧
    (m.faultCounted u cls).irq = m.irq ∧
    ∀ a, a < 0x020030 ∨ 0x02004C ≤ a → a ≠ A.FLT_USTS u → (m.faultCounted u cls).rd a = m.rd a := by
  have hrd : ∀ a, a < 0x020030 ∨ 0x02004C ≤ a → a ≠ A.FLT_USTS u → ((m.bump (A.FLT_CNT cls)).bumpF (A.FLT_USTS u) 15 0 1).rd a = m.rd a :=
    fun a ha hu => (Mach.rd_bumpF_other _ _ _ _ _ _ hu).trans (Mach.rd_bumpF_other _ _ _ _ _ _ (by simp only [A.FLT_CNT]; omega))
  unfold Mach.faultCounted
  dsimp only
  split
  · exact ⟨rfl, rfl, rfl, fun a ha hu => (Mach.rd_bumpF_other _ _ _ _ _ _ (by simp only [A.FLT_RECOV]; omega)).trans (hrd a ha hu)⟩
  · exact ⟨rfl, rfl, rfl, hrd⟩

theorem Mach.faultCounted_counts (hc1 : 1 ≤ cls) (hc : cls ≤ 5) :
    (m.faultCounted u cls).rd (A.FLT_CNT cls) = BitVec.ofNat 32 (min ((m.rd (A.FLT_CNT cls)).toNat + 1) (2 ^ 32 - 1)) ∧
      (2 ≤ cls → (m.faultCounted u cls).rd A.FLT_RECOV = BitVec.ofNat 32 (min ((m.rd A.FLT_RECOV).toNat + 1) (2 ^ 32 - 1))) ∧
      (m.faultCounted u cls).unitState u = m.unitState u ∧
      (m.faultCounted u cls).fld (A.FLT_USTS u) 15 0 = min (m.fld (A.FLT_USTS u) 15 0 + 1) (2 ^ 16 - 1) := by
  have hcu : A.FLT_CNT cls ≠ A.FLT_USTS u := by simp only [A.FLT_CNT, A.FLT_USTS]; omega
  have hcr : A.FLT_CNT cls ≠ A.FLT_RECOV := by simp only [A.FLT_CNT, A.FLT_RECOV]; omega
  have hru : A.FLT_RECOV ≠ A.FLT_USTS u := by simp only [A.FLT_RECOV, A.FLT_USTS]; omega
  have hone : ((m.bump (A.FLT_CNT cls)).bumpF (A.FLT_USTS u) 15 0 1).rd (A.FLT_CNT cls) =
      BitVec.ofNat 32 (min ((m.rd (A.FLT_CNT cls)).toNat + 1) (2 ^ 32 - 1)) := by
    rw [Mach.rd_bumpF_other _ _ _ _ _ _ hcu, Mach.rd_bump]
  have husts : ∀ hi lo, (m.bump (A.FLT_CNT cls)).fld (A.FLT_USTS u) hi lo = m.fld (A.FLT_USTS u) hi lo := fun hi lo =>
    Mach.fld_bumpF_other _ _ _ _ _ _ _ _ hcu.symm
  have hstate : ((m.bump (A.FLT_CNT cls)).bumpF (A.FLT_USTS u) 15 0 1).unitState u = m.unitState u :=
    (Mach.fld_put_disjoint _ _ _ _ _ _ _ (by decide) (by decide) (by decide)).trans (husts 31 29)
  have hcount : ((m.bump (A.FLT_CNT cls)).bumpF (A.FLT_USTS u) 15 0 1).fld (A.FLT_USTS u) 15 0 = min (m.fld (A.FLT_USTS u) 15 0 + 1) (2 ^ 16 - 1) := by
    rw [Mach.bumpF, Mach.fld_put_same _ _ _ _ _ (by decide) (by decide), husts]
    exact Nat.mod_eq_of_lt (by omega)
  unfold Mach.faultCounted
  dsimp only
  split
  · refine ⟨(Mach.rd_bumpF_other _ _ _ _ _ _ hcr).trans hone, fun _ => ?_, (Mach.fld_bumpF_other _ _ _ _ _ _ _ _ hru.symm).trans hstate,
      (Mach.fld_bumpF_other _ _ _ _ _ _ _ _ hru.symm).trans hcount⟩
    rw [Mach.rd_bump, Mach.rd_bumpF_other _ _ _ _ _ _ hru, Mach.bump, Mach.rd_bumpF_other _ _ _ _ _ _ hcr.symm]
  · exact ⟨hone, fun h => absurd h (by assumption), hstate, hcount⟩

theorem Mach.degraded_frame : (m.degraded u cls).own = m.own ∧ (m.degraded u cls).mem = m.mem ∧ (m.degraded u cls).irq = m.irq ∧
    (∀ a, a ≠ A.FLT_USTS u → (m.degraded u cls).rd a = m.rd a) ∧ (m.degraded u cls).fld (A.FLT_USTS u) 15 0 = m.fld (A.FLT_USTS u) 15 0 := by
  unfold Mach.degraded
  split
  · exact ⟨rfl, rfl, rfl, fun a ha => m.rd_put_other _ _ _ _ _ ha, m.fld_put_disjoint _ _ _ _ _ _ (by decide) (by decide) (by decide)⟩
  · exact ⟨rfl, rfl, rfl, fun _ _ => rfl, rfl⟩

theorem Mach.degraded_state : (m.degraded u cls).unitState u = if cls = 2 ∧ m.unitState u = 1 then 2 else m.unitState u := by
  unfold Mach.degraded
  by_cases h : cls = 2 ∧ m.unitState u = 1
  · rw [if_pos (by simpa using h), if_pos h]
    exact m.fld_put_same _ _ _ _ (by decide) (by decide)
  · rw [if_neg (by simpa using h), if_neg h]

/-- What the taking of a fault changes, and what it makes of the counts and of the unit. -/
theorem Mach.faultTaken_outcome (hc1 : 1 ≤ cls) (hc : cls ≤ 5) : (m.faultTaken src u cls detail inj).own = m.own ∧
    (m.faultTaken src u cls detail inj).mem = m.mem ∧ (m.faultTaken src u cls detail inj).irq = m.irq ∧
    (∀ a, a < 0x020020 ∨ 0x02004C ≤ a → a ≠ A.FLT_USTS u → (m.faultTaken src u cls detail inj).rd a = m.rd a) ∧
    (m.faultTaken src u cls detail inj).rd (A.FLT_CNT cls) = BitVec.ofNat 32 (min ((m.rd (A.FLT_CNT cls)).toNat + 1) (2 ^ 32 - 1)) ∧
    (2 ≤ cls → (m.faultTaken src u cls detail inj).rd A.FLT_RECOV = BitVec.ofNat 32 (min ((m.rd A.FLT_RECOV).toNat + 1) (2 ^ 32 - 1))) ∧
    (m.faultTaken src u cls detail inj).unitState u = (if cls = 2 ∧ m.unitState u = 1 then 2 else m.unitState u) ∧
    (m.faultTaken src u cls detail inj).fld (A.FLT_USTS u) 15 0 = min (m.fld (A.FLT_USTS u) 15 0 + 1) (2 ^ 16 - 1) := by
  obtain ⟨hown1, hmem1, hirq1, hrd1⟩ := m.faultCounted_frame (u := u) hc
  obtain ⟨hcnt, hrec, hst, hn⟩ := m.faultCounted_counts (u := u) hc1 hc
  unfold Mach.faultTaken
  generalize m.faultCounted u cls = k at *
  obtain ⟨hown2, hmem2, hirq2, hrd2⟩ := k.latchFault_frame (src := src) (u := u) (cls := cls) (detail := detail) (inj := inj)
  generalize (k.latchFault src u cls detail inj).1 = l at *
  obtain ⟨hown3, hmem3, hirq3, hrd3, hn3⟩ := l.degraded_frame (u := u) (cls := cls)
  have hcu : A.FLT_CNT cls ≠ A.FLT_USTS u := by simp only [A.FLT_CNT, A.FLT_USTS]; omega
  have hru : A.FLT_RECOV ≠ A.FLT_USTS u := by simp only [A.FLT_RECOV, A.FLT_USTS]; omega
  have hul : l.rd (A.FLT_USTS u) = k.rd (A.FLT_USTS u) := hrd2 _ (by simp only [A.FLT_USTS]; omega)
  refine ⟨hown3.trans (hown2.trans hown1), hmem3.trans (hmem2.trans hmem1), hirq3.trans (hirq2.trans hirq1), fun a ha hu => ?_, ?_, fun h2 => ?_,
    ?_, ?_⟩
  · rw [hrd3 a hu, hrd2 a (by omega), hrd1 a (by omega) hu]
  · rw [hrd3 _ hcu, hrd2 _ (by simp only [A.FLT_CNT]; omega), hcnt]
  · rw [hrd3 _ hru, hrd2 _ (by simp only [A.FLT_RECOV]; omega), hrec h2]
  · rw [Mach.degraded_state, show l.unitState u = k.unitState u from Mach.fld_of_rd hul 31 29, hst]
  · rw [hn3, Mach.fld_of_rd hul, hn]

theorem Mach.logFault_keeps {β : Type} (F : Mach → β) {bits : Nat} {first : Bool} (hs : ∀ (k : Mach) i, F (k.qStore fltLog i) = F k)
    (hg : ∀ (k : Mach) g, F { k with net := { k.net with gaps := g } } = F k) (hd : ∀ k : Mach, F (k.bump (A.Q_DROPS fltLog)) = F k)
    (hq : ∀ (k : Mach) q, F { k with flt := { k.flt with seq := q } } = F k) : F (m.logFault src u cls detail bits first inj) = F m :=
  (Mach.lossyPush_keeps F _ fltLog _ hs hg hd).trans (hq m _)

/-- The telling of a fault changes the log's queue, MGT_ALERT and the service flag. -/
theorem Mach.faultTold_frame {bits : Nat} {first : Bool} : (m.faultTold src u cls detail bits first inj).mem = m.mem ∧
    (m.faultTold src u cls detail bits first inj).irq = m.irq ∧
    (∀ a, a < fltLog ∨ fltLog + 0x20 ≤ a → a ≠ A.MGT_ALERT → (m.faultTold src u cls detail bits first inj).rd a = m.rd a) ∧
    (unitShared u = true → (m.faultTold src u cls detail bits first inj).att.service = true) := by
  have hmem : (m.logFault src u cls detail bits first inj).mem = m.mem :=
    m.logFault_keeps (fun k => k.mem) (fun _ _ => rfl) (fun _ _ => rfl) (fun _ => rfl) (fun _ _ => rfl)
  have hirq : (m.logFault src u cls detail bits first inj).irq = m.irq :=
    m.logFault_keeps (fun k => k.irq) (fun _ _ => rfl) (fun _ _ => rfl) (fun _ => rfl) (fun _ _ => rfl)
  have hrd : ∀ a, a < fltLog ∨ fltLog + 0x20 ≤ a → (m.logFault src u cls detail bits first inj).rd a = m.rd a := fun a ha =>
    m.logFault_keeps (fun k => k.rd a) (fun k i => k.qStore_rd fltLog i ha) (fun _ _ => rfl)
      (fun k => k.rd_bumpF_other _ _ _ _ _ (by simp only [A.Q_DROPS]; omega)) (fun _ _ => rfl)
  unfold Mach.faultTold
  dsimp only
  generalize m.logFault src u cls detail bits first inj = k at *
  have halert : (if k.drives cls then k.putBit A.MGT_ALERT 3 true else k).mem = m.mem ∧
      (if k.drives cls then k.putBit A.MGT_ALERT 3 true else k).irq = m.irq ∧
      ∀ a, a < fltLog ∨ fltLog + 0x20 ≤ a → a ≠ A.MGT_ALERT → (if k.drives cls then k.putBit A.MGT_ALERT 3 true else k).rd a = m.rd a := by
    split
    · exact ⟨hmem, hirq, fun a ha hm => (k.rd_putBit_other _ _ _ _ hm).trans (hrd a ha)⟩
    · exact ⟨hmem, hirq, fun a ha _ => hrd a ha⟩
  obtain ⟨hmem', hirq', hrd'⟩ := halert
  generalize (if k.drives cls then k.putBit A.MGT_ALERT 3 true else k) = l at *
  split
  · exact ⟨hmem', hirq', hrd', fun _ => rfl⟩
  · exact ⟨hmem', hirq', hrd', fun h => absurd h (by assumption)⟩

/-- The handling of a fault that no reaction answers (R630, R632 to R634, R640). -/
theorem Mach.handleFault_outcome (h82 : src ≠ 0x82) (h84 : src ≠ 0x84) (hc1 : 1 ≤ cls) (hc : cls ≤ 5) (hu : u < 0x150)
    (ht : m.taken src u cls = 0) (hsrc : src ∉ [0x01, 0x02, 0x03, 0x04, 0x05, 0x30, 0x81, 0x90]) :
    ∃ first, m.handleFault src u cls detail inj = (m.faultTaken src u cls detail inj).faultTold src u cls detail 0 first inj := by
  obtain ⟨hown, -, -, hrd, -, -, hstate, -⟩ := m.faultTaken_outcome (src := src) (u := u) (detail := detail) (inj := inj) hc1 hc
  have hnone : (m.faultTaken src u cls detail inj).taken src u cls = 0 := by
    rw [← ht]
    refine Mach.taken_congr hown (hrd _ ?_ ?_) (hrd _ ?_ ?_) (fun ch hch => hrd _ ?_ ?_) (fun k => hrd _ ?_ ?_) ?_
    case refine_9 =>
      rw [hstate]
      split <;> omega
    all_goals (simp only [A.FLT_REACT, A.FLT_PIN, A.MEM_CH_STS, A.MSK_OWN, A.FLT_USTS]; omega)
  obtain ⟨first, hfirst⟩ := m.handleFault_eq (u := u) (cls := cls) (detail := detail) (inj := inj) h82 h84
  exact ⟨first, by rw [hfirst, hnone, Mach.react_none, Mach.ownAction_none _ hsrc]⟩

end

/-- Settles O46: the records by `latchFault_outcome`, and the handling by its two halves, the taking of the fault and its telling. -/
theorem faultRecordsAndReactions : Obligations.FaultRecordsAndReactions := by
  refine ⟨fun m src u cls detail inj hs hu hc1 hc => ?_, fun m src u cls detail inj h82 h84 hc1 hc hu ht hsrc => ?_⟩
  · obtain ⟨hfirst, hagain⟩ := m.latchFault_outcome (detail := detail) (inj := inj) hs hu hc
    refine ⟨hfirst, hagain, fun h => ?_, fun e h => ?_, fun w hw => ?_⟩
    · rw [Mach.latchFault_flt]
      exact m.unitRecorded_new h
    · rw [Mach.latchFault_flt]
      exact m.unitRecorded_merged h
    · rw [Mach.latchFault_flt]
      exact m.unitRecorded_other hw
  · obtain ⟨first, hdone⟩ := m.handleFault_outcome (detail := detail) (inj := inj) h82 h84 hc1 hc hu ht hsrc
    obtain ⟨-, hmem, hirq, -, hcnt, hrec, hstate, hn⟩ := m.faultTaken_outcome (src := src) (u := u) (detail := detail) (inj := inj) hc1 hc
    obtain ⟨hmem', hirq', hrd, hservice⟩ :=
      (m.faultTaken src u cls detail inj).faultTold_frame (src := src) (u := u) (cls := cls) (detail := detail) (inj := inj) (bits := 0) (first := first)
    rw [hdone]
    have husts := hrd (A.FLT_USTS u) (by simp only [A.FLT_USTS, fltLog]; omega) (by simp only [A.FLT_USTS, A.MGT_ALERT]; omega)
    have hstate' := (Mach.fld_of_rd husts 31 29).trans hstate
    refine ⟨?_, fun h1 => hstate'.trans (if_neg (by omega)), fun h2 hu1 => hstate'.trans (if_pos ⟨h2, hu1⟩), (Mach.fld_of_rd husts 15 0).trans hn,
      fun h2 => ?_, hservice, hmem'.trans hmem, hirq'.trans hirq⟩
    · rw [hrd _ (by simp only [A.FLT_CNT, fltLog]; omega) (by simp only [A.FLT_CNT, A.MGT_ALERT]; omega), hcnt]
    · rw [hrd _ (by decide) (by decide), hrec h2]

end Sys2Proof.Machine

namespace Sys2Proof.Machine

/-! ### Slots (R569 to R572) -/

section

variable (m : Mach) {s : Nat}

theorem Mach.slot_setSlot_same (x : KeySlot) : (m.setSlot s x).slot s = x := tget_tset_same _ _ _ _

theorem Mach.slot_setSlot_other (x : KeySlot) {j : Nat} (h : j ≠ s) : (m.setSlot s x).slot j = m.slot j := tget_tset_other _ _ _ _ _ h

theorem Mach.slot_eraseSlot_same : (m.eraseSlot s).slot s = {} := by
  rw [Mach.slot, Mach.eraseSlot, tget, tfind_terase]
  rfl

theorem Mach.slot_eraseSlot_other {j : Nat} (h : j ≠ s) : (m.eraseSlot s).slot j = m.slot j := by
  rw [Mach.slot, Mach.eraseSlot, tget, tfind_terase_other _ h]
  rfl

theorem Mach.checkTag_holds (h : (m.slot s).tagOk = true) : m.checkTag s = (m, true) := if_neg (by simp [h])

theorem Mach.checkTag_fails (hs : (m.slot s).state = 1) (ht : (m.slot s).tagOk = false) : m.checkTag s = (m.badSlot s, false) :=
  if_pos (by simp [hs, ht])

/-- A slot whose tag failed is BAD, holds nothing, and is told (R571). -/
theorem Mach.badSlot_outcome : ((m.badSlot s).slot s).state = 2 ∧ ((m.badSlot s).slot s).value = [] ∧ ((m.badSlot s).slot s).tagOk = false ∧
    (m.badSlot s).raised = m.raised ++ [(0x78, 0x131, s)] ∧ ∀ i, i ≠ s → (m.badSlot s).slot i = m.slot i := by
  have hsame : (m.badSlot s).slot s = { m.slot s with state := 2, value := [], tagOk := false } := m.slot_setSlot_same _
  rw [hsame]
  exact ⟨rfl, rfl, rfl, rfl, fun i hi => m.slot_setSlot_other _ hi⟩

/-- KEY_RES tells how a command ended, and no slot moves with it. -/
theorem Mach.keyRes_rd (k code : Nat) : (m.keyRes k code).rd A.KEY_RES = BitVec.ofNat 32 (2 ^ 31 + k * 256 + code) := m.rd_wr_same _ _

/-! ### The command window (R576, R581) -/

theorem Mach.writeKeyCmd_generate {v : Nat} (hv : v % 16 = 1) : m.writeKeyCmd v =
    (m.keyGenerate (m.fld A.KEY_SEL 8 0)).1.keyRes (m.fld A.KEY_SEL 8 0) (m.keyGenerate (m.fld A.KEY_SEL 8 0)).2 := by
  simp only [Mach.writeKeyCmd, hv]

theorem Mach.writeKeyCmd_derive {v : Nat} (hv : v % 16 = 2) : m.writeKeyCmd v =
    (m.keyDerive (m.fld A.KEY_SEL 8 0)).1.keyRes (m.fld A.KEY_SEL 8 0) (m.keyDerive (m.fld A.KEY_SEL 8 0)).2 := by
  simp only [Mach.writeKeyCmd, hv]

theorem Mach.writeKeyCmd_erase {v : Nat} (hv : v % 16 = 3) : m.writeKeyCmd v =
    (m.keyErase (m.fld A.KEY_SEL 8 0)).1.keyRes (m.fld A.KEY_SEL 8 0) (m.keyErase (m.fld A.KEY_SEL 8 0)).2 := by
  simp only [Mach.writeKeyCmd, hv]

theorem Mach.writeKeyCmd_check_holds {v : Nat} (hv : v % 16 = 4) (ho : m.keyOwner (m.fld A.KEY_SEL 8 0) = some 0)
    (ht : (m.slot (m.fld A.KEY_SEL 8 0)).tagOk = true) : m.writeKeyCmd v = m.keyRes (m.fld A.KEY_SEL 8 0) 0 := by
  simp [Mach.writeKeyCmd, hv, ho, m.checkTag_holds ht]

theorem Mach.writeKeyCmd_check_fails {v : Nat} (hv : v % 16 = 4) (ho : m.keyOwner (m.fld A.KEY_SEL 8 0) = some 0)
    (hs : (m.slot (m.fld A.KEY_SEL 8 0)).state = 1) (ht : (m.slot (m.fld A.KEY_SEL 8 0)).tagOk = false) :
    m.writeKeyCmd v = (m.badSlot (m.fld A.KEY_SEL 8 0)).keyRes (m.fld A.KEY_SEL 8 0) 6 := by
  simp [Mach.writeKeyCmd, hv, ho, m.checkTag_fails hs ht]

theorem Mach.drawBytes_length (n : Nat) : (m.drawBytes n).1.length = n := by simp [Mach.drawBytes]

/-- The key that GENERATE makes of the attributes named (R569). -/
def Mach.generatedKey (m : Mach) : KeySlot where
  state := 1
  len512 := m.bit A.KEY_ATTR 8
  attr := m.fld A.KEY_ATTR 7 0
  value := (m.drawBytes (if m.bit A.KEY_ATTR 8 then 64 else 32)).1

/-- The pinned child that DERIVE makes of the parent, label and context named (R576). -/
def Mach.derivedKey (m : Mach) : KeySlot where
  state := 1
  len512 := m.bit A.KEY_ATTR 8
  attr := m.fld A.KEY_ATTR 7 0
  pinned := true
  parent := m.fld A.KEY_SEL 24 16
  label := m.keyLabel
  ctx := m.keyCtx
  value := deriveChild (m.slot (m.fld A.KEY_SEL 24 16)).value m.keyLabel m.keyCtx 0 (m.bit A.KEY_ATTR 8)

/-- GENERATE fills a free slot of partition 0 with a free value (R569). -/
theorem Mach.keyGenerate_fills (ho : m.keyOwner s = some 0) (hf : m.slotFree s = true) (h7 : (m.fld A.KEY_ATTR 7 0).testBit 7 = false)
    (ha : attrOk (m.fld A.KEY_ATTR 7 0) (m.bit A.KEY_ATTR 8) = true) (hs : m.fld A.SILT_STS 2 0 = 2) :
    m.keyGenerate s = ((m.drawBytes (if m.bit A.KEY_ATTR 8 then 64 else 32)).2.setSlot s m.generatedKey, 0) := by
  unfold Mach.keyGenerate
  dsimp only
  rw [if_neg (by simp [ho]), if_neg (by simp [hf]), if_neg (by simp only [h7, ha]; decide), if_neg (by simp [hs])]
  rfl

/-- DERIVE fills a free slot of partition 0 with a pinned child (R576). -/
theorem Mach.keyDerive_fills (ho : m.keyOwner s = some 0) (hf : m.slotFree s = true) (hps : (m.slot (m.fld A.KEY_SEL 24 16)).state = 1)
    (hpt : (m.slot (m.fld A.KEY_SEL 24 16)).tagOk = true) (hpa : (m.slot (m.fld A.KEY_SEL 24 16)).attr.testBit 6 = true)
    (hpo : m.keyOwner (m.fld A.KEY_SEL 24 16) = some 0)
    (hsub : m.fld A.KEY_ATTR 7 0 &&& (m.slot (m.fld A.KEY_SEL 24 16)).attr = m.fld A.KEY_ATTR 7 0)
    (ha : attrOk (m.fld A.KEY_ATTR 7 0) (m.bit A.KEY_ATTR 8) = true) :
    m.keyDerive s = (m.setSlot s m.derivedKey, 0) := by
  unfold Mach.keyDerive
  dsimp only
  rw [if_neg (by simp [ho]), if_neg (by simp [hf]), if_neg (by simp only [hps, hpa, hpo]; decide), if_neg (by simp [hsub, ha]),
    m.checkTag_holds hpt, if_neg (by simp [hps])]
  rfl

theorem Mach.keyErase_erases (ho : m.keyOwner s = some 0) (hu : m.slotInUse 0 s = false) : (m.keyErase s).2 = 0 ∧
    (m.keyErase s).1.slot s = {} ∧ ∀ j, j ≠ s → (m.keyErase s).1.slot j = m.slot j := by
  rw [Mach.keyErase, if_neg (by simp [ho]), if_neg (by simp [hu])]
  exact ⟨rfl, m.slot_eraseSlot_same, fun j hj => m.slot_eraseSlot_other hj⟩

theorem Mach.keyGenerate_foreign (h : m.keyOwner s ≠ some 0) : m.keyGenerate s = (m, 1) := if_pos h

theorem Mach.keyDerive_foreign (h : m.keyOwner s ≠ some 0) : m.keyDerive s = (m, 1) := if_pos h

theorem Mach.keyErase_foreign (h : m.keyOwner s ≠ some 0) : m.keyErase s = (m, 1) := if_pos h

/-! ### The scan (R572) -/

theorem Mach.upsetSlot_loaded (h : (m.slot s).state = 1) : m.upsetSlot s = m.setSlot s { m.slot s with tagOk := false } := if_pos h

/-- A scan finds the one slot whose tag no longer holds. -/
theorem Mach.scanSlots_one {j : Nat} (hj : j < 512) (hs : (m.slot j).state = 1) (hok : ∀ i, i ≠ j → (m.slot i).tagOk = true) :
    ((m.scanSlots [j]).slot j).state = 2 ∧ ((m.scanSlots [j]).slot j).value = [] ∧ (m.scanSlots [j]).raised = m.raised ++ [(0x78, 0x131, j)] ∧
      ∀ i, i ≠ j → (m.scanSlots [j]).slot i = m.slot i := by
  have hupset : [j].foldl (fun a s => a.upsetSlot s) m = m.setSlot j { m.slot j with tagOk := false } := m.upsetSlot_loaded hs
  rw [Mach.scanSlots, hupset]
  refine foldl_once (fun a s => (a.checkTag s).1)
    (fun a => a = m.setSlot j { m.slot j with tagOk := false })
    (fun a => (a.slot j).state = 2 ∧ (a.slot j).value = [] ∧ a.raised = m.raised ++ [(0x78, 0x131, j)] ∧ ∀ i, i ≠ j → a.slot i = m.slot i) j
    (fun a ha => ?_) (fun a y hy ha => ?_) (fun a y hy ha => ?_) _ List.nodup_range (List.mem_range.2 hj) _ rfl
  · subst ha
    rw [Mach.checkTag_fails _ (by rw [Mach.slot_setSlot_same]; exact hs) (by rw [Mach.slot_setSlot_same])]
    obtain ⟨hstate, hvalue, -, hraised, hother⟩ := (m.setSlot j { m.slot j with tagOk := false }).badSlot_outcome (s := j)
    exact ⟨hstate, hvalue, hraised, fun i hi => (hother i hi).trans (m.slot_setSlot_other _ hi)⟩
  · subst ha
    rw [Mach.checkTag_holds _ (by rw [m.slot_setSlot_other _ hy]; exact hok y hy)]
  · rw [Mach.checkTag_holds _ (by rw [ha.2.2.2 y hy]; exact hok y hy)]
    exact ha

end

/-- Settles O41: a case per command and per outcome, and the scan of a single upset slot. -/
theorem keyRowsComplete : Obligations.KeyRowsComplete := by
  intro s who v k attr l ps res
  refine ⟨fun hw => ⟨fun hv ho hf h7 ha hs => ?_, fun hv ho hf hps hpt hpa hpo hsub ha => ?_, fun hv ho hu => ?_, fun hv ho ht => ?_,
    fun hv ho hs ht => ?_, fun ho => ⟨fun hv => ?_, fun hv => ?_, fun hv => ?_⟩⟩, fun j he hs hok => ?_, fun he => ?_⟩
  · refine gives_writeWhen rfl (decide_eq_true hv) (s.m.write_KEY_CMD who v.toNat v.isLt hw) ?_
    rw [s.m.writeKeyCmd_generate hv, s.m.keyGenerate_fills ho hf h7 ha hs]
    have hslot := Mach.slot_setSlot_same (s.m.drawBytes (if l then 64 else 32)).2 (s := k) s.m.generatedKey
    refine ⟨rfl, Mach.keyRes_rd _ _ _, congrArg KeySlot.state hslot, congrArg KeySlot.attr hslot, congrArg KeySlot.pinned hslot, ?_,
      fun j hj => Mach.slot_setSlot_other _ _ hj⟩
    exact (congrArg (fun x => x.value.length) hslot).trans (s.m.drawBytes_length _)
  · refine gives_writeWhen rfl (decide_eq_true hv) (s.m.write_KEY_CMD who v.toNat v.isLt hw) ?_
    rw [s.m.writeKeyCmd_derive hv, s.m.keyDerive_fills ho hf hps hpt hpa hpo hsub ha]
    have hslot := s.m.slot_setSlot_same (s := k) s.m.derivedKey
    exact ⟨Mach.keyRes_rd _ _ _, congrArg KeySlot.state hslot, congrArg KeySlot.pinned hslot, congrArg KeySlot.parent hslot,
      congrArg KeySlot.value hslot, fun j hj => s.m.slot_setSlot_other _ hj⟩
  · refine gives_writeWhen rfl (decide_eq_true hv) (s.m.write_KEY_CMD who v.toNat v.isLt hw) ?_
    obtain ⟨hcode, hslot, hother⟩ := s.m.keyErase_erases ho hu
    rw [s.m.writeKeyCmd_erase hv, hcode]
    exact ⟨Mach.keyRes_rd _ _ _, hslot, hother⟩
  · refine gives_due (fun _ => v.toNat % 16 = 4) (f := fun m => m.writeCmd who A.KEY_CMD v.toNat) rfl hv ?_
    rw [s.m.write_KEY_CMD who v.toNat v.isLt hw, s.m.writeKeyCmd_check_holds hv ho ht]
  · refine gives_due (fun _ => v.toNat % 16 = 4) (f := fun m => m.writeCmd who A.KEY_CMD v.toNat) rfl hv ?_
    rw [s.m.write_KEY_CMD who v.toNat v.isLt hw, s.m.writeKeyCmd_check_fails hv ho hs ht]
    obtain ⟨hstate, hvalue, -, hraised, -⟩ := s.m.badSlot_outcome (s := k)
    exact ⟨Mach.keyRes_rd _ _ _, hstate, hvalue, hraised⟩
  · refine gives_writeWhen rfl (decide_eq_true hv) (s.m.write_KEY_CMD who v.toNat v.isLt hw) ?_
    rw [s.m.writeKeyCmd_generate hv, s.m.keyGenerate_foreign ho]
  · refine gives_writeWhen rfl (decide_eq_true hv) (s.m.write_KEY_CMD who v.toNat v.isLt hw) ?_
    rw [s.m.writeKeyCmd_derive hv, s.m.keyDerive_foreign ho]
  · refine gives_writeWhen rfl (decide_eq_true hv) (s.m.write_KEY_CMD who v.toNat v.isLt hw) ?_
    rw [s.m.writeKeyCmd_erase hv, s.m.keyErase_foreign ho]
  · exact gives_due (fun m => m.phs.frameEdge = true) (f := fun m => m.scanSlots [j.val]) rfl he (s.m.scanSlots_one j.isLt hs hok)
  · exact unmoved_not_due (fun m => m.phs.frameEdge = true) (f := fun m => m.scanSlots []) rfl (by rw [he]; decide)

end Sys2Proof.Machine

namespace Sys2Proof.Machine

/-! ### The ROM's check of a bank (R659, R660) -/

section

variable (m : Mach) {b code svn : Nat}

/-- The bank is noted as tried. -/
def Mach.bankTried (m : Mach) (b : Nat) : Mach := { m with sys := { m.sys with tried := m.sys.tried ++ [b] } }

/-- What the registers show of the bank that boots. -/
def Mach.bankShown (m : Mach) (b v : Nat) (second : Bool) : Mach :=
  (((m.putBit A.LC_STS 8 (b = 1)).putBit A.LC_STS 9 second).put A.LC_SVN 31 16 v).putBit A.THERM_COOL 0 true

theorem Mach.imageVerified_boots {v : Nat} (h : (m.bankTried b).bankResult b code svn = (0, v)) :
    (m.imageVerified b code svn).sys.verified = true ∧ (m.imageVerified b code svn).sys.tried = m.sys.tried ++ [b] ∧
      (m.imageVerified b code svn).regs = ((m.bankTried b).bankShown b v !m.sys.tried.isEmpty).regs := by
  unfold Mach.imageVerified
  dsimp only
  rw [← Mach.bankTried, h]
  exact ⟨rfl, rfl, rfl⟩

theorem Mach.imageVerified_fails {c v : Nat} (hc : c ≠ 0) (h : (m.bankTried b).bankResult b code svn = (c, v)) :
    m.imageVerified b code svn = (m.bankTried b).put A.LC_STS (8 * b + 23) (8 * b + 16) c := by
  unfold Mach.imageVerified
  dsimp only
  rw [← Mach.bankTried, h]
  split
  · rename_i heq
    exact absurd (congrArg Prod.fst heq) hc
  · rename_i heq
    cases heq
    rfl

theorem Mach.bankShown_outcome {v : Nat} (second : Bool) (hv : v < 2 ^ 16) : (m.bankShown b v second).bit A.LC_STS 8 = (b == 1) ∧
    (m.bankShown b v second).bit A.LC_STS 9 = second ∧ (m.bankShown b v second).fld A.LC_SVN 31 16 = v ∧
    (m.bankShown b v second).bit A.THERM_COOL 0 = true := by
  refine ⟨?_, ?_, ?_, Mach.bit_putBit_same _ _ _ _ (by decide)⟩
  · rw [Mach.bankShown, Mach.bit_putBit_other _ _ _ _ _ _ (by decide), Mach.bit_put_other _ _ _ _ _ _ _ (by decide),
      Mach.bit_putBit_bit _ _ _ _ _ (by decide) (by decide), Mach.bit_putBit_same _ _ _ _ (by decide)]
    rfl
  · rw [Mach.bankShown, Mach.bit_putBit_other _ _ _ _ _ _ (by decide), Mach.bit_put_other _ _ _ _ _ _ _ (by decide),
      Mach.bit_putBit_same _ _ _ _ (by decide)]
  · rw [Mach.bankShown, Mach.fld_putBit_other _ _ _ _ _ _ _ (by decide), Mach.fld_put_same _ _ _ _ _ (by decide) (by decide)]
    exact Nat.mod_eq_of_lt hv

/-- An image of which the command tells code and SVN. -/
theorem Mach.bankResult_told (hf : tfind m.sys.flash b = none) (h : code = 0 → m.fld A.LC_SVN 15 0 ≤ svn) :
    (m.bankTried b).bankResult b code svn = (code, svn) := by
  have hf' : tfind (m.bankTried b).sys.flash b = none := hf
  simp only [Mach.bankResult, hf']
  refine congrArg (fun c => (c, svn)) (if_neg fun hc => ?_)
  simp only [Bool.and_eq_true, decide_eq_true_eq] at hc
  exact absurd (h hc.1) (Nat.not_le.2 hc.2)

/-- An image staged in this run, which the ROM checks. -/
theorem Mach.bankResult_staged {img : List Byte} (hf : tfind m.sys.flash b = some img) (h : romCheck img (m.fld A.LC_SVN 15 0) = 0) :
    (m.bankTried b).bankResult b 0 svn = (0, fieldAt img 8 2) := by
  have hf' : tfind (m.bankTried b).sys.flash b = some img := hf
  have h' : romCheck img ((m.bankTried b).fld A.LC_SVN 15 0) = 0 := h
  simp only [Mach.bankResult, hf', h']
  rfl

theorem fieldAt_lt (l : List Byte) (i n : Nat) : fieldAt l i n < 256 ^ n :=
  lt_of_lt_of_le (leNat_lt _) (Nat.pow_le_pow_right (by decide) (List.length_take_le _ _))

/-- The ROM boots a bank: what it keeps of it (R660). -/
theorem Mach.imageVerified_outcome {v : Nat} (h : (m.bankTried b).bankResult b code svn = (0, v)) (hv : v < 2 ^ 16) :
    (m.imageVerified b code svn).sys.verified = true ∧ (m.imageVerified b code svn).bit A.LC_STS 8 = (b == 1) ∧
      (m.imageVerified b code svn).bit A.LC_STS 9 = !m.sys.tried.isEmpty ∧ (m.imageVerified b code svn).fld A.LC_SVN 31 16 = v ∧
      (m.imageVerified b code svn).bit A.THERM_COOL 0 = true ∧ (m.imageVerified b code svn).sys.tried = m.sys.tried ++ [b] := by
  obtain ⟨hver, htried, hregs⟩ := m.imageVerified_boots h
  obtain ⟨h8, h9, hsvn, hcool⟩ := (m.bankTried b).bankShown_outcome (b := b) (!m.sys.tried.isEmpty) hv
  exact ⟨hver, (Mach.bit_of_regs hregs _ _).trans h8, (Mach.bit_of_regs hregs _ _).trans h9, (Mach.fld_of_regs hregs _ _ _).trans hsvn,
    (Mach.bit_of_regs hregs _ _).trans hcool, htried⟩

/-! ### Training (R94, R657) -/

/-- The identities of stack `k`. -/
def Mach.stackKnown (m : Mach) (k : Nat) : Mach := (List.range 4).foldl (fun a i => a.wr (A.STACK_ID k i) (Config.stackId k i)) m

theorem Mach.dramTrained_eq : m.dramTrained = (List.range 8).foldl Mach.stackKnown { m with sys := { m.sys with dram := true } } := rfl

theorem Mach.stackKnown_same {k i : Nat} (hi : i < 4) : (m.stackKnown k).rd (A.STACK_ID k i) = Config.stackId k i := by
  unfold Mach.stackKnown
  refine foldl_once _ (fun _ => True) (fun a => a.rd (A.STACK_ID k i) = Config.stackId k i) i (fun a _ => a.rd_wr_same _ _)
    (fun _ _ _ _ => trivial) (fun a i' hi' ha => ?_) _ List.nodup_range (List.mem_range.2 hi) _ trivial
  exact (a.rd_wr_other _ _ _ (by simp only [A.STACK_ID]; omega)).trans ha

theorem Mach.stackKnown_other {k k' i : Nat} (hi : i < 4) (h : k' ≠ k) : (m.stackKnown k').rd (A.STACK_ID k i) = m.rd (A.STACK_ID k i) := by
  unfold Mach.stackKnown
  refine foldl_keeps _ _ (fun c => c.rd (A.STACK_ID k i)) (fun c i' hi' => ?_) m
  have := List.mem_range.1 hi'
  exact c.rd_wr_other _ _ _ (by simp only [A.STACK_ID]; omega)

theorem Mach.stackKnown_sys (k : Nat) : (m.stackKnown k).sys = m.sys := by
  unfold Mach.stackKnown
  exact foldl_keeps _ _ (fun c => c.sys) (fun c i _ => c.wr_sys (A.STACK_ID k i) _) m

theorem Mach.dramTrained_stack {k i : Nat} (hk : k < 8) (hi : i < 4) : m.dramTrained.rd (A.STACK_ID k i) = Config.stackId k i := by
  rw [Mach.dramTrained_eq]
  exact foldl_once _ (fun _ => True) (fun a => a.rd (A.STACK_ID k i) = Config.stackId k i) k (fun a _ => a.stackKnown_same hi)
    (fun _ _ _ _ => trivial) (fun a k' hk' ha => (a.stackKnown_other hi hk').trans ha) _ List.nodup_range (List.mem_range.2 hk) _ trivial

theorem Mach.dramTrained_dram : m.dramTrained.sys.dram = true := by
  rw [Mach.dramTrained_eq]
  exact (foldl_keeps _ _ (fun c => c.sys.dram) (fun c k _ => congrArg (fun y => y.dram) (c.stackKnown_sys k)) _)

/-! ### READY (R504, R527, R658, R667) -/

/-- READY without its new nonce. -/
def Mach.readyShown (m : Mach) : Mach := ((m.putBit A.GLB_STS 0 true).setPartState 0 1).putBit (A.MMU_KEY 0) 31 true

theorem Mach.newNonce_outcome : m.newNonce.rd64 A.LC_NONCE_LO = (Config.freeBits m.free).toNat ∧ m.newNonce.free = m.free + 1 ∧
    ∀ a, a ≠ A.LC_NONCE_LO → a ≠ A.LC_NONCE_HI → m.newNonce.rd a = m.rd a :=
  ⟨rd64_wr64 _ _ _ (Config.freeBits m.free).isLt, rfl, fun _ hlo hhi =>
    (Mach.rd_wr_other _ _ _ _ hhi).trans (Mach.rd_wr_other _ _ _ _ hlo)⟩

theorem Mach.ready_outcome : m.ready.bit A.GLB_STS 0 = true ∧ m.ready.partState 0 = 1 ∧ m.ready.bit (A.MMU_KEY 0) 31 = true ∧
    m.ready.rd64 A.LC_NONCE_LO = (Config.freeBits m.free).toNat ∧ m.ready.free = m.free + 1 ∧ m.ready.lcs = m.lcs := by
  obtain ⟨hnonce, hfree, hrd⟩ := m.readyShown.newNonce_outcome
  have hsts : m.readyShown.rd A.GLB_STS = (m.putBit A.GLB_STS 0 true).rd A.GLB_STS := by
    rw [Mach.readyShown, Mach.rd_putBit_other _ _ _ _ _ (by decide), Mach.setPartState, Mach.rd_put_other _ _ _ _ _ _ (by decide)]
  have hglb := (hrd A.GLB_STS (by decide) (by decide)).trans hsts
  refine ⟨?_, ?_, ?_, hnonce, hfree, ?_⟩
  · exact (Mach.bit_of_rd hglb 0).trans (m.bit_putBit_same _ _ _ (by decide))
  · refine (Mach.fld_of_rd (hrd (partReg A.PART_STS 0) (by decide) (by decide)) 1 0).trans ?_
    rw [Mach.readyShown, Mach.fld_putBit_other _ _ _ _ _ _ _ (by decide), Mach.setPartState, Mach.fld_put_same _ _ _ _ _ (by decide) (by decide)]
    rfl
  · exact (Mach.bit_of_rd (hrd (A.MMU_KEY 0) (by decide) (by decide)) 31).trans (Mach.bit_putBit_same _ _ _ _ (by decide))
  · exact (Mach.fld_of_rd hglb 7 4).trans (m.fld_putBit_disjoint _ _ _ _ _ (by decide) (by decide))

end

theorem gives_imageVerified {s : State} {b : Fin 2} {code : Fin 16} {svn : BitVec 16} (hb : s.m.bankTurn b = true) (hc : code.val < 8)
    {P : Mach → Prop} (h : P (s.m.imageVerified b.val code.val svn.toNat)) : Gives (.imageVerified b code svn) s P :=
  gives_due (fun m => (m.bankTurn b.val && decide (code.val < 8)) = true) (f := fun m => m.imageVerified b.val code.val svn.toNat) rfl
    (by rw [hb, decide_eq_true hc]; rfl) h

/-- Settles O50: a case per event of the boot and per outcome. -/
theorem bootComplete : Obligations.BootComplete := by
  intro s b svn
  refine ⟨fun hb hf hs => ?_, fun code h1 h8 hb hf => ?_, fun img hb hf hr => ?_, fun hb => ?_, fun hv => ?_, fun hv => ?_, fun hr => ?_,
    fun hr => ?_⟩
  · exact gives_imageVerified hb (by decide) (s.m.imageVerified_outcome (s.m.bankResult_told hf fun _ => hs) svn.isLt)
  · refine gives_imageVerified hb h8 ?_
    rw [s.m.imageVerified_fails (by omega) (s.m.bankResult_told hf fun h => by omega)]
    refine ⟨rfl, rfl, ?_⟩
    rw [Mach.fld_put_same _ _ _ _ _ (by omega) (by omega)]
    exact Nat.mod_eq_of_lt (by rw [show 8 * b.val + 23 + 1 - (8 * b.val + 16) = 8 by omega]; omega)
  · obtain ⟨hver, -, -, hsvn, -, -⟩ :=
      s.m.imageVerified_outcome (svn := svn.toNat) (s.m.bankResult_staged hf hr) (fieldAt_lt img 8 2)
    exact gives_imageVerified hb (by decide) ⟨hver, hsvn⟩
  · exact unmoved_not_due (fun m => (m.bankTurn b.val && decide ((0 : Fin 16).val < 8)) = true)
      (f := fun m => m.imageVerified b.val (0 : Fin 16).val svn.toNat) rfl (by rw [hb]; decide)
  · exact gives_due (fun m => m.sys.verified = true) (f := Mach.dramTrained) rfl hv
      ⟨s.m.dramTrained_dram, fun k i => s.m.dramTrained_stack k.isLt i.isLt⟩
  · exact unmoved_not_due (fun m => m.sys.verified = true) (f := Mach.dramTrained) rfl (by rw [hv]; decide)
  · exact gives_due (fun m => m.readyDue = true) (f := Mach.ready) rfl hr s.m.ready_outcome
  · exact unmoved_not_due (fun m => m.readyDue = true) (f := Mach.ready) rfl (by rw [hr]; decide)

end Sys2Proof.Machine

namespace Sys2Proof.Machine

/-! ### A command of the life-cycle window (R670) -/

section

variable (m : Mach)

theorem LC_CMD_row : (rowIn (pageRows 0x06F) 0x3C).any (fun r => rwRow r 0xFFFF0F0F) = true := by decide

/-- The command is stored in LC_CMD alone. -/
theorem Mach.lcAsked_eq (v : Word) : ∃ w, m.lcAsked v = m.wr A.LC_CMD w := by
  have hany := LC_CMD_row
  cases hrow : rowIn (pageRows 0x06F) 0x3C with
  | none => simp [hrow] at hany
  | some r =>
    rw [hrow] at hany
    exact ⟨_, (m.plainWords_row hrow (k := A.LC_CMD) (by simp [Mach.cellOf])).trans (m.plainWrite_rw hany)⟩

theorem Mach.lcAsked_res (v : Word) : (m.lcAsked v).bit A.LC_RES 31 = m.bit A.LC_RES 31 := by
  obtain ⟨w, hw⟩ := m.lcAsked_eq v
  rw [hw, Mach.bit_wr_other _ _ _ _ _ (by decide)]

variable {v : Nat}

/-- What command `k` of the window does. -/
def Mach.lcCommanded (m : Mach) (v : Nat) : Nat → Mach
  | 1 => m.lcTransition (bitsOf v 11 8)
  | 2 => m.fwStage
  | 3 => m.fwArm
  | 4 => m.fwDisarm
  | 5 => m.commitSvn
  | _ => m.lcRes 9 true

/-- With the right key the command's number says what is done. -/
theorem Mach.writeLcCmd_keyed (hr : m.bit A.LC_RES 31 = true) (hk : bitsOf v 31 16 = 0x4C43) : m.writeLcCmd v = m.lcCommanded v (v % 16) := by
  rw [Mach.writeLcCmd, if_neg (by simp [hr]), if_neg (by simp [hk])]
  rfl

theorem Mach.writeLcCmd_unkeyed (hr : m.bit A.LC_RES 31 = true) (hk : bitsOf v 31 16 ≠ 0x4C43) (hv : v % 16 ≠ 1) :
    m.writeLcCmd v = m.lcRes 2 true := by
  rw [Mach.writeLcCmd, if_neg (by simp [hr]), if_pos hk]
  exact if_neg hv

/-- How a command ended stands in LC_RES alone. -/
theorem Mach.lcRes_rd (code : Nat) (done : Bool) : (m.lcRes code done).rd A.LC_RES = BitVec.ofNat 32 (b2n done * 2 ^ 31 + code) := m.rd_wr_same _ _

theorem Mach.lcRes_other (code : Nat) (done : Bool) {a : Nat} (h : a ≠ A.LC_RES) : (m.lcRes code done).rd a = m.rd a := m.rd_wr_other _ _ _ h

theorem Mach.lcRes_fwState (code : Nat) (done : Bool) : (m.lcRes code done).fwState = m.fwState :=
  Mach.fld_of_rd (m.lcRes_other code done (by decide)) 2 0

theorem Mach.newNonce_lcRes : m.newNonce.rd A.LC_RES = m.rd A.LC_RES := m.newNonce_outcome.2.2 _ (by decide) (by decide)

theorem Mach.newNonce_lcs : m.newNonce.lcs = m.lcs := Mach.fld_of_rd (m.newNonce_outcome.2.2 A.GLB_STS (by decide) (by decide)) 7 4

theorem Mach.answered_rd64 (a : Nat) : m.answered.rd64 a = m.rd64 a := by simp only [Mach.rd64, Mach.answered_rd]

theorem Mach.answered_lcs : m.answered.lcs = m.lcs := Mach.fld_of_regs rfl _ _ _

theorem Mach.answered_fld (a hi lo : Nat) : m.answered.fld a hi lo = m.fld a hi lo := Mach.fld_of_regs rfl _ _ _

theorem Mach.answered_fwState : m.answered.fwState = m.fwState := m.answered_fld _ _ _

/-! ### Transitions (R666 to R668) -/

/-- A refused transition leaves its code and a new nonce. -/
theorem Mach.lcTransition_refused {dst c : Nat} (hc : c ≠ 0) (h : m.transCheck dst = (m, c)) :
    m.lcTransition dst = (m.lcRes c true).newNonce := by
  unfold Mach.lcTransition
  rw [h]
  split
  · rename_i heq
    exact absurd (congrArg Prod.snd heq) hc
  · rename_i heq
    cases heq
    rfl

theorem Mach.lcTransition_accepted {dst : Nat} (h : m.transCheck dst = (m, 0)) : m.lcTransition dst = (m.transition dst).newNonce := by
  unfold Mach.lcTransition
  rw [h]
  rfl

theorem Mach.refused_outcome (c : Nat) : (m.lcRes c true).newNonce.rd A.LC_RES = BitVec.ofNat 32 (2 ^ 31 + c) ∧
    (m.lcRes c true).newNonce.lcs = m.lcs ∧ (m.lcRes c true).newNonce.rd64 A.LC_NONCE_LO = (Config.freeBits m.free).toNat ∧
    (m.lcRes c true).newNonce.sys.lcReset = m.sys.lcReset := by
  refine ⟨?_, ?_, (m.lcRes c true).newNonce_outcome.1, rfl⟩
  · rw [Mach.newNonce_lcRes, Mach.lcRes_rd, b2n, if_pos rfl, one_mul]
  · rw [Mach.newNonce_lcs]
    exact Mach.fld_of_rd (m.lcRes_other c true (by decide)) 7 4

theorem Mach.transCheck_none {dst : Nat} (h : lcTable m.lcs dst = none) : m.transCheck dst = (m, 3) := by
  unfold Mach.transCheck
  rw [h]

/-- The partitions in use, as check 4 of R668 looks for them. -/
theorem Mach.anyPart_iff : (rangeFrom 1 15).any (fun p => decide (m.partState p ≠ 0)) = true ↔ ∃ p : Fin 16, p ≠ 0 ∧ m.partState p ≠ 0 := by
  simp only [rangeFrom, List.any_map, List.any_eq_true, List.mem_range, Function.comp_apply, decide_eq_true_eq]
  constructor
  · rintro ⟨i, hi, h⟩
    exact ⟨⟨1 + i, by omega⟩, fun h0 => by simpa using congrArg Fin.val h0, h⟩
  · rintro ⟨p, hp, h⟩
    have hp0 : p.val ≠ 0 := fun h0 => hp (Fin.ext h0)
    exact ⟨p.val - 1, by omega, by rwa [show 1 + (p.val - 1) = p.val by omega]⟩

/-- A transition without a token, from a firmware state at rest. -/
theorem Mach.transCheck_tokenless {dst : Nat} (h : lcTable m.lcs dst = some false) (hf : m.fwState = 0) (hd : dst ≠ 1) :
    m.transCheck dst = (m, if (rangeFrom 1 15).any (fun p => decide (m.partState p ≠ 0)) then 5 else 0) := by
  have hf' : m.fld A.FW_STS 2 0 = 0 := hf
  unfold Mach.transCheck
  simp only [h, hf', hd, ne_eq, not_true_eq_false, decide_false, Bool.and_false, Bool.false_and, Bool.false_eq_true, if_false]
  split <;> rfl

/-- An accepted transition to a state below RMA, from a state past RAW that is not PROVISIONED. -/
theorem Mach.transition_eq {dst : Nat} (hd : ¬ 4 ≤ dst) (h0 : m.lcs ≠ 0) (h1 : dst ≠ 1) : m.transition dst =
    ({ (m.put A.GLB_STS 7 4 dst) with sys := { m.sys with lcReset := true } } : Mach).lcRes 0 true := by
  unfold Mach.transition
  simp only [hd, h0, h1, decide_false, Bool.and_false, Bool.false_eq_true, if_false]
  rfl

theorem Mach.transition_blown {dst : Nat} (hd : dst < 4) (h0 : m.lcs ≠ 0) (h1 : dst ≠ 1) : (m.transition dst).rd A.LC_RES = 0x80000000 ∧
    (m.transition dst).lcs = dst ∧ (m.transition dst).sys.lcReset = true := by
  rw [m.transition_eq (by omega) h0 h1]
  refine ⟨Mach.lcRes_rd _ _ _, ?_, rfl⟩
  refine (Mach.fld_of_rd (Mach.lcRes_other _ _ _ (by decide)) 7 4).trans ?_
  exact (m.fld_put_same _ _ _ _ (by decide) (by decide)).trans (Nat.mod_eq_of_lt (by omega))

/-! ### Staging and activation (R661 to R664) -/

/-- The image is read, and its programming begins. -/
def Mach.stagingBegun (m : Mach) (b : List Byte) : Mach :=
  { ((m.put A.FW_STS 2 0 1).lcRes 0 false) with sys := { m.sys with staging := some b } }

theorem Mach.stagingBegun_outcome (b : List Byte) : (m.stagingBegun b).fwState = 1 ∧ (m.stagingBegun b).sys.staging = some b ∧
    (m.stagingBegun b).rd A.LC_RES = 0 := by
  have hregs : (m.stagingBegun b).regs = ((m.put A.FW_STS 2 0 1).lcRes 0 false).regs := rfl
  refine ⟨?_, rfl, (Mach.rd_of_regs hregs _).trans (Mach.lcRes_rd _ _ _)⟩
  refine (Mach.fld_of_regs hregs _ _ _).trans ((Mach.lcRes_fwState _ 0 false).trans ?_)
  exact m.fld_put_same _ _ _ _ (by decide) (by decide)

theorem Mach.fwStage_begins {m1 : Mach} {b : List Byte} (hf : m.fwState = 0) (hr : m.vread 0 0 m.lcSrc (m.fld A.LC_LEN 24 0) = (m1, .ok b)) :
    m.fwStage = m1.stagingBegun b := by
  unfold Mach.fwStage
  simp only [hf, hr, ne_eq, not_true_eq_false, decide_false, Bool.false_and, Bool.false_eq_true, if_false]
  rfl

/-- The image is in the other bank, and staging is over. -/
def Mach.programmed (m : Mach) (b : List Byte) : Mach :=
  { m with sys := { m.sys with staging := none, flash := tset m.sys.flash m.otherBank b } }

theorem Mach.fwStageDone_verified {b : List Byte} (h : romCheck b (m.fld A.LC_SVN 15 0) = 0) :
    m.fwStageDone b = (((m.programmed b).put A.FW_STS 2 0 2).put A.FW_STS 31 16 (fieldAt b 8 2)).lcRes 0 true := by
  unfold Mach.fwStageDone
  exact if_pos h

theorem Mach.fwStageDone_failed {b : List Byte} (h : romCheck b (m.fld A.LC_SVN 15 0) ≠ 0) :
    m.fwStageDone b = ((m.programmed b).put A.FW_STS 2 0 6).lcRes 6 true := by
  unfold Mach.fwStageDone
  exact if_neg h

theorem Mach.fwStageDone_verified_outcome {b : List Byte} (h : romCheck b (m.fld A.LC_SVN 15 0) = 0) :
    (m.fwStageDone b).fwState = 2 ∧ (m.fwStageDone b).sys.staging = none ∧ tfind (m.fwStageDone b).sys.flash m.otherBank = some b ∧
      (m.fwStageDone b).fld A.FW_STS 31 16 = fieldAt b 8 2 ∧ (m.fwStageDone b).rd A.LC_RES = 0x80000000 := by
  rw [m.fwStageDone_verified h]
  refine ⟨?_, rfl, tfind_tset_same _ _ _, ?_, Mach.lcRes_rd _ _ _⟩
  · rw [Mach.lcRes_fwState]
    exact (Mach.fld_put_disjoint _ _ _ _ _ _ _ (by decide) (by decide) (by decide)).trans
      (Mach.fld_put_same _ _ _ _ _ (by decide) (by decide))
  · rw [Mach.fld_of_rd (Mach.lcRes_other _ _ _ (by decide)), Mach.fld_put_same _ _ _ _ _ (by decide) (by decide)]
    exact Nat.mod_eq_of_lt (fieldAt_lt b 8 2)

theorem Mach.fwStageDone_failed_outcome {b : List Byte} (h : romCheck b (m.fld A.LC_SVN 15 0) ≠ 0) :
    (m.fwStageDone b).fwState = 6 ∧ (m.fwStageDone b).sys.staging = none ∧ (m.fwStageDone b).rd A.LC_RES = 0x80000006 := by
  rw [m.fwStageDone_failed h]
  refine ⟨?_, rfl, Mach.lcRes_rd _ _ _⟩
  rw [Mach.lcRes_fwState]
  exact Mach.fld_put_same _ _ _ _ _ (by decide) (by decide)

theorem Mach.fwArm_staged (h : m.fwState = 2) : m.fwArm.fwState = 3 ∧ m.fwArm.rd A.LC_RES = 0x80000000 := by
  rw [Mach.fwArm, if_pos h, Mach.lcRes_fwState]
  exact ⟨m.fld_put_same _ _ _ _ (by decide) (by decide), Mach.lcRes_rd _ _ _⟩

theorem Mach.fwArm_refused (h : m.fwState ≠ 2) : m.fwArm.fwState = m.fwState ∧ m.fwArm.rd A.LC_RES = 0x80000003 := by
  rw [Mach.fwArm, if_neg h, Mach.lcRes_fwState]
  exact ⟨rfl, Mach.lcRes_rd _ _ _⟩

theorem Mach.fwDisarm_armed (h : m.fwState = 3) : m.fwDisarm.fwState = 2 ∧ m.fwDisarm.rd A.LC_RES = 0x80000000 := by
  rw [Mach.fwDisarm, if_pos h, Mach.lcRes_fwState]
  exact ⟨m.fld_put_same _ _ _ _ (by decide) (by decide), Mach.lcRes_rd _ _ _⟩

theorem Mach.fwDisarm_refused (h : m.fwState ≠ 3) : m.fwDisarm.fwState = m.fwState ∧ m.fwDisarm.rd A.LC_RES = 0x80000003 := by
  rw [Mach.fwDisarm, if_neg h, Mach.lcRes_fwState]
  exact ⟨rfl, Mach.lcRes_rd _ _ _⟩

theorem Mach.commitSvn_even (h : m.fld A.LC_SVN 31 16 ≤ m.fld A.LC_SVN 15 0) : m.commitSvn = m.lcRes 0 true := if_pos h

/-- The fuses of a higher SVN are blown; a free value says whether they read back (R664). -/
theorem Mach.commitSvn_raises (h : m.fld A.LC_SVN 15 0 < m.fld A.LC_SVN 31 16) :
    m.commitSvn.rd A.LC_RES = (if (Config.freeBits m.free).toNat.testBit 0 then 0x80000008 else 0x80000000) ∧ m.commitSvn.free = m.free + 1 ∧
      m.commitSvn.fld A.LC_SVN 15 0 = (if (Config.freeBits m.free).toNat.testBit 0 then m.fld A.LC_SVN 15 0 else m.fld A.LC_SVN 31 16) := by
  rw [Mach.commitSvn, if_neg (by omega)]
  dsimp only [Mach.draw]
  split
  · exact ⟨Mach.lcRes_rd _ _ _, rfl, Mach.fld_of_rd (Mach.lcRes_other _ _ _ (by decide)) 15 0⟩
  · refine ⟨Mach.lcRes_rd _ _ _, rfl, ?_⟩
    rw [Mach.fld_of_rd (Mach.lcRes_other _ _ _ (by decide)), Mach.fld_put_same _ _ _ _ _ (by decide) (by decide)]
    exact Nat.mod_eq_of_lt (bitsOf_lt _ 31 16)

/-- Half A is to be reloaded (R662). -/
def Mach.halfAStops (m : Mach) : Mach := { (m.put A.FW_STS 2 0 4) with sys := { m.sys with reload := [0, 1, 2, 3] } }

/-- Half A runs the staged bank, and half B is to be reloaded (R662). -/
def Mach.halfBStops (m : Mach) : Mach := { (m.put A.FW_STS 2 0 5) with sys := { m.sys with reload := [4, 5, 6, 7], meas := m.measureStage 1 } }

theorem Mach.fwState_put {st : Nat} (h : st < 8) : (m.put A.FW_STS 2 0 st).fwState = st :=
  (m.fld_put_same _ _ _ _ (by decide) (by decide)).trans (Nat.mod_eq_of_lt h)

theorem Mach.halfAStops_outcome : m.halfAStops.fwState = 4 ∧ ∀ c : Fin 8, c.val < 4 → m.halfAStops.coreOn c = false := by
  refine ⟨m.fwState_put (by decide), fun c hc => ?_⟩
  have hin : m.halfAStops.sys.reload.contains c.val = true := by
    have hfour : ∀ n < 4, [0, 1, 2, 3].contains n = true := by decide
    exact hfour c.val hc
  rw [Mach.coreOn, hin]
  simp

theorem Mach.otherBank_le : m.otherBank ≤ 1 := Nat.sub_le _ _

theorem Mach.activated_outcome
    (h : m.fld A.FW_ASEQ (31 - 16 * m.otherBank) (16 - 16 * m.otherBank) < 65535) : m.activated.fwState = 0 ∧ m.activated.sys.reload = [] ∧
      m.activated.sys.meas = m.measureStage 2 ∧ m.activated.fld A.FW_ASEQ (16 * m.otherBank + 15) (16 * m.otherBank) =
        m.fld A.FW_ASEQ (31 - 16 * m.otherBank) (16 - 16 * m.otherBank) + 1 := by
  have hb := m.otherBank_le
  refine ⟨Mach.fwState_put _ (by decide), rfl, rfl, ?_⟩
  refine (Mach.fld_put_other _ _ _ _ _ _ _ _ (by decide)).trans ((m.fld_put_same _ _ _ _ (by omega) (by omega)).trans (Nat.mod_eq_of_lt ?_))
  rw [show 16 * m.otherBank + 15 + 1 - 16 * m.otherBank = 16 by omega]
  omega

end

/-! ### The commands as writes of LC_CMD -/

section

variable {s : State} {who : Ident} {v : Word} {c : Instr} {k : Nat} {a n : Mach} {P : Mach → Prop}

/-- A command of the window with the right key. -/
theorem gives_lcCommand (hx : exec c s = s.onMach (fun m => m.writeWhen (decide (v.toNat % 16 = k)) who A.LC_CMD v.toNat))
    (ho : s.m.writeOpen who A.LC_CMD ∧ s.m.bit A.LC_RES 31 = true ∧ bitsOf v.toNat 31 16 = 0x4C43) (hv : v.toNat % 16 = k)
    (ha : s.m.lcAsked v = a) (hn : a.lcCommanded v.toNat k = n) (hp : P n.answered) : Gives c s P := by
  obtain ⟨hw, hr, hk⟩ := ho
  refine gives_writeWhen hx (decide_eq_true hv) (s.m.write_LC_CMD who v.toNat v.isLt hw) ?_
  rw [show (s.m.plainWords 0x06F [(0x3C, v.toNat)]).writeLcCmd v.toNat = n from
    ((s.m.lcAsked v).writeLcCmd_keyed ((s.m.lcAsked_res v).trans hr) hk).trans (by rw [hv, ha]; exact hn)]
  exact hp

/-- An event of the activation that is due. -/
theorem gives_fwActivate (hf : s.m.fwState = 3) (hp : s.m.rd64 A.FW_AT_LO ≤ s.m.phase) (h : P s.m.halfAStops) : Gives .fwActivate s P :=
  gives_due (fun m => (decide (m.fwState = 3) && decide (m.rd64 A.FW_AT_LO ≤ m.phase)) = true) (f := Mach.halfAStops) rfl (by simp [hf, hp]) h

end

/-- Settles O51: a case per command and event, and per outcome. -/
theorem lifeCycleComplete : Obligations.LifeCycleComplete := by
  intro s who v n open_
  have ha : s.m.lcAsked v = n := rfl
  clear_value n
  refine ⟨fun ho hv => ?_, fun ho hv ht => ?_, fun ho hv hl hd hf hp => ?_, fun ho hv hl hd hf hp => ?_, fun ho hv => ?_,
    fun m1 b ho hv hf hr => ?_, fun b hs hr => ?_, fun b hs hr => ?_, fun hs => ?_, fun ho hv hf => ?_, fun ho hv hf => ?_, fun ho hv hf => ?_,
    fun ho hv hf => ?_, fun ho hv hle => ?_, fun ho hv hlt => ?_, fun hw hr hk hv => ?_, fun hf hp => ?_, fun hp => ?_, fun hf hi => ?_,
    fun hf hi hq => ?_, fun hf => ?_⟩
  · exact gives_lcCommand (k := 1) rfl ho hv ha rfl rfl
  · obtain ⟨hres, hlcs, hnonce, hreset⟩ := n.refused_outcome 3
    refine gives_lcCommand (k := 1) rfl ho hv ha (n.lcTransition_refused (by decide) (n.transCheck_none ht)) ?_
    exact ⟨hres, hlcs, (Mach.answered_rd64 _ _).trans hnonce, hreset⟩
  · have hcheck : n.transCheck 2 = (n, 0) := by
      rw [n.transCheck_tokenless (by rw [hl]; rfl) hf (by decide), if_neg]
      exact fun h => by
        obtain ⟨p, hp0, hp1⟩ := n.anyPart_iff.1 h
        exact hp1 (hp p hp0)
    obtain ⟨hres, hlcs, hreset⟩ := n.transition_blown (dst := 2) (by decide) (by omega) (by decide)
    have hrun : n.lcTransition (bitsOf v.toNat 11 8) = (n.transition 2).newNonce := by rw [hd, n.lcTransition_accepted hcheck]
    refine gives_lcCommand (k := 1) rfl ho hv ha hrun ?_
    exact ⟨(Mach.newNonce_lcRes _).trans hres, (Mach.newNonce_lcs _).trans hlcs, hreset, Or.inr hreset⟩
  · have hcheck : n.transCheck 3 = (n, 5) := by
      rw [n.transCheck_tokenless (by rw [hl]; rfl) hf (by decide), if_pos (n.anyPart_iff.2 hp)]
    obtain ⟨hres, hlcs, -, hreset⟩ := n.refused_outcome 5
    have hrun : n.lcTransition (bitsOf v.toNat 11 8) = (n.lcRes 5 true).newNonce := by rw [hd, n.lcTransition_refused (by decide) hcheck]
    refine gives_lcCommand (k := 1) rfl ho hv ha hrun ?_
    exact ⟨(Mach.answered_rd _ _).trans hres, (Mach.answered_lcs _).trans (hlcs.trans hl), hreset⟩
  · exact gives_lcCommand (k := 2) rfl ho hv ha rfl rfl
  · obtain ⟨hstate, hstaging, hres⟩ := m1.stagingBegun_outcome b
    exact gives_lcCommand (k := 2) rfl ho hv ha (n.fwStage_begins hf hr)
      ⟨(Mach.answered_fwState _).trans hstate, hstaging, (Mach.answered_rd _ _).trans hres⟩
  · exact gives_onMach (f := fun m => match m.sys.staging with | some b => m.fwStageDone b | none => m) rfl
      (by rw [hs]; exact s.m.fwStageDone_verified_outcome hr)
  · exact gives_onMach (f := fun m => match m.sys.staging with | some b => m.fwStageDone b | none => m) rfl
      (by rw [hs]; exact s.m.fwStageDone_failed_outcome hr)
  · exact unmoved_onMach (f := fun m => match m.sys.staging with | some b => m.fwStageDone b | none => m) rfl (by rw [hs])
  · obtain ⟨hstate, hres⟩ := n.fwArm_staged hf
    exact gives_lcCommand (k := 3) (n := n.fwArm) rfl ho hv ha rfl ⟨(Mach.answered_fwState _).trans hstate, (Mach.answered_rd _ _).trans hres⟩
  · obtain ⟨hstate, hres⟩ := n.fwArm_refused hf
    exact gives_lcCommand (k := 3) (n := n.fwArm) rfl ho hv ha rfl ⟨(Mach.answered_fwState _).trans hstate, (Mach.answered_rd _ _).trans hres⟩
  · obtain ⟨hstate, hres⟩ := n.fwDisarm_armed hf
    exact gives_lcCommand (k := 4) (n := n.fwDisarm) rfl ho hv ha rfl ⟨(Mach.answered_fwState _).trans hstate, (Mach.answered_rd _ _).trans hres⟩
  · obtain ⟨hstate, hres⟩ := n.fwDisarm_refused hf
    exact gives_lcCommand (k := 4) (n := n.fwDisarm) rfl ho hv ha rfl ⟨(Mach.answered_fwState _).trans hstate, (Mach.answered_rd _ _).trans hres⟩
  · exact gives_lcCommand (k := 5) rfl ho hv ha (n.commitSvn_even hle) rfl
  · obtain ⟨hres, hfree, hsvn⟩ := n.commitSvn_raises hlt
    exact gives_lcCommand (k := 5) (n := n.commitSvn) rfl ho hv ha rfl ⟨(Mach.answered_rd _ _).trans hres, hfree, (Mach.answered_fld _ _ _ _).trans hsvn⟩
  · refine gives_writeWhen rfl (decide_eq_true hv) (s.m.write_LC_CMD who v.toNat v.isLt hw) ?_
    rw [show (s.m.plainWords 0x06F [(0x3C, v.toNat)]).writeLcCmd v.toNat = n.lcRes 2 true from
      ha ▸ (s.m.lcAsked v).writeLcCmd_unkeyed ((s.m.lcAsked_res v).trans hr) hk (by omega)]
    exact ⟨n.lcRes_rd 2 true, n.lcRes_fwState 2 true⟩
  · exact gives_fwActivate hf hp s.m.halfAStops_outcome
  · exact unmoved_not_due (fun m => (decide (m.fwState = 3) && decide (m.rd64 A.FW_AT_LO ≤ m.phase)) = true) (f := Mach.halfAStops) rfl
      (by simp [hp])
  · exact gives_due (fun m => (decide (m.fwState = 4) && m.halfIdle [0, 1, 2, 3]) = true) (f := Mach.halfBStops) rfl
      (by rw [hi, decide_eq_true hf]; rfl) ⟨s.m.fwState_put (by decide), rfl, rfl⟩
  · exact gives_due (fun m => (decide (m.fwState = 5) && m.halfIdle [4, 5, 6, 7]) = true) (f := Mach.activated) rfl
      (by rw [hi, decide_eq_true hf]; rfl) (s.m.activated_outcome hq)
  · exact unmoved_not_due (fun m => (decide (m.fwState = 5) && m.halfIdle [4, 5, 6, 7]) = true) (f := Mach.activated) rfl (by simp [hf])

end Sys2Proof.Machine

namespace Sys2Proof.Machine

/-! ### What an answer leaves of sessions and work (R546) -/

section

variable (m : Mach) {p : Nat}

/-- An answer to a request, counted where the request is marked. -/
def Mach.markedAnswer (m : Mach) (clear : Bool) (ing : Ingress) (k : Pkt) (opc : BitVec 8) (b : List Byte) : Mach :=
  (m.mark k).respondWith clear ing k opc b

/-- An answer changes what waits to leave, statistics of the links and counters of the partition. -/
theorem Mach.afterAnswer_frame {n : Mach} {k : Pkt} (h : n.afterAnswer m k) : n.att = m.att ∧
    ∀ a, a < 0x100000 → n.rd a = m.rd a := by
  obtain ⟨heq, -, hrd⟩ := h
  refine ⟨by rw [heq], fun a ha => hrd a ?_ ?_⟩
  · simp only [A.BRL_NOROUTE]
    omega
  · simp only [A.HRMP_RNR]
    omega

theorem Mach.markedAnswer_frame (clear : Bool) (ing : Ingress) (k : Pkt) (opc : BitVec 8) (b : List Byte) :
    (m.markedAnswer clear ing k opc b).att = m.att ∧ ∀ a, a < 0x100000 → (m.markedAnswer clear ing k opc b).rd a = m.rd a :=
  m.afterAnswer_frame (Mach.afterAnswer_trans m.mark_outcome.1 (Mach.afterAnswer_respondWith _ clear ing opc b))

theorem Mach.markAnswer_frame (k : Pkt) (ing : Ingress) (opc : BitVec 8) (a : Ans) :
    ((m.mark k).answer ing opc k a).att = m.att ∧ ∀ b, b < 0x100000 → ((m.mark k).answer ing opc k a).rd b = m.rd b :=
  m.afterAnswer_frame (Mach.afterAnswer_trans m.mark_outcome.1 (Mach.afterAnswer_answer _ ing opc a))

theorem Mach.answer_frame (k : Pkt) (ing : Ingress) (opc : BitVec 8) (a : Ans) :
    (m.answer ing opc k a).att = m.att ∧ ∀ b, b < 0x100000 → (m.answer ing opc k a).rd b = m.rd b :=
  m.afterAnswer_frame (m.afterAnswer_answer ing opc a)

/-! ### The end of a session (R551) -/

theorem Mach.closeSess_sess (cause : Nat) : tfind (m.closeSess p cause).att.sess p = none := by
  unfold Mach.closeSess
  dsimp only
  split <;> exact tfind_terase _ _

theorem Mach.closeSess_sys (cause : Nat) : (m.closeSess p cause).sys = m.sys := by
  unfold Mach.closeSess
  dsimp only
  split <;> rfl

/-- A session that is not IDLE ends with its cause. -/
theorem Mach.closeSess_outcome {cause : Nat} (hc : cause < 256) (h : m.fld (A.SESS_STS p) 1 0 ≠ 0) :
    (m.closeSess p cause).fld (A.SESS_STS p) 1 0 = 0 ∧ (m.closeSess p cause).fld (A.SESS_STS p) 23 16 = cause ∧
      (m.closeSess p cause).rd (A.SESS_CTR p) = 0 ∧ tfind (m.closeSess p cause).att.sess p = none := by
  have hne : A.SESS_STS p ≠ A.SESS_CTR p := by simp only [A.SESS_STS, A.SESS_CTR]; omega
  have hclosed : (m.closeSess p cause).regs = (((m.put (A.SESS_STS p) 23 16 cause).put (A.SESS_STS p) 1 0 0).wr (A.SESS_CTR p) 0).regs := by
    unfold Mach.closeSess
    dsimp only
    rw [if_neg (show ¬ Mach.fld { m with att := { m.att with sess := terase m.att.sess p } } (A.SESS_STS p) 1 0 = 0 from h)]
    rfl
  refine ⟨?_, ?_, (Mach.rd_of_regs hclosed _).trans (Mach.rd_wr_same _ _ _), m.closeSess_sess cause⟩
  · exact (Mach.fld_of_regs hclosed _ _ _).trans ((Mach.fld_wr_other _ _ _ _ _ _ hne).trans (Mach.fld_put_same _ _ _ _ _ (by decide) (by decide)))
  · refine (Mach.fld_of_regs hclosed _ _ _).trans ((Mach.fld_wr_other _ _ _ _ _ _ hne).trans ?_)
    exact (Mach.fld_put_disjoint _ _ _ _ _ _ _ (by decide) (by decide) (by decide)).trans
      ((m.fld_put_same _ _ _ _ (by decide) (by decide)).trans (Nat.mod_eq_of_lt hc))

/-! ### Releases (R546, R548 to R551, R556) -/

theorem Mach.dropWork_work : tfind (m.dropWork p).att.work p = none := tfind_terase _ _

theorem Mach.attestRelease_eq (w : KaolinWork) : ∃ b, m.attestRelease p w =
    ((m.draw.2.dropWork p).bump A.ATT_SIGNED).markedAnswer true w.req.ing w.req.pkt 0x52 b := ⟨_, rfl⟩

theorem Mach.attestRelease_outcome (w : KaolinWork) : tfind (m.attestRelease p w).att.work p = none ∧
    (m.attestRelease p w).rd A.ATT_SIGNED = BitVec.ofNat 32 (min ((m.rd A.ATT_SIGNED).toNat + 1) (2 ^ 32 - 1)) := by
  obtain ⟨b, hb⟩ := m.attestRelease_eq (p := p) w
  obtain ⟨hatt, hrd⟩ := ((m.draw.2.dropWork p).bump A.ATT_SIGNED).markedAnswer_frame true w.req.ing w.req.pkt 0x52 b
  rw [hb, hatt, hrd _ (by decide), Mach.rd_bump]
  exact ⟨tfind_terase _ _, rfl⟩

/-- The work is dropped, and an ACTIVE session closes. -/
def Mach.sessionCleared (m : Mach) (p : Nat) : Mach := (if m.fld (A.SESS_STS p) 1 0 = 2 then m.closeSess p 2 else m).dropWork p

/-- Session `x` is PENDING. -/
def Mach.sessionPending (m : Mach) (p : Nat) (x : TenSess) : Mach :=
  ((({ m with att := { m.att with sess := tset m.att.sess p x } } : Mach).put (A.SESS_STS p) 1 0 1).put (A.SESS_STS p) 15 8 0).wr (A.SESS_CTR p) 0

/-- The opening is counted. -/
def Mach.sessionCounted (m : Mach) (p : Nat) : Mach := (m.bump (A.SESS_OPENS p)).bump A.ATT_SIGNED

theorem Mach.sessionCleared_sys : (m.sessionCleared p).sys = m.sys := by
  unfold Mach.sessionCleared
  split
  · exact m.closeSess_sys 2
  · rfl

theorem Mach.sessionCleared_work : tfind (m.sessionCleared p).att.work p = none := Mach.dropWork_work _

theorem Mach.sessionOpen_eq (w : KaolinWork) : ∃ (k : Mach) (x : TenSess) (rsp : List Byte), k.sys = m.sys ∧ x.init = w.req.pkt.payload ∧ x.ctr = 0 ∧ x.authing = false ∧
    x.since = m.sys.slots ∧ m.sessionOpen p w =
      (((k.sessionCleared p).sessionPending p x).sessionCounted p).markedAnswer true w.req.ing w.req.pkt 0x54 rsp := by
  refine ⟨(m.draw.2.drawBytes 8).2.draw.2, _, _, rfl, ?_, ?_, ?_, ?_, rfl⟩
  · rfl
  · rfl
  · rfl
  · exact congrArg SysSt.slots (Mach.sessionCleared_sys (p := p) _)

theorem Mach.sessionPending_outcome (x : TenSess) : (m.sessionPending p x).fld (A.SESS_STS p) 1 0 = 1 ∧
    (m.sessionPending p x).fld (A.SESS_STS p) 15 8 = 0 ∧ (m.sessionPending p x).rd (A.SESS_CTR p) = 0 ∧
    tfind (m.sessionPending p x).att.sess p = some x ∧ (m.sessionPending p x).att.work = m.att.work := by
  have hne : A.SESS_STS p ≠ A.SESS_CTR p := by simp only [A.SESS_STS, A.SESS_CTR]; omega
  refine ⟨?_, ?_, Mach.rd_wr_same _ _ _, tfind_tset_same _ _ _, rfl⟩
  · exact (Mach.fld_wr_other _ _ _ _ _ _ hne).trans ((Mach.fld_put_disjoint _ _ _ _ _ _ _ (by decide) (by decide) (by decide)).trans
      (Mach.fld_put_same _ _ _ _ _ (by decide) (by decide)))
  · exact (Mach.fld_wr_other _ _ _ _ _ _ hne).trans (Mach.fld_put_same _ _ _ _ _ (by decide) (by decide))

theorem Mach.sessionCounted_rd {a : Nat} (ho : a ≠ A.SESS_OPENS p) (hs : a ≠ A.ATT_SIGNED) : (m.sessionCounted p).rd a = m.rd a :=
  (Mach.rd_bumpF_other _ _ _ _ _ _ hs).trans (m.rd_bumpF_other _ _ _ _ _ ho)

/-- The session that a release opens (R550, R551). -/
theorem Mach.sessionOpen_outcome (w : KaolinWork) (hp : p < 16) : tfind (m.sessionOpen p w).att.work p = none ∧
    (m.sessionOpen p w).fld (A.SESS_STS p) 1 0 = 1 ∧ (m.sessionOpen p w).fld (A.SESS_STS p) 15 8 = 0 ∧ (m.sessionOpen p w).rd (A.SESS_CTR p) = 0 ∧
    ∃ x, tfind (m.sessionOpen p w).att.sess p = some x ∧ x.init = w.req.pkt.payload ∧ x.ctr = 0 ∧ x.authing = false ∧ x.since = m.sys.slots := by
  obtain ⟨k, x, rsp, -, hinit, hctr, hauth, hsince, heq⟩ := m.sessionOpen_eq (p := p) w
  obtain ⟨hatt, hrd⟩ := (((k.sessionCleared p).sessionPending p x).sessionCounted p).markedAnswer_frame true w.req.ing w.req.pkt 0x54 rsp
  obtain ⟨hstate, hfails, hcount, hsess, hwork⟩ := (k.sessionCleared p).sessionPending_outcome (p := p) x
  have hkeep : ∀ a, a < 0x100000 → a ≠ A.SESS_OPENS p → a ≠ A.ATT_SIGNED →
      (m.sessionOpen p w).rd a = ((k.sessionCleared p).sessionPending p x).rd a := fun a ha ho hs => by
    rw [heq, hrd a ha, Mach.sessionCounted_rd _ ho hs]
  have hsts := hkeep (A.SESS_STS p) (by simp only [A.SESS_STS]; omega) (by simp only [A.SESS_STS, A.SESS_OPENS]; omega)
    (by simp only [A.SESS_STS, A.ATT_SIGNED]; omega)
  refine ⟨?_, (Mach.fld_of_rd hsts 1 0).trans hstate, (Mach.fld_of_rd hsts 15 8).trans hfails, ?_, x, ?_, hinit, hctr, hauth, hsince⟩
  · rw [heq, hatt]
    exact (congrArg (fun t => tfind t p) hwork).trans k.sessionCleared_work
  · exact (hkeep _ (by simp only [A.SESS_CTR]; omega) (by simp only [A.SESS_CTR, A.SESS_OPENS]; omega)
      (by simp only [A.SESS_CTR, A.ATT_SIGNED]; omega)).trans hcount
  · rw [heq, hatt]
    exact hsess

/-! ### The end of AUTH and the time limit (R551) -/

/-- Session `x` is ACTIVE after its AUTH. -/
def Mach.sessionActive (m : Mach) (p : Nat) (x : TenSess) : Mach :=
  (({ m with att := { m.att with sess := tset m.att.sess p { x with ctr := x.ctr + 1, authing := false } } } : Mach).put (A.SESS_STS p) 1 0 2).wr
    (A.SESS_CTR p) (BitVec.ofNat 32 (x.ctr + 1))

variable {w : KaolinWork} {x : TenSess}

theorem Mach.authEnd_of_ok (hx : tfind m.att.sess p = some x) (hok : w.ok = true) :
    m.authEnd p w = (((m.dropWork p).sessionActive p x).mark w.req.pkt).answer w.req.ing 0x50 w.req.pkt (.ack 0) := by
  have hs : tfind (m.dropWork p).att.sess p = some x := hx
  unfold Mach.authEnd
  simp only [hs, hok, if_true]
  rfl

theorem Mach.authEnd_of_not_ok (hx : tfind m.att.sess p = some x) (hok : w.ok = false) :
    m.authEnd p w = ((m.dropWork p).closeSess p 3).answer w.req.ing 0x50 w.req.pkt (.nak 0x14 (fieldAt w.data 0x12 2)) := by
  have hs : tfind (m.dropWork p).att.sess p = some x := hx
  unfold Mach.authEnd
  simp only [hs, hok, if_false, Bool.false_eq_true]

theorem Mach.authEnd_active (hp : p < 16) (hx : tfind m.att.sess p = some x) (hok : w.ok = true) :
    (m.authEnd p w).fld (A.SESS_STS p) 1 0 = 2 ∧ (m.authEnd p w).rd (A.SESS_CTR p) = BitVec.ofNat 32 (x.ctr + 1) ∧
      tfind (m.authEnd p w).att.sess p = some { x with ctr := x.ctr + 1, authing := false } := by
  have hne : A.SESS_STS p ≠ A.SESS_CTR p := by simp only [A.SESS_STS, A.SESS_CTR]; omega
  obtain ⟨hatt, hrd⟩ := ((m.dropWork p).sessionActive p x).markAnswer_frame w.req.pkt w.req.ing 0x50 (.ack 0)
  rw [m.authEnd_of_ok hx hok]
  refine ⟨(Mach.fld_of_rd (hrd _ (by simp only [A.SESS_STS]; omega)) 1 0).trans ?_,
    (hrd _ (by simp only [A.SESS_CTR]; omega)).trans (Mach.rd_wr_same _ _ _), ?_⟩
  · exact (Mach.fld_wr_other _ _ _ _ _ _ hne).trans (Mach.fld_put_same _ _ _ _ _ (by decide) (by decide))
  · rw [hatt]
    exact tfind_tset_same _ _ _

theorem Mach.authEnd_idle (hp : p < 16) (hx : tfind m.att.sess p = some x) (hok : w.ok = false) (h : m.fld (A.SESS_STS p) 1 0 ≠ 0) :
    (m.authEnd p w).fld (A.SESS_STS p) 1 0 = 0 ∧ (m.authEnd p w).fld (A.SESS_STS p) 23 16 = 3 ∧ tfind (m.authEnd p w).att.sess p = none := by
  obtain ⟨hatt, hrd⟩ := ((m.dropWork p).closeSess p 3).answer_frame w.req.pkt w.req.ing 0x50 (.nak 0x14 (fieldAt w.data 0x12 2))
  obtain ⟨hstate, hcause, -, hsess⟩ := (m.dropWork p).closeSess_outcome (p := p) (cause := 3) (by decide) h
  have hsts := hrd (A.SESS_STS p) (by simp only [A.SESS_STS]; omega)
  rw [m.authEnd_of_not_ok hx hok]
  exact ⟨(Mach.fld_of_rd hsts 1 0).trans hstate, (Mach.fld_of_rd hsts 23 16).trans hcause, by rw [hatt]; exact hsess⟩

/-- A session whose time limit has come is PENDING. -/
theorem Mach.sessionLate_open (h : m.sessionLate p = true) : m.fld (A.SESS_STS p) 1 0 ≠ 0 := by
  unfold Mach.sessionLate at h
  split at h
  · simp only [Bool.and_eq_true, decide_eq_true_eq] at h
    omega
  · exact absurd h Bool.false_ne_true

/-! ### Imports (R558) -/

theorem MemMoved.att {n : Mach} (h : MemMoved p m n) : n.att = m.att := by rw [h.1]

theorem Mach.importEnd_imports (i : Import) (code : Nat) : tfind (m.importEnd p i code).att.imports p = none := by
  unfold Mach.importEnd
  dsimp only
  rw [Mach.ctrAdd_att, MemMoved.att _ (Mach.vwrite_moved _ 3 p i.status _)]
  exact tfind_terase _ _

/-- The import is over once its work has run. -/
theorem Mach.importRun_imports (i : Import) : tfind (m.importRun p i).att.imports p = none := by
  unfold Mach.importRun
  dsimp only
  repeat' split
  all_goals exact Mach.importEnd_imports _ _ _

theorem Mach.importRun_of_no_key {i : Import} {n : Mach} (h : m.loadKey p i.slot 2 = (n, none)) : m.importRun p i = n.importEnd p i 1 := by
  unfold Mach.importRun
  rw [h]

/-- The CODE of an import whose data were read: by the store of the plaintext, then by the tag. -/
theorem Mach.importRun_of_read {i : Import} {m1 m2 m3 : Mach} {key h b : List Byte} (hkey : m.loadKey p i.slot 2 = (m1, some key))
    (hhead : m1.vread 3 p i.src 64 = (m2, .ok h)) (hok : weightHeadOk h = true)
    (hapart : ¬ (i.src < i.dst + fieldAt h 8 8 ∧ i.dst < i.src + fieldAt h 8 8 + 80))
    (hbody : m2.vread 3 p (i.src + 64) (fieldAt h 8 8 + 16) = (m3, .ok b)) {r : Option Bytes}
    (hr : gcmOpen (toNats key) (toNats (slice h 0x10 12)) (toNats h) (toNats (b.take (fieldAt h 8 8))) (toNats (b.drop (fieldAt h 8 8))) = r) :
    m.importRun p i =
      (let w := m3.vwrite 3 p i.dst (match (generalizing := false) r with | some pt => toBytes pt | none => List.replicate (fieldAt h 8 8) 0)
      w.1.importEnd p i (match w.2 with | some e => e.importCode | none => if r.isSome then 0 else 2)) := by
  unfold Mach.importRun
  have hapart' : (decide (i.src < i.dst + fieldAt h 8 8) && decide (i.dst < i.src + fieldAt h 8 8 + 80)) = false := by
    simpa only [Bool.and_eq_false_iff, decide_eq_false_iff_not, not_and_or] using hapart
  simp only [hkey, hhead, hok, hapart', hbody, hr, Bool.not_true, Bool.false_eq_true, if_false]
  cases r with
  | some pt =>
    simp only [Option.isSome_some, if_true]
    split <;> rename_i heq <;> rw [heq]
  | none =>
    simp only [Option.isSome_none, Bool.false_eq_true, if_false]
    split <;> rename_i heq <;> rw [heq]

end

/-! ### The statement -/

theorem gives_work {c : Instr} {s : State} {p : Nat} {kinds : List Nat} {f : Mach → KaolinWork → Mach} {P : Mach → Prop} {w : KaolinWork}
    (hx : exec c s = s.onMach (fun m => match m.dueWork p kinds with | some w => f m w | none => m)) (hw : s.m.dueWork p kinds = some w)
    (hp : P (f s.m w)) : Gives c s P := gives_onMach hx (by simpa only [hw] using hp)

theorem unmoved_no_work {c : Instr} {s : State} {p : Nat} {kinds : List Nat} {f : Mach → KaolinWork → Mach}
    (hx : exec c s = s.onMach (fun m => match m.dueWork p kinds with | some w => f m w | none => m)) (hw : s.m.dueWork p kinds = none) :
    Unmoved c s := unmoved_onMach hx (by simp only [hw])

theorem gives_import {c : Instr} {s : State} {p : Nat} {P : Mach → Prop} {i : Import}
    (hx : exec c s = s.onMach (fun m => match tfind m.att.imports p with | some i => m.importRun p i | none => m))
    (hi : tfind s.m.att.imports p = some i) (hp : P (s.m.importRun p i)) : Gives c s P := gives_onMach hx (by simpa only [hi] using hp)

/-- The machine after the answer that sends a session response again. -/
theorem Mach.sessionAgain_eq {m : Mach} {p : Nat} {w : KaolinWork} {x : TenSess} (hx : tfind m.att.sess p = some x) :
    m.sessionAgain p w = ((m.dropWork p).mark w.req.pkt).respondWith true w.req.ing w.req.pkt 0x54 x.rsp := by
  unfold Mach.sessionAgain
  rw [hx]

theorem Mach.sessionAgain_sess {m : Mach} {p : Nat} {w : KaolinWork} {x : TenSess} (hx : tfind m.att.sess p = some x) :
    tfind (m.sessionAgain p w).att.sess p = some x := by
  rw [Mach.sessionAgain_eq hx]
  have h := ((m.dropWork p).markedAnswer_frame true w.req.ing w.req.pkt 0x54 x.rsp).1
  exact (congrArg (fun t : AttSt => tfind t.sess p) h).trans hx

/-- Settles O54: each release runs on the work that is due, and each import ends once, with the CODE of its first failure. -/
theorem sessionReleasesComplete : Obligations.SessionReleasesComplete := by
  unfold Obligations.SessionReleasesComplete
  intro s p w
  refine ⟨fun hw => ?_, fun hw => ?_, fun hw hk => ?_, fun x hw hk hx => ?_, fun x hw hx hok => ?_, fun x hw hx hok hs => ?_, fun hw => ?_,
    fun hl => ?_, fun hl => ?_, fun i hi => ?_, fun i m1 hi hkey => ?_,
    fun i m1 m2 m3 key h b r hi hkey hhead hok hapart hbody hr => ?_, fun hi => ?_⟩
  case refine_1 => exact gives_work (f := fun m w => m.attestRelease p w) rfl hw (And.intro rfl (s.m.attestRelease_outcome w))
  case refine_2 => exact unmoved_no_work (f := fun m w => m.attestRelease p w) rfl hw
  case refine_3 =>
    refine gives_work (f := fun m w => if w.kind = 1 then m.sessionOpen p w else m.sessionAgain p w) rfl hw ?_
    rw [if_pos hk]
    exact ⟨rfl, s.m.sessionOpen_outcome w p.isLt⟩
  case refine_4 =>
    refine gives_work (f := fun m w => if w.kind = 1 then m.sessionOpen p w else m.sessionAgain p w) rfl hw ?_
    simp only [hk, show ¬ (3 = 1) by decide, if_false]
    exact ⟨Mach.sessionAgain_eq hx, Mach.sessionAgain_sess hx⟩
  case refine_5 => exact gives_work (f := fun m w => m.authEnd p w) rfl hw (s.m.authEnd_active p.isLt hx hok)
  case refine_6 => exact gives_work (f := fun m w => m.authEnd p w) rfl hw (s.m.authEnd_idle p.isLt hx hok hs)
  case refine_7 => exact unmoved_no_work (f := fun m w => m.authEnd p w) rfl hw
  case refine_8 =>
    exact gives_due (fun m => m.sessionLate p) (f := fun m => m.closeSess p 4) rfl hl
      (s.m.closeSess_outcome (by decide) (s.m.sessionLate_open hl))
  case refine_9 =>
    exact unmoved_not_due (fun m => m.sessionLate p) (f := fun m => m.closeSess p 4) rfl (by simp only [hl, Bool.false_eq_true, not_false_eq_true])
  case refine_10 => exact gives_import rfl hi ⟨rfl, s.m.importRun_imports i⟩
  case refine_11 => exact gives_import rfl hi (s.m.importRun_of_no_key hkey)
  case refine_12 => exact gives_import rfl hi (s.m.importRun_of_read hkey hhead hok hapart hbody hr)
  case refine_13 =>
    exact unmoved_onMach (f := fun m => match tfind m.att.imports p with | some i => m.importRun p i | none => m) rfl (by simp only [hi])

end Sys2Proof.Machine

namespace Sys2Proof.Machine

/-! ### A write of the word that commits a pair (R7) -/

/-- The register at byte offset `off` stands at offset `o` of page `p`, is the upper word of a pair, and no page of it is slow. -/
def upperWord (off p o : Nat) : Bool :=
  resolvePage (off / 0x1000 % 0x1000) = p && resolveOff p (off % 0x1000) = o && off % 4 = 0 && 0x20 ≤ o && p < 0xF00 && !slowPage p &&
    (rowIn (pageRows p) o).any (fun r => mwInfo p o r = (2, 1))

section

variable {m : Mach} {who : Ident} {off p o v : Nat}

/-- A write of an upper word that passes every filter commits the pair and answers OK. -/
theorem Mach.writeCmd_pair (hr : upperWord off p o = true) (hv : v < 2 ^ 32) (h : m.writeOpen who off) :
    m.writeCmd who off v = ((m.dropHeld who p o 2).commit who p (m.heldWords who p o 2 v)).answered := by
  simp only [upperWord, Bool.and_eq_true, decide_eq_true_eq, Bool.not_eq_true'] at hr
  obtain ⟨⟨⟨⟨⟨⟨hp, ho⟩, hal⟩, hh⟩, ht⟩, hslow⟩, hr⟩ := hr
  obtain ⟨r, hrow⟩ := Option.isSome_iff_exists.1 (Option.isSome_of_any hr)
  have hw : mwInfo p o r = (2, 1) := by simpa [hrow] using hr
  simp only [Mach.writeOpen, hp, ho] at h
  obtain ⟨⟨ha, hg⟩, hre, hallow, hl, -⟩ := h
  have ho' : ¬ o < 32 := by omega
  rw [show dataMark p o = r.data by simp [dataMark, hrow, ho']] at hallow
  have hv' : v &&& 4294967295 = v := by
    rw [show (4294967295 : Nat) = 2 ^ 32 - 1 from rfl, Nat.and_two_pow_sub_one_eq_mod, Nat.mod_eq_of_lt hv]
  have ht' : ¬ (3840 ≤ p) := by omega
  simp only [Mach.writeCmd, ha, Mach.event_awake _ _ hg, Mach.regWrite, hp, ho, hre, hrow, if_neg ho', hallow, hal, hl, ht']
  simp [hv', Mach.writeRow, hw, hslow, Mach.answered]

/-- The words of a pair end with the one written. -/
theorem Mach.heldWords_append (m : Mach) (who : Ident) (p o len v : Nat) : ∃ l, m.heldWords who p o len v = l ++ [(o, v)] := ⟨_, rfl⟩

end

/-! ### The table root (R502, R519) -/

section

variable (m : Mach)

theorem Mach.commit_MMU_ROOT (who : Ident) (p : Fin 16) (l : List (Nat × Nat)) (v : Nat) :
    m.commit who (0x480 + p.val) (l ++ [(0x28, v)]) = m.writeMmuRoot p.val (m.lowWord (0x480 + p.val) (l ++ [(0x28, v)])) v := by
  unfold Mach.commit
  simp only [List.getLastD_concat]
  generalize m.lowWord (0x480 + p.val) (l ++ [(0x28, v)]) = lo
  generalize l ++ [(0x28, v)] = ws
  fin_cases p <;> simp [queueBase, Mach.cellOf, Mach.writeUnits]

theorem row_MMU_ROOT_HI : ∀ p : Fin 16, upperWord (A.MMU_ROOT_HI p.val) (0x480 + p.val) 0x28 = true := by decide

/-- The held words of a pair are spent where it is committed. -/
theorem Mach.write_MMU_ROOT_HI {who : Ident} {v : Nat} (p : Fin 16) (hv : v < 2 ^ 32) (h : m.writeOpen who (A.MMU_ROOT_HI p.val)) :
    ∃ lo, m.writeCmd who (A.MMU_ROOT_HI p.val) v = ((m.dropHeld who (0x480 + p.val) 0x28 2).writeMmuRoot p.val lo v).answered := by
  obtain ⟨l, hl⟩ := m.heldWords_append who (0x480 + p.val) 0x28 2 v
  exact ⟨_, by rw [Mach.writeCmd_pair (row_MMU_ROOT_HI p) hv h, hl, Mach.commit_MMU_ROOT]⟩

theorem Mach.invAll_outcome (p : Nat) : (m.invAll p).bit (A.MMU_INV_CTL p) 31 = false ∧
    (m.invAll p).mem.leaf = m.mem.leaf.filter (fun e => e.part ≠ p) ∧ (m.invAll p).mem.ptr = m.mem.ptr.filter (fun e => e.part ≠ p) :=
  ⟨Mach.bit_putBit_same _ _ _ _ (by decide), rfl, rfl⟩

theorem Mach.writeMmuRoot_taken {p : Nat} (lo hi : Nat) (h : m.retiring p = false) :
    (m.writeMmuRoot p lo hi).fld (A.MMU_ROOT_HI p) 7 0 = bitsOf hi 7 0 ∧ (m.writeMmuRoot p lo hi).bit (A.MMU_INV_CTL p) 31 = false ∧
      (m.writeMmuRoot p lo hi).mem.leaf = m.mem.leaf.filter (fun e => e.part ≠ p) := by
  unfold Mach.writeMmuRoot
  rw [if_neg (by rw [h]; exact Bool.false_ne_true)]
  obtain ⟨hdone, hleaf, -⟩ := ((m.put (A.MMU_ROOT_LO p) 31 21 (bitsOf lo 31 21)).put (A.MMU_ROOT_HI p) 7 0 (bitsOf hi 7 0)).invAll_outcome p
  refine ⟨(Mach.fld_putBit_other _ _ _ _ _ _ _ (by simp only [A.MMU_ROOT_HI, A.MMU_INV_CTL]; omega)).trans ?_, hdone, hleaf⟩
  exact (Mach.fld_put_same _ _ 7 0 _ (by decide) (by decide)).trans (Nat.mod_eq_of_lt (bitsOf_lt hi 7 0))

/-! ### The range of MMU_INV (R502) -/

theorem Mach.dropRange_leaf (p va n : Nat) (e : MmuEnt) : e ∈ (m.dropRange p va n).mem.leaf ↔
    e ∈ m.mem.leaf ∧ ¬ (e.part = p ∧ e.va < va + n ∧ va < e.va + lvlSpan e.lvl) := by
  simp only [Mach.dropRange, List.mem_filter, Bool.not_eq_true', Bool.and_eq_false_iff, decide_eq_false_iff_not, and_congr_right_iff]
  exact fun _ => by tauto

/-! ### Channels of a partition (R504, R510) -/

theorem Mach.chState_setChState (ch c st : Nat) (hst : st < 8) : (m.setChState ch st).chState c = if c = ch then st else m.chState c := by
  unfold Mach.chState Mach.setChState
  split_ifs with h
  · rw [h, Mach.fld_put_same _ _ _ _ _ (by decide) (by decide)]
    exact Nat.mod_eq_of_lt hst
  · exact Mach.fld_put_other _ _ _ _ _ _ _ _ (by simp only [A.MEM_CH_STS]; omega)

/-- A SEALED channel begins INIT. -/
def Mach.beginInit (a : Mach) (ch : Nat) : Mach := if a.chState ch = 1 then a.setChState ch 2 else a

theorem Mach.beginInit_chState (ch c : Nat) : (m.beginInit ch).chState c = if c = ch ∧ m.chState c = 1 then 2 else m.chState c := by
  unfold Mach.beginInit
  by_cases hc : c = ch
  · subst hc
    split_ifs <;> simp_all [Mach.chState_setChState]
  · split_ifs <;> simp_all [Mach.chState_setChState]

theorem Mach.beginInit_rd {ch a : Nat} (h : a ≠ A.MEM_CH_STS ch) : (m.beginInit ch).rd a = m.rd a := by
  unfold Mach.beginInit
  split
  · exact Mach.rd_put_other _ _ _ _ _ _ h
  · rfl

theorem Mach.beginInits_chState (l : List Nat) (c : Nat) :
    (l.foldl Mach.beginInit m).chState c = if c ∈ l ∧ m.chState c = 1 then 2 else m.chState c := by
  induction l generalizing m with
  | nil => simp
  | cons ch r ih =>
    rw [List.foldl_cons, ih, Mach.beginInit_chState]
    by_cases hc : c = ch
    · subst hc
      by_cases hs : m.chState c = 1 <;> simp [hs]
    · simp [hc]

theorem Mach.readyCheck_rd {p a : Nat} (h : a ≠ A.MMU_KEY p) : (m.readyCheck p).rd a = m.rd a := by
  unfold Mach.readyCheck
  split
  · exact Mach.rd_putBit_other _ _ _ _ _ h
  · rfl

theorem Mach.readyCheck_fld {p hi lo : Nat} (h32 : hi < 32) (h : 29 < lo ∨ hi < 29) :
    (m.readyCheck p).fld (A.MMU_KEY p) hi lo = m.fld (A.MMU_KEY p) hi lo := by
  unfold Mach.readyCheck
  split
  · exact Mach.fld_putBit_disjoint _ _ _ _ _ _ h32 h
  · rfl

theorem Mach.readyCheck_bit {p i : Nat} (h32 : i < 32) (h : i ≠ 29) : (m.readyCheck p).bit (A.MMU_KEY p) i = m.bit (A.MMU_KEY p) i := by
  unfold Mach.readyCheck
  split
  · exact Mach.bit_putBit_bit _ _ _ _ _ h32 h
  · rfl

theorem Mach.readyCheck_chState {p ch : Nat} (h : ch < 64) : (m.readyCheck p).chState ch = m.chState ch :=
  Mach.fld_of_rd (m.readyCheck_rd (by simp only [A.MEM_CH_STS, A.MMU_KEY]; omega)) 2 0

theorem Mach.mem_channelsOf {p c : Nat} : c ∈ m.channelsOf p ↔ c < 64 ∧ m.chOwner c = some p := by
  simp only [Mach.channelsOf, List.mem_filter, List.mem_range, decide_eq_true_eq]

/-- The word that installs a key: VALID, ITAG and SLOT. -/
def keyWord (slot : Nat) (itag : Bool) : Nat := 2 ^ 31 + b2n itag * 2 ^ 30 + slot

theorem keyWord_fields {slot : Nat} (itag : Bool) (h : slot < 512) : bitsOf (keyWord slot itag % 2 ^ 32) 8 0 = slot ∧
    bitOf (keyWord slot itag % 2 ^ 32) 31 = true ∧ bitOf (keyWord slot itag % 2 ^ 32) 30 = itag := by
  rw [bitOf_eq_bitsOf, bitOf_eq_bitsOf]
  cases itag <;> simp only [bitsOf, keyWord, b2n, Nat.shiftRight_eq_div_pow, if_true, if_false, Bool.false_eq_true, decide_eq_true_eq,
    decide_eq_false_iff_not] <;> omega

/-- The channels of `p` once its key word is written. -/
def Mach.keyed (m : Mach) (p slot : Nat) (itag : Bool) : Mach := m.wr (A.MMU_KEY p) (BitVec.ofNat 32 (keyWord slot itag))

theorem Mach.installMemKey_eq (p slot : Nat) (itag : Bool) : m.installMemKey p slot itag =
    (((m.keyed p slot itag).channelsOf p).foldl Mach.beginInit (m.keyed p slot itag)).readyCheck p := rfl

/-- A key that is installed: its word, and INIT of the SEALED channels of the partition (R504, R510). -/
theorem Mach.installMemKey_outcome {slot : Nat} (p : Fin 16) (itag : Bool) (h : slot < 512) :
    (m.installMemKey p slot itag).bit (A.MMU_KEY p) 31 = true ∧ (m.installMemKey p slot itag).fld (A.MMU_KEY p) 8 0 = slot ∧
      (m.installMemKey p slot itag).bit (A.MMU_KEY p) 30 = itag ∧ ∀ c : Fin 64, (m.installMemKey p slot itag).chState c =
        if m.chOwner c = some p.val ∧ m.chState c = 1 then 2 else m.chState c := by
  have hsts : ∀ c : Nat, c < 64 → A.MEM_CH_STS c ≠ A.MMU_KEY p := fun c hc => by simp only [A.MEM_CH_STS, A.MMU_KEY]; omega
  have hkey : (((m.keyed p slot itag).channelsOf p).foldl Mach.beginInit (m.keyed p slot itag)).rd (A.MMU_KEY p) = BitVec.ofNat 32 (keyWord slot itag) := by
    refine (foldl_keeps _ Mach.beginInit (fun a => a.rd (A.MMU_KEY p)) (fun a c hc => ?_) _).trans (Mach.rd_wr_same _ _ _)
    exact a.beginInit_rd (hsts c ((Mach.mem_channelsOf _).1 hc).1).symm
  obtain ⟨hslot, hvalid, hitag⟩ := keyWord_fields itag h
  rw [Mach.installMemKey_eq]
  refine ⟨(Mach.readyCheck_bit _ (by decide) (by decide)).trans ?_, (Mach.readyCheck_fld _ (by decide) (by decide)).trans ?_,
    (Mach.readyCheck_bit _ (by decide) (by decide)).trans ?_, fun c => (Mach.readyCheck_chState _ c.isLt).trans ?_⟩
  · rw [Mach.bit, hkey, BitVec.toNat_ofNat, hvalid]
  · rw [Mach.fld, hkey, BitVec.toNat_ofNat, hslot]
  · rw [Mach.bit, hkey, BitVec.toNat_ofNat, hitag]
  · have hrd : (m.keyed p slot itag).rd (A.MEM_CH_STS c) = m.rd (A.MEM_CH_STS c) := Mach.rd_wr_other _ _ _ _ (hsts c c.isLt)
    have hown : (m.keyed p slot itag).chOwner c = m.chOwner c := by
      rw [Mach.chOwner, Mach.bit_of_rd hrd, Mach.fld_of_rd hrd]
      rfl
    have hst : (m.keyed p slot itag).chState c = m.chState c := Mach.fld_of_rd hrd 2 0
    simp only [Mach.beginInits_chState, Mach.mem_channelsOf, hown, hst, c.isLt, true_and]

theorem Mach.writeMmuKey_installs {p v : Nat} (hfree : m.bit (A.MMU_KEY p) 31 = false) (hv : bitOf v 31 = true)
    (hs : m.xtsSlot p (bitsOf v 8 0) = true) : m.writeMmuKey p v = m.installMemKey p (bitsOf v 8 0) (bitOf v 30) := by
  unfold Mach.writeMmuKey
  simp only [hfree, hv, hs, if_true, if_false, Bool.false_eq_true]

theorem Mach.channelInitDone_state {ch : Nat} (h : ch < 64) : (m.channelInitDone ch).chState ch = 3 := by
  unfold Mach.channelInitDone
  dsimp only
  split
  · rw [Mach.readyCheck_chState _ h, Mach.chState_setChState _ _ _ _ (by decide), if_pos rfl]
  · rw [Mach.chState_setChState _ _ _ _ (by decide), if_pos rfl]

end


/-! ### Retirement of a channel (R516, R517) -/

section

variable (m : Mach)

theorem Mach.chState_putBit_ctl (ch c : Nat) (b : Bool) : (m.putBit (A.MEM_CH_CTL ch) 0 b).chState c = m.chState c :=
  Mach.fld_putBit_other _ _ _ _ _ _ _ (by simp only [A.MEM_CH_STS, A.MEM_CH_CTL]; omega)

theorem Mach.retire_unowned {ch : Nat} (h : m.chOwner ch = none) : m.retire ch = m.retireErr ch 8 := by
  unfold Mach.retire
  rw [h]

theorem Mach.retireErr_err (ch : Nat) {err : Nat} (h : err < 256) : (m.retireErr ch err).fld (A.MEM_MIG_STS ch) 31 24 = err := by
  unfold Mach.retireErr
  refine (Mach.fld_putBit_other _ _ _ _ _ _ _ (by simp only [A.MEM_MIG_STS, A.MEM_CH_CTL]; omega)).trans ?_
  exact (Mach.fld_put_same _ _ _ _ _ (by decide) (by decide)).trans (Nat.mod_eq_of_lt h)

/-- Channel `ch` of `p` begins to retire with a plan. -/
def Mach.retireBegin (m : Mach) (ch p mode : Nat) (plan : List MigPage) : Mach :=
  (((((m.setChState ch 4).putBit (A.MEM_CH_CTL ch) 0 true).wr (A.MEM_MIG_STS ch) 0).setMig ch mode plan).put (A.LOAM_MODE p) 1 0 3)

theorem Mach.retire_begins {ch p : Nat} {m1 : Mach} {res : List Nat} {plan : List MigPage} (hown : m.chOwner ch = some p)
    (hst : m.chState ch = 3) (hret : m.retiring p = false) (hlive : 2 ≤ ((m.channelsOf p).filter (fun c => m.chState c ≠ 5)).length)
    (hmode : m.fld (A.LOAM_MODE p) 1 0 < 2) (hsnap : m.snapLen p = 0) (htab : tablesIn (m.tree p).2 ch = false)
    (hres : m.reserveList p = (m1, .ok res)) (hok : res.all (m1.reserveOk p ch) = true)
    (hplan : assignReserve res ((m.tree p).1.filter (fun g => chanOf g.pa = ch)) = some plan) :
    m.retire ch = m1.retireBegin ch p (m.fld (A.LOAM_MODE p) 1 0) plan := by
  have hlive' : ¬ ((m.channelsOf p).filter (fun c => m.chState c ≠ 5)).length ≤ 1 := by omega
  unfold Mach.retire
  simp only [hown, hst, hret, if_neg hlive', if_neg (Nat.not_le.2 hmode), hsnap, htab, hres, hok, hplan, ne_eq, not_true_eq_false,
    decide_false, Bool.false_and, Bool.false_eq_true, if_false, Bool.not_true]
  rfl

theorem Mach.setMig_rd (ch mode : Nat) (r : List MigPage) (a : Nat) : (m.setMig ch mode r).rd a = m.rd a := rfl

theorem Mach.retireBegin_rd {ch p a : Nat} (mode : Nat) (plan : List MigPage) (hm : a ≠ A.LOAM_MODE p) (hs : a ≠ A.MEM_MIG_STS ch) :
    (m.retireBegin ch p mode plan).rd a = ((m.setChState ch 4).putBit (A.MEM_CH_CTL ch) 0 true).rd a := by
  rw [Mach.retireBegin, Mach.rd_put_other _ _ _ _ _ _ hm, Mach.setMig_rd, Mach.rd_wr_other _ _ _ _ hs]

theorem Mach.retireBegin_outcome {ch p mode : Nat} (plan : List MigPage) (hc : ch < 64) (hp : p < 16) :
    (m.retireBegin ch p mode plan).chState ch = 4 ∧ (m.retireBegin ch p mode plan).fld (A.LOAM_MODE p) 1 0 = 3 ∧
      tfind (m.retireBegin ch p mode plan).mem.mig ch = some (mode, plan) ∧ (m.retireBegin ch p mode plan).bit (A.MEM_CH_CTL ch) 0 = true := by
  have hsts := m.retireBegin_rd (ch := ch) (p := p) (a := A.MEM_CH_STS ch) mode plan (by simp only [A.MEM_CH_STS, A.LOAM_MODE]; omega)
    (by simp only [A.MEM_CH_STS, A.MEM_MIG_STS]; omega)
  have hctl := m.retireBegin_rd (ch := ch) (p := p) (a := A.MEM_CH_CTL ch) mode plan (by simp only [A.MEM_CH_CTL, A.LOAM_MODE]; omega)
    (by simp only [A.MEM_CH_CTL, A.MEM_MIG_STS]; omega)
  refine ⟨?_, ?_, ?_, ?_⟩
  · rw [Mach.chState, Mach.fld_of_rd hsts, ← Mach.chState, Mach.chState_putBit_ctl, Mach.chState_setChState _ _ _ _ (by decide), if_pos rfl]
  · exact Mach.fld_put_same _ _ _ _ _ (by decide) (by decide)
  · exact tfind_tset_same _ _ _
  · rw [Mach.bit_of_rd hctl, Mach.bit_putBit_same _ _ _ _ (by decide)]

/-- The page count of a migration, and the translations that are left, once a page has moved (R517, R518). -/
theorem Mach.retirePage_outcome (ch p : Nat) (g : MigPage) :
    (m.retirePage ch p g).fld (A.MEM_MIG_STS ch) 23 0 = min (m.fld (A.MEM_MIG_STS ch) 23 0 + 1) (2 ^ 24 - 1) ∧
      ∀ e ∈ (m.retirePage ch p g).mem.leaf, e ∈ m.mem.leaf ∧ ¬ (e.part = p ∧ e.va < g.va + lvlSpan g.lvl ∧ g.va < e.va + lvlSpan e.lvl) := by
  refine ⟨?_, fun e he => ?_⟩
  · refine (Mach.fld_put_same _ _ _ _ _ (by decide) (by decide)).trans ((Nat.mod_eq_of_lt (by omega)).trans ?_)
    exact congrArg (fun n => min (n + 1) (2 ^ 24 - 1)) (Mach.fld_bumpF_other _ (A.MEM_MIG_POISON ch) (A.MEM_MIG_STS ch) 31 0 _ 23 0
      (by simp only [A.MEM_MIG_STS, A.MEM_MIG_POISON]; omega))
  · exact (Mach.dropRange_leaf _ p g.va (lvlSpan g.lvl) e).1 he

theorem Mach.retirePageDone_eq {ch p mode : Nat} {g : MigPage} {r : List MigPage} (hmig : tfind m.mem.mig ch = some (mode, g :: r))
    (hown : m.chOwner ch = some p) : m.retirePageDone ch = (m.retirePage ch p g).setMig ch mode r := by
  unfold Mach.retirePageDone
  rw [hmig, hown]
  rfl

/-! ### The end of a retirement -/

/-- The channel is retired, and its unit too where it is DRAINING (R517). -/
def Mach.channelRetired (m : Mach) (ch : Nat) : Mach :=
  let n := ((m.setChState ch 5).put (A.MEM_MIG_STS ch) 31 24 1).putBit (A.MEM_CH_CTL ch) 0 false
  if n.fld (A.FLT_USTS (0x80 + ch)) 31 29 = 4 then n.put (A.FLT_USTS (0x80 + ch)) 31 29 5 else n

/-- The migration of channel `ch` is forgotten. -/
def Mach.forgetMig (m : Mach) (ch : Nat) : Mach := { m with mem := { m.mem with mig := terase m.mem.mig ch } }

theorem Mach.channelRetired_rd {ch a : Nat} (h : a ≠ A.FLT_USTS (0x80 + ch)) : (m.channelRetired ch).rd a =
    (((m.setChState ch 5).put (A.MEM_MIG_STS ch) 31 24 1).putBit (A.MEM_CH_CTL ch) 0 false).rd a := by
  unfold Mach.channelRetired
  dsimp only
  split
  · exact Mach.rd_put_other _ _ _ _ _ _ h
  · rfl

theorem Mach.channelRetired_own {ch : Nat} (hc : ch < 64) : (m.channelRetired ch).chOwner ch = m.chOwner ch := by
  have hne : ∀ c, c = A.MEM_MIG_STS ch ∨ c = A.MEM_CH_CTL ch → A.MEM_CH_STS ch ≠ c := fun c hc => by
    simp only [A.MEM_CH_STS, A.MEM_MIG_STS, A.MEM_CH_CTL] at *
    omega
  have hrd : (m.channelRetired ch).rd (A.MEM_CH_STS ch) = (m.setChState ch 5).rd (A.MEM_CH_STS ch) :=
    (m.channelRetired_rd (by simp only [A.MEM_CH_STS, A.FLT_USTS]; omega)).trans
      ((Mach.rd_putBit_other _ _ _ _ _ (hne _ (.inr rfl))).trans (Mach.rd_put_other _ _ _ _ _ _ (hne _ (.inl rfl))))
  unfold Mach.chOwner
  rw [Mach.bit_of_rd hrd, Mach.fld_of_rd hrd, Mach.setChState, Mach.bit_put_disjoint _ _ _ _ _ _ (by decide) (by decide) (by decide),
    Mach.fld_put_disjoint _ _ _ _ _ _ _ (by decide) (by decide) (by decide)]

theorem Mach.retireDone_eq {ch p mode : Nat} (hc : ch < 64) (hmig : tfind m.mem.mig ch = some (mode, [])) (hown : m.chOwner ch = some p) :
    m.retireDone ch = (((m.channelRetired ch).forgetMig ch).cfgGen p).put (A.LOAM_MODE p) 1 0 mode := by
  have hmode : tget m.mem.mig ch (0, []) = (mode, []) := by rw [tget, hmig]; rfl
  have howner : ((m.channelRetired ch).forgetMig ch).chOwner ch = some p := (m.channelRetired_own hc).trans hown
  have heq : m.retireDone ch = match ((m.channelRetired ch).forgetMig ch).chOwner ch with
      | some p => ((((m.channelRetired ch).forgetMig ch).cfgGen p).put (A.LOAM_MODE p) 1 0 (tget m.mem.mig ch (0, [])).1)
      | none => (m.channelRetired ch).forgetMig ch := rfl
  rw [heq, howner, hmode]

/-- The outcome of a retirement whose last page has moved (R517). -/
theorem Mach.retireDone_outcome {ch p mode : Nat} (hc : ch < 64) (hp : p < 16) (hmode : mode < 4)
    (hmig : tfind m.mem.mig ch = some (mode, [])) (hown : m.chOwner ch = some p) :
    (m.retireDone ch).chState ch = 5 ∧ (m.retireDone ch).fld (A.LOAM_MODE p) 1 0 = mode ∧ tfind (m.retireDone ch).mem.mig ch = none ∧
      (m.retireDone ch).bit (A.MEM_CH_CTL ch) 0 = false := by
  rw [m.retireDone_eq hc hmig hown]
  have hkeep : ∀ a, a = A.MEM_CH_STS ch ∨ a = A.MEM_CH_CTL ch → ((((m.channelRetired ch).forgetMig ch).cfgGen p).put (A.LOAM_MODE p) 1 0 mode).rd a =
      (((m.setChState ch 5).put (A.MEM_MIG_STS ch) 31 24 1).putBit (A.MEM_CH_CTL ch) 0 false).rd a := fun a ha => by
    refine (Mach.rd_put_other _ _ _ _ _ _ ?_).trans ((Mach.rd_bumpF_other _ _ _ _ _ _ ?_).trans (m.channelRetired_rd ?_)) <;>
      simp only [A.MEM_CH_STS, A.MEM_CH_CTL, A.LOAM_MODE, A.PART_STS, A.FLT_USTS, partReg] at * <;> omega
  refine ⟨(Mach.fld_of_rd (hkeep _ (.inl rfl)) 2 0).trans ?_, ?_, ?_, (Mach.bit_of_rd (hkeep _ (.inr rfl)) 0).trans ?_⟩
  · refine (Mach.chState_putBit_ctl _ ch ch false).trans ?_
    refine (Mach.fld_put_other _ _ _ _ _ _ _ _ (by simp only [A.MEM_CH_STS, A.MEM_MIG_STS]; omega)).trans ?_
    exact (Mach.chState_setChState _ _ _ _ (by decide)).trans (if_pos rfl)
  · exact (Mach.fld_put_same _ _ _ _ _ (by decide) (by decide)).trans (Nat.mod_eq_of_lt hmode)
  · exact tfind_terase _ _
  · exact Mach.bit_putBit_same _ _ _ _ (by decide)

theorem Mach.abortDisarmed_of_idle {p : Nat} (h : m.handles p = []) : m.abortDisarmed p = m := by
  unfold Mach.abortDisarmed
  rw [h]
  rfl

/-- A partition without graphs has none to abort when its channel is retired. -/
theorem Mach.retireEnd_idle {ch p mode : Nat} (hc : ch < 64) (hmig : tfind m.mem.mig ch = some (mode, [])) (hown : m.chOwner ch = some p)
    (hidle : m.handles p = []) : m.retireEnd ch = m.retireDone ch := by
  have hloam : (m.retireDone ch).handles p = m.handles p := by
    rw [m.retireDone_eq hc hmig hown]
    have hk : ((((m.channelRetired ch).forgetMig ch).cfgGen p).put (A.LOAM_MODE p) 1 0 mode).loam = m.loam := by
      change (m.channelRetired ch).loam = m.loam
      unfold Mach.channelRetired
      dsimp only
      split <;> rfl
    simp only [Mach.handles, Mach.graph, hk]
  unfold Mach.retireEnd
  simp only [hown]
  split
  · exact Mach.abortDisarmed_of_idle _ (hloam.trans hidle)
  · rfl

/-! ### Scrubbing (R511, R513) -/

/-- The line that the scrub of channel `ch` reads next. -/
def Mach.scrubNext (m : Mach) (ch : Nat) : Nat := ch * 2 ^ 27 + tget m.mem.scrubAt ch 0

/-- The scrub of channel `ch` has read a line before the last. -/
def Mach.scrubOn (m : Mach) (ch i : Nat) : Mach := { m with mem := { m.mem with scrubAt := tset m.mem.scrubAt ch i } }

theorem Mach.scrubOn_rd (ch i a : Nat) : (m.scrubOn ch i).rd a = m.rd a := rfl

theorem Mach.scrubLine_eq {ch : Nat} (f : Found) (hi : tget m.mem.scrubAt ch 0 + 1 < 2 ^ 27)
    (hp : m.mem.poison.contains (m.scrubNext ch) = false) :
    m.scrubLine ch f = (m.memFound (m.scrubNext ch) f true).scrubOn ch (tget m.mem.scrubAt ch 0 + 1) := by
  have hp' : m.mem.poison.contains (ch * 2 ^ 27 + tget m.mem.scrubAt ch 0) = false := hp
  unfold Mach.scrubLine
  simp only [hp', Bool.false_eq_true, if_false, if_neg (Nat.ne_of_lt hi), Nat.mod_eq_of_lt hi]
  rfl

theorem Mach.scrubNext_chan {ch : Nat} (hi : tget m.mem.scrubAt ch 0 + 1 < 2 ^ 27) : chanOf (m.scrubNext ch * 64) = ch := by
  simp only [chanOf, Mach.scrubNext]
  omega

/-- A line found bad is poisoned, counted and reported (R511). -/
theorem Mach.lineBad_outcome {line counter src ch : Nat} (hch : chanOf (line * 64) = ch) (hc : counter ≠ A.MEM_ERR_PA_LO ch)
    (hc' : counter ≠ A.MEM_ERR_PA_LO ch + 4) : (m.lineBad line counter src true).mem.poison.contains line = true ∧
      (m.lineBad line counter src true).raised = m.raised ++ [(src, 0x80 + ch, line % 2 ^ 32)] ∧
      (m.lineBad line counter src true).rd counter = BitVec.ofNat 32 (min ((m.rd counter).toNat + 1) (2 ^ 32 - 1)) := by
  subst hch
  unfold Mach.lineBad
  refine ⟨?_, rfl, ?_⟩
  · exact List.contains_iff_mem.2 List.mem_cons_self
  · refine (Mach.rd_wr_other _ _ _ _ hc').trans ((Mach.rd_wr_other _ _ _ _ hc).trans ?_)
    exact Mach.rd_bump _ _

end

/-! ### The statement -/

/-- Settles O38: keying and INIT channel by channel, invalidation by the entries that stay, retirement by its plan, and scrubbing line by line. -/
theorem memoryRowsComplete : Obligations.MemoryRowsComplete := by
  unfold Obligations.MemoryRowsComplete
  intro s who p ch v
  have hinv := fun hw => s.m.write_MMU_INV_CTL who v.toNat p v.isLt hw
  have hctl := fun hw => s.m.write_MEM_CH_CTL who v.toNat ch v.isLt hw
  refine ⟨fun hw hfree hv hs => ?_, fun hw hset => ?_, fun hst => ?_, fun hw hr hop => ?_, fun hw hr hop => ?_, fun hw hr hop => ?_,
    ?_, fun hw hr => ?_, fun hw hv hown => ?_,
    fun m1 res plan hw hv hown hst hret hlive hmode hsnap htab hres hok hplan => ?_, fun mode g r hst hmig hown => ?_,
    fun mode hst hmig hown hmode hidle => ?_, fun h0 h5 hi hp => ⟨?_, ?_⟩, fun h0 => ?_⟩
  case refine_1 =>
    refine gives_write rfl (s.m.write_MMU_KEY who v.toNat p v.isLt hw) ?_
    have h := s.m.installMemKey_outcome p (bitOf v.toNat 30) (bitsOf_lt v.toNat 8 0)
    rw [s.m.writeMmuKey_installs hfree hv hs]
    generalize s.m.installMemKey p (bitsOf v.toNat 8 0) (bitOf v.toNat 30) = n at h ⊢
    exact ⟨rfl, h⟩
  case refine_2 =>
    refine gives_write rfl (s.m.write_MMU_KEY who v.toNat p v.isLt hw) ?_
    rw [Mach.writeMmuKey, if_pos hset]
  case refine_3 =>
    refine gives_due (fun m => m.chState ch = 2) (f := fun m => m.channelInitDone ch) rfl hst
      ⟨s.m.channelInitDone_state ch.isLt, fun a hlo hhi => ?_, fun a ha => ?_⟩
    · rw [Mach.channelInitDone_cells, memGet_memZero, if_pos (by omega)]
    · rw [Mach.channelInitDone_cells, memGet_memZero, if_neg (by omega)]
  case refine_4 =>
    refine gives_writeWhen rfl (decide_eq_true hop) (hinv hw) ?_
    rw [Mach.writeMmuInv, hr, hop]
    have h := s.m.invAll_outcome p
    generalize s.m.invAll p = n at h ⊢
    exact ⟨rfl, h⟩
  case refine_5 =>
    refine gives_writeWhen rfl (decide_eq_true hop) (hinv hw) ?_
    rw [Mach.writeMmuInv, hr, hop]
    exact ⟨rfl, Mach.bit_putBit_same _ _ _ _ (by decide), fun e he => (s.m.dropRange_leaf _ _ _ e).1 he,
      fun e he hout => (s.m.dropRange_leaf _ _ _ e).2 ⟨he, hout⟩⟩
  case refine_6 =>
    refine gives_writeWhen rfl (decide_eq_true hop) (hinv hw) ?_
    rw [Mach.writeMmuInv, if_pos hr]
  case refine_7 =>
    exact gives_onMach (f := fun m => m.putBit (A.MMU_INV_CTL p) 31 true) rfl ⟨rfl, Mach.bit_putBit_same _ _ _ _ (by decide)⟩
  case refine_8 =>
    obtain ⟨lo, hlo⟩ := s.m.write_MMU_ROOT_HI p v.isLt hw
    have h := (s.m.dropHeld who (0x480 + p.val) 0x28 2).writeMmuRoot_taken lo v.toNat hr
    refine gives_write rfl hlo ?_
    generalize (s.m.dropHeld who (0x480 + p.val) 0x28 2).writeMmuRoot p.val lo v.toNat = n at h ⊢
    exact ⟨rfl, h⟩
  case refine_9 =>
    refine gives_writeWhen rfl hv (hctl hw) ?_
    rw [if_pos hv, s.m.retire_unowned hown]
    exact ⟨rfl, (Mach.fld_of_rd (Mach.answered_rd _ _) 31 24).trans (s.m.retireErr_err ch (by decide))⟩
  case refine_10 =>
    refine gives_writeWhen rfl hv (hctl hw) ?_
    rw [if_pos hv, s.m.retire_begins hown hst hret hlive hmode hsnap htab hres hok hplan]
    obtain ⟨hstate, hmode, hmig, hretire⟩ := m1.retireBegin_outcome (mode := s.m.fld (A.LOAM_MODE p) 1 0) plan ch.isLt p.isLt
    exact ⟨rfl, (Mach.fld_of_rd (Mach.answered_rd _ _) 2 0).trans hstate, (Mach.fld_of_rd (Mach.answered_rd _ _) 1 0).trans hmode, hmig,
      (Mach.bit_of_rd (Mach.answered_rd _ _) 0).trans hretire⟩
  case refine_11 =>
    refine gives_due (fun m => m.chState ch = 4) (f := fun m => m.retirePageDone ch) rfl hst ?_
    rw [s.m.retirePageDone_eq hmig hown]
    obtain ⟨hcount, hleaf⟩ := s.m.retirePage_outcome ch p g
    exact ⟨tfind_tset_same _ _ _, (Mach.fld_of_rd (Mach.setMig_rd _ _ _ _ _) 23 0).trans hcount, hleaf⟩
  case refine_12 =>
    have hdue : (decide (s.m.chState ch = 4) && decide ((tget s.m.mem.mig ch (0, [])).2 = [])) = true := by
      rw [tget, hmig, decide_eq_true hst]
      rfl
    refine gives_due (fun m => (decide (m.chState ch = 4) && decide ((tget m.mem.mig ch (0, [])).2 = [])) = true) (f := fun m => m.retireEnd ch)
      rfl hdue ?_
    rw [s.m.retireEnd_idle ch.isLt hmig hown hidle]
    exact s.m.retireDone_outcome ch.isLt p.isLt hmode hmig hown
  case refine_13 =>
    have hdue : (decide (s.m.chState ch ≠ 0) && decide (s.m.chState ch ≠ 5)) = true := by simp only [h0, h5, ne_eq, not_false_eq_true, decide_true, Bool.and_true]
    refine gives_due (fun m => (decide (m.chState ch ≠ 0) && decide (m.chState ch ≠ 5)) = true) (f := fun m => m.scrubLine ch .clean) rfl hdue ?_
    rw [s.m.scrubLine_eq .clean hi hp]
    exact ⟨by rw [tget]; exact congrArg (Option.getD · 0) (tfind_tset_same _ _ _), rfl, fun _ => rfl, rfl⟩
  case refine_14 =>
    have hdue : (decide (s.m.chState ch ≠ 0) && decide (s.m.chState ch ≠ 5)) = true := by simp only [h0, h5, ne_eq, not_false_eq_true, decide_true, Bool.and_true]
    refine gives_due (fun m => (decide (m.chState ch ≠ 0) && decide (m.chState ch ≠ 5)) = true) (f := fun m => m.scrubLine ch .uncorrectable)
      rfl hdue ?_
    have hch := s.m.scrubNext_chan hi
    rw [s.m.scrubLine_eq .uncorrectable hi hp, Mach.memFound, hch]
    obtain ⟨hpoison, hraised, hcount⟩ := s.m.lineBad_outcome (counter := A.MEM_UNCORR ch) (src := 0x51) hch (by simp only [A.MEM_UNCORR, A.MEM_ERR_PA_LO]; omega) (by simp only [A.MEM_UNCORR, A.MEM_ERR_PA_LO]; omega)
    exact ⟨hpoison, hraised, (Mach.scrubOn_rd _ _ _ _).trans hcount⟩
  case refine_15 =>
    exact unmoved_not_due (fun m => (decide (m.chState ch ≠ 0) && decide (m.chState ch ≠ 5)) = true) (f := fun m => m.scrubLine ch .uncorrectable) rfl
      (by simp only [h0, ne_eq, not_true_eq_false, decide_false, Bool.false_and, Bool.false_eq_true, not_false_eq_true])

end Sys2Proof.Machine

namespace Sys2Proof.Machine

/-! ### What an assignment sets (R529, R530) -/

section

variable (m : Mach) {p : Nat}

/-- Tile `t` is zeroized and belongs to `p`. -/
def Mach.giveTile (p : Nat) (a : Mach) (t : Nat) : Mach := { (a.zeroTile t) with own := { a.own with tiles := tset a.own.tiles t p } }

/-- Channel `c` belongs to `p`, in state `st`. -/
def Mach.giveChan (p st : Nat) (a : Mach) (c : Nat) : Mach := ((a.put (A.MEM_CH_STS c) 31 28 p).putBit (A.MEM_CH_STS c) 27 true).setChState c st

/-- Way `w` belongs to `p`. -/
def Mach.giveWay (p : Nat) (a : Mach) (w : Nat) : Mach := { a with own := { a.own with ways := tset a.own.ways w p } }

theorem Mach.giveTile_tileOwner (t u : Nat) : (m.giveTile p t).tileOwner u = if u = t then some p else m.tileOwner u := by
  simp only [Mach.tileOwner, Mach.giveTile, tfind_tset, eq_comm]

theorem Mach.giveTile_tile (t u : Nat) : (m.giveTile p t).tile u = if u = t then {} else m.tile u := by
  split_ifs with h
  · rw [h]
    exact m.zeroTile_tile t
  · exact congrArg (Option.getD · {}) (tfind_terase_other m.tiles h)

theorem Mach.assignTiles_tileOwner (ts : List Nat) (u : Nat) : (m.assignTiles p ts).tileOwner u = if u ∈ ts then some p else m.tileOwner u := by
  change (ts.foldl (Mach.giveTile p) m).tileOwner u = _
  induction ts generalizing m with
  | nil => simp
  | cons t r ih =>
    rw [List.foldl_cons, ih, Mach.giveTile_tileOwner]
    by_cases hr : u ∈ r <;> by_cases ht : u = t <;> simp [hr, ht]

theorem Mach.assignTiles_tile (ts : List Nat) (u : Nat) : (m.assignTiles p ts).tile u = if u ∈ ts then {} else m.tile u := by
  change (ts.foldl (Mach.giveTile p) m).tile u = _
  induction ts generalizing m with
  | nil => simp
  | cons t r ih =>
    rw [List.foldl_cons, ih, Mach.giveTile_tile]
    by_cases hr : u ∈ r <;> by_cases ht : u = t <;> simp [hr, ht]

theorem Mach.assignTiles_ways (ts : List Nat) : (m.assignTiles p ts).own.ways = m.own.ways :=
  foldl_keeps ts (Mach.giveTile p) (fun a => a.own.ways) (fun _ _ _ => rfl) m

theorem Mach.assignWays_wayOwner (ws : List Nat) (u : Nat) : (m.assignWays p ws).wayOwner u = if u ∈ ws then some p else m.wayOwner u := by
  change (ws.foldl (Mach.giveWay p) m).wayOwner u = _
  induction ws generalizing m with
  | nil => simp
  | cons w r ih =>
    have hw : (m.giveWay p w).wayOwner u = if u = w then some p else m.wayOwner u := by
      simp only [Mach.wayOwner, Mach.giveWay, tfind_tset, eq_comm]
    rw [List.foldl_cons, ih, hw]
    by_cases hr : u ∈ r <;> by_cases ht : u = w <;> simp [hr, ht]

theorem Mach.assignWays_keeps (ws : List Nat) : (m.assignWays p ws).own.tiles = m.own.tiles ∧ (m.assignWays p ws).tiles = m.tiles ∧
    (m.assignWays p ws).regs = m.regs :=
  ⟨foldl_keeps ws (Mach.giveWay p) (fun a => a.own.tiles) (fun _ _ _ => rfl) m, foldl_keeps ws (Mach.giveWay p) (fun a => a.tiles) (fun _ _ _ => rfl) m,
    foldl_keeps ws (Mach.giveWay p) (fun a => a.regs) (fun _ _ _ => rfl) m⟩

theorem Mach.assignKeys_keeps (r : Nat × Nat) : (m.assignKeys p r).own.tiles = m.own.tiles ∧ (m.assignKeys p r).own.ways = m.own.ways ∧
    (m.assignKeys p r).tiles = m.tiles ∧ (m.assignKeys p r).regs = m.regs := by
  unfold Mach.assignKeys
  extract_lets old add erased
  have herased : erased.own = m.own ∧ erased.tiles = m.tiles ∧ erased.regs = m.regs :=
    ⟨foldl_keeps add Mach.eraseSlot (fun a => a.own) (fun _ _ _ => rfl) m, foldl_keeps add Mach.eraseSlot (fun a => a.tiles) (fun _ _ _ => rfl) m,
      foldl_keeps add Mach.eraseSlot (fun a => a.regs) (fun _ _ _ => rfl) m⟩
  obtain ⟨hown, htiles, hregs⟩ := herased
  have howners : erased.own.tiles = m.own.tiles ∧ erased.own.ways = m.own.ways := by rw [hown]; exact ⟨rfl, rfl⟩
  exact ⟨howners.1, howners.2, htiles, hregs⟩

theorem Mach.assignChans_keeps (st : Nat) (cs : List Nat) : (m.assignChans p st cs).own = m.own ∧ (m.assignChans p st cs).tiles = m.tiles :=
  ⟨foldl_keeps cs (Mach.giveChan p st) (fun a => a.own) (fun _ _ _ => rfl) m, foldl_keeps cs (Mach.giveChan p st) (fun a => a.tiles) (fun _ _ _ => rfl) m⟩

theorem Mach.giveChan_same {st : Nat} (c : Nat) (hp : p < 16) (hst : st < 8) :
    (m.giveChan p st c).chOwner c = some p ∧ (m.giveChan p st c).chState c = st := by
  refine ⟨?_, (Mach.chState_setChState _ _ _ _ hst).trans (if_pos rfl)⟩
  have hbit : (m.giveChan p st c).bit (A.MEM_CH_STS c) 27 = true :=
    (Mach.bit_put_disjoint _ _ _ _ _ _ (by decide) (by decide) (by decide)).trans (Mach.bit_putBit_same _ _ _ _ (by decide))
  have hfld : (m.giveChan p st c).fld (A.MEM_CH_STS c) 31 28 = p :=
    (Mach.fld_put_disjoint _ _ _ _ _ _ _ (by decide) (by decide) (by decide)).trans
      ((Mach.fld_putBit_disjoint _ _ _ _ _ _ (by decide) (by decide)).trans
        ((Mach.fld_put_same _ _ _ _ _ (by decide) (by decide)).trans (Nat.mod_eq_of_lt hp)))
  rw [Mach.chOwner, hbit, hfld, if_pos rfl]

theorem Mach.giveChan_rd {st c a : Nat} (h : a ≠ A.MEM_CH_STS c) : (m.giveChan p st c).rd a = m.rd a :=
  (Mach.rd_put_other _ _ _ _ _ _ h).trans ((Mach.rd_putBit_other _ _ _ _ _ h).trans (Mach.rd_put_other _ _ _ _ _ _ h))

/-- What a channel shows is what its status register holds. -/
theorem Mach.chOwner_of_rd {m k : Mach} {c : Nat} (h : m.rd (A.MEM_CH_STS c) = k.rd (A.MEM_CH_STS c)) : m.chOwner c = k.chOwner c := by
  rw [Mach.chOwner, Mach.chOwner, Mach.bit_of_rd h, Mach.fld_of_rd h]

theorem Mach.assignChans_outcome {st c : Nat} {cs : List Nat} (hc : c ∈ cs) (hp : p < 16) (hst : st < 8) :
    (m.assignChans p st cs).chOwner c = some p ∧ (m.assignChans p st cs).chState c = st := by
  refine foldl_establishes (l := cs) (g := Mach.giveChan p st) (P := fun _ => True) (Q := fun a => a.chOwner c = some p ∧ a.chState c = st) hc
    (fun a _ => a.giveChan_same c hp hst) (fun _ _ _ _ => trivial) (fun a y _ ha => ?_) m trivial
  by_cases hy : c = y
  · rw [← hy]
    exact a.giveChan_same c hp hst
  · have hrd := a.giveChan_rd (p := p) (st := st) (c := y) (a := A.MEM_CH_STS c) (by simp only [A.MEM_CH_STS]; omega)
    exact ⟨(Mach.chOwner_of_rd hrd).trans ha.1, (Mach.fld_of_rd hrd 2 0).trans ha.2⟩

end

section

variable (m : Mach) {p : Nat}

/-! ### CREATE (R528, R529) -/

/-- All that a partition asks for is its own. -/
def Mach.granted (m : Mach) (p : Nat) : Mach :=
  (((m.assignTiles p (m.reqTiles p)).assignChans p 1 (m.reqChans p)).assignWays p (m.reqWays p)).assignKeys p (m.reqKeys p)

theorem Mach.granted_tiles : (m.granted p).own.tiles = (m.assignTiles p (m.reqTiles p)).own.tiles ∧
    (m.granted p).tiles = (m.assignTiles p (m.reqTiles p)).tiles := by
  obtain ⟨hkeys, -, hkeyTiles, -⟩ := (((m.assignTiles p (m.reqTiles p)).assignChans p 1 (m.reqChans p)).assignWays p (m.reqWays p)).assignKeys_keeps (p := p) (m.reqKeys p)
  obtain ⟨hways, hwayTiles, -⟩ := ((m.assignTiles p (m.reqTiles p)).assignChans p 1 (m.reqChans p)).assignWays_keeps (p := p) (m.reqWays p)
  obtain ⟨hchans, hchanTiles⟩ := (m.assignTiles p (m.reqTiles p)).assignChans_keeps (p := p) 1 (m.reqChans p)
  exact ⟨hkeys.trans (hways.trans (congrArg OwnSt.tiles hchans)), hkeyTiles.trans (hwayTiles.trans hchanTiles)⟩

theorem Mach.granted_regs : (m.granted p).regs = ((m.assignTiles p (m.reqTiles p)).assignChans p 1 (m.reqChans p)).regs :=
  (Mach.assignKeys_keeps _ _).2.2.2.trans (Mach.assignWays_keeps _ _).2.2

theorem tfind_tdrop {α : Type} (t : Tab α) {f : Nat → Bool} {k : Nat} (h : f k = false) : tfind (tdrop t f) k = tfind t k := by
  have hf : (tdrop t f).filter (fun e => e.1 = k) = t.filter (fun e => e.1 = k) := by
    rw [tdrop, List.filter_filter]
    refine List.filter_congr fun e _ => ?_
    by_cases he : e.1 = k
    · simp [he, h]
    · simp [he]
  rw [tfind_eq_filter, tfind_eq_filter, hf]

/-- The claims on queues of partition `p` are forgotten. -/
def Mach.dropQb (m : Mach) (p : Nat) : Mach :=
  { m with regs := { m.regs with act := tdrop m.regs.act (fun k => k % 2 ^ 24 = A.LOAM_QB p) } }

theorem Mach.dropQb_rd {a : Nat} (h : a % 2 ^ 24 ≠ A.LOAM_QB p) : (m.dropQb p).rd a = m.rd a := by
  have hf := tfind_tdrop m.regs.act (f := fun k => k % 2 ^ 24 = A.LOAM_QB p) (decide_eq_false h)
  simp only [Mach.rd, Mach.dropQb, hf]

/-- The completion counters of `p` are cleared. -/
def Mach.dropCtrs (m : Mach) (p : Nat) : Mach := { m with ctrs := tdrop m.ctrs (fun k => k / 4096 = p) }

theorem Mach.dropCtrs_rd (a : Nat) : (m.dropCtrs p).rd a = m.rd a := rfl

/-- The zeroizing of `p` has begun. -/
def Mach.markCreating (m : Mach) (p : Nat) : Mach := { m with att := { m.att with creating := p :: m.att.creating } }

theorem Mach.markCreating_rd (a : Nat) : (m.markCreating p).rd a = m.rd a := rfl

/-- What CREATE clears and marks once the resources are granted (R529). -/
def Mach.createEnd (m : Mach) (p : Nat) : Mach :=
  (((((m.put (A.LOAM_MODE p) 1 0 1).dropCtrs p).dropQb p).wr (A.SESS_OPENS p) 0).markCreating p).attRes p 0 0 false

theorem Mach.create_of_ok (h : m.createCheck p = none) : m.create p = (m.tracked (fun a => a.granted p)).createEnd p := by
  unfold Mach.create
  rw [h]
  rfl

theorem Mach.create_of_refused {c d : Nat} (h : m.createCheck p = some (c, d)) : m.create p = m.attRes p c d true := by
  unfold Mach.create
  rw [h]

/-- The word that ATT_RES holds after a command. -/
theorem Mach.attRes_rd (code detail : Nat) (done : Bool) :
    (m.attRes p code detail done).rd A.ATT_RES = BitVec.ofNat 32 (b2n done * 2 ^ 31 + p * 2 ^ 24 + detail % 65536 * 256 + code) := Mach.rd_wr_same _ _ _

theorem Mach.attRes_running : (m.attRes p 0 0 false).rd A.ATT_RES = BitVec.ofNat 32 (p * 2 ^ 24) := by
  have hword : b2n false * 2 ^ 31 + p * 2 ^ 24 + 0 % 65536 * 256 + 0 = p * 2 ^ 24 := by
    rw [show b2n false = 0 from rfl]
    omega
  rw [Mach.attRes_rd, hword]

theorem Mach.attRes_done : (m.attRes p 0 0 true).rd A.ATT_RES = BitVec.ofNat 32 (2 ^ 31 + p * 2 ^ 24) := by
  have hword : b2n true * 2 ^ 31 + p * 2 ^ 24 + 0 % 65536 * 256 + 0 = 2 ^ 31 + p * 2 ^ 24 := by
    rw [show b2n true = 1 from rfl]
    omega
  rw [Mach.attRes_rd, hword]

theorem Mach.attRes_bit (hp : p < 16) : (m.attRes p 0 0 false).bit A.ATT_RES 31 = false := by
  rw [Mach.bit, Mach.attRes_running, BitVec.toNat_ofNat, bitOf_eq_bitsOf]
  simp only [bitsOf, Nat.shiftRight_eq_div_pow, decide_eq_false_iff_not]
  omega

theorem Mach.attRes_rd_other {a : Nat} (code detail : Nat) (done : Bool) (h : a ≠ A.ATT_RES) : (m.attRes p code detail done).rd a = m.rd a :=
  Mach.rd_wr_other _ _ _ _ h

theorem Mach.createEnd_keeps : (m.createEnd p).own = m.own ∧ (m.createEnd p).tiles = m.tiles ∧ (m.createEnd p).att.creating = p :: m.att.creating :=
  ⟨rfl, rfl, rfl⟩

/-- CREATE's end clears only registers of Loam and of sessions. -/
theorem Mach.createEnd_rd {a : Nat} (hr : a ≠ A.ATT_RES) (hs : a ≠ A.SESS_OPENS p) (hq : a % 2 ^ 24 ≠ A.LOAM_QB p) :
    (m.createEnd p).rd a = (m.put (A.LOAM_MODE p) 1 0 1).rd a := by
  rw [Mach.createEnd, Mach.attRes_rd_other _ _ _ _ hr, Mach.markCreating_rd, Mach.rd_wr_other _ _ _ _ hs, Mach.dropQb_rd _ hq, Mach.dropCtrs_rd]

theorem Mach.createEnd_mode (hp : p < 16) : (m.createEnd p).fld (A.LOAM_MODE p) 1 0 = 1 := by
  have hrd := m.createEnd_rd (p := p) (a := A.LOAM_MODE p) (by simp only [A.LOAM_MODE, A.ATT_RES]; omega)
    (by simp only [A.LOAM_MODE, A.SESS_OPENS]; omega) (by simp only [A.LOAM_MODE, A.LOAM_QB]; omega)
  exact (Mach.fld_of_rd hrd 1 0).trans (Mach.fld_put_same _ _ _ _ _ (by decide) (by decide))

theorem Mach.createEnd_res (hp : p < 16) : (m.createEnd p).bit A.ATT_RES 31 = false := Mach.attRes_bit _ hp

theorem Mach.createEnd_chan {c : Nat} (hc : c < 64) (hp : p < 16) : (m.createEnd p).rd (A.MEM_CH_STS c) = m.rd (A.MEM_CH_STS c) := by
  have hrd := m.createEnd_rd (p := p) (a := A.MEM_CH_STS c) (by simp only [A.MEM_CH_STS, A.ATT_RES]; omega)
    (by simp only [A.MEM_CH_STS, A.SESS_OPENS]; omega) (by simp only [A.MEM_CH_STS, A.LOAM_QB]; omega)
  exact hrd.trans (Mach.rd_put_other _ _ _ _ _ _ (by simp only [A.MEM_CH_STS, A.LOAM_MODE]; omega))

/-- CREATE (R529): the resources asked for are the partition's, zeroized, and their channels SEALED. -/
theorem Mach.create_outcome (hp : p < 16) (h : m.createCheck p = none) :
    (∀ t ∈ m.reqTiles p, (m.create p).tileOwner t = some p ∧ (m.create p).tile t = {}) ∧
    (∀ t, t ∉ m.reqTiles p → (m.create p).tileOwner t = m.tileOwner t ∧ (m.create p).tile t = m.tile t) ∧
    (∀ c ∈ m.reqChans p, (m.create p).chOwner c = some p ∧ (m.create p).chState c = 1) ∧ p ∈ (m.create p).att.creating ∧
    (m.create p).fld (A.LOAM_MODE p) 1 0 = 1 ∧ (m.create p).bit A.ATT_RES 31 = false := by
  rw [m.create_of_ok h]
  obtain ⟨hown, htiles, hcreating⟩ := (m.tracked (fun a => a.granted p)).createEnd_keeps (p := p)
  obtain ⟨hgown, hgtiles⟩ := m.granted_tiles (p := p)
  have howner : ∀ t, ((m.tracked (fun a => a.granted p)).createEnd p).tileOwner t = (m.assignTiles p (m.reqTiles p)).tileOwner t := fun t => by
    rw [Mach.tileOwner, hown, Mach.tracked_own, hgown, ← Mach.tileOwner]
  have htile : ∀ t, ((m.tracked (fun a => a.granted p)).createEnd p).tile t = (m.assignTiles p (m.reqTiles p)).tile t := fun t => by
    rw [Mach.tile, htiles, Mach.tracked_tiles, hgtiles, ← Mach.tile]
  refine ⟨fun t ht => ?_, fun t ht => ?_, fun c hc => ?_, ?_, Mach.createEnd_mode _ hp, Mach.createEnd_res _ hp⟩
  · rw [howner, htile, Mach.assignTiles_tileOwner, Mach.assignTiles_tile, if_pos ht, if_pos ht]
    exact ⟨rfl, rfl⟩
  · rw [howner, htile, Mach.assignTiles_tileOwner, Mach.assignTiles_tile, if_neg ht, if_neg ht]
    exact ⟨rfl, rfl⟩
  · have hc64 : c < 64 := List.mem_range.1 (List.mem_filter.1 hc).1
    have hrd : ((m.tracked (fun a => a.granted p)).createEnd p).rd (A.MEM_CH_STS c) =
        ((m.assignTiles p (m.reqTiles p)).assignChans p 1 (m.reqChans p)).rd (A.MEM_CH_STS c) :=
      (Mach.createEnd_chan _ hc64 hp).trans ((m.tracked_rd _ _ (fun q hq => by simp only [A.MEM_CH_STS, partReg, A.PART_STS]; omega)).trans
        (Mach.rd_of_regs m.granted_regs _))
    obtain ⟨hco, hcs⟩ := (m.assignTiles p (m.reqTiles p)).assignChans_outcome (st := 1) hc hp (by decide)
    exact ⟨(Mach.chOwner_of_rd hrd).trans hco, (Mach.fld_of_rd hrd 2 0).trans hcs⟩
  · rw [hcreating]
    exact List.mem_cons_self

/-! ### The end of CREATE, and GROW (R529, R530) -/

theorem Mach.partActive_outcome : (m.partActive p).partState p = 1 ∧ p ∉ (m.partActive p).att.creating ∧
    (m.partActive p).rd A.ATT_RES = BitVec.ofNat 32 (2 ^ 31 + p * 2 ^ 24) := by
  refine ⟨?_, fun h => ?_, Mach.attRes_done _⟩
  · refine (Mach.fld_of_rd (Mach.attRes_rd_other _ _ _ _ (by simp only [partReg, A.PART_STS, A.ATT_RES]; omega)) 1 0).trans ?_
    exact Mach.fld_put_same _ _ _ _ _ (by decide) (by decide)
  · exact absurd rfl (of_decide_eq_true (List.mem_filter.1 h).2)

/-- A tracked operation is told by its outcome on the machine at hand. -/
theorem Mach.tracked_congr {f g : Mach → Mach} (h : f m = g m) : m.tracked f = m.tracked g := by
  unfold Mach.tracked
  rw [h]

/-- The tiles, channels and ways that GROW adds. -/
def Mach.newTiles (m : Mach) (p : Nat) : List Nat := (m.reqTiles p).filter (fun t => !(m.tilesOf p).contains t)
def Mach.newChans (m : Mach) (p : Nat) : List Nat := (m.reqChans p).filter (fun c => !(m.liveChans p).contains c)
def Mach.newWays (m : Mach) (p : Nat) : List Nat := (m.reqWays p).filter (fun w => !(m.waysOf p).contains w)

/-- What GROW assigns. -/
def Mach.grown (m : Mach) (p : Nat) : Mach :=
  let a := ((m.assignTiles p (m.newTiles p)).assignChans p (if m.bit (A.MMU_KEY p) 31 then 2 else 1) (m.newChans p)).assignWays p (m.newWays p)
  if (m.reqKeys p).2 = 0 then a else a.assignKeys p (m.reqKeys p)

theorem Mach.grow_of_ok (hst : m.partState p = 1) (hk : m.reqKeys p = m.keysOf p) (ht : subset (m.tilesOf p) (m.reqTiles p) = true)
    (hc : subset (m.liveChans p) (m.reqChans p) = true) (hw : subset (m.waysOf p) (m.reqWays p) = true)
    (hr : m.resCheck p (m.newTiles p) (m.newChans p) (m.newWays p) none = none) :
    m.grow p = (m.tracked (fun a => a.grown p)).attRes p 0 0 true := by
  have hkeys : (decide ((m.keysOf p).1 ≤ (m.keysOf p).1) && decide ((m.keysOf p).1 + (m.keysOf p).2 ≤ (m.keysOf p).1 + (m.keysOf p).2)) = true := by
    simp only [le_refl, decide_true, Bool.and_self]
  unfold Mach.newTiles Mach.newChans Mach.newWays at hr
  unfold Mach.grow
  simp only [hst, hk, ht, hc, hw, hkeys, hr, ne_eq, not_true_eq_false, if_true, if_false, Bool.not_true, Bool.and_false, Bool.or_self, Bool.false_eq_true]
  refine congrArg (fun n : Mach => n.attRes p 0 0 true) (m.tracked_congr ?_)
  unfold Mach.grown Mach.newTiles Mach.newChans Mach.newWays
  simp only [hk]

theorem Mach.grow_refused (hst : m.partState p ≠ 1) : m.grow p = m.attRes p 1 0 true := by
  unfold Mach.grow
  simp only [if_pos hst]

theorem Mach.grown_owners (u : Nat) : (m.grown p).tileOwner u = (if u ∈ m.newTiles p then some p else m.tileOwner u) ∧
    (m.grown p).wayOwner u = if u ∈ m.newWays p then some p else m.wayOwner u := by
  unfold Mach.grown
  extract_lets a
  have htile : a.tileOwner u = if u ∈ m.newTiles p then some p else m.tileOwner u := by
    rw [← Mach.assignTiles_tileOwner, Mach.tileOwner, Mach.tileOwner]
    exact congrArg (fun t => tfind t u) ((Mach.assignWays_keeps _ _).1.trans (congrArg OwnSt.tiles (Mach.assignChans_keeps _ _ _).1))
  have hway : a.wayOwner u = if u ∈ m.newWays p then some p else m.wayOwner u := by
    refine (Mach.assignWays_wayOwner _ _ _).trans ?_
    rw [Mach.wayOwner, (Mach.assignChans_keeps _ _ _).1, Mach.assignTiles_ways, ← Mach.wayOwner]
  split
  · exact ⟨htile, hway⟩
  · obtain ⟨htiles, hways, -⟩ := a.assignKeys_keeps (p := p) (m.reqKeys p)
    exact ⟨(congrArg (fun t => tfind t u) htiles).trans htile, (congrArg (fun t => tfind t u) hways).trans hway⟩

theorem Mach.mem_tilesOf {t : Nat} (h : t ∈ m.tilesOf p) : m.tileOwner t = some p := by
  simp only [Mach.tilesOf, List.mem_filter, Bool.and_eq_true, decide_eq_true_eq] at h
  exact h.2.1

theorem Mach.mem_waysOf {w : Nat} (h : w ∈ m.waysOf p) : m.wayOwner w = some p := by
  simp only [Mach.waysOf, List.mem_filter, decide_eq_true_eq] at h
  exact h.2

/-- GROW leaves `p` with all the tiles and ways that it asks for (R530). -/
theorem Mach.grow_outcome (h : m.grow p = (m.tracked (fun a => a.grown p)).attRes p 0 0 true) :
    (m.grow p).rd A.ATT_RES = BitVec.ofNat 32 (2 ^ 31 + p * 2 ^ 24) ∧ (∀ t ∈ m.reqTiles p, (m.grow p).tileOwner t = some p) ∧
      ∀ w ∈ m.reqWays p, (m.grow p).wayOwner w = some p := by
  have hown : (m.grow p).own = (m.grown p).own := by
    rw [h]
    exact m.tracked_own _
  refine ⟨by rw [h, Mach.attRes_done], fun t ht => ?_, fun w hw => ?_⟩
  · rw [Mach.tileOwner, hown, ← Mach.tileOwner, (m.grown_owners t).1]
    by_cases hnew : t ∈ m.newTiles p
    · exact if_pos hnew
    · have hold : t ∈ m.tilesOf p := by
        by_contra hne
        exact hnew (List.mem_filter.2 ⟨ht, by simpa using hne⟩)
      exact (if_neg hnew).trans (m.mem_tilesOf hold)
  · rw [Mach.wayOwner, hown, ← Mach.wayOwner, (m.grown_owners w).2]
    by_cases hnew : w ∈ m.newWays p
    · exact if_pos hnew
    · have hold : w ∈ m.waysOf p := by
        by_contra hne
        exact hnew (List.mem_filter.2 ⟨hw, by simpa using hne⟩)
      exact (if_neg hnew).trans (m.mem_waysOf hold)

end

section

variable (m : Mach) {p : Nat}

/-! ### What the release of a partition leaves of owners (R531) -/

theorem foldl_own {α : Type} {l : List α} {g : Mach → α → Mach} (h : ∀ a, ∀ x ∈ l, (g a x).own = a.own) : (l.foldl g m).own = m.own :=
  foldl_keeps l g (fun a => a.own) h m

theorem foldl_att {α : Type} {l : List α} {g : Mach → α → Mach} (h : ∀ a, ∀ x ∈ l, (g a x).att = a.att) : (l.foldl g m).att = m.att :=
  foldl_keeps l g (fun a => a.att) h m

theorem ite_own {c : Prop} [Decidable c] {x y k : Mach} (hx : x.own = k.own) (hy : y.own = k.own) : (if c then x else y).own = k.own := by
  split
  · exact hx
  · exact hy

theorem Mach.clearCtxRegs_own (c : Nat) : (m.clearCtxRegs c).own = m.own := by
  unfold Mach.clearCtxRegs
  extract_lets m1
  have h1 : m1.own = m.own := foldl_own m fun _ _ _ => rfl
  clear_value m1
  refine (foldl_own m1 fun _ _ _ => ?_).trans h1
  rfl

theorem Mach.clearLanes_own (a : Nat → Nat) (n : Nat) : (m.clearLanes a n p).own = m.own :=
  foldl_own m fun _ _ _ => ite_own rfl rfl

theorem Mach.shareSlots_own : (m.shareSlots p).own = m.own := by
  unfold Mach.shareSlots
  extract_lets fixWord
  refine foldl_keeps (List.range 24) _ (fun a => a.own) (fun k j _ => ?_) m
  refine foldl_keeps (List.range 64) _ (fun a => a.own) (fun k i _ => ?_) k
  extract_lets key a
  have ha : a.own = k.own := by
    change Mach.own (if _ then _ else _) = _
    split <;> rfl
  split
  · split
    · exact ha
    · exact ha
  · exact ha

theorem Mach.setSrc_own (s st count : Nat) : (m.setSrc s st count).own = m.own := by
  unfold Mach.setSrc
  extract_lets a
  split <;> rfl

theorem Mach.intDestroy_own : (m.intDestroy p).own = m.own := by
  unfold Mach.intDestroy
  extract_lets mine m1 b n m2 m3
  have h1 : m1.own = m.own := foldl_own m fun k s _ => k.setSrc_own s 0 0
  clear_value m1
  exact h1

theorem Mach.freeLines_own (l : List WinEntry) : (m.freeLines l).own = m.own :=
  foldl_own m fun _ _ _ => rfl

/-- Receive windows, queues and banks of `p` go. -/
def Mach.dropQueues (m : Mach) (p : Nat) : Mach :=
  ((m.dropWins (fun e => e.part = p || (m.queuesOf p).contains (e.queue / 64))).clearLanes A.HRMP_QOWN 256 p).clearLanes A.HRMP_CBANK 256 p

/-- The registers of the contexts of `p` are cleared. -/
def Mach.clearCtxs (m : Mach) (p : Nat) : Mach := ((m.agg.filter (fun e => e.2.part = p)).map (·.1)).foldl (fun a c => a.clearCtxRegs c) m

/-- The contexts, blocks and mask units of `p` go. -/
def Mach.dropContexts (m : Mach) (p : Nat) : Mach :=
  (({ (m.clearCtxs p) with agg := (m.clearCtxs p).agg.filter (fun e => e.2.part ≠ p) }).clearLanes A.AGG_OWN 256 p).clearLanes A.MSK_OWN 16 p

/-- The comparators, buffer shares and slots of `p` go. -/
def Mach.dropShares (m : Mach) (p : Nat) : Mach :=
  ((List.range 8).foldl (fun a n => (a.wr (A.BRL_SHARE0 n p) 0).wr (A.BRL_SHARE1 n p) 0)
    ((List.range 16).foldl (fun a n => a.wr (A.ETH_RXSHARE n p) 0)
      ((m.cmpsOf p).foldl (fun a c => (a.put (A.PHS_CMP_OWN (c / 8)) (4 * (c % 8) + 3) (4 * (c % 8)) 0).putBit (A.CMP_CTL c) 31 false) m))).shareSlots p

/-- The sources, vectors and messages of `p` go. -/
def Mach.dropVectors (m : Mach) (p : Nat) : Mach :=
  let m := (m.intDestroy p).clearLanes A.INT_T_OWN 64 p |>.clearLanes A.INT_HV_OWN 64 p
  { m with regs := { m.regs with act := tdrop m.regs.act (fun k => k % 2 ^ 24 = A.LOAM_QB p) },
           net := { m.net with msgs := m.net.msgs.filter (fun o => o.part ≠ p), wait := m.net.wait.filter (fun w => w.2.pkt.part.val ≠ p) } }

/-- The registers in which `p` asks for resources are cleared. -/
def Mach.clearRequests (m : Mach) (p : Nat) : Mach :=
  [A.PART_TILES0, A.PART_TILES1, A.PART_TILES2, A.PART_CHAN_LO, A.PART_CHAN_HI, A.PART_WAYS, A.PART_KEYS].foldl
    (fun a r => a.wr (partReg r p) 0) (m.wr (A.HRMP_RXWAY p) 0)

theorem Mach.clearOwner_eq : m.clearOwner p = ((((m.dropQueues p).dropContexts p).dropShares p).dropVectors p).clearRequests p := rfl

theorem Mach.dropQueues_own : (m.dropQueues p).own = m.own :=
  (Mach.clearLanes_own _ _ _).trans ((Mach.clearLanes_own _ _ _).trans (m.freeLines_own _))

theorem Mach.clearCtxs_own : (m.clearCtxs p).own = m.own := foldl_own m fun k c _ => k.clearCtxRegs_own c

theorem Mach.dropContexts_own : (m.dropContexts p).own = m.own :=
  (Mach.clearLanes_own _ _ _).trans ((Mach.clearLanes_own _ _ _).trans m.clearCtxs_own)

theorem Mach.dropShares_own : (m.dropShares p).own = m.own := by
  refine (Mach.shareSlots_own _).trans ((foldl_own _ fun k n _ => ?_).trans ((foldl_own _ fun k n _ => ?_).trans (foldl_own _ fun k c _ => ?_)))
  · exact (Mach.wr_own _ _ _).trans (Mach.wr_own _ _ _)
  · exact Mach.wr_own _ _ _
  · exact (Mach.putBit_own _ _ _ _).trans (Mach.put_own _ _ _ _ _)

theorem Mach.dropVectors_own : (m.dropVectors p).own = m.own :=
  (Mach.clearLanes_own _ _ _).trans ((Mach.clearLanes_own _ _ _).trans m.intDestroy_own)

theorem Mach.clearRequests_own : (m.clearRequests p).own = m.own :=
  (foldl_own _ fun _ _ _ => Mach.wr_own _ _ _).trans (Mach.wr_own _ _ _)

theorem Mach.clearOwner_own : (m.clearOwner p).own = m.own := by
  rw [Mach.clearOwner_eq, Mach.clearRequests_own, Mach.dropVectors_own, Mach.dropShares_own, Mach.dropContexts_own, Mach.dropQueues_own]

/-- The graphs, tiles and slots of `p` are zeroized. -/
def Mach.zeroizeUnits (m : Mach) (p : Nat) : Mach :=
  let m := (m.handles p).foldl (fun a g => a.freeGraph p g) m
  let m := ((List.range 80).filter (fun t => m.tileOwner t = some p)).foldl (fun a t => (a.zeroTile t).setTileState t 0) m
  (rangeFrom (m.keysOf p).1 (m.keysOf p).2).foldl (fun a s => a.eraseSlot s) m

/-- The snapshot area of `p` is zeroized. -/
def Mach.zeroizeSnap (m : Mach) (p : Nat) : Mach :=
  if m.snapLen p = 0 then m else { m with mem := { m.mem with cells := memZero m.mem.cells (m.snapBase p) (m.snapLen p) } }

/-- The channels of `p` leave it. -/
def Mach.releaseChans (m : Mach) (p : Nat) : Mach :=
  (m.channelsOf p).foldl (fun a c =>
    let keep := a.chState c = 4 || a.chState c = 5
    let a := if a.chState c = 4 then { (a.putBit (A.MEM_CH_CTL c) 0 false) with mem := { a.mem with mig := terase a.mem.mig c } } else a
    ((a.put (A.MEM_CH_STS c) 31 27 0).setChState c (if keep then 5 else 0))) m

/-- The translations, key and snapshot area of `p` go. -/
def Mach.dropMemory (m : Mach) (p : Nat) : Mach :=
  (((m.dropCache p).wr (A.MMU_KEY p) 0).wr64 (A.LOAM_SNAP_BASE_LO p) 0).wr (A.LOAM_SNAP_SIZE p) 0

/-- The entries that name `p` go. -/
def Mach.dropOwners (m : Mach) (p : Nat) : Mach :=
  { m with own := { tiles := m.own.tiles.filter (fun e => e.2 ≠ p), ways := m.own.ways.filter (fun e => e.2 ≠ p), keys := terase m.own.keys p },
           att := { m.att with export_ := terase m.att.export_ p, dumpSeq := terase m.att.dumpSeq p } }

theorem Mach.releaseAll_eq : m.releaseAll p = ((((m.zeroizeUnits p).zeroizeSnap p).releaseChans p).dropMemory p).dropOwners p := rfl

theorem Mach.eraseSlot_own (s : Nat) : (m.eraseSlot s).own = m.own := rfl

theorem Mach.freeGraph_own (g : Nat) : (m.freeGraph p g).own = m.own := rfl

theorem Mach.zeroizeUnits_own : (m.zeroizeUnits p).own = m.own :=
  (foldl_own _ fun k s _ => k.eraseSlot_own s).trans
    ((foldl_own _ fun k t _ => (k.zeroTile t).setTileState_own t 0).trans (foldl_own m fun k g _ => k.freeGraph_own g))

theorem Mach.zeroizeSnap_own : (m.zeroizeSnap p).own = m.own := ite_own rfl rfl

theorem Mach.releaseChans_own : (m.releaseChans p).own = m.own :=
  foldl_own m fun k c _ => (Mach.put_own _ _ _ _ _).trans ((Mach.put_own _ _ _ _ _).trans (ite_own (k.putBit_own (A.MEM_CH_CTL c) 0 false) rfl))

theorem Mach.dropMemory_own : (m.dropMemory p).own = m.own :=
  (Mach.wr_own _ _ _).trans ((Mach.wr64_own _ _ _).trans (Mach.wr_own _ _ _))

theorem Mach.releaseAll_own : (m.releaseAll p).own.tiles = m.own.tiles.filter (fun e => e.2 ≠ p) ∧
    (m.releaseAll p).own.ways = m.own.ways.filter (fun e => e.2 ≠ p) := by
  have h : ((((m.zeroizeUnits p).zeroizeSnap p).releaseChans p).dropMemory p).own = m.own := by
    rw [Mach.dropMemory_own, Mach.releaseChans_own, Mach.zeroizeSnap_own, Mach.zeroizeUnits_own]
  rw [Mach.releaseAll_eq, ← h]
  exact ⟨rfl, rfl⟩

/-- Entries of other values do not hide an entry. -/
theorem tfind_filter_ne (t : Tab Nat) (k p : Nat) : tfind (t.filter (fun e => e.2 ≠ p)) k ≠ some p ∧
    (tfind t k ≠ some p → tfind (t.filter (fun e => e.2 ≠ p)) k = tfind t k) := by
  induction t with
  | nil => exact ⟨Option.some_ne_none p |>.symm, fun _ => rfl⟩
  | cons e r ih =>
    obtain ⟨hne, hkeep⟩ := ih
    by_cases hp : e.2 = p <;> by_cases hk : e.1 = k <;> simp_all [tfind]

theorem Mach.destroyEnd_outcome : (m.destroyEnd p).partState p = 0 ∧ (m.destroyEnd p).rd A.ATT_RES = BitVec.ofNat 32 (2 ^ 31 + p * 2 ^ 24) ∧
    (∀ t, (m.destroyEnd p).tileOwner t ≠ some p) ∧ (∀ w, (m.destroyEnd p).wayOwner w ≠ some p) ∧
    ∀ t, m.tileOwner t ≠ some p → (m.destroyEnd p).tileOwner t = m.tileOwner t := by
  have hown : (m.destroyEnd p).own = (m.releaseAll p).own := (m.tracked_own _).trans (Mach.clearOwner_own _)
  obtain ⟨htiles, hways⟩ := m.releaseAll_own (p := p)
  refine ⟨?_, Mach.attRes_done _, fun t => ?_, fun w => ?_, fun t ht => ?_⟩
  · refine (Mach.fld_of_rd (Mach.attRes_rd_other _ _ _ _ (by simp only [partReg, A.PART_STS, A.ATT_RES]; omega)) 1 0).trans ?_
    exact Mach.fld_put_same _ _ _ _ _ (by decide) (by decide)
  · rw [Mach.tileOwner, hown, htiles]
    exact (tfind_filter_ne _ t p).1
  · rw [Mach.wayOwner, hown, hways]
    exact (tfind_filter_ne _ w p).1
  · rw [Mach.tileOwner, hown, htiles]
    exact (tfind_filter_ne _ t p).2 ht

/-! ### Commands and service events (R531, R538, R562) -/

theorem Mach.writeAttCmd_of {v : Nat} (hp : m.fld A.ATT_SEL 3 0 = p) (hd : m.bit A.ATT_RES 31 = true) :
    (v % 16 = 1 → m.writeAttCmd v = m.create p) ∧ (v % 16 = 2 → m.writeAttCmd v = m.grow p) ∧ (v % 16 = 3 → m.writeAttCmd v = m.destroy p) := by
  refine ⟨fun hv => ?_, fun hv => ?_, fun hv => ?_⟩ <;> simp only [Mach.writeAttCmd, hp, hd, hv, Bool.not_true, Bool.false_eq_true, if_false]

theorem Mach.destroy_starts (h0 : p ≠ 0) (hst : m.partState p = 1) : m.destroy p = m.destroyStart p := by
  unfold Mach.destroy
  rw [if_neg h0, if_neg (not_not.2 hst)]

theorem Mach.destroy_operator (h0 : p = 0) : m.destroy p = m.attRes p 9 0 true := if_pos h0

theorem Mach.hostItem_att (vec src count phase : Nat) : (m.hostItem p vec src count phase).att = m.att :=
  Mach.lossyPush_keeps (fun k => k.att) m _ _ (fun _ _ => rfl) (fun _ _ => rfl) (fun _ => rfl)

/-- The request of a service event is spent. -/
theorem Mach.serviceEvent_service : m.serviceEvent.att.service = false := by
  unfold Mach.serviceEvent
  extract_lets att n
  exact congrArg AttSt.service (foldl_att n fun k q _ => (Mach.bumpF_att _ _ _ _ _).trans (k.hostItem_att _ _ _ _))

end

/-! ### The statement -/

/-- Settles O39: CREATE and GROW by what they assign, DESTROY by its start and its release, service events by the request they spend. -/
theorem partitionRowsComplete : Obligations.PartitionRowsComplete := by
  unfold Obligations.PartitionRowsComplete
  intro s who p v
  refine ⟨fun hw hd hsel => ?_, fun hc => ?_, fun hst hdr => ?_, fun hs he => ?_, fun hs => ?_⟩
  case refine_1 =>
    obtain ⟨hcreate, hgrow, hdestroy⟩ := s.m.writeAttCmd_of (v := v.toNat) hsel hd
    have hcmd := s.m.write_ATT_CMD who v.toNat v.isLt hw
    refine ⟨fun hv hok => ?_, fun c d hv hbad => ?_, fun hv hst hk ht hc hww hr => ?_, fun hv hst => ?_, fun hv h0 hst => ?_, fun hv h0 => ?_⟩
    · rw [hcreate hv] at hcmd
      refine gives_writeWhen rfl (decide_eq_true hv) hcmd ?_
      have h := s.m.create_outcome p.isLt hok
      generalize s.m.create p = n at h ⊢
      exact ⟨rfl, h⟩
    · rw [hcreate hv, s.m.create_of_refused hbad] at hcmd
      exact gives_writeWhen rfl (decide_eq_true hv) hcmd rfl
    · rw [hgrow hv] at hcmd
      refine gives_writeWhen rfl (decide_eq_true hv) hcmd ?_
      have h := s.m.grow_outcome (s.m.grow_of_ok hst hk ht hc hww hr)
      generalize s.m.grow p = n at h ⊢
      exact ⟨rfl, h⟩
    · rw [hgrow hv, s.m.grow_refused hst] at hcmd
      exact gives_writeWhen rfl (decide_eq_true hv) hcmd rfl
    · rw [hdestroy hv, s.m.destroy_starts h0 hst] at hcmd
      exact gives_writeWhen rfl (decide_eq_true hv) hcmd ⟨rfl, (Mach.answered_rd _ _).trans (Mach.attRes_running _)⟩
    · rw [hdestroy hv, s.m.destroy_operator h0] at hcmd
      exact gives_writeWhen rfl (decide_eq_true hv) hcmd rfl
  case refine_2 =>
    exact gives_due (fun m => m.att.creating.contains p.val) (f := fun m => m.partActive p) rfl (List.contains_iff_mem.2 hc) s.m.partActive_outcome
  case refine_3 =>
    have hdue : (decide (s.m.partState p = 2) && s.m.drained p) = true := by rw [decide_eq_true hst, hdr, Bool.and_self]
    exact gives_due (fun m => (decide (m.partState p = 2) && m.drained p) = true) (f := fun m => m.destroyEnd p) rfl hdue s.m.destroyEnd_outcome
  case refine_4 =>
    have hdue : (s.m.att.service && s.m.phs.slotEdge) = true := by rw [hs, he, Bool.and_self]
    exact gives_due (fun m => (m.att.service && m.phs.slotEdge) = true) (f := fun m => m.serviceEvent) rfl hdue ⟨s.m.serviceEvent_service, rfl⟩
  case refine_5 =>
    exact unmoved_not_due (fun m => (m.att.service && m.phs.slotEdge) = true) (f := fun m => m.serviceEvent) rfl
      (by rw [hs, Bool.false_and]; exact Bool.false_ne_true)

end Sys2Proof.Machine

namespace Sys2Proof.Machine

section

variable (m : Mach) {t v : Nat}

/-! ### HALT and STEP (R540, R565) -/

/-- DBG_HALT names tile `t`, and holds it. -/
def Mach.dbgNamed (m : Mach) (t : Nat) : Mach := (m.put A.DBG_HALT 6 0 t).putBit A.DBG_HALT 31 true

/-- Tile `u` is held no longer. -/
def Mach.dbgFree (a : Mach) (u : Nat) : Mach :=
  if u < 80 && (a.tile u).halted then a.setTile u { a.tile u with halted := false, step := false } else a

/-- DBG_HALT names tile `t`, and the tile that it named before is held no longer. -/
def Mach.dbgMoved (m : Mach) (t : Nat) : Mach := if m.fld A.DBG_HALT 6 0 = t then m.dbgNamed t else (m.dbgNamed t).dbgFree (m.fld A.DBG_HALT 6 0)

/-- Tile `t` is held; it issues once where `step` says so. -/
def Mach.dbgHeld (m : Mach) (t : Nat) (step : Bool) : Mach := m.setTile t { m.tile t with halted := true, step := step && (m.tile t).halted }

theorem Mach.tileSealed_put_DBG_HALT (ht : t < 80) : (m.put A.DBG_HALT 6 0 (v % 128)).tileSealed t = m.tileSealed t := by
  have hst : (m.put A.DBG_HALT 6 0 (v % 128)).tileState t = m.tileState t :=
    Mach.fld_put_other _ _ _ _ _ _ _ _ (by simp only [A.TILE_STS, A.DBG_HALT]; omega)
  rw [Mach.tileSealed, hst, Mach.put_loam, ← Mach.tileSealed]

theorem Mach.writeDbgHalt_holds (hv : v % 128 = t) (ht : t < 80) (hb : bitOf v 31 = true) (hs : m.tileSealed t = false) :
    m.writeDbgHalt v = (m.dbgMoved t).dbgHeld t (bitOf v 30) := by
  subst hv
  have hsealed := (m.tileSealed_put_DBG_HALT (v := v) ht).trans hs
  unfold Mach.writeDbgHalt
  simp only [hb, ht, hsealed, decide_true, Bool.and_true, Bool.and_false, Bool.false_eq_true, if_false, if_true]
  rfl

theorem Mach.writeDbgHalt_sealed (hv : v % 128 = t) (ht : t < 80) (hb : bitOf v 31 = true) (hs : m.tileSealed t = true) :
    m.writeDbgHalt v = ((m.put A.DBG_HALT 6 0 t).putBit A.DBG_HALT 31 false).put A.DBG_RES 7 0 5 := by
  subst hv
  have hsealed := (m.tileSealed_put_DBG_HALT (v := v) ht).trans hs
  unfold Mach.writeDbgHalt
  simp only [hb, ht, hsealed, decide_true, Bool.and_true, if_true]

theorem Mach.dbgFree_regs (u : Nat) : (m.dbgFree u).regs = m.regs := by
  unfold Mach.dbgFree
  split <;> rfl

theorem Mach.dbgMoved_regs : (m.dbgMoved t).regs = (m.dbgNamed t).regs := by
  unfold Mach.dbgMoved
  split
  · rfl
  · exact Mach.dbgFree_regs _ _

theorem Mach.dbgHeld_tile (step : Bool) : ((m.dbgHeld t step).tile t).halted = true ∧ ((m.dbgHeld t step).tile t).step = (step && (m.tile t).halted) ∧
    ∀ u, u ≠ t → (m.dbgHeld t step).tile u = m.tile u := by
  have hsame : (m.dbgHeld t step).tile t = { m.tile t with halted := true, step := step && (m.tile t).halted } := m.tile_setTile_same t _
  exact ⟨by rw [hsame], by rw [hsame], fun u hu => m.tile_setTile_other t u _ hu⟩

theorem Mach.dbgNamed_tile (u : Nat) : (m.dbgNamed t).tile u = m.tile u := by
  rw [Mach.tile, Mach.dbgNamed, Mach.putBit_tiles, Mach.put_tiles, ← Mach.tile]

theorem Mach.dbgNamed_reg (ht : t < 128) : (m.dbgNamed t).fld A.DBG_HALT 6 0 = t ∧ (m.dbgNamed t).bit A.DBG_HALT 31 = true :=
  ⟨(Mach.fld_putBit_disjoint _ _ _ _ _ _ (by decide) (by decide)).trans ((m.fld_put_same _ _ _ _ (by decide) (by decide)).trans (Nat.mod_eq_of_lt ht)),
    Mach.bit_putBit_same _ _ _ _ (by decide)⟩

theorem Mach.dbgMoved_of_same (h : m.fld A.DBG_HALT 6 0 = t) : m.dbgMoved t = m.dbgNamed t := if_pos h

/-! ### A STATE dump (R541 to R543) -/

/-- The source tile and the length that the debug window names. -/
theorem Mach.writeDbgCmd_state (hv : v % 128 = 0x21) (hsrc : bitsOf (m.rd64 A.DBG_SRC_LO) 38 32 = t) (hlen : m.fld A.DBG_LEN 16 0 = 1024) :
    m.writeDbgCmd v = m.dumpEnd 2 (m.rd64 A.DBG_SRC_LO) 1024 (m.dumpState t 1024) := by
  have hop : bitsOf v 3 0 = 1 := by simp only [bitsOf, Nat.shiftRight_eq_div_pow]; omega
  have hkind : bitsOf v 6 4 = 2 := by simp only [bitsOf, Nat.shiftRight_eq_div_pow]; omega
  unfold Mach.writeDbgCmd
  simp only [hop, hkind, hsrc, hlen, ne_eq, not_true_eq_false, decide_false, Bool.false_or, show ¬ (6 ≤ 2) by decide, Bool.false_eq_true, if_false]

theorem Mach.dumpState_running (ht : t < 80) (h : (m.tile t).halted = false) : m.dumpState t 1024 = .error 4 := by
  unfold Mach.dumpState
  simp only [h, show ¬ (80 ≤ t) by omega, decide_false, ne_eq, not_true_eq_false, Bool.or_self, Bool.false_eq_true, if_false, Bool.not_false, if_true]

theorem Mach.dumpState_open (ht : t < 80) (h : (m.tile t).halted = true) (hs : m.tileSealed t = false) (ho : m.tileOwner t = none) :
    m.dumpState t 1024 = .ok { body := m.stateBytes t } := by
  unfold Mach.dumpState
  simp only [h, hs, ho, show ¬ (80 ≤ t) by omega, decide_false, ne_eq, not_true_eq_false, Bool.or_self, Bool.false_eq_true, if_false, Bool.not_true]
  rfl

/-- Where DBG_OUT points. -/
def Mach.dbgOut (m : Mach) : Nat := m.fld A.DBG_OUT_HI 15 0 * 2 ^ 32 + m.fld A.DBG_OUT_LO 31 6 * 64

/-- A record in the clear that is stored leaves code 0. -/
theorem Mach.dumpWrite_stored {src len : Nat} {b : List Byte} {m2 : Mach}
    (hw : m.draw.2.vwrite (m.draw.1.toNat % 8) 0 m.dbgOut (m.dumpHead 2 0 src len 0 false false ++ b) = (m2, none)) :
    m.dumpWrite 2 0 src len 0 { body := b } = m2.dbgRes 0 false false := by
  unfold Mach.dbgOut at hw
  unfold Mach.dumpWrite
  simp only [hw]
  rfl

theorem Mach.dbgRes_rd : (m.dbgRes 0 false false).rd A.DBG_RES = BitVec.ofNat 32 (2 ^ 31) := by
  have hword : 2 ^ 31 + b2n false * 512 + b2n false * 256 + 0 = 2 ^ 31 := by
    rw [show b2n false = 0 from rfl]
    omega
  rw [Mach.dbgRes, Mach.rd_wr_same, hword]

end

/-! ### The statement -/

/-- Settles O40: the window holds the tile it names, steps it, and dumps its state. -/
theorem debugRowsComplete : Obligations.DebugRowsComplete := by
  unfold Obligations.DebugRowsComplete
  intro s who t v
  have ht := t.isLt
  refine ⟨fun hw hv hb hs => ⟨fun h30 => ?_, fun h30 hh hn => ?_⟩, fun hw hv hb hs => ?_, fun hw hv hsrc hlen hh => ?_,
    fun m2 hw hv hsrc hlen hh hs ho hstored => ?_⟩
  case refine_1 =>
    have hcmd := s.m.write_DBG_HALT who v.toNat v.isLt hw
    rw [s.m.writeDbgHalt_holds hv ht hb hs, h30] at hcmd
    obtain ⟨hhalted, hstep, -⟩ := (s.m.dbgMoved t).dbgHeld_tile (t := t) false
    obtain ⟨hname, hhold⟩ := s.m.dbgNamed_reg (t := t) (by omega)
    have hregs : ((s.m.dbgMoved t).dbgHeld t false).answered.regs = (s.m.dbgNamed t).regs := s.m.dbgMoved_regs
    exact gives_write rfl hcmd ⟨rfl, hhalted, hstep.trans (Bool.false_and _), (Mach.fld_of_regs hregs _ _ _).trans hname,
      (Mach.bit_of_regs hregs _ _).trans hhold⟩
  case refine_2 =>
    have hcmd := s.m.write_DBG_HALT who v.toNat v.isLt hw
    rw [s.m.writeDbgHalt_holds hv ht hb hs, h30, s.m.dbgMoved_of_same hn] at hcmd
    obtain ⟨hhalted, hstep, hother⟩ := (s.m.dbgNamed t).dbgHeld_tile (t := t) true
    rw [Mach.dbgNamed_tile, hh] at hstep
    exact gives_writeWhen rfl h30 hcmd ⟨rfl, hhalted, hstep, fun u hu => (hother u hu).trans (s.m.dbgNamed_tile u)⟩
  case refine_3 =>
    have hcmd := s.m.write_DBG_HALT who v.toNat v.isLt hw
    rw [s.m.writeDbgHalt_sealed hv ht hb hs] at hcmd
    refine gives_write rfl hcmd ⟨?_, ?_, fun u => rfl⟩
    · exact (Mach.fld_of_rd (Mach.answered_rd _ _) 7 0).trans (Mach.fld_put_same _ _ _ _ _ (by decide) (by decide))
    · exact (Mach.bit_of_rd (Mach.answered_rd _ _) 31).trans ((Mach.bit_put_other _ _ _ _ _ _ _ (by decide)).trans
        (Mach.bit_putBit_same _ _ _ _ (by decide)))
  case refine_4 =>
    have hcmd := s.m.write_DBG_CMD who v.toNat v.isLt hw
    rw [s.m.writeDbgCmd_state hv hsrc hlen, s.m.dumpState_running ht hh] at hcmd
    have h1 : v.toNat % 16 = 1 := by omega
    exact gives_writeWhen rfl (decide_eq_true h1) hcmd rfl
  case refine_5 =>
    have hcmd := s.m.write_DBG_CMD who v.toNat v.isLt hw
    have hend : s.m.dumpEnd 2 (s.m.rd64 A.DBG_SRC_LO) 1024 (.ok { body := s.m.stateBytes t }) = m2.dbgRes 0 false false := s.m.dumpWrite_stored hstored
    rw [s.m.writeDbgCmd_state hv hsrc hlen, s.m.dumpState_open ht hh hs ho, hend] at hcmd
    have h1 : v.toNat % 16 = 1 := by omega
    exact gives_writeWhen rfl (decide_eq_true h1) hcmd ⟨rfl, (Mach.answered_rd _ _).trans m2.dbgRes_rd⟩

end Sys2Proof.Machine

namespace Sys2Proof.Machine

/-! ### What control commands leave

The parts of the machine that `Mach.controlOnly` keeps, as one value, so that a frame is an equation and frames compose by rewriting. -/

/-- Memory, keys, ownership, contexts, tiles, gates, Loam, entropy, sessions, links, faults handled and counters. -/
def Mach.beyondControl (m : Mach) :=
  (m.net, m.keys, m.mem, m.own, m.agg, m.tiles, m.gates, m.shards, m.loam, m.silt, m.att, m.flt, m.ctrs, m.nodeRes, m.qitems, m.ringReq, m.gone)

theorem Mach.controlOnly_iff {n m : Mach} : n.controlOnly m ↔ n.beyondControl = m.beyondControl := by
  obtain ⟨⟩ := n
  obtain ⟨⟩ := m
  simp only [Mach.controlOnly, Mach.beyondControl, Mach.mk.injEq, Prod.mk.injEq, true_and, and_true]

section

variable (m : Mach)

/-! ### State operations -/

theorem Mach.beyondControl_wr (a : Nat) (w : Word) : (m.wr a w).beyondControl = m.beyondControl := rfl
theorem Mach.beyondControl_put (a hi lo v : Nat) : (m.put a hi lo v).beyondControl = m.beyondControl := rfl
theorem Mach.beyondControl_putBit (a i : Nat) (b : Bool) : (m.putBit a i b).beyondControl = m.beyondControl := rfl
theorem Mach.beyondControl_bumpF (a hi lo n : Nat) : (m.bumpF a hi lo n).beyondControl = m.beyondControl := rfl
theorem Mach.beyondControl_bump (a : Nat) : (m.bump a).beyondControl = m.beyondControl := rfl
theorem Mach.beyondControl_raiseFault (src u d : Nat) : (m.raiseFault src u d).beyondControl = m.beyondControl := rfl
theorem Mach.beyondControl_answered : m.answered.beyondControl = m.beyondControl := rfl
theorem Mach.beyondControl_draw : m.draw.2.beyondControl = m.beyondControl := rfl
theorem Mach.beyondControl_latchSlots : m.latchSlots.beyondControl = m.beyondControl := rfl
theorem Mach.beyondControl_phs (x : Phs) : ({ m with phs := x } : Mach).beyondControl = m.beyondControl := rfl
theorem Mach.beyondControl_sys (x : SysSt) : ({ m with sys := x } : Mach).beyondControl = m.beyondControl := rfl
theorem Mach.beyondControl_irq (x : IntSt) : ({ m with irq := x } : Mach).beyondControl = m.beyondControl := rfl
theorem Mach.beyondControl_resp (x : List (Nat × Word)) : ({ m with resp := x } : Mach).beyondControl = m.beyondControl := rfl
theorem Mach.beyondControl_warmReq (x : Bool) : ({ m with warmReq := x } : Mach).beyondControl = m.beyondControl := rfl

theorem Mach.beyondControl_ite {c : Prop} [Decidable c] {x y k : Mach} (hx : x.beyondControl = k.beyondControl)
    (hy : y.beyondControl = k.beyondControl) : (if c then x else y).beyondControl = k.beyondControl := by
  split
  · exact hx
  · exact hy

theorem foldl_beyondControl {α : Type} {l : List α} {g : Mach → α → Mach} (h : ∀ a, ∀ x ∈ l, (g a x).beyondControl = a.beyondControl) :
    (l.foldl g m).beyondControl = m.beyondControl :=
  foldl_keeps l g Mach.beyondControl h m

/-! ### The phase unit -/

theorem Mach.beyondControl_setPhsState (st : Nat) : (m.setPhsState st).beyondControl = m.beyondControl := by
  rw [Mach.setPhsState, Mach.beyondControl_putBit, Mach.beyondControl_put]

theorem Mach.beyondControl_loadPhase (v : Nat) : (m.loadPhase v).beyondControl = m.beyondControl := by
  rw [Mach.loadPhase, Mach.beyondControl_latchSlots, Mach.beyondControl_phs]

theorem Mach.beyondControl_epochAdvance : m.epochAdvance.beyondControl = m.beyondControl := by
  unfold Mach.epochAdvance
  refine Mach.beyondControl_ite ?_ ?_
  · rw [Mach.beyondControl_phs, Mach.beyondControl_loadPhase, Mach.uncountSlot, Mach.beyondControl_sys, Mach.beyondControl_putBit]
  · rw [Mach.beyondControl_putBit, Mach.beyondControl_putBit]

theorem Mach.beyondControl_checkDev (d : Int) : (m.checkDev d).beyondControl = m.beyondControl := by
  unfold Mach.checkDev
  refine Mach.beyondControl_ite (Mach.beyondControl_ite ?_ rfl) (m.beyondControl_phs _)
  rw [Mach.beyondControl_raiseFault, Mach.beyondControl_phs]

theorem Mach.beyondControl_alignTicks (t : Nat) : (m.alignTicks t).beyondControl = m.beyondControl := by
  unfold Mach.alignTicks
  refine Mach.beyondControl_ite ?_ ?_
  · rw [Mach.beyondControl_latchSlots, Mach.beyondControl_phs]
  · rw [Mach.beyondControl_phs]

theorem Mach.beyondControl_phaseRefEdge : m.phaseRefEdge.beyondControl = m.beyondControl := by
  unfold Mach.phaseRefEdge
  extract_lets per now prev oldPhs n
  have h : n.beyondControl = m.beyondControl := (Mach.beyondControl_putBit _ _ _ _).trans (m.beyondControl_phs _)
  clear_value n
  refine Mach.beyondControl_ite ?_ (Mach.beyondControl_ite ((Mach.beyondControl_alignTicks _ _).trans h) h)
  exact (Mach.beyondControl_phs _ _).trans ((Mach.beyondControl_checkDev _ _).trans h)

theorem Mach.beyondControl_phaseRefLost : m.phaseRefLost.beyondControl = m.beyondControl := by
  rw [Mach.phaseRefLost, Mach.beyondControl_raiseFault, Mach.beyondControl_putBit, Mach.beyondControl_phs]

theorem Mach.beyondControl_becomeMaster : m.becomeMaster.beyondControl = m.beyondControl := by
  unfold Mach.becomeMaster
  dsimp only
  rw [Mach.beyondControl_wr, Mach.beyondControl_setPhsState, Mach.beyondControl_phs]

theorem Mach.beyondControl_phaseLost : m.phaseLost.beyondControl = m.beyondControl := by
  rw [Mach.phaseLost, Mach.beyondControl_raiseFault, Mach.beyondControl_bumpF, Mach.beyondControl_setPhsState]

theorem Mach.beyondControl_writePhsCfg (v : Nat) : (m.writePhsCfg v).beyondControl = m.beyondControl := by
  unfold Mach.writePhsCfg
  extract_lets a differs free n1 n2 n3
  have h1 : n1.beyondControl = m.beyondControl := Mach.beyondControl_ite (m.beyondControl_putBit _ _ _) rfl
  clear_value n1
  have h2 : n2.beyondControl = m.beyondControl := Mach.beyondControl_ite ((n1.beyondControl_put _ _ _ _).trans h1) h1
  clear_value n2
  have h3 : n3.beyondControl = m.beyondControl :=
    (Mach.beyondControl_put _ _ _ _ _).trans ((Mach.beyondControl_put _ _ _ _ _).trans ((n2.beyondControl_put _ _ _ _).trans h2))
  clear_value n3
  exact Mach.beyondControl_ite ((n3.beyondControl_setPhsState 3).trans h3) h3

theorem Mach.beyondControl_writeAcq (v : Nat) : (m.writeAcq v).beyondControl = m.beyondControl :=
  Mach.beyondControl_ite ((Mach.beyondControl_setPhsState _ _).trans (m.beyondControl_phs _)) rfl

theorem Mach.beyondControl_writeEpochSet (v : Nat) : (m.writeEpochSet v).beyondControl = m.beyondControl := by
  unfold Mach.writeEpochSet
  refine Mach.beyondControl_ite (Mach.beyondControl_ite ?_ ?_) ?_
  · rw [Mach.beyondControl_putBit, Mach.beyondControl_put]
  · rw [Mach.beyondControl_putBit, Mach.beyondControl_putBit, Mach.beyondControl_put]
  · rw [Mach.beyondControl_putBit, Mach.beyondControl_put]

theorem Mach.beyondControl_writeCmpCtl (c v : Nat) : (m.writeCmpCtl c v).beyondControl = m.beyondControl := by
  unfold Mach.writeCmpCtl
  extract_lets a n1 n2
  have h1 : n1.beyondControl = m.beyondControl := m.beyondControl_put _ _ _ _
  clear_value n1
  have h2 : n2.beyondControl = m.beyondControl := Mach.beyondControl_ite ((n1.beyondControl_putBit _ _ _).trans h1) h1
  clear_value n2
  refine Mach.beyondControl_ite ?_ ((n2.beyondControl_putBit _ _ _).trans h2)
  rw [Mach.markArm, Mach.beyondControl_phs, Mach.beyondControl_putBit, Mach.beyondControl_putBit, Mach.beyondControl_putBit, h2]

/-! ### The power manager -/

theorem Mach.beyondControl_setLevel (v : Nat) : (m.setLevel v).beyondControl = m.beyondControl := by
  rw [Mach.setLevel, Mach.beyondControl_sys, Mach.beyondControl_put]

theorem Mach.beyondControl_throttle :
    (match m.sys.wantL with | some v => if m.levelReady then m.setLevel v else m | none => m).beyondControl = m.beyondControl := by
  split
  · exact Mach.beyondControl_ite (m.beyondControl_setLevel _) rfl
  · rfl

theorem Mach.beyondControl_askLevel (v : Nat) : (m.askLevel v).beyondControl = m.beyondControl :=
  Mach.beyondControl_ite (m.beyondControl_sys _) (Mach.beyondControl_ite (m.beyondControl_setLevel v) (m.beyondControl_sys _))

theorem Mach.beyondControl_measured (tj w : Nat) : (m.measured tj w).beyondControl = m.beyondControl := by
  unfold Mach.measured
  dsimp only
  rw [Mach.beyondControl_wr, Mach.beyondControl_put, Mach.beyondControl_put, Mach.beyondControl_put, Mach.beyondControl_put, Mach.beyondControl_draw]

theorem Mach.beyondControl_thermFaults (old : Nat) : (m.thermFaults old).beyondControl = m.beyondControl := by
  unfold Mach.thermFaults
  extract_lets tj n
  have h : n.beyondControl = m.beyondControl :=
    Mach.beyondControl_ite ((Mach.beyondControl_putBit _ _ _ _).trans (m.beyondControl_raiseFault _ _ _)) rfl
  clear_value n
  exact Mach.beyondControl_ite ((n.beyondControl_raiseFault _ _ _).trans h) h

theorem Mach.beyondControl_pmThrottle (tj w : Nat) : (m.pmThrottle tj w).beyondControl = m.beyondControl := by
  unfold Mach.pmThrottle
  extract_lets old n
  have h : n.beyondControl = m.beyondControl := (Mach.beyondControl_thermFaults _ _).trans (m.beyondControl_measured _ _)
  clear_value n
  have hstep : ∀ down, (n.stepLevel down).beyondControl = m.beyondControl := fun down => (n.beyondControl_askLevel _).trans h
  exact Mach.beyondControl_ite h (Mach.beyondControl_ite (hstep false) (Mach.beyondControl_ite (hstep true) h))

theorem Mach.beyondControl_writePwrCtl {v : Nat} (hv : bitOf v 3 = false) : (m.writePwrCtl v).beyondControl = m.beyondControl := by
  have hlevel : (m.writeLevel v).beyondControl = m.beyondControl := (Mach.beyondControl_askLevel _ _).trans (m.beyondControl_put _ _ _ _)
  unfold Mach.writePwrCtl
  rw [hv, Bool.not_false, if_pos rfl, Mach.beyondControl_putBit, hlevel]

theorem Mach.beyondControl_writePwrCfg (v : Nat) : (m.writePwrCfg v).beyondControl = m.beyondControl := by
  unfold Mach.writePwrCfg
  extract_lets n1 n2
  have h2 : n2.beyondControl = m.beyondControl := (Mach.beyondControl_put _ _ _ _ _).trans (m.beyondControl_put _ _ _ _)
  clear_value n2
  exact Mach.beyondControl_ite ((n2.beyondControl_putBit _ _ _).trans h2)
    (Mach.beyondControl_ite ((n2.beyondControl_putBit _ _ _).trans h2) ((n2.beyondControl_putBit _ _ _).trans h2))

theorem Mach.beyondControl_writeShareW (p v : Nat) : (m.writeShareW p v).beyondControl = m.beyondControl :=
  Mach.beyondControl_ite rfl (m.beyondControl_put _ _ _ _)

/-! ### Interrupts -/

theorem Mach.beyondControl_setSrc (s st c : Nat) : (m.setSrc s st c).beyondControl = m.beyondControl := by
  unfold Mach.setSrc
  extract_lets n
  have h : n.beyondControl = m.beyondControl := (Mach.beyondControl_put _ _ _ _ _).trans (m.beyondControl_put _ _ _ _)
  clear_value n
  exact Mach.beyondControl_ite h ((n.beyondControl_put _ _ _ _).trans h)

theorem Mach.beyondControl_noteFirst (s : Nat) : (m.noteFirst s).beyondControl = m.beyondControl := m.beyondControl_irq _

theorem Mach.beyondControl_fire (s : Nat) : (m.fire s).beyondControl = m.beyondControl := by
  unfold Mach.fire
  extract_lets c
  split
  · exact (Mach.beyondControl_noteFirst _ _).trans (m.beyondControl_setSrc _ _ _)
  · exact m.beyondControl_setSrc _ _ _
  · exact (Mach.beyondControl_setSrc _ _ _ _).trans (Mach.beyondControl_ite (m.beyondControl_noteFirst s) rfl)

theorem Mach.beyondControl_pendClear (s : Nat) : (m.pendClear s).beyondControl = m.beyondControl :=
  Mach.beyondControl_ite (m.beyondControl_setSrc _ _ _) rfl

theorem Mach.beyondControl_complete (s : Nat) : (m.complete s).beyondControl = m.beyondControl :=
  Mach.beyondControl_ite (m.beyondControl_setSrc _ _ _) (m.beyondControl_setSrc _ _ _)

theorem Mach.beyondControl_showCore (c : Nat) : (m.showCore c).beyondControl = m.beyondControl := by
  unfold Mach.showCore
  extract_lets st n
  have h : n.beyondControl = m.beyondControl := m.beyondControl_put _ _ _ _
  clear_value n st
  cases st with
  | nil => exact (Mach.beyondControl_wr _ _ _).trans ((n.beyondControl_put _ _ _ _).trans h)
  | cons => exact (Mach.beyondControl_wr _ _ _).trans ((n.beyondControl_put _ _ _ _).trans h)

theorem Mach.beyondControl_enterHandler (c s : Nat) : (m.enterHandler c s).beyondControl = m.beyondControl := by
  unfold Mach.enterHandler
  extract_lets below oldIrq n1 n2
  have h1 : n1.beyondControl = m.beyondControl := m.beyondControl_irq _
  clear_value n1
  have h2 : n2.beyondControl = m.beyondControl :=
    (Mach.beyondControl_putBit _ _ _ _).trans ((Mach.beyondControl_put _ _ _ _ _).trans ((n1.beyondControl_setSrc _ _ _).trans h1))
  clear_value n2
  rw [Mach.beyondControl_showCore, Mach.beyondControl_bump, Mach.beyondControl_putBit, h2]

theorem Mach.beyondControl_routeSources : m.routeSources.beyondControl = m.beyondControl := m.beyondControl_irq _

theorem Mach.beyondControl_coreEntry (c : Nat) : (m.coreEntry c).beyondControl = m.beyondControl := by
  unfold Mach.coreEntry
  split
  · rfl
  · rename_i e _
    extract_lets pr oldIrq drop
    have h : drop.beyondControl = m.beyondControl := m.beyondControl_irq _
    clear_value drop
    have henter : (drop.enterHandler c e.2).beyondControl = m.beyondControl := (drop.beyondControl_enterHandler _ _).trans h
    exact Mach.beyondControl_ite h (Mach.beyondControl_ite (Mach.beyondControl_ite henter rfl) (Mach.beyondControl_ite henter h))

theorem Mach.beyondControl_coreExit (c : Nat) : (m.coreExit c).beyondControl = m.beyondControl := by
  refine Mach.beyondControl_ite rfl (Mach.beyondControl_ite ?_ (m.beyondControl_putBit _ _ _))
  rw [Mach.beyondControl_showCore, Mach.beyondControl_irq, Mach.beyondControl_putBit]

theorem Mach.beyondControl_coreComplete (c s : Nat) : (m.coreComplete c s).beyondControl = m.beyondControl :=
  Mach.beyondControl_ite (m.beyondControl_complete s) (m.beyondControl_bump _)

theorem Mach.beyondControl_writeTBits (who : Ident) (k v : Nat) {f : Mach → Nat → Mach} (hf : ∀ a s, (f a s).beyondControl = a.beyondControl) :
    (m.writeTBits who k v f).beyondControl = m.beyondControl :=
  foldl_beyondControl m fun a s _ => Mach.beyondControl_ite (hf a s) rfl

theorem Mach.beyondControl_writeHcmpl (p v : Nat) : (m.writeHcmpl p v).beyondControl = m.beyondControl :=
  Mach.beyondControl_ite (m.beyondControl_complete _) ((Mach.beyondControl_bump _ _).trans (m.beyondControl_bump _))

theorem Mach.beyondControl_writeSwPend (v : Nat) : (m.writeSwPend v).beyondControl = m.beyondControl :=
  Mach.beyondControl_ite (m.beyondControl_fire _) rfl

theorem Mach.beyondControl_writeOPclr (v : Nat) : (m.writeOPclr v).beyondControl = m.beyondControl :=
  Mach.beyondControl_ite (m.beyondControl_pendClear _) rfl

theorem Mach.beyondControl_writeOCfg (s v : Nat) : (m.writeOCfg s v).beyondControl = m.beyondControl :=
  Mach.beyondControl_ite (m.beyondControl_putBit _ _ _) (m.beyondControl_wr _ _)

/-! ### Life cycle and management -/

theorem Mach.beyondControl_writeGlbRst (v : Nat) : (m.writeGlbRst v).beyondControl = m.beyondControl :=
  Mach.beyondControl_ite (m.beyondControl_warmReq _) rfl

theorem Mach.beyondControl_lcRes (code : Nat) (done : Bool) : (m.lcRes code done).beyondControl = m.beyondControl := m.beyondControl_wr _ _

theorem Mach.beyondControl_writeRstUnit (v : Nat) : (m.writeRstUnit v).beyondControl = m.beyondControl := by
  unfold Mach.writeRstUnit
  extract_lets u n
  have h : n.beyondControl = m.beyondControl := m.beyondControl_put _ _ _ _
  clear_value n
  refine Mach.beyondControl_ite rfl (Mach.beyondControl_ite h (Mach.beyondControl_ite ((n.beyondControl_lcRes _ _).trans h) ?_))
  rw [Mach.beyondControl_sys, Mach.beyondControl_lcRes, Mach.beyondControl_putBit, h]

theorem Mach.beyondControl_dramTrained : m.dramTrained.beyondControl = m.beyondControl := by
  refine (foldl_beyondControl _ fun a i _ => foldl_beyondControl a fun b j _ => ?_).trans (m.beyondControl_sys _)
  exact b.beyondControl_wr _ _

theorem Mach.beyondControl_activated : m.activated.beyondControl = m.beyondControl := by
  unfold Mach.activated
  dsimp only
  rw [Mach.beyondControl_sys, Mach.beyondControl_put, Mach.beyondControl_put]

theorem Mach.beyondControl_setDyn (a : Nat) : (m.setDyn a).beyondControl = m.beyondControl := by
  rw [Mach.setDyn, Mach.beyondControl_put, Mach.beyondControl_putBit]

theorem Mach.beyondControl_jtag (ir : Nat) (out : List (Nat × Word)) : (m.jtag ir out).beyondControl = m.beyondControl := rfl

theorem Mach.beyondControl_scan (ir bits : Nat) : (m.scan ir bits).beyondControl = m.beyondControl := by
  unfold Mach.scan
  dsimp only
  rw [Mach.beyondControl_sys, Mach.beyondControl_jtag, Mach.beyondControl_draw]

end

/-! ### The statement -/

section

variable {c : Instr} {s : State} {f : Mach → Mach}

theorem gives_control (hx : exec c s = s.onMach f) (h : ∀ m, (f m).beyondControl = m.beyondControl) : Gives c s (fun m => m.controlOnly s.m) :=
  gives_onMach hx (Mach.controlOnly_iff.2 (h s.m))

/-- A write that the filters let through, whose register's effect is a control effect. -/
theorem gives_control_write {who : Ident} {off v : Nat} {n : Mach} (hx : exec c s = s.onMach (fun m => m.writeCmd who off v))
    (hw : s.m.writeCmd who off v = n.answered) (h : n.beyondControl = s.m.beyondControl) : Gives c s (fun m => m.controlOnly s.m) :=
  gives_write hx hw (Mach.controlOnly_iff.2 (n.beyondControl_answered.trans h))

/-- A write of some values only: of another value the command is none, and nothing moves. -/
theorem gives_control_writeWhen {who : Ident} {off v : Nat} {b : Bool} {n : Mach} (hx : exec c s = s.onMach (fun m => m.writeWhen b who off v))
    (hw : s.m.writeCmd who off v = n.answered) (h : b = true → n.beyondControl = s.m.beyondControl) : Gives c s (fun m => m.controlOnly s.m) := by
  cases b with
  | true => exact gives_writeWhen hx rfl hw (Mach.controlOnly_iff.2 (n.beyondControl_answered.trans (h rfl)))
  | false => exact gives_control hx fun _ => rfl

end

open Mach in
/-- Settles O55: each command of these families changes registers, phase, power, boot and interrupt records only, by the frame of its effect. -/
theorem controlFrames : Obligations.ControlFrames := by
  unfold Obligations.ControlFrames
  intro s who v p c src a static won ev bits d tj watts
  refine ⟨?_, fun hw => ?_, fun hw => ?_, fun hw => ?_, fun k hw => ?_, fun hw => ?_, fun hw => ?_, fun hw => ?_, fun hw => ?_, fun hw => ?_, fun hw => ?_,
    fun hw => ?_, fun hw => ?_, fun hw => ?_, fun k hw => ?_, fun k hw => ?_, fun k hw => ?_, fun k hw => ?_, fun hw hs => ?_⟩
  case refine_1 =>
    simp only [List.forall_mem_cons]
    exact ⟨
      gives_control (f := fun m => if m.epochDue then m.epochAdvance else m) rfl
        (fun m => beyondControl_ite m.beyondControl_epochAdvance rfl),
      gives_control (f := fun m => if m.phsState = 4 && m.bit A.PHS_CFG 8 then m.phaseRefEdge else m) rfl
        (fun m => beyondControl_ite m.beyondControl_phaseRefEdge rfl),
      gives_control (f := fun m => if m.refLostDue then m.phaseRefLost else m) rfl
        (fun m => beyondControl_ite m.beyondControl_phaseRefLost rfl),
      gives_control (f := fun m => if m.electionDue then m.becomeMaster else m) rfl
        (fun m => beyondControl_ite m.beyondControl_becomeMaster rfl),
      gives_control (f := fun m => if m.phaseLostDue then m.phaseLost else m) rfl
        (fun m => beyondControl_ite m.beyondControl_phaseLost rfl),
      gives_control rfl (fun m => m.beyondControl_throttle),
      gives_control (f := fun m => if m.phs.slotEdge then m.put (A.PWR_GATE (p.val / 8)) (4 * (p.val % 8) + 2) (4 * (p.val % 8))
          (gateNext (m.gate p.val) (m.share p.val) (m.tilesOf p.val).length d.toNat) else m) rfl
        (fun m => beyondControl_ite (m.beyondControl_put _ _ _ _) rfl),
      gives_control rfl (fun m => m.beyondControl_pmThrottle _ _),
      gives_control rfl (fun m => (beyondControl_putBit _ _ _ _).trans (m.beyondControl_putBit _ _ _)),
      gives_control rfl (fun m => beyondControl_ite rfl (m.beyondControl_raiseFault _ _ _)),
      gives_control (f := fun m => if m.phs.slotEdge && m.bit A.PWR_CFG 31 && m.oversub then (m.putBit A.PWR_CFG 31 false).putBit A.PWR_STS 4 true else m) rfl
        (fun m => beyondControl_ite ((beyondControl_putBit _ _ _ _).trans (m.beyondControl_putBit _ _ _)) rfl),
      gives_control (f := fun m => if won && !m.bit A.MGT_I3C 31 then m.setDyn a.toNat else m) rfl
        (fun m => beyondControl_ite (m.beyondControl_setDyn _) rfl),
      gives_control (f := fun m => if static.toNat = m.fld A.MGT_I3C 6 0 && !m.bit A.MGT_I3C 31 then m.setDyn a.toNat else m) rfl
        (fun m => beyondControl_ite (m.beyondControl_setDyn _) rfl),
      gives_control rfl (fun m => (beyondControl_put _ _ _ _ _).trans (m.beyondControl_putBit _ _ _)),
      gives_control rfl (fun m => m.beyondControl_sys _),
      gives_control rfl (fun m => m.beyondControl_sys _),
      gives_control rfl (fun m => m.beyondControl_resp _),
      gives_control rfl (fun m => m.beyondControl_resp _),
      gives_control rfl (fun m => m.beyondControl_resp _),
      gives_control rfl (fun m => (beyondControl_resp _ _).trans m.beyondControl_draw),
      gives_control rfl (fun m => m.beyondControl_sys _),
      gives_control rfl (fun m => m.beyondControl_jtag _ _),
      gives_control rfl (fun m => m.beyondControl_jtag _ _),
      gives_control rfl (fun m => m.beyondControl_scan _ _),
      gives_control rfl (fun m => beyondControl_ite (m.beyondControl_scan _ _) (m.beyondControl_jtag _ _)),
      gives_control rfl (fun m => m.beyondControl_routeSources),
      gives_control rfl (fun m => m.beyondControl_coreEntry _),
      gives_control rfl (fun m => m.beyondControl_coreExit _),
      gives_control rfl (fun m => m.beyondControl_coreComplete _ _),
      gives_control (f := fun m => if m.fwState = 3 && m.rd64 A.FW_AT_LO ≤ m.phase then
          { (m.put A.FW_STS 2 0 4) with sys := { m.sys with reload := [0, 1, 2, 3] } } else m) rfl
        (fun m => beyondControl_ite ((beyondControl_sys _ _).trans (m.beyondControl_put _ _ _ _)) rfl),
      gives_control (f := fun m => if m.fwState = 4 && m.halfIdle [0, 1, 2, 3] then
          { (m.put A.FW_STS 2 0 5) with sys := { m.sys with reload := [4, 5, 6, 7], meas := m.measureStage 1 } } else m) rfl
        (fun m => beyondControl_ite ((beyondControl_sys _ _).trans (m.beyondControl_put _ _ _ _)) rfl),
      gives_control (f := fun m => if m.fwState = 5 && m.halfIdle [4, 5, 6, 7] then m.activated else m) rfl
        (fun m => beyondControl_ite m.beyondControl_activated rfl),
      gives_control (f := fun m => if m.sys.verified then m.dramTrained else m) rfl
        (fun m => beyondControl_ite m.beyondControl_dramTrained rfl),
      fun _ h => absurd h List.not_mem_nil⟩
  case refine_2 => exact gives_control_write rfl (s.m.write_PHS_CFG who v.toNat v.isLt hw) (beyondControl_writePhsCfg _ _)
  case refine_3 => exact gives_control_writeWhen rfl (s.m.write_PHS_CTL who v.toNat v.isLt hw) fun _ => beyondControl_writeAcq _ _
  case refine_4 => exact gives_control_write rfl (s.m.write_PHS_EPOCH_SET who v.toNat v.isLt hw) (beyondControl_writeEpochSet _ _)
  case refine_5 => exact gives_control_write rfl (s.m.write_CMP_CTL who v.toNat k v.isLt hw) (beyondControl_writeCmpCtl _ _ _)
  case refine_6 => exact gives_control_write rfl (s.m.write_GLB_RST who v.toNat v.isLt hw) (beyondControl_writeGlbRst _ _)
  case refine_7 => exact gives_control_write rfl (s.m.write_RST_UNIT who v.toNat v.isLt hw) (beyondControl_writeRstUnit _ _)
  case refine_8 =>
    exact gives_control_writeWhen rfl (s.m.write_PWR_CTL who v.toNat v.isLt hw) fun hb => beyondControl_writePwrCtl _ (Bool.not_eq_true' _ ▸ hb)
  case refine_9 => exact gives_control_write rfl (s.m.write_PWR_CFG who v.toNat v.isLt hw) (beyondControl_writePwrCfg _ _)
  case refine_10 => exact gives_control_write rfl (s.m.write_PWR_SHARE who v.toNat p v.isLt hw) (beyondControl_writeShareW _ _ _)
  case refine_11 => exact gives_control_write rfl (s.m.write_MGT_ALERT who v.toNat v.isLt hw) (beyondControl_put _ _ _ _ _)
  case refine_12 => exact gives_control_write rfl (s.m.write_INT_DOORBELL who v.toNat v.isLt hw) (beyondControl_fire _ _)
  case refine_13 => exact gives_control_write rfl (s.m.write_INT_SW_PEND who v.toNat v.isLt hw) (beyondControl_writeSwPend _ _)
  case refine_14 => exact gives_control_write rfl (s.m.write_INT_O_PCLR who v.toNat v.isLt hw) (beyondControl_writeOPclr _ _)
  case refine_15 => exact gives_control_write rfl (s.m.write_INT_HCMPL who v.toNat k v.isLt hw) (beyondControl_writeHcmpl _ _ _)
  case refine_16 =>
    exact gives_control_write rfl (s.m.write_T_MSET who v.toNat k v.isLt hw) (beyondControl_writeTBits _ _ _ _ fun b i => b.beyondControl_putBit _ _ _)
  case refine_17 =>
    exact gives_control_write rfl (s.m.write_T_MCLR who v.toNat k v.isLt hw) (beyondControl_writeTBits _ _ _ _ fun b i => b.beyondControl_putBit _ _ _)
  case refine_18 =>
    exact gives_control_write rfl (s.m.write_T_PCLR who v.toNat k v.isLt hw) (beyondControl_writeTBits _ _ _ _ fun b i => b.beyondControl_pendClear i)
  case refine_19 => exact gives_control_write rfl (s.m.write_INT_CFG who hs v.isLt hw) (beyondControl_writeOCfg _ _ _)

end Sys2Proof.Machine
